-- ==== Sys2Proof/Word.lean ====
section
/-! DEFINITION. The word types, little-endian byte lists, and the sorted sparse map every array of the model is
held in. -/

namespace Sys2Proof

/-- A register or cell word. -/
abbrev Word := BitVec 32
/-- One byte. -/
abbrev Byte := BitVec 8
/-- One lane word (R199). -/
abbrev LWord := BitVec 16

/-- `k` bytes of `n`, least significant first: the byte order of every structure of the module (R15). -/
def le (n : Nat) : Nat → List Byte
  | 0 => []
  | k + 1 => BitVec.ofNat 8 n :: le (n / 256) k

/-- The number whose little-endian bytes are `bs`. -/
def ofLe : List Byte → Nat
  | [] => 0
  | b :: bs => b.toNat + 256 * ofLe bs

/-- A sparse array: keys and values, keys rising. -/
abbrev SMap (α : Type) := List (Nat × α)

/-- The value at `k`, if any. -/
def SMap.at? {α : Type} : SMap α → Nat → Option α
  | [], _ => none
  | (j, x) :: m, k => if j = k then some x else SMap.at? m k

/-- The value at `k`, or the value `d` that an unlisted place has. -/
def SMap.atD {α : Type} (m : SMap α) (k : Nat) (d : α) : α := (m.at? k).getD d

/-- Put `x` at `k`, keeping the keys in rising order. -/
def SMap.put {α : Type} : SMap α → Nat → α → SMap α
  | [], k, x => [(k, x)]
  | (j, y) :: m, k, x =>
    if j = k then (k, x) :: m
    else if k < j then (k, x) :: (j, y) :: m
    else (j, y) :: SMap.put m k x

/-- Forget the place `k`. -/
def SMap.del {α : Type} (m : SMap α) (k : Nat) : SMap α := m.filter fun p => p.1 != k

/-- Change the value at `k`, an unlisted place starting from `d`. -/
def SMap.alter {α : Type} (m : SMap α) (k : Nat) (d : α) (f : α → α) : SMap α := m.put k (f (m.atD k d))

/-- The keys in use. -/
def SMap.keys {α : Type} (m : SMap α) : List Nat := m.map (·.1)

/-- Keys strictly rising: the one form in which equal arrays are equal data. -/
def SMap.wf {α : Type} : SMap α → Bool
  | [] => true
  | [_] => true
  | (j, _) :: (k, y) :: m => decide (j < k) && SMap.wf ((k, y) :: m)

/-- A count that stops at its largest value (the manual's "saturates"). -/
def satAdd (width n k : Nat) : Nat := min (n + k) (2 ^ width - 1)

/-- Two's-complement reading of the low `w` bits of `n`. -/
def signedOf (w n : Nat) : Int := (BitVec.ofNat w n).toInt

/-- The low `w` bits of an integer, as a number. -/
def bitsOf (w : Nat) (i : Int) : Nat := (BitVec.ofInt w i).toNat

end Sys2Proof
end

