-- ==== Sys2Proof/Data.lean ====
section
/-! DEFINITION. The data the commands carry and the state holds: point cells, trowel operands, the configuration
image and its tables, requests, frames and datagrams, as the chapters of the spec lay them out. -/

namespace Sys2Proof

/-! ### Point cells (R15 to R22) -/

/-- A point cell, field by field (R15). -/
structure Cell where
  value : Word := 0
  qual : Byte := 0
  kind : BitVec 4 := 0
  flags : BitVec 4 := 0
  domain : BitVec 10 := 0
  src : BitVec 6 := 0
  epoch : Word := 0
  check : Word := 0
  deriving DecidableEq, Repr, Inhabited

/-- An owned cell as the configuration image defines it (R16, R18, R19). `oos` marks its source out of service. -/
structure CellDef where
  cell : Nat
  kind : BitVec 4
  domain : BitVec 10
  src : BitVec 6
  oos : Bool := false
  deriving DecidableEq, Repr, Inhabited

/-! ### Trowel operands (R57, R62) -/

/-- The operand spaces a memory-format instruction can name (R57). -/
inductive Space
  | cell | retained | const | record | edge
  deriving DecidableEq, Repr, Inhabited

/-- A memory operand: space, index, bit number (R62). -/
structure MemOp where
  sp : Space
  idx : Nat
  bit : Fin 32 := 0
  deriving DecidableEq, Repr, Inhabited

/-! ### The task table and the program of a bank (R92, R102, R114, R115) -/

/-- A predecessor of a task or a loop (R92, R129). -/
inductive Pred
  | task (t : Fin 16)
  | loop (engine : Fin 4) (slot : Fin 128)
  deriving DecidableEq, Repr, Inhabited

/-- One entry of the task table (R92), with its write set by space. -/
structure TaskDef where
  id : Fin 16
  engine : Fin 8
  prio : Fin 16
  periodK : Nat
  offset : Nat
  guarded : Bool
  errorTask : Bool
  codeStart : Nat
  codeEnd : Nat
  preds : List Pred
  wCells : List Nat
  wRecords : List Nat
  wEdges : List Nat
  wRetained : List Nat
  deriving DecidableEq, Repr, Inhabited

/-- One entry of the feather table (R102). -/
structure FeatherDef where
  cell : Nat
  safe : Word
  slew : Word
  holdMs : Nat
  deriving DecidableEq, Repr, Inhabited

/-- A timer/counter record symbol (R75, R115). `type` is the TYPE code of R75. -/
structure RecordSym where
  idx : Nat
  symid : Nat
  type : Nat
  task : Fin 16
  retentive : Bool
  deriving DecidableEq, Repr, Inhabited

/-- An edge-memory bit symbol (R115). -/
structure EdgeSym where
  idx : Nat
  symid : Nat
  task : Fin 16
  deriving DecidableEq, Repr, Inhabited

/-- A retained-word symbol: its words start at `idx` (R115). -/
structure RetainedSym where
  idx : Nat
  symid : Nat
  type : Nat
  task : Fin 16
  init : List Word
  deriving DecidableEq, Repr, Inhabited

/-- What a bank holds, and the tables that come and go with it (R114). Log entry 35 (DESIGN CHOICE, unsafe). -/
structure Program where
  bankId : Nat := 0
  code : SMap Word := []
  consts : SMap Word := []
  tasks : List TaskDef := []
  feather : List FeatherDef := []
  records : List RecordSym := []
  edges : List EdgeSym := []
  retained : List RetainedSym := []
  /-- Trowel-source cells this program defines (R114); in a configuration image they stand in its cells. -/
  cells : List CellDef := []
  deriving DecidableEq, Repr, Inhabited

/-! ### Loop slots (R129) -/

/-- A loop-slot descriptor, field by field; binary32 fields are bit patterns, matrices lists of rows. -/
structure LoopDesc where
  valid : Bool := true
  guarded : Bool := false
  acceptUnc : Bool := false
  fallback : Fin 4 := 0
  prio : Fin 16 := 0
  n : Nat := 1
  m : Nat := 1
  p : Nat := 1
  q : Nat := 0
  offset : Nat := 0
  periodK : Nat := 1
  cascade : Bool := false
  outer : Fin 128 := 0
  ratio : Nat := 1
  frozenN : Nat := 0
  stuckN : Nat := 0
  rejoinN : Nat := 1
  horizon : Nat := 0
  modeCell : Option Nat := none
  decay : Word := 0
  refSlew : Word := 0
  preds : List Pred := []
  uCell : List Nat := []
  yCell : List Nat := []
  yAlt : List (Option Nat) := []
  rCell : List Nat := []
  manCell : List (Option Nat) := []
  uMin : List Word := []
  uMax : List Word := []
  rate : List Word := []
  safe : List Word := []
  slew : List Word := []
  uStart : List Word := []
  x0 : List Word := []
  a : List (List Word) := []
  b : List (List Word) := []
  c : List (List Word) := []
  k : List (List Word) := []
  l : List (List Word) := []
  nMat : List (List Word) := []
  deriving DecidableEq, Repr, Inhabited

/-- A descriptor with the slot it is for (R151). -/
structure SlotDesc where
  engine : Fin 4
  slot : Fin 128
  desc : LoopDesc
  deriving DecidableEq, Repr, Inhabited

/-! ### Metrology configuration (R159 to R170, R193) -/

/-- A front-end channel's settings from the image (R159 to R161, R195). Log entry 116 (PRESUMED, unsafe). -/
structure ChannelCfg where
  ch : Fin 29
  enable : Bool
  sensor : Fin 4
  gain : Fin 8
  phase : BitVec 16
  /-- INT_FC and DCB_FC of a Rogowski channel, mHz (R160). -/
  intFc : Nat := 500
  dcbFc : Nat := 250
  /-- What a current channel measures at 1 V of its input, in µA. -/
  ratio : Nat := 0
  deriving DecidableEq, Repr, Inhabited

/-- An element (R170, R173). Powers in µW, currents in µA; `rated` is In. `phases` pairs a voltage and a current channel.
ELEM_ID has the 14 bits R181 stores. Log entry 115 (DEDUCED, unsafe). -/
structure ElementDef where
  elemId : BitVec 14
  type : Nat
  phases : List (Nat × Nat)
  domain : BitVec 10
  /-- I_START and P_NOLOAD, where the image gives them (R173). -/
  iStart : Option Nat := none
  pNoload : Option Nat := none
  dirHyst : Nat
  demMin : Nat
  rated : Nat := 0
  deriving DecidableEq, Repr, Inhabited

/-- A thermal channel (R193). `dirCell` is the bool cell of MODE 1; `ktab` 16 binary32 points. -/
structure ThermalDef where
  ch : Fin 8
  input : Fin 8
  mode : Fin 3
  dirCell : Nat
  volEdge : Nat
  tSup : Nat
  tRet : Nat
  ktab : List Word
  sensorAtReturn : Bool
  cooling : Bool
  domain : BitVec 10
  deriving DecidableEq, Repr, Inhabited

/-- A quantity of R167 that a cell can be bound to. `point` counts accumulation points from 0. -/
inductive Quantity
  | vrms (ch : Nat) | irms (ch : Nat)
  | p (point : Nat) | q (point : Nat) | s (point : Nat) | pf (point : Nat)
  | freq
  | harm (ch order : Nat) | thd (ch : Nat)
  | energy (point : Nat) (reg : Fin 8) (unitWh : Nat)
  deriving DecidableEq, Repr, Inhabited

/-- A cell bound to a metrology quantity (R168). -/
structure MetBinding where
  cell : Nat
  quantity : Quantity
  deriving DecidableEq, Repr, Inhabited

/-- The metering configuration of an image. -/
structure MeterCfg where
  cfgId : Word := 0
  nominalMhz : Nat := 50000
  /-- Un in mV (R159), and the reference voltage channel (R166). -/
  unMv : Nat := 230000
  refCh : Fin 4 := 0
  channels : List ChannelCfg := []
  elements : List ElementDef := []
  thermal : List ThermalDef := []
  bindings : List MetBinding := []
  /-- Local times of day of the daily snapshots, seconds after midnight (R189). -/
  daily : List Nat := []
  deriving DecidableEq, Repr, Inhabited

/-! ### Lane configuration (R211 to R218) -/

/-- A carrier the image expects, with the kinds of the channels it uses (R213). -/
structure CarrierDef where
  address : Fin 32
  vendor : LWord
  product : LWord
  kinds : List (Nat × Nat)
  deriving DecidableEq, Repr, Inhabited

/-- A lane channel bound to a cell (R215). -/
structure LaneBinding where
  carrier : Fin 32
  channel : Fin 128
  cell : Nat
  bit : Fin 16
  scale : Word
  offset : Word
  deriving DecidableEq, Repr, Inhabited

/-- One burst of a sweep list (R218). -/
structure BurstDef where
  carrier : Fin 32
  channel : Nat
  words : Nat
  deriving DecidableEq, Repr, Inhabited

/-! ### Exchange configuration (R247, R248) -/

/-- A subscription (R248). -/
structure SubDef where
  id : Nat
  pubPos : Nat
  pubId : Word
  level : Bool
  subst : Fin 3
  substConst : Word
  substCell : Nat
  subMax : Nat
  errorTask : Option (Fin 16)
  trigEvery : Bool
  waitUs : Nat
  /-- The publisher's set as the image declares it (R248). -/
  pubCells : List Nat
  deriving DecidableEq, Repr, Inhabited

/-- A remote-mirror slot's binding (R248). -/
structure MirrorDef where
  slot : Nat
  position : Nat
  cell : Nat
  kind : BitVec 4
  domain : BitVec 10
  sub : Nat
  deriving DecidableEq, Repr, Inhabited

/-! ### Frame and CAN bindings (R293, R307, R310, R314, R318, R319) -/

/-- One extraction or insertion of a binding (R293). -/
structure Extraction where
  cell : Nat
  offset : Nat
  form : Fin 6
  bit : Fin 8
  little : Bool
  scale : Word
  add : Word
  deriving DecidableEq, Repr, Inhabited

/-- A frame binding (R293). `source = 0` means any source. -/
structure FrameBinding where
  id : Nat
  ports : List (Fin 4)
  udp : Bool
  ident : BitVec 16
  source : Nat
  tagOff : Nat
  tag : Word
  tagMask : Word
  staleTicks : Nat
  extractions : List Extraction
  deriving DecidableEq, Repr, Inhabited

/-- A stencil entry (R307). -/
structure Stencil where
  a : BitVec 29
  b : BitVec 29
  test : Fin 4
  ext : Bool
  rmt : Bool
  dest : Fin 4
  bindEn : Bool
  bind : Fin 32
  deriving DecidableEq, Repr, Inhabited

/-- A CAN receive binding (R310). -/
structure CanRxBinding where
  id : Fin 32
  dlcMin : Nat
  staleTicks : Nat
  extractions : List Extraction
  deriving DecidableEq, Repr, Inhabited

/-- A CAN transmit binding (R314). `period = none` is TRIGGER 1, whenever a source cell changed. `buffer` 0 to 2 is a
transmit buffer, `0x80 + n` time-triggered buffer `n`. -/
structure CanTxBinding where
  buffer : Nat
  ident : BitVec 29
  ext : Bool
  fd : Bool
  brs : Bool
  dlc : BitVec 4
  period : Option Nat
  insertions : List Extraction
  deriving DecidableEq, Repr, Inhabited

/-- A time-triggered slot entry (R319). -/
structure TtSlot where
  idx : Nat
  type : Fin 4
  column : Nat
  buf : Fin 32
  keep : Bool
  rep : Fin 6
  base : Nat
  deriving DecidableEq, Repr, Inhabited

/-- One controller's image part (R297 to R320). -/
structure CanCfg where
  ctl : Fin 4
  mode : Fin 4 := 0
  txPrio : Bool := false
  triple : Bool := false
  pexEn : Bool := false
  timeMaster : Bool := false
  sspEn : Bool := false
  /-- Nominal BRP, TSEG1, TSEG2, SJW. -/
  nomBrp : Nat := 1
  nomSeg1 : Nat := 127
  nomSeg2 : Nat := 32
  nomSjw : Nat := 1
  datBrp : Nat := 1
  datSeg1 : Nat := 31
  datSeg2 : Nat := 8
  datSjw : Nat := 1
  usesBrs : Bool := false
  sspo : Nat := 0
  missBase : Fin 4 := 2
  missExt : Fin 4 := 2
  rmtBase : Bool := false
  rmtExt : Bool := false
  stencils : List Stencil := []
  rxBindings : List CanRxBinding := []
  txBindings : List CanTxBinding := []
  refExt : Bool := false
  refId : BitVec 29 := 0
  ncyc : Nat := 0
  cycUs : Nat := 0
  /-- START and LEN of each column, µs (R318). -/
  columns : List (Nat × Nat) := []
  slots : List TtSlot := []
  deriving DecidableEq, Repr, Inhabited

/-- A segment's PLCA parameters (R280). -/
structure PlcaCfg where
  seg : Fin 2
  enable : Bool := false
  localId : Nat := 0
  nodeCount : Nat := 8
  toTmr : Nat := 32
  maxBc : Nat := 0
  burstTmr : Nat := 128
  deriving DecidableEq, Repr, Inhabited

/-- A trend item (R477). `change` is mode 1. -/
structure TrendItem where
  cell : Nat
  change : Bool
  deadband : Word
  k : Nat
  deriving DecidableEq, Repr, Inhabited

/-- The time part of an image (R329, R330, R344, R52, R53). -/
structure TimeCfg where
  role : Fin 4 := 0
  profile : Fin 4 := 0
  transport : Bool := false
  domain : Nat := 0
  kp : Word := 0x40800000
  ki : Word := 0x3F000000
  stepNs : Nat := 20000
  lockNs : Nat := 100
  maxPpb : Nat := 500000
  rtcStepMs : Nat := 1000
  asym0 : BitVec 16 := 0
  asym1 : BitVec 16 := 0
  utcOffset : Int := 37
  ppsInEn : Bool := false
  ppsOutMode : Fin 4 := 0
  ppsWidthMs : Nat := 100
  /-- Binary logarithm of the measurement interval in seconds (logSyncInterval, R329). -/
  logInterval : Int := 0
  /-- What a grandmaster announces: clockClass while LOCKED, priority1, priority2 and clockAccuracy (R330). -/
  lockedClass : Nat := 6
  priority1 : BitVec 8 := 128
  priority2 : BitVec 8 := 128
  clockAccuracy : BitVec 8 := 0xFE
  pinMaxS : Nat := 60
  lockWaitS : Nat := 30
  deriving DecidableEq, Repr, Inhabited

/-- The body of a configuration image, as the chapters use it. Its byte form is not given by the spec. Log entry 35 (DESIGN
CHOICE, unsafe). -/
structure Image where
  position : Nat := 0
  paired : Bool := false
  /-- Unit serial number of the preferred unit (R222). -/
  preferredSerial : Nat := 0
  estateId : Word := 0
  /-- Period code of TICK_CFG.PERIOD (R52). -/
  periodCode : Nat := 0
  originS : Nat := 0
  cells : List CellDef := []
  program : Program := default
  loops : List SlotDesc := []
  meter : MeterCfg := default
  laneRetry : Nat := 1
  silenceMs : Nat := 0
  carriers : List CarrierDef := []
  laneBindings : List LaneBinding := []
  inputSweep : List BurstDef := []
  outputSweep : List BurstDef := []
  pubId : Word := 0
  published : List Nat := []
  subs : List SubDef := []
  mirror : List MirrorDef := []
  mtu : Nat := 1500
  xchRepeat : Nat := 0
  dual : Bool := false
  keyGen : Nat := 0
  xchPort : Nat := 18621
  svcPort : Nat := 18620
  /-- The 112-bit multicast prefix, the hop limit and the DSCP of exchange datagrams (R250). -/
  xchPrefix : Nat := 0
  hopLimit : Nat := 8
  dscp : Nat := 46
  /-- The position address, and the own address of the preferred or single unit and of the other one (R222). -/
  posAddress : Nat := 0
  unitAddress : Nat := 0
  otherAddress : Nat := 0
  revokedSerials : List Nat := []
  plca : List PlcaCfg := []
  macsec : List (Fin 2) := []
  /-- Uplinks whose cipher suite is GCM-AES-XPN-256 (R289). -/
  macsecXpn : List (Fin 2) := []
  /-- Replay window of each uplink in packets, 0 where it names none (R289). -/
  replayWindows : SMap Nat := []
  frameBindings : List FrameBinding := []
  can : List CanCfg := []
  time : TimeCfg := default
  revertive : Bool := false
  startWaitS : Nat := 20
  holdoffS : Nat := 60
  trend : List TrendItem := []
  trendFlushS : Nat := 60
  /-- Host queues bound to a domain, and event rings bound to a domain (R419, R428). -/
  queueDomains : List (Fin 64 × BitVec 10) := []
  ringDomains : List (Fin 16 × BitVec 10) := []
  sleepCell : Option Nat := none
  /-- Alarm tables: local seconds of day, by day of year (R357). -/
  alarmTable0 : List Nat := []
  alarmTable1 : List Nat := []
  deriving DecidableEq, Repr, Inhabited

/-- What a bank is exchanged for by a recoat (R114). Log entry 35 (DESIGN CHOICE, unsafe). -/
structure RecoatImage where
  program : Program := default
  /-- Owned trowel-source cells no longer defined. -/
  removeCells : List Nat := []
  deriving DecidableEq, Repr, Inhabited

/-- An image's header fields that R378 checks (R377). -/
structure Header where
  magic : Word := 0x43594F49
  kind : Nat := 3
  advance : Bool := false
  revoke : Bool := false
  flagsReserved : Bool := false
  reservedZero : Bool := true
  svn : Nat := 0
  keyIndex : Fin 4 := 0
  estateId : Word := 0
  position : Nat := 0
  seq : Nat := 0
  bodyLength : Nat := 0
  /-- SHA-384 of SIGNER, as a number. -/
  signerHash : Nat := 0
  deriving DecidableEq, Repr, Inhabited

/-- What an image carries behind its header. -/
inductive Body
  | none
  | configuration (img : Image)
  | recoat (img : RecoatImage)
  | firmware
  deriving DecidableEq, Repr, Inhabited

/-- A received image with what the security core's arithmetic found of it: the signature check and the body hash. -/
structure ImageFile where
  header : Header
  sigValid : Bool
  bodyHashOk : Bool
  body : Body
  deriving DecidableEq, Repr, Inhabited

/-- Status codes of responses and completions (R267). -/
inductive Status
  | ok | notReady | epochGone | pinBusy | noAccess | forced | tableFull | busy | recoatArmed | badRequest | notDuty
  | epochFuture | signature | staleEpoch | refused | domain
  deriving DecidableEq, Repr, Inhabited

/-- The 16-bit code of a status (R267). -/
def Status.code : Status → Nat
  | .ok => 0 | .notReady => 1 | .epochGone => 2 | .pinBusy => 3 | .noAccess => 4 | .forced => 5 | .tableFull => 6
  | .busy => 7 | .recoatArmed => 8 | .badRequest => 9 | .notDuty => 10 | .epochFuture => 11 | .signature => 12
  | .staleEpoch => 13 | .refused => 14 | .domain => 15

/-- Refusal causes (R268). -/
inductive Cause
  | none | tampered | wrongUnit | purpose | unwrap | ownerFull | fullSet | unread | maintenance | noKey | orphaned
  | unusable | junctionHot | engineOut | bindingOwned | noWake | paired | recoat | powerWarning | swapEpoch
  | alreadyArmed | notVerified | partner
  deriving DecidableEq, Repr, Inhabited

/-- The 32-bit code of a cause (R268). -/
def Cause.code : Cause → Nat
  | .none => 0 | .tampered => 1 | .wrongUnit => 2 | .purpose => 3 | .unwrap => 4 | .ownerFull => 5 | .fullSet => 6
  | .unread => 7 | .maintenance => 8 | .noKey => 9 | .orphaned => 0xA | .unusable => 0xB | .junctionHot => 0xC
  | .engineOut => 0xD | .bindingOwned => 0xE | .noWake => 0x10 | .paired => 0x11 | .recoat => 0x12
  | .powerWarning => 0x13 | .swapEpoch => 0x14 | .alreadyArmed => 0x15 | .notVerified => 0x16 | .partner => 0x17

/-! ### Requests (R265 to R269, R391) -/

/-- Where a request comes from. -/
inductive ReqSrc
  | session (n : Fin 32)
  | queue (q : Fin 64)
  deriving DecidableEq, Repr, Inhabited

/-- A request's origin and its REQ_ID (R265); a host queue's TAG plays that part. -/
structure Req where
  src : ReqSrc
  reqId : Word
  deriving DecidableEq, Repr, Inhabited

/-- The signed part of a security command: SERIAL, epoch, and whether the security core finds the ECDSA signature valid under
the key the command needs (R269, R391). Log entry 7 (DESIGN CHOICE, safe). -/
structure Signed where
  serial : Nat
  epoch : Nat
  sigValid : Bool
  deriving DecidableEq, Repr, Inhabited

/-- A touch-up item (R111). -/
structure TouchItem where
  instr : Bool
  index : Nat
  word : Word
  deriving DecidableEq, Repr, Inhabited

/-- A trace set-up (R153). A channel is (enable, slot, node, idx). -/
structure TraceSetup where
  tbase : Fin 128
  ch : List (Bool × Fin 128 × Fin 8 × Fin 16)
  trigCh : Fin 8
  trigMode : Fin 8
  level : Word
  pre : Nat
  deriving DecidableEq, Repr, Inhabited

/-- What KEY_IMPORT carries of the key (R392): the ephemeral public key and the wrapped key. -/
structure WrappedKey where
  ephemeral : List Byte := []
  wrapped : List Byte := []
  deriving DecidableEq, Repr, Inhabited

/-- A new secure association as MKA installs it (R289, R290): its uplink and the SCIs of the live peers. -/
structure SaInstall where
  port : Fin 2
  peers : List (BitVec 64)
  deriving DecidableEq, Repr, Inhabited

/-- The COMMAND messages of R269 and R391. -/
inductive Command
  | forceSet (cell : Nat) (persist : Bool) (value : Word)
  | forceRemove (cell : Nat)
  | touchUp (items : List TouchItem)
  | recoatArm (swap : Nat)
  | recoatCancel
  | revertArm (swap : Nat)
  | slotUpdate (descs : List SlotDesc)
  | stop
  | restart (trip current : Nat) (sigValid : Bool)
  | loopReset (engine slot : Nat) (fault : Nat)
  | traceSetUp (engine : Nat) (t : TraceSetup)
  | meterSnapshot (resetMax : Bool) (mask : Word)
  | switchover (current : Nat) (sigValid : Bool)
  | recorderClear (sg : Signed) (upto : Nat)
  | maintenance (enter : Bool)
  | claim (serial : Nat) (owner : List Byte)
  | ownerTransfer (sg : Signed) (owner : List Byte)
  | keyImport (sg : Signed) (slot : Nat) (alg parent use tag : Nat) (key : WrappedKey) (unwraps : Bool)
  | keyDestroy (sg : Signed) (slot : Nat)
  | coatRenew (sg : Signed) (brown : Nat)
  | exchangeKeyRoll (sg : Signed) (keyGen : Nat) (switch : Nat)
  | tamperClear (sg : Signed) (timeSec gen : Word)
  | recommission (sg : Signed)
  | firmwareCommit (sg : Signed) (slot : Nat)
  | configurationCommit (sg : Signed) (seq : Nat)
  deriving DecidableEq, Repr, Inhabited

/-- What a COMMAND frame carries: a command, or a chunk of a recoat image of `total` bytes (R229, R244). -/
inductive Passed
  | command (c : Command)
  | chunk (total offset length : Nat)
  deriving DecidableEq, Repr, Inhabited

/-- The point-service messages (R266, R394, R479). -/
inductive Message
  | info
  | snapshot (epoch : Nat) (pin : Bool) (ranges : List (Nat × Nat))
  | unpin (epoch : Nat)
  | write (cell : Nat) (value : Word)
  | subscribe (k : Nat) (ranges : List (Nat × Nat))
  | unsubscribe (n : Nat)
  | meter (sealed : Bool) (number : Nat) (domain : Nat)
  | trace (engine : Nat)
  | recorder (first count : Nat)
  | attest (nonce : List Byte)
  | challenge (bytes : List Byte)
  | trend (first count : Nat)
  | ping (bytes : List Byte)
  | command (c : Command)
  | imageBegin (kind : Nat) (total : Nat)
  | imageChunk (offset length : Nat)
  | imageEnd
  | imageAbort
  deriving DecidableEq, Repr, Inhabited

/-- A certificate of a client's chain (R262): its validity period in s since 1970-01-01 UTC, and its serial number. -/
structure Cert where
  notBefore : Int
  notAfter : Int
  serial : Nat
  deriving DecidableEq, Repr, Inhabited

/-- What a client offers in its TLS handshake (R262, R263): the chain, its own certificate first, empty where it has none, and
whether its signatures lead to a trust anchor of the image, or to a certificate of its own. `uris` lists the domain number
of each domain URI of the client certificate, `none` for one that is not a decimal number. -/
structure Handshake where
  port : Fin 2 := 0
  suiteOk : Bool
  chain : List Cert
  chainOk : Bool
  selfChained : Bool
  uris : List (Option Nat)
  deriving DecidableEq, Repr, Inhabited

/-! ### Exchange datagrams (R251) -/

/-- An exchange datagram with its entries decrypted. -/
structure Datagram where
  version : Nat := 1
  type : Nat := 1
  full : Bool := false
  keyGen : Nat := 0
  estateId : Word := 0
  senderPos : Nat := 0
  senderUnit : Bool := false
  dgIndex : Nat := 0
  dgCount : Nat := 1
  epoch : Nat := 0
  ctr : Nat := 0
  repDepth : Nat := 0
  slice : Nat := 0
  pubId : Word := 0
  cells : Nat := 0
  entries : List (Nat × Cell) := []
  deriving DecidableEq, Repr, Inhabited

/-! ### Lane, frames, CAN and PTP as they arrive -/

/-- What happens to one lane burst on the wire: how many attempts fail (their read CRC is wrong, or the carrier reports a
wrong write CRC), the data cycles of the last attempt in which LN_HOLD_N is low at the edge, and, on a standby that snoops,
the address word, the words, and whether its own CRC outcome differs from the master's; and whether the repeats that are left
were given up at a limit (R44, R206). -/
structure Wire where
  failures : Nat := 0
  held : List Nat := []
  masterAddr : LWord := 0
  master : List LWord := []
  differs : Bool := false
  gaveUp : Bool := false
  deriving DecidableEq, Repr, Inhabited

/-- A channel of a carrier with the word its input shows at the LN_SYNC edge (R207). -/
structure LaneInput where
  carrier : Fin 32
  channel : Fin 128
  word : LWord
  deriving DecidableEq, Repr, Inhabited

/-- How MACsec finds a received frame (R289): unprotected, or with a SecTAG, whose SCI, AN and packet number (the whole 64 bits under
XPN) it gives, and what the ICV check found. -/
inductive MacsecIn
  | unprotected
  | secured (sci : BitVec 64) (an : Fin 4) (pn : Nat) (icvOk : Bool)
  deriving DecidableEq, Repr, Inhabited

/-- Bytes of a receive buffer (R283): of the reservations of classes 0 and 1, and of the shared remainder. -/
structure RxRoom where
  ptp : Nat := 0
  xch : Nat := 0
  shared : Nat := 0
  deriving DecidableEq, Repr, Inhabited

/-- A received Ethernet frame (R278, R282, R288, R291): `payload` stands between the EtherType and the FCS, decrypted where
the frame is protected. `age` is how many counter steps ago its SFD was detected, and `taken` what the protocol engines have
taken out of the port's receive buffer since the frame before (R283). Log entry 65 (DESIGN CHOICE, unsafe). -/
structure RxFrame where
  dst : BitVec 48
  src : BitVec 48
  tag : Option (BitVec 16) := none
  etype : BitVec 16
  payload : List Byte
  fcsOk : Bool := true
  sec : MacsecIn := .unprotected
  age : Nat := 0
  taken : RxRoom := {}
  deriving DecidableEq, Repr, Inhabited

/-- A CAN element (R306). -/
structure CanElement where
  id : BitVec 29
  ext : Bool
  rmt : Bool
  fd : Bool
  brs : Bool
  esi : Bool := false
  dlc : BitVec 4
  data : List Byte
  deriving DecidableEq, Repr, Inhabited

/-- Protocol errors of R316, coded as CAN_BUS.ERR_LAST. -/
inductive CanError
  | stuff | form | ack | crc | bitRecessive | bitDominant
  deriving DecidableEq, Repr, Inhabited

/-- What a received PTP message gives the instance (R291, R329 to R332, R340): the t1 in ns of a Sync whose SFD was detected `age`
counter steps ago; the t4 of a delay response; the t2 and t3 of a peer delay response that came `age` steps ago; or an Announce with
the port states the BMCA of the profile then decides and the UTC offset it announces. -/
inductive PtpIn
  | sync (t1 : Int) (age : Nat)
  | delayResp (t4 : Int)
  | peerResp (t2 t3 : Int) (age : Nat)
  | announce (port0 port1 : Fin 10) (utc : Option Int)
  deriving DecidableEq, Repr, Inhabited

/-! ### The partner link (R228, R229) -/

/-- A tick digest (R233). -/
structure Digest where
  input : Word := 0
  commits : List Word := []
  out : Word := 0
  maskGen : Nat := 0
  lastCmd : Nat := 0
  evidence : BitVec 16 := 0
  deriving DecidableEq, Repr, Inhabited

/-- A value an INPUT frame carries: a cell write of the duty's, already formed, with the receive stamp in ns of the frame or CAN
payload it came in (R229). -/
structure InputItem where
  cell : Nat
  content : Cell
  stamp : Option Int := none
  deriving DecidableEq, Repr, Inhabited

/-- The identities compared by the static check of a resynchronisation (R241). -/
structure StaticId where
  imageSeq : Nat := 0
  bank0 : Nat := 0
  bank1 : Nat := 0
  touchUps : Nat := 0
  slotSeq : Nat := 0
  maskGen : Nat := 0
  deriving DecidableEq, Repr, Inhabited

/-- ROLE messages (R229, R241, R243, R244): `static` reports what a unit has verified (R117), `resync` is the static check of a
unit that joins, and the duty's answer to it. -/
inductive RoleMsg
  | takeover (k : Nat)
  | takebackPropose (k : Nat)
  | takebackAck (k : Nat)
  | takebackCancel
  | fence
  | reentry (next : Nat)
  | holdOff (s : Nat)
  | static (id : StaticId)
  | resync (id : StaticId)
  deriving DecidableEq, Repr, Inhabited

/-! ### Host memory as the module reads it (R421, R431) -/

/-- A submission descriptor (R421). -/
structure Descriptor where
  opcode : Nat
  irq : Bool
  isInline : Bool
  flagsReserved : Bool := false
  type : Nat
  tag : BitVec 16
  reqAddr : Nat
  reqLen : Nat
  rspAddr : Nat
  rspLen : Nat
  reservedZero : Bool := true
  deriving DecidableEq, Repr, Inhabited

/-- Table reads of one walk: the level-1 entry, then the line of eight level-2 entries; `none` is a PCIe error or a
completion timeout (R431, R432, R435). -/
structure Walk where
  l1 : Option (BitVec 64) := none
  line : Option (List (BitVec 64)) := none
  deriving DecidableEq, Repr, Inhabited

/-! ### Metrology registers (R174, R180, R181, R194) -/

/-- A register: a 64-bit count and a 32-bit remainder in units of 2^-32 of the count's unit (R174). -/
structure AccReg where
  count : Nat := 0
  rest : Nat := 0
  deriving DecidableEq, Repr, Inhabited

/-- An accumulation-point block (R181). `phase` 3 is the element as a whole. -/
structure PointBlock where
  regs : List AccReg := List.replicate 8 {}
  impStart : Nat := 0
  expStart : Nat := 0
  impMax : Nat := 0
  impEnd : Nat := 0
  expMax : Nat := 0
  expEnd : Nat := 0
  dirChanges : Nat := 0
  dir : Nat := 0
  status : Nat := 0
  elemId : Nat := 0
  phase : Nat := 0
  deriving DecidableEq, Repr, Inhabited

/-- A thermal block (R194). -/
structure ThermalBlock where
  fwd : AccReg := {}
  rev : AccReg := {}
  fwdVol : Nat := 0
  revVol : Nat := 0
  dirChanges : Nat := 0
  errMs : Nat := 0
  deriving DecidableEq, Repr, Inhabited

/-- A commit image (R180); its MAGIC, LAYOUT and CRC are made when it is laid out as bytes. -/
structure CommitImage where
  flags : Nat := 0
  seq : Nat := 0
  samples : Nat := 0
  counter : Nat := 0
  wall : Nat := 0
  epoch : Nat := 0
  cfgId : Word := 0
  points : List PointBlock := []
  thermal : List ThermalBlock := []
  /-- DOMAIN of each block, as configured when the image was made (R190, R191). -/
  domains : List Nat := []
  thermalDomains : List Nat := []
  deriving DecidableEq, Repr, Inhabited

/-- One of the two METER frames that carry a commit image (R229, R245). -/
structure MeterHalf where
  half : Fin 2
  img : CommitImage
  deriving DecidableEq, Repr, Inhabited

/-! ### The roving spare -/

/-- The measurements a phase of the roving spare's visit ends with (R164): gain disagreement in units of 0.0001 %, phase
disagreement in units of 0.0001°, the new coefficient, and whether the channel saturated; of PARALLEL, the ratio and the
delay in 10 ns that bring the spare's samples to the channel's (R163). -/
structure RoveResult where
  gainDiff : Nat
  phaseDiff : Nat
  newGain : Word
  saturated : Bool
  ratio : Word
  delay : Int
  deriving DecidableEq, Repr, Inhabited

/-- Lockstep health of a float sample: the lanes agree, differ, or the descriptor has an uncorrectable ECC error (R149). -/
inductive Health
  | agree | mismatch | eccError
  deriving DecidableEq, Repr, Inhabited

/-- What a start-up step finds that stands outside the model (R89, R149, R380, R404). -/
structure StepInfo where
  ms : Nat := 0
  /-- Trowel and float engines that failed their self-test. -/
  trwBad : List (Fin 8) := []
  fltBad : List (Fin 4) := []
  /-- Firmware slots and configuration slots whose signature and hash hold. -/
  fwOk : List (Fin 2) := [0, 1]
  cfgOk : List (Fin 2) := [0, 1]
  /-- Recorder slots whose CRC is invalid. -/
  recBad : List Nat := []
  deriving DecidableEq, Repr, Inhabited

/-- What a line with an uncorrectable error holds (R474). -/
inductive LineHolds
  | cells (cells : List Nat) | code (addrs : List Nat) (copyOk : Bool) | consts (idxs : List Nat) (copyOk : Bool)
  | records (idxs : List Nat) | edges (idxs : List Nat) | retained (idxs : List Nat) | descriptor (f : Fin 4) (slot : Fin 128)
  | pinned (epoch : Nat) (cells : List Nat) | staged | recSlot (slot : Nat) | keySlot (slot : Fin 256) (copyB : Bool)
  | retCopy (second : Bool) | masking
  deriving DecidableEq, Repr, Inhabited

/-- What the skim pass finds in a line (R473, R474). -/
inductive SkimResult
  | clean | corrected (words : Nat) (overtaken : Bool) | bad (what : LineHolds)
  deriving DecidableEq, Repr, Inhabited

end Sys2Proof
end

