-- ==== Sys2Proof/Parts/Program.lean ====
section
/-! DEFINITION. The trowel engines, the stores their programs work on, and the commands that change them: forces,
touch-ups, recoats and the stop bead (R55 to R124). -/

namespace Sys2Proof

/-- Tags of the nesting stack (R55). -/
inductive Tag
  | push | and | andn | or | orn | xor
  deriving DecidableEq, Repr, Inhabited

/-- What one lane of an engine holds (R55). -/
structure LaneRegs where
  lacc : Bool := false
  wa : Word := 0
  wb : Word := 0
  stack : List (Bool × Tag) := []
  ovf : Bool := false
  chk : Bool := false
  pc : BitVec 18 := 0
  deriving DecidableEq, Repr, Inhabited

/-- A timer/counter record (R75); at rest (R76) by default. `sym` and `type` come from the image. -/
structure TRec where
  sym : Nat := 0
  type : Nat := 0
  memB : Bool := false
  memA : Bool := false
  initB : Bool := true
  initA : Bool := true
  run : Bool := false
  qd : Bool := false
  q : Bool := false
  et : Word := 0
  pt : Word := 0
  last : Word := 0
  deriving DecidableEq, Repr, Inhabited

/-- An edge-memory bit with its hidden INIT mark (R76). -/
structure EdgeBit where
  m : Bool := false
  init : Bool := true
  deriving DecidableEq, Repr, Inhabited

/-- The commit buffer of a task cycle, one entry per distinct target (R83). A cell's entry is its VALUE. -/
structure Commit where
  cells : SMap Word := []
  ret : SMap Word := []
  recs : SMap TRec := []
  edges : SMap EdgeBit := []
  deriving DecidableEq, Repr, Inhabited

/-- Entries in use (R83). -/
def Commit.size (b : Commit) : Nat := b.cells.length + b.ret.length + b.recs.length + b.edges.length

/-- A trowel engine: its two lanes, the task in execution, its commit buffer and its clocks (R55, R83, R90). -/
structure Engine where
  a : LaneRegs := {}
  b : LaneRegs := {}
  task : Option (Fin 16) := none
  buf : Commit := {}
  clocks : Nat := 0
  tickClocks : Nat := 0
  hist : List Nat := []
  deriving DecidableEq, Repr, Inhabited

/-- How far a due task or loop has come in this tick (R95). -/
inductive Stage
  | due | running | done | discarded | skipped
  deriving DecidableEq, Repr, Inhabited

/-- A copy of retained words and retentive counters in MRAM (R123). -/
structure RetCopy where
  seq : Nat := 0
  valid : Bool := false
  /-- (SYMID, type, words). -/
  words : List (Nat × Nat × List Word) := []
  /-- (SYMID, record). -/
  counters : List (Nat × TRec) := []
  deriving DecidableEq, Repr, Inhabited

/-- The trowel engines and their stores. Log entry 4 (DESIGN CHOICE, unsafe). -/
structure Trw where
  engines : SMap Engine := []
  /-- The running bank and its tables, and the idle bank. -/
  bank : Program := {}
  idle : Option Program := none
  recs : SMap TRec := []
  edges : SMap EdgeBit := []
  ret : SMap Word := []
  /-- Tasks due in this tick, with their stage. -/
  stages : SMap Stage := []
  /-- Addresses whose word the ECC cannot correct: code, constant pool (R87). -/
  codeBad : List Nat := []
  constBad : List Nat := []
  /-- Epoch of the last overrun record of each task (R98). -/
  ovrSeen : SMap Nat := []
  busy : SMap (List Nat) := []
  copyA : RetCopy := {}
  copyB : RetCopy := {}
  /-- The scan and control phase is open. -/
  scanning : Bool := false
  deriving DecidableEq, Repr, Inhabited

/-- A force (R107). -/
structure Force where
  value : Word
  persist : Bool
  epoch : Nat
  deriving DecidableEq, Repr, Inhabited

/-- An entry of a recoat report (R122): CLASS, KEY, OLD, NEW. -/
structure ReportEntry where
  cls : Nat
  key : Nat
  old : Nat
  new : Nat
  deriving DecidableEq, Repr, Inhabited

/-- Forces, online change and the stop bead, beside their registers (R100 to R123). -/
structure Cmd where
  /-- The masking table, which MRAM holds too (R107, R110). -/
  forces : SMap Force := []
  /-- Force commands accepted for the next screed instant, oldest first: cell, and PERSIST and VALUE, or removal. -/
  forceDue : List (Nat × Option (Bool × Word)) := []
  /-- Generation of the masking table (R233, R482). -/
  forceGen : Nat := 0
  touchDue : List (List TouchItem) := []
  slotDue : List (List SlotDesc) := []
  /-- Slot updates applied (the slot-update sequence of R241). -/
  slotSeq : Nat := 0
  /-- A restart accepted and waiting for its screed instant (R105). -/
  restartDue : Bool := false
  /-- The definitions a verified recoat image changes (R114), and whether its partner has it verified (R117). -/
  recoat : Option RecoatImage := none
  partnerVerified : Bool := false
  reports : List (List ReportEntry) := []
  reportNo : Nat := 0
  /-- The counter C at the trip instant (R103). -/
  tripC : Nat := 0
  /-- Feathering runs: from the tick after the trip (R103). -/
  feathering : Bool := false
  /-- The trip is the thermal one of R468, so loop outputs feather too and everything has stopped. -/
  stopAll : Bool := false
  deriving DecidableEq, Repr, Inhabited

end Sys2Proof
end

