-- ==== Sys2Proof/Parts/Loops.lean ====
section
/-! DEFINITION. The float engines: loop slots with their runtime words and supervision counters, and the trace units
(R125 to R157). -/

namespace Sys2Proof

/-- The two frozen tests of one operand (R142): freshness epoch last seen and samples it has not advanced, value last seen
and samples it has been identical; `seen` once a sample has been taken since the counts were started. -/
structure Stills where
  epoch : Nat := 0
  still : Nat := 0
  value : Word := 0
  same : Nat := 0
  seen : Bool := false
  deriving DecidableEq, Repr, Inhabited

/-- Supervision of one measurement (R142 to R145): of Y_CELL, and of Y_ALT while it is read instead. -/
structure Watch where
  p : Stills := {}
  a : Stills := {}
  failed : Bool := false
  switched : Bool := false
  usable : Nat := 0
  deriving DecidableEq, Repr, Inhabited

/-- A loop slot: its descriptor and its runtime words (R129). -/
structure Loop where
  desc : LoopDesc := {}
  xhat : List Word := []
  uprev : List Word := []
  bias : List Word := []
  reff : List Word := []
  /-- A transfer event waits for the next sample (R136). -/
  transfer : Bool := true
  /-- r_eff has been read from its sources since the slot started (R150). -/
  refRead : Bool := false
  watch : List Watch := []
  mode : Nat := 1
  /-- The cascade this slot is the inner loop of was closed at its last sample (R138). -/
  closed : Bool := false
  /-- The cascade this slot is the outer loop of was closed at its last sample (R138). -/
  innerClosed : Bool := false
  /-- For each reference: a source change is still being followed (R139); with REF_SLEW 0 the epoch that must be passed. -/
  follow : List (Option (Option Nat)) := []
  /-- Output cells that were forced at the last sample. -/
  forced : List Bool := []
  /-- HOLD, FEATHER or switching is in force (0 none, 2 HOLD, 3 FEATHER, 4 switched). -/
  fb : Nat := 0
  /-- An overrun of the faulted slot skips its next due sample (R146). -/
  skip : Bool := false
  /-- Epoch of the present numeric fault (R141). -/
  faultEpoch : Nat := 0
  /-- Latest committed e, u_cmd, u_appl and y, for the trace (R153). -/
  e : List Word := []
  ucmd : List Word := []
  uappl : List Word := []
  y : List Word := []
  deriving DecidableEq, Repr, Inhabited

/-- A trace unit (R153, R154): its set-up and its rows, newest first, each with the low word of its epoch. -/
structure Trace where
  setup : Option TraceSetup := none
  rows : List (List Word × Nat) := []
  /-- Rows recorded from the trigger row on. -/
  after : Nat := 0
  deriving DecidableEq, Repr, Inhabited

/-- The float engines. -/
structure Flt where
  /-- Slots by engine * 128 + slot. -/
  slots : SMap Loop := []
  stages : SMap Stage := []
  traces : SMap Trace := []
  /-- Busy clocks of each engine in this tick and in the ticks before, newest first. -/
  clocks : SMap Nat := []
  hist : SMap (List Nat) := []
  /-- Slots whose descriptor the ECC cannot correct (R149). -/
  descBad : List Nat := []
  ovrSeen : SMap Nat := []
  deriving DecidableEq, Repr, Inhabited

end Sys2Proof
end

