-- ==== Sys2Proof/Parts/Snapshot.lean ====
section
/-! DEFINITION. What STATE frames carry of the duty's state to a joining unit (R241, R245). -/

namespace Sys2Proof

/-- Parts of a resynchronisation (R241): what the static check found different (the configuration image, both banks with the
touch-ups applied, the loop-slot descriptors with their update sequence), and the snapshot of epoch J: the published image, the
timer/counter records as their four words, edge bits with their INIT marks, retained words, the runtime words of a loop slot
with what its registers show, the masking table (cell, PERSIST, VALUE, epoch) with its generation, the tasks' scheduling states,
the recoat state with its swap epoch, the metering registers (R245), and the end of it with the COMMANDs last applied and last
accepted. -/
inductive StatePart
  | image (f : ImageFile)
  | banks (running : Program) (idle : Option Program) (touchUps : Nat)
  | slots (descs : List SlotDesc) (slotSeq : Nat)
  | cells (xs : List (Nat × Cell))
  | records (xs : List (Nat × List Word))
  | edges (xs : List (Nat × Bool × Bool))
  | retained (xs : List (Nat × Word))
  | loop (slot : Nat) (l : Loop) (shown : List Nat)
  | forces (xs : List (Nat × Bool × Word × Nat)) (gen : Nat)
  | tasks (xs : List (Nat × Nat))
  | recoat (state swap : Nat)
  | meter (c : CommitImage)
  | done (epoch : Nat) (lastCmd accepted : Nat)
  deriving DecidableEq, Repr, Inhabited

end Sys2Proof
end

