-- ==== Sys2Proof/Syntax.lean ====
section
/-! DEFINITION. The commands of the module: one constructor per row of the opcode table, with the row's operands. -/

namespace Sys2Proof

/-- A command. -/
inductive Instr
  /-- REGISTER_WRITE, R5: A host write to a BAR0 register field that has no row of its own takes effect according to the field's access code. -/
  | registerWrite (addr : Nat) (v : Word)
  /-- SETUP_LOCK, R13: A write of 1 to GLB_CTRL.SETUP_LOCK sets the set-up lock until the next reset. -/
  | setupLock
  /-- BAD_ACCESS, R8: A BAR0 or BAR2 access that is not 32-bit and aligned completes, discards a write or returns all ones on a read, and increments the bad-access count. -/
  | badAccess (bar2 : Bool) (write : Bool)
  /-- LOW_WORD_READ, R9: A read of the low word of a two-register value latches the high word for the next high-word read. -/
  | lowWordRead (addr : Nat)
  /-- SCREED_INSTANT, R39: At T0(N) the sequencer raises LN_SYNC, carriers latch inputs and apply outputs, and tick N with its input sweep begins. -/
  | screedInstant (inputs : List LaneInput)
  /-- INPUT_SWEEP_OVERRUN, R44: The input sweep passes 170 µs and TICK_OVR.IN_SWEEP_OVR is set. -/
  | inputSweepOverrun
  /-- INPUT_SWEEP_HARD_LIMIT, R44: The input sweep reaches its hard limit, and unread input cells are marked stale. -/
  | inputSweepHardLimit
  /-- MERGE, R256: At the later of 170 µs and the end of the input sweep, the sequencer merges complete remote sets of epoch N−1 into the mirror and then starts scan and control. -/
  | merge
  /-- MERGE_LIMIT, R44: The merge is cut off 30 µs after it started, and the slots not merged count as missing. -/
  | mergeLimit (unmerged : List Nat)
  /-- METROLOGY_RESULT_ENTRY, R168: At the later of the end of the input sweep and T0 + 60 µs, the sequencer moves newer metrology results into their cells. -/
  | metrologyResultEntry
  /-- TASK_DISPATCH, R95: An engine starts the ready due task of lowest PRIO once its predecessors are done. -/
  | taskDispatch (e : Fin 8)
  /-- NOP, R65: Trowel instruction that does nothing for one clock. -/
  | nop (e : Fin 8)
  /-- LD, R65: Trowel instruction that loads LACC with the operand bit. -/
  | ld (e : Fin 8) (m : MemOp)
  /-- LDN, R65: Trowel instruction that loads LACC with the inverted operand bit. -/
  | ldn (e : Fin 8) (m : MemOp)
  /-- AND, R65: Trowel instruction that ANDs the operand bit into LACC. -/
  | and (e : Fin 8) (m : MemOp)
  /-- ANDN, R65: Trowel instruction that ANDs the inverted operand bit into LACC. -/
  | andn (e : Fin 8) (m : MemOp)
  /-- OR, R65: Trowel instruction that ORs the operand bit into LACC. -/
  | or (e : Fin 8) (m : MemOp)
  /-- ORN, R65: Trowel instruction that ORs the inverted operand bit into LACC. -/
  | orn (e : Fin 8) (m : MemOp)
  /-- XOR, R65: Trowel instruction that XORs the operand bit into LACC. -/
  | xor (e : Fin 8) (m : MemOp)
  /-- XORN, R65: Trowel instruction that XORs the inverted operand bit into LACC. -/
  | xorn (e : Fin 8) (m : MemOp)
  /-- ST, R65: Trowel instruction that stores LACC into the operand bit. -/
  | st (e : Fin 8) (m : MemOp)
  /-- STN, R65: Trowel instruction that stores the inverted LACC into the operand bit. -/
  | stn (e : Fin 8) (m : MemOp)
  /-- SET, R65: Trowel instruction that sets the operand bit when LACC is 1. -/
  | set (e : Fin 8) (m : MemOp)
  /-- RST, R65: Trowel instruction that clears the operand bit when LACC is 1. -/
  | rst (e : Fin 8) (m : MemOp)
  /-- LTRUE, R65: Trowel instruction that sets LACC to 1. -/
  | ltrue (e : Fin 8)
  /-- LFALSE, R65: Trowel instruction that sets LACC to 0. -/
  | lfalse (e : Fin 8)
  /-- NOT, R65: Trowel instruction that inverts LACC. -/
  | not (e : Fin 8)
  /-- AND_OPEN, R66: Trowel instruction that pushes LACC with tag AND. -/
  | andOpen (e : Fin 8)
  /-- ANDN_OPEN, R66: Trowel instruction that pushes LACC with tag ANDN. -/
  | andnOpen (e : Fin 8)
  /-- OR_OPEN, R66: Trowel instruction that pushes LACC with tag OR. -/
  | orOpen (e : Fin 8)
  /-- ORN_OPEN, R66: Trowel instruction that pushes LACC with tag ORN. -/
  | ornOpen (e : Fin 8)
  /-- XOR_OPEN, R66: Trowel instruction that pushes LACC with tag XOR. -/
  | xorOpen (e : Fin 8)
  /-- CLOSE_PAREN, R66: Trowel instruction that pops the stack and combines the saved bit with LACC by its tag. -/
  | closeParen (e : Fin 8)
  /-- PUSH, R66: Trowel instruction that pushes LACC with tag PUSH. -/
  | push (e : Fin 8)
  /-- READ, R66: Trowel instruction that loads LACC from the top stack entry without popping it. -/
  | read (e : Fin 8)
  /-- POP, R66: Trowel instruction that loads LACC from the top stack entry and pops it. -/
  | pop (e : Fin 8)
  /-- LDA, R68: Trowel instruction that loads WA with the operand word. -/
  | lda (e : Fin 8) (m : MemOp)
  /-- LDB, R68: Trowel instruction that loads WB with the operand word. -/
  | ldb (e : Fin 8) (m : MemOp)
  /-- STA, R68: Trowel instruction that stores WA into the operand. -/
  | sta (e : Fin 8) (m : MemOp)
  /-- STAC, R68: Trowel instruction that stores WA into the operand when LACC is 1. -/
  | stac (e : Fin 8) (m : MemOp)
  /-- SWAP, R68: Trowel instruction that exchanges WA and WB. -/
  | swap (e : Fin 8)
  /-- MOVAB, R68: Trowel instruction that copies WA into WB. -/
  | movab (e : Fin 8)
  /-- SELW, R68: Trowel instruction that loads WA from WB when LACC is 0. -/
  | selw (e : Fin 8)
  /-- QOK, R68: Trowel instruction that sets LACC to 1 when the cell's quality is GOOD or GOOD_FORCED. -/
  | qok (e : Fin 8) (m : MemOp)
  /-- LDQL, R68: Trowel instruction that loads WA with the cell's QUAL. -/
  | ldql (e : Fin 8) (m : MemOp)
  /-- ADDI, R69: Trowel instruction that adds WB to WA as integers. -/
  | addi (e : Fin 8)
  /-- SUBI, R69: Trowel instruction that subtracts WB from WA as integers. -/
  | subi (e : Fin 8)
  /-- MULI, R69: Trowel instruction that multiplies WA by WB as integers. -/
  | muli (e : Fin 8)
  /-- DIVI, R69: Trowel instruction that divides WA by WB as signed integers. -/
  | divi (e : Fin 8)
  /-- MODI, R69: Trowel instruction that gives the signed remainder of WA by WB. -/
  | modi (e : Fin 8)
  /-- DIVU, R69: Trowel instruction that divides WA by WB as unsigned integers. -/
  | divu (e : Fin 8)
  /-- NEGI, R69: Trowel instruction that negates WA as an integer. -/
  | negi (e : Fin 8)
  /-- ABSI, R69: Trowel instruction that takes the integer absolute value of WA. -/
  | absi (e : Fin 8)
  /-- ANDW, R69: Trowel instruction that ANDs WB into WA bitwise. -/
  | andw (e : Fin 8)
  /-- ORW, R69: Trowel instruction that ORs WB into WA bitwise. -/
  | orw (e : Fin 8)
  /-- XORW, R69: Trowel instruction that XORs WB into WA bitwise. -/
  | xorw (e : Fin 8)
  /-- NOTW, R69: Trowel instruction that inverts WA bitwise. -/
  | notw (e : Fin 8)
  /-- SHL, R69: Trowel instruction that shifts WA left by WB mod 32. -/
  | shl (e : Fin 8)
  /-- SHR, R69: Trowel instruction that shifts WA right by WB mod 32 with zero fill. -/
  | shr (e : Fin 8)
  /-- SAR, R69: Trowel instruction that shifts WA right by WB mod 32 with sign fill. -/
  | sar (e : Fin 8)
  /-- ADDF, R70: Trowel instruction that adds WB to WA in binary32. -/
  | addf (e : Fin 8)
  /-- SUBF, R70: Trowel instruction that subtracts WB from WA in binary32. -/
  | subf (e : Fin 8)
  /-- MULF, R70: Trowel instruction that multiplies WA by WB in binary32. -/
  | mulf (e : Fin 8)
  /-- DIVF, R70: Trowel instruction that divides WA by WB in binary32. -/
  | divf (e : Fin 8)
  /-- SQRTF, R70: Trowel instruction that takes the binary32 square root of WA. -/
  | sqrtf (e : Fin 8)
  /-- NEGF, R70: Trowel instruction that inverts bit 31 of WA. -/
  | negf (e : Fin 8)
  /-- ABSF, R70: Trowel instruction that clears bit 31 of WA. -/
  | absf (e : Fin 8)
  /-- MINF, R70: Trowel instruction that loads WA with the smaller of WA and WB. -/
  | minf (e : Fin 8)
  /-- MAXF, R70: Trowel instruction that loads WA with the larger of WA and WB. -/
  | maxf (e : Fin 8)
  /-- ITOF, R70: Trowel instruction that converts int32 WA to binary32. -/
  | itof (e : Fin 8)
  /-- UTOF, R70: Trowel instruction that converts uint32 WA to binary32. -/
  | utof (e : Fin 8)
  /-- FTOI, R70: Trowel instruction that converts binary32 WA to int32, truncating and saturating. -/
  | ftoi (e : Fin 8)
  /-- EQI, R72: Trowel compare that sets LACC to WA = WB as int32. -/
  | eqi (e : Fin 8)
  /-- NEI, R72: Trowel compare that sets LACC to WA ≠ WB as int32. -/
  | nei (e : Fin 8)
  /-- GTI, R72: Trowel compare that sets LACC to WA > WB as int32. -/
  | gti (e : Fin 8)
  /-- GEI, R72: Trowel compare that sets LACC to WA ≥ WB as int32. -/
  | gei (e : Fin 8)
  /-- LTI, R72: Trowel compare that sets LACC to WA < WB as int32. -/
  | lti (e : Fin 8)
  /-- LEI, R72: Trowel compare that sets LACC to WA ≤ WB as int32. -/
  | lei (e : Fin 8)
  /-- GTU, R72: Trowel compare that sets LACC to WA > WB as uint32. -/
  | gtu (e : Fin 8)
  /-- LTU, R72: Trowel compare that sets LACC to WA < WB as uint32. -/
  | ltu (e : Fin 8)
  /-- EQF, R72: Trowel compare that sets LACC to WA = WB as binary32. -/
  | eqf (e : Fin 8)
  /-- NEF, R72: Trowel compare that sets LACC to WA ≠ WB as binary32. -/
  | nef (e : Fin 8)
  /-- GTF, R72: Trowel compare that sets LACC to WA > WB as binary32. -/
  | gtf (e : Fin 8)
  /-- GEF, R72: Trowel compare that sets LACC to WA ≥ WB as binary32. -/
  | gef (e : Fin 8)
  /-- LTF, R72: Trowel compare that sets LACC to WA < WB as binary32. -/
  | ltf (e : Fin 8)
  /-- LEF, R72: Trowel compare that sets LACC to WA ≤ WB as binary32. -/
  | lef (e : Fin 8)
  /-- JMP, R74: Trowel instruction that jumps to ADDR. -/
  | jmp (e : Fin 8) (addr : BitVec 18)
  /-- JC, R74: Trowel instruction that jumps to ADDR when LACC is 1. -/
  | jc (e : Fin 8) (addr : BitVec 18)
  /-- JCN, R74: Trowel instruction that jumps to ADDR when LACC is 0. -/
  | jcn (e : Fin 8) (addr : BitVec 18)
  /-- LDOVF, R74: Trowel instruction that loads LACC with OVF. -/
  | ldovf (e : Fin 8)
  /-- CLOVF, R74: Trowel instruction that clears OVF. -/
  | clovf (e : Fin 8)
  /-- LDCHK, R74: Trowel instruction that loads LACC with CHK. -/
  | ldchk (e : Fin 8)
  /-- END, R83: Trowel instruction that ends the task cycle, checks lane agreement and commits the commit buffer. -/
  | endCycle (e : Fin 8)
  /-- TON, R79: On-delay timer instruction executing its record. -/
  | ton (e : Fin 8) (m : MemOp)
  /-- TOF, R79: Off-delay timer instruction executing its record. -/
  | tof (e : Fin 8) (m : MemOp)
  /-- TP, R79: Pulse timer instruction executing its record. -/
  | tp (e : Fin 8) (m : MemOp)
  /-- CTU, R80: Counter instruction that counts rising edges of LACC up. -/
  | ctu (e : Fin 8) (m : MemOp)
  /-- CTD, R80: Counter instruction that counts rising edges of LACC down. -/
  | ctd (e : Fin 8) (m : MemOp)
  /-- CRES, R80: Counter instruction that resets CV when LACC is 1. -/
  | cres (e : Fin 8) (m : MemOp)
  /-- CLOAD, R80: Counter instruction that loads CV from WA when LACC is 1. -/
  | cload (e : Fin 8) (m : MemOp)
  /-- CPSET, R80: Counter instruction that sets PV from WA. -/
  | cpset (e : Fin 8) (m : MemOp)
  /-- LDQ, R80: Instruction that loads LACC with Q or QD of a record. -/
  | ldq (e : Fin 8) (m : MemOp)
  /-- LET, R80: Instruction that loads WA with ET or CV of a record. -/
  | letv (e : Fin 8) (m : MemOp)
  /-- EDGR, R81: Edge instruction that yields a rising edge of LACC against its edge-memory bit. -/
  | edgr (e : Fin 8) (m : MemOp)
  /-- EDGF, R81: Edge instruction that yields a falling edge of LACC against its edge-memory bit. -/
  | edgf (e : Fin 8) (m : MemOp)
  /-- LOOP_SAMPLE, R127: A float engine executes one sample of a ready due loop slot and commits its outputs and state. -/
  | loopSample (f : Fin 4) (slot : Fin 128) (health : Health)
  /-- OUTPUT_SWEEP_WINDOW_START, R97: At the output sweep window start, every unfinished due task and loop is in overrun, and the output sweep starts if it has not. -/
  | outputSweepWindowStart
  /-- OUTPUT_SWEEP_ABORT, R44: At T0(N+1) − 2 µs an unfinished output sweep stops at a burst boundary. -/
  | outputSweepAbort
  /-- PUBLISH_ABANDON, R44: At T0(N+1) + 170 µs an unfinished publish is abandoned and its unsent datagrams are never sent. -/
  | publishAbandon
  /-- NEAR_LIMIT, R43: 64 consecutive ticks above 90 % of the window set NEAR_LIMIT, and 1,024 below 75 % clear it. -/
  | nearLimit (scanUs : Nat)
  /-- PIN_EXPIRY, R31: A holder's hold on a pin expires after MAX_S seconds, failing its transfers and releasing the pin if it was the last. -/
  | pinExpiry (who : ReqSrc) (epoch : Nat)
  /-- LOCK_WAIT_EXPIRY, R49: Without network-time lock after LOCK_WAIT_S the module takes its time base from seeded time. -/
  | lockWaitExpiry
  /-- FORCE_SET, R107: Domain 0 command that sets or changes a force, effective at the next screed instant. -/
  | forceSet (r : Req) (cell : Nat) (persist : Bool) (v : Word)
  /-- FORCE_REMOVE, R109: Domain 0 command that removes a force, effective at the next screed instant. -/
  | forceRemove (r : Req) (cell : Nat)
  /-- TOUCH_UP, R111: Domain 0 command that submits a batch of constant and instruction changes. -/
  | touchUp (r : Req) (items : List TouchItem)
  /-- RECOAT_ARM, R117: Command that arms a verified recoat for swap epoch S. -/
  | recoatArm (r : Req) (swap : Nat)
  /-- RECOAT_CANCEL, R117: Command that cancels an armed recoat. -/
  | recoatCancel (r : Req)
  /-- REVERT_ARM, R118: Command that arms the previous program held in the idle bank. -/
  | revertArm (r : Req) (swap : Nat)
  /-- SLOT_UPDATE, R151: Domain 0 command that submits a batch of loop-slot descriptors. -/
  | slotUpdate (r : Req) (descs : List SlotDesc)
  /-- STOP, R100: Estate-operator command that trips the stop bead with cause 0x07. -/
  | stop (r : Req)
  /-- RESTART, R105: Signed command that restarts after a stop-bead trip, effective at the next screed instant. -/
  | restart (r : Req) (trip current : Nat) (sigValid : Bool)
  /-- LOOP_RESET, R141: Command that ends the faulted state of a loop slot. -/
  | loopReset (r : Req) (engine slot : Nat) (fault : Nat)
  /-- TRACE_SET_UP, R153: Command that sets up a float engine's trace unit. -/
  | traceSetUp (r : Req) (engine : Nat) (t : TraceSetup)
  /-- METER_SNAPSHOT, R189: Domain 0 command that triggers a metering snapshot, optionally resetting demand maxima. -/
  | meterSnapshot (r : Req) (resetMax : Bool) (mask : Word)
  /-- SWITCHOVER, R237: Signed command that makes the standby declare a duty failure with cause 0x05. -/
  | switchover (r : Req) (current : Nat) (sigValid : Bool)
  /-- RECORDER_CLEAR, R410: Signed command that clears the event recorder up to UPTO. -/
  | recorderClear (r : Req) (sg : Signed) (upto : Nat)
  /-- MAINTENANCE_ENTER, R397: Command that puts the module in maintenance with cause 0x05. -/
  | maintenanceEnter (r : Req)
  /-- MAINTENANCE_LEAVE, R397: Command that clears cause 0x05 and leaves maintenance when no cause remains. -/
  | maintenanceLeave (r : Req)
  /-- CLAIM, R391: Command that writes OWNER_HASH[0] on an unclaimed module. -/
  | claim (r : Req) (serial : Nat) (owner : List Byte)
  /-- OWNER_TRANSFER, R391: Signed command that writes the next owner hash and revokes the current one. -/
  | ownerTransfer (r : Req) (sg : Signed) (owner : List Byte)
  /-- KEY_IMPORT, R392: Signed command that unwraps and stores an imported key in a finish slot. -/
  | keyImport (r : Req) (sg : Signed) (slot alg parent use tag : Nat) (key : WrappedKey) (unwraps : Bool)
  /-- KEY_DESTROY, R391: Signed command that zeroises a key slot. -/
  | keyDestroy (r : Req) (sg : Signed) (slot : Nat)
  /-- COAT_RENEW, R391: Signed command that raises the GEN of a brown slot and re-derives its fixed finish slots. -/
  | coatRenew (r : Req) (sg : Signed) (brown : Nat)
  /-- EXCHANGE_KEY_ROLL, R391: Signed command that switches the exchange key generation at a switch epoch. -/
  | exchangeKeyRoll (r : Req) (sg : Signed) (keyGen swap : Nat)
  /-- TAMPER_CLEAR, R391: Signed command that clears the latched tamper state when time and generation match. -/
  | tamperClear (r : Req) (sg : Signed) (timeSec gen : Word)
  /-- RECOMMISSION, R393: Signed command that derives fresh coats and empties imported slots. -/
  | recommission (r : Req) (sg : Signed)
  /-- FIRMWARE_COMMIT, R382: Signed command that makes the TRIAL firmware slot preferred and advances counters. -/
  | firmwareCommit (r : Req) (sg : Signed) (slot : Nat)
  /-- CONFIGURATION_COMMIT, R383: Signed command that raises SVN_CFG to the running configuration's SVN. -/
  | configurationCommit (r : Req) (sg : Signed) (seq : Nat)
  /-- METROLOGY_SAMPLE, R165: Each 125 µs decimator output is processed into power and accumulated into the registers. -/
  | metrologySample (volts amps : List Int) (spare : Int)
  /-- REGISTER_COMMIT, R182: Every 10 ms of stamps the register image is committed to the alternate ferroelectric slot. -/
  | registerCommit
  /-- ROVE_PHASE_END, R163: A phase of the roving spare's visit ends and the next phase or channel begins. -/
  | rovePhaseEnd (result : RoveResult)
  /-- DEMAND_INTERVAL_END, R176: At the end of a demand interval the module computes demand and updates the maxima. -/
  | demandIntervalEnd
  /-- DAILY_SNAPSHOT, R189: At a configured local time a metering snapshot is triggered. -/
  | dailySnapshot (i : Nat)
  /-- SNAPSHOT_TAKE, R192: A write of MET_SNAP_CTRL.TAKE triggers a snapshot and sets NOT_READY until sealed. -/
  | snapshotTake
  /-- PULSE_EDGE, R194: A counted pulse or quadrature edge adds volume and thermal energy. -/
  | pulseEdge (input : Fin 8) (reverse : Bool)
  /-- POWER_FAIL_WARNING, R184: PFW_N falling or VIN below 17.0 V makes the final commit and enters warning hold. -/
  | powerFailWarning (pfw : Bool)
  /-- WARNING_CLEAR, R185: With PFW_N high and VIN ≥ 18 V for 50 ms, pending energy is folded in and the module leaves warning hold. -/
  | warningClear
  /-- DATA_RD, R203: Lane burst reading latched input words from a carrier. -/
  | dataRd (carrier : Fin 32) (channel : Fin 128) (words : Nat) (w : Wire)
  /-- DATA_WR, R204: Lane burst writing output words into a carrier's pending buffer. -/
  | dataWr (carrier : Fin 32) (channel : Fin 128) (words : Nat) (w : Wire)
  /-- ID_RD, R211: Lane burst reading a carrier's identity words. -/
  | idRd (carrier : Fin 32) (ans : Option (List LWord)) (w : Wire)
  /-- STAT_RD, R220: Lane burst reading a carrier's status words. -/
  | statRd (carrier : Fin 32) (channel : Fin 128) (words : Nat) (raised : LWord) (w : Wire)
  /-- CFG_WR, R214: Lane burst writing a carrier's silence time and output enable. -/
  | cfgWr (carrier : Fin 32) (silence : LWord) (enable : Bool) (w : Wire)
  /-- ECHO_RD, R200: Lane burst reading a carrier's present pending output words. -/
  | echoRd (carrier : Fin 32) (channel : Fin 128) (words : Nat) (w : Wire)
  /-- STAT_CLR, R220: Lane burst clearing status bits of a carrier. -/
  | statClr (carrier : Fin 32) (channel : Fin 128) (bits : List LWord) (w : Wire)
  /-- CARRIER_PROBE, R213: An absent or mismatched carrier is probed again every 1,024 ticks in the service window. -/
  | carrierProbe (carrier : Fin 32) (ans : Option (List LWord)) (w : Wire)
  /-- STANDBY_TICK_START, R230: The standby starts tick N at the rising edge of LN_SYNC it observes. -/
  | standbyTickStart (epoch : Nat)
  /-- PARTNER_READY, R233: PTR_RDY_I rising lets the duty start its output sweep. -/
  | partnerReady
  /-- INPUT_FRAME, R229: Partner frame carrying the duty's inputs to the standby. -/
  | inputFrame (seq : Nat) (epoch : Nat) (items : List InputItem)
  /-- CLOSE_FRAME, R230: Partner frame closing an epoch's inputs, on which the standby merges. -/
  | closeFrame (seq : Nat) (epoch : Nat) (items : List InputItem) (fallbacks : List Nat) (digest : Word)
  /-- CLOSE_DEADLINE, R231: CLOSE not arrived by T0(N) + 200 µs makes the standby out of step. -/
  | closeDeadline
  /-- COMMAND_FRAME, R232: Partner frame carrying an accepted command with its application epoch. -/
  | commandFrame (seq epoch : Nat) (c : Passed) (apply : Nat)
  /-- ACK_FRAME, R232: Partner frame acknowledging a command, on which the duty applies it and answers the requester. -/
  | ackFrame (id : Nat) (st : Status) (cause : Cause)
  /-- DIGEST_FRAME, R234: Partner frame with a tick digest, compared for divergence. -/
  | digestFrame (seq epoch : Nat) (d : Digest)
  /-- METER_FRAME, R245: Partner frame carrying a commit image that the standby writes into its slots. -/
  | meterFrame (seq : Nat) (m : MeterHalf)
  /-- QUERY_FRAME, R229: Partner frame requesting data to resolve a divergence. -/
  | queryFrame (seq : Nat) (kind item : Nat)
  /-- REPLY_FRAME, R229: Partner frame answering a QUERY. -/
  | replyFrame (seq : Nat) (kind item : Nat) (data : List Word)
  /-- STATE_FRAME, R241: Partner frame carrying resynchronisation data. -/
  | stateFrame (seq : Nat) (part : StatePart)
  /-- ROLE_FRAME, R229: Partner frame carrying takeover, takeback, fence, re-entry and hold-off messages. -/
  | roleFrame (seq : Nat) (m : RoleMsg)
  /-- PARTNER_FRAME_TIMEOUT, R228: A partner frame not acknowledged within 20 µs is sent again, up to 8 times. -/
  | partnerFrameTimeout (seq : Nat)
  /-- PARTNER_LINK_SILENCE, R237: Link silence for three ticks with a healthy partner makes the standby detached. -/
  | partnerLinkSilence
  /-- PTR_OK_FALL, R237: PTR_OK_I falling makes the standby declare a duty failure with cause 0x02. -/
  | ptrOkFall
  /-- HEARTBEAT_TIMEOUT, R237: PTR_HB_I not toggling for 1.25 × P makes the standby declare cause 0x03. -/
  | heartbeatTimeout
  /-- LN_SYNC_MISSING, R237: No LN_SYNC within 2 µs of the standby's own T0 makes it declare cause 0x04. -/
  | lnSyncMissing
  /-- TAKEOVER, R239: At T0(K) the new duty fences the old one and takes the lane, network identity and duty role. -/
  | takeover
  /-- FENCE_ASSERT, R227: PTR_FENCEI_N low tristates the lane and transmitters, stops the sequencer and runs self-tests. -/
  | fenceAssert
  /-- FENCE_RELEASE, R227: Release of the fence makes the unit take the standby role and resynchronise. -/
  | fenceRelease
  /-- PARTNER_TRIP, R244: A pulse on PTR_TRIP_I trips this unit's stop bead with cause 0x06. -/
  | partnerTrip
  /-- ROLE_START_WAIT_EXPIRY, R223: A non-preferred unit that sees no duty within START_WAIT_S becomes duty. -/
  | roleStartWaitExpiry
  /-- HOLDOFF_EXPIRY, R242: The preferred standby's hold-off ends and it proposes a takeback. -/
  | holdoffExpiry
  /-- TAKEBACK, R243: At the agreed T0(K) the preferred unit takes back duty without a fence. -/
  | takeback
  /-- EXCHANGE_DATAGRAM_RECEIVE, R253: An exchange datagram is authenticated, checked and held, or discarded. -/
  | exchangeDatagramReceive (d : Datagram) (tagOk fragmented : Bool)
  /-- LEVEL_TIMEOUT, R259: WAIT_US passes with slots missing, so GROUT handling applies and dependants become ready. -/
  | levelTimeout (sub : Nat)
  /-- TLS_HANDSHAKE, R262: A client opens a point-service session through a TLS 1.3 handshake with client authentication. -/
  | tlsHandshake (n : Fin 32) (h : Handshake)
  /-- SESSION_IDLE_TIMEOUT, R264: A session with no traffic for 300 s is closed. -/
  | sessionIdleTimeout (n : Fin 32)
  /-- SESSION_CLOSE, R274: A session ends, releasing its pins and aborting any open transfer. -/
  | sessionClose (n : Fin 32)
  /-- INFO, R266: Message returning the module's identity and epochs. -/
  | info (r : Req)
  /-- SNAPSHOT, R270: Message reading ranges of cells of one epoch, optionally pinning it. -/
  | snapshot (r : Req) (epoch : Nat) (pin : Bool) (ranges : List (Nat × Nat))
  /-- UNPIN, R270: Message releasing the session's pin of an epoch. -/
  | unpin (r : Req) (epoch : Nat)
  /-- WRITE, R272: Message writing the VALUE of a cell for the next tick. -/
  | write (r : Req) (cell : Nat) (v : Word)
  /-- SUBSCRIBE, R273: Message creating a session subscription to ranges of cells. -/
  | subscribe (r : Req) (k : Nat) (ranges : List (Nat × Nat))
  /-- UNSUBSCRIBE, R273: Message ending a session subscription. -/
  | unsubscribe (r : Req) (n : Nat)
  /-- METER, R191: Message returning the latest commit image or a seal record, filtered by domain. -/
  | meter (r : Req) (sealed : Bool) (number domain : Nat)
  /-- TRACE, R155: Message returning a finished trace. -/
  | trace (r : Req) (engine : Nat)
  /-- RECORDER, R407: Message reading event records from FIRST, with gap entries. -/
  | recorder (r : Req) (first count : Nat)
  /-- ATTEST, R395: Message returning a report signed with the identity key. -/
  | attest (r : Req) (nonce : List Byte)
  /-- CHALLENGE, R394: Message answering a challenge with an HMAC under the domain's secret. -/
  | challenge (r : Req) (bytes : List Byte)
  /-- TREND, R479: Message returning trend pages from the flash log. -/
  | trend (r : Req) (first count : Nat)
  /-- PING, R266: Message echoing its bytes. -/
  | ping (r : Req) (bytes : List Byte)
  /-- IMAGE_BEGIN, R274: IMAGE step that opens an image transfer of a given kind. -/
  | imageBegin (r : Req) (kind total : Nat)
  /-- IMAGE_CHUNK, R274: IMAGE step that delivers the next contiguous chunk of an image. -/
  | imageChunk (r : Req) (offset length : Nat)
  /-- IMAGE_END, R274: IMAGE step that ends a transfer and requests its verification. -/
  | imageEnd (r : Req)
  /-- IMAGE_ABORT, R274: IMAGE step that abandons an open transfer. -/
  | imageAbort (r : Req)
  /-- IMAGE_VERIFY_DONE, R378: The security core finishes verifying an image and stores it or reports the failing step. -/
  | imageVerifyDone (files : List ImageFile)
  /-- FRAME_RECEIVE, R282: A received Ethernet frame is filtered, classified, stamped and buffered or discarded. -/
  | frameReceive (p : Fin 4) (f : RxFrame)
  /-- FRAME_BINDING_STALE, R294: No matching frame for STALE_TICKS ticks marks a binding's cells stale. -/
  | frameBindingStale (binding : Nat)
  /-- PAUSE_FRAME, R285: A received PAUSE frame stops or releases transmission on the uplink. -/
  | pauseFrame (p : Fin 2) (quanta : BitVec 16)
  /-- PAUSE_EXPIRY, R285: The pause time ends and the uplink resumes sending. -/
  | pauseExpiry (p : Fin 2)
  /-- FRAME_TRANSMIT, R284: A port dequeues and sends the next frame by strict priority, stamping and segmenting it. -/
  | frameTransmit (p : Fin 4) (collided : Bool)
  /-- MKA_SA_INSTALL, R290: Both sides have installed a new SA and the port moves to it. -/
  | mkaSaInstall (sa : SaInstall)
  /-- MKA_PEER_LOSS, R290: MKA losing its live peer stops all but MKA traffic. -/
  | mkaPeerLoss (p : Fin 2)
  /-- LINK_DOWN, R279: A port's link goes down, discarding its transmit queues. -/
  | linkDown (p : Fin 4)
  /-- LINK_UP, R295: A port's link comes up through auto-negotiation. -/
  | linkUp (p : Fin 4) (master : Bool)
  /-- PLCA_BEACON_SEND, R281: As coordinator the module sends a BEACON at the start of each PLCA cycle. -/
  | plcaBeaconSend (g : Fin 2)
  /-- BEACON_LOSS, R281: No BEACON within 400 µs makes a follower fall back to CSMA/CD. -/
  | beaconLoss (g : Fin 2)
  /-- CAN_FRAME_RECEIVE, R308: A received CAN frame is stamped and filtered by the stencil list into a queue or binding. -/
  | canFrameReceive (c : Fin 4) (el : CanElement) (age : Nat) (resRecessive : Bool)
  /-- CAN_BINDING_STALE, R311: No frame for STALE_TICKS ticks marks a CAN binding's cells stale. -/
  | canBindingStale (c : Fin 4) (binding : Fin 32)
  /-- CAN_TX_ATTEMPT_END, R313: A transmission attempt ends in success or failure, updating buffers and the transmit log. -/
  | canTxAttemptEnd (c : Fin 4) (buffer : Nat) (ok : Bool) (age : Nat) (loop : BitVec 7)
  /-- CAN_BUS_ERROR, R316: A protocol error updates TEC and REC and the error state. -/
  | canBusError (c : Fin 4) (kind : CanError) (tx dataPhase : Bool)
  /-- BUSOFF_RECOVERY, R317: The 128th sequence of 11 recessive bits returns the controller to error-active. -/
  | busoffRecovery (c : Fin 4)
  /-- CAN_STAMP_ADJUST, R303: Once per ms the TIME domain adjusts the stamp counter increment. -/
  | canStampAdjust (c : Fin 4)
  /-- TT_REFERENCE_TIME, R320: A time master requests a reference message at each whole multiple of CYC_US. -/
  | ttReferenceTime (c : Fin 4) (begun : Bool)
  /-- TT_SLOT_DUE, R319: A due time-triggered slot's column begins and its buffer sends or contends. -/
  | ttSlotDue (c : Fin 4) (idx : Fin 256) (ok : Bool) (age : Nat)
  /-- TT_REFERENCE_LOSS, R320: No reference for 2 × CYC_US suspends a follower's schedule. -/
  | ttReferenceLoss (c : Fin 4)
  /-- PTP_MESSAGE_RECEIVE, R329: A received PTP message is processed by the PTP instance. -/
  | ptpMessageReceive (p : Fin 2) (m : PtpIn)
  /-- PTP_MESSAGE_SEND, R330: The PTP instance sends its periodic messages in its port role. -/
  | ptpMessageSend (p : Fin 2)
  /-- HOLDOVER_ENTRY, R335: Missing measurements put the servo in HOLDOVER. -/
  | holdoverEntry
  /-- PPS_IN_EDGE, R338: A rising edge on PPS_IN is stamped and used or reported as an offset. -/
  | ppsInEdge
  /-- PPS_OUT_EDGE, R339: PPS_OUT rises at the configured instant. -/
  | ppsOutEdge
  /-- NT_CAPTURE, R328: A write of NT_CAP_CTRL.TAKE captures C and NT at the same clock. -/
  | ntCapture
  /-- RTC_COMPARE, R342: Every 64 s while LOCKED the backup count is compared with NT and stepped or trimmed. -/
  | rtcCompare
  /-- LEAP_SECOND, R340: At a leap second the backup count is stepped by one second. -/
  | leapSecond (insert : Bool)
  /-- GO_SEC, R350: A write of BKP_SET_CTRL.GO_SEC applies the staged count, or rejects it. -/
  | goSec
  /-- GO_CAL, R350: A write of BKP_SET_CTRL.GO_CAL applies the staged calendar fields, or rejects them. -/
  | goCal
  /-- OFFSET_WRITE, R348: A write of BKP_OFFSET is an offset step that is recorded and checked against the alarms. -/
  | offsetWrite (v : BitVec 16)
  /-- LOCAL_SECOND, R354: At the start of each local second both alarms are compared with local time. -/
  | localSecond
  /-- TIME_GROUP_READ, R349: The first read of the time group freezes a shadow, and a BKP_ERA read releases it. -/
  | timeGroupRead (addr : Nat)
  /-- SHADOW_RELEASE, R349: The time-group shadow is released 2 ms after it was frozen. -/
  | shadowRelease
  /-- CRYSTAL_STOP, R352: No backup crystal edge for 1 ms sets OSF. -/
  | crystalStop
  /-- SUPPLY_TO_VBAT, R359: The backup domain switches to VBAT and stamps BKP_PWR_FAIL. -/
  | supplyToVbat
  /-- SUPPLY_RETURN, R359: The backup domain returns to main 3.3 V and stamps BKP_PWR_RET. -/
  | supplyReturn
  /-- BACKUP_POWER_UP, R361: Loss of all backup supply resets the backup domain and latches a full tamper. -/
  | backupPowerUp
  /-- VBAT_MEASURE, R361: Every 64 s VBAT is measured and VBAT_LOW updated. -/
  | vbatMeasure (mv : Nat)
  /-- TAMPER_SAMPLE, R363: A static tamper input is sampled and its filter count advanced. -/
  | tamperSample (i : Fin 4) (level : Bool)
  /-- MESH_PERIOD, R364: At each mesh period the LFSR bits are driven and compared. -/
  | meshPeriod (in0 in1 : Bool)
  /-- TMP_CFG_WRITE, R363: A write of TMP_CFG reconfigures a tamper input, keeping or restarting its filter count. -/
  | tmpCfgWrite (i : Fin 4) (v : Word)
  /-- MESH_CFG_WRITE, R364: A write of MESH_CFG reconfigures the mesh without restarting its count; EN cannot be cleared. -/
  | meshCfgWrite (v : Word)
  /-- SLEEP_KEY_WRITE, R369: A write of the sleep key to BKP_SLEEP requests sleep, which is accepted or refused. -/
  | sleepKeyWrite (v : Word)
  /-- SLEEP_ENTRY, R370: After tick N+1 the module makes a final commit, flushes MRAM and drops PWRON. -/
  | sleepEntry
  /-- SLEEP_FAIL, R370: VIN still high 1 s after PWRON fell raises PWRON and restarts the sequencer. -/
  | sleepFail
  /-- PWRON_LOW_END, R371: After 250 ms low, PWRON rises if a wake cause is latched. -/
  | pwronLowEnd
  /-- WAKE_N_LOW, R368: WAKE_N held low for 10 ms with WAKE_N_EN raises PWRON. -/
  | wakeNLow
  /-- KEY_OPERATION_DONE, R389: The security core completes a key operation and releases its output unless a tamper intervened. -/
  | keyOperationDone
  /-- TRIAL_TIMEOUT, R382: 600 s in the TRIAL slot without commit causes a warm reset and fallback. -/
  | trialTimeout
  /-- RECORD_WRITE, R405: The recorder writes the oldest admitted FIFO record to MRAM. -/
  | recordWrite
  /-- RECORDS_DROPPED, R405: When FIFO entries free up, a record of dropped events is admitted. -/
  | recordsDropped
  /-- SQ_TAIL, R418: A doorbell write of the submission tail makes new descriptors available. -/
  | sqTail (q : Fin 64) (v : BitVec 12)
  /-- CQ_HEAD, R418: A doorbell write of the completion head consumes completion entries. -/
  | cqHead (q : Fin 64) (v : BitVec 12)
  /-- CONTROL_RESUME, R437: A CONTROL write of 0x1 resumes a halted queue by repeating the failed step. -/
  | controlResume (q : Fin 64) (w : Walk)
  /-- CONTROL_ABANDON, R437: A CONTROL write of 0x2 abandons the halted descriptor. -/
  | controlAbandon (q : Fin 64) (w : Walk)
  /-- EQ_HEAD, R429: A doorbell write of an event ring's head frees its slots. -/
  | eqHead (q : Fin 64) (v : BitVec 12)
  /-- QUEUE_ENABLE, R420: A write of HQ_CFG.ENABLE 1 starts a queue pair with reset pointers. -/
  | queueEnable (q : Fin 64)
  /-- QUEUE_DISABLE, R420: A write of HQ_CFG.ENABLE 0 stops a queue and releases its pins and subscriptions. -/
  | queueDisable (q : Fin 64)
  /-- EVENT_RING_ENABLE, R428: A write of EQ_CFG.ENABLE starts or stops an event ring. -/
  | eventRingEnable (ring : Fin 16) (on : Bool)
  /-- DESCRIPTOR_FETCH, R421: The engine fetches the next submission descriptor of a queue with free completion room. -/
  | descriptorFetch (q : Fin 64) (w : Walk) (d : Option (List Byte))
  /-- HQ_NOP, R422: Descriptor that completes at once. -/
  | hqNop (q : Fin 64) (w : Walk)
  /-- MSG, R423: Descriptor carrying a point-service request and its response. -/
  | msg (q : Fin 64) (m : Option Message) (w : Walk)
  /-- UPDATE_WAIT, R422: Descriptor that completes after the next UPDATE of a queue subscription. -/
  | updateWait (q : Fin 64) (n : Nat)
  /-- CAN_RX, R424: Descriptor reading held elements of a CAN receive queue. -/
  | canRx (q : Fin 64) (ctl rxq max : Nat)
  /-- CAN_ACK, R424: Descriptor releasing CAN receive elements up to LAST_SEQ. -/
  | canAck (q : Fin 64) (ctl rxq : Nat) (last : Word) (w : Walk)
  /-- CAN_TX_SEND, R424: Descriptor submitting a transmit request to a CAN buffer. -/
  | canTxSend (q : Fin 64) (ctl buffer : Nat) (el : CanElement) (w : Walk)
  /-- CAN_TX_CANCEL, R313: Descriptor cancelling the request of a CAN buffer. -/
  | canTxCancel (q : Fin 64) (ctl buffer : Nat) (w : Walk)
  /-- LANE_ECHO, R422: Descriptor requesting an ECHO_RD burst in a service window. -/
  | laneEcho (q : Fin 64) (carrier channel words : Nat)
  /-- DMA_CHUNK, R434: The data mover transfers one chunk up to a 4 KiB boundary, then chooses the next queue. -/
  | dmaChunk (q : Fin 64) (w : Walk) (err : Bool)
  /-- ATC_INVALIDATE, R433: A write of ATC_INV_CTRL.GO starts invalidation of cached translations. -/
  | atcInvalidate
  /-- ATC_INVALIDATE_DONE, R433: Invalidation completes, BUSY clears and vector 81 is signalled. -/
  | atcInvalidateDone
  /-- PE_PERST, R416: PE_PERST_N resets the PCIe link and the host queue engine alone. -/
  | pePerst
  /-- D3HOT_ENTRY, R415: Entry to D3hot disables every queue. -/
  | d3hotEntry
  /-- POWER_ON_RESET, R444: VIN below 13.0 V or a rail out of regulation asserts power-on reset. -/
  | powerOnReset
  /-- POWER_ON_RELEASE, R444: Power-on reset is released 10 ms after VIN reaches 18.0 V with rails in regulation. -/
  | powerOnRelease
  /-- RESET_N_ASSERT, R443: RESET_N held low for 1 µs or more puts the module in warm reset. -/
  | resetNAssert
  /-- RESET_N_RELEASE, R443: The rising edge of RESET_N releases the warm reset and starts start-up. -/
  | resetNRelease
  /-- START_UP_STEP_DONE, R449: A start-up step completes and the next begins. -/
  | startUpStepDone (info : StepInfo)
  /-- PRIMER_LOAD_DONE, R451: A primer load ends; a matching CRC validates the shadows, a mismatch restarts it. -/
  | primerLoadDone (crcOk : Bool) (us : BitVec 16)
  /-- BLOCK_RESET, R454: A write of RST_BLOCK.GO asks a block to go idle for a block-alone reset. -/
  | blockReset
  /-- BLOCK_RESET_DONE, R455: The block reports idle or its timeout passes, and it is reset and released. -/
  | blockResetDone (idle : Bool)
  /-- WATCHDOG_SERVICE, R457: The service cores service the hardware watchdog. -/
  | watchdogService
  /-- WATCHDOG_EXPIRY, R457: The watchdog expires, driving WDT_OUT and PTR_OK_O low. -/
  | watchdogExpiry
  /-- CLOCK_LOSS, R462: A clock monitor detects a lost clock or PLL lock and the dependent blocks stop. -/
  | clockLoss (k : Fin 8)
  /-- CLOCK_RETURN, R462: A lost clock returns and the stopped blocks restart. -/
  | clockReturn (k : Fin 8) (us : Word)
  /-- JUNCTION_MEASURE, R467: Every 1 ms the junction is measured and the throttle stage raised as thresholds are crossed. -/
  | junctionMeasure (t : Int)
  /-- THROTTLE_RELEASE, R467: 10 s below 100 °C returns the throttle stage to 0. -/
  | throttleRelease
  /-- THERMAL_MAINTENANCE_ENTRY, R468: When feathering ends or 60 s after the trip the module enters maintenance with cause 0x03. -/
  | thermalMaintenanceEntry
  /-- SKIM_ACCESS, R473: The skim pass reads, corrects and writes back one line of a memory. -/
  | skimAccess (mem : Fin 3) (line : Nat) (r : SkimResult)
  /-- TREND_PAGE_WRITE, R477: A trend page is written to flash when full or TREND_FLUSH_S after its first entry. -/
  | trendPageWrite
  /-- KEY_SLOT_SWEEP, R481: Every 60 s all key slots are checked in both copies. -/
  | keySlotSweep (bad : List (Fin 256 × Bool × Bool))
  /-- RECORDER_SWEEP, R481: Every 600 s all recorder slots are checked for valid CRCs. -/
  | recorderSweep (bad : List Nat)
  /-- FALLBACK_STORE_WRITE, R482: Every 64 s, at each warning and at sleep entry the fall-back banks are written. -/
  | fallbackStoreWrite
  /-- PTR_MST_I_RISE, R223: PTR_MST_I rising while a non-preferred unit waits at start-up makes it take the standby role and start resynchronisation. -/
  | ptrMstIRise
  /-- PTR_OK_I_RISE, R240: PTR_OK_I rising again after a fall lets the new duty release the fence on the old duty. -/
  | ptrOkIRise
  /-- HEARTBEAT_TOGGLE, R226: A toggle of PTR_HB_I restarts the standby's heartbeat supervision and keeps PTR_STAT.PARTNER_OK set. -/
  | heartbeatToggle
  /-- PARTNER_LINK_RETURN, R237: The partner link coming back after silence lets a detached standby start resynchronisation. -/
  | partnerLinkReturn
  /-- PARTNER_LINK_LANE_LOSS, R225: Failure of one partner-link SerDes lane moves the link to one lane at half rate, updates LINK_LANES and restarts the takeback hold-off. -/
  | partnerLinkLaneLoss (k : Fin 2)
  /-- PARTNER_FRAME_BAD_CRC, R228: A partner-link frame received with a bad CRC is counted in PTR_LINK_ERR.CRC and not acknowledged. -/
  | partnerFrameBadCrc
  /-- FENCED_SELF_TEST_DONE, R227: The engine self-tests of a fenced unit finish, and on success the unit raises PTR_OK_O again while still fenced. -/
  | fencedSelfTestDone (ok : Bool)
  /-- BEACON_RECEIVE, R281: A valid PLCA BEACON received by a follower starts its cycle, restarts its beacon supervision and returns it from CSMA/CD to PLCA. -/
  | beaconReceive (g : Fin 2)
  /-- CAN_BUS_INTEGRATION, R297: After 11 recessive bits a CAN controller integrates to the bus and resumes reception, ending a protocol exception or completing its join after warm reset. -/
  | canBusIntegration (c : Fin 4)
  /-- BKP_WRITE_CROSSED, R372: A backup-domain window write reaches the backup domain within 3 BKP cycles and CAL_STATUS.BUSY clears. -/
  | bkpWriteCrossed
  deriving DecidableEq, Repr

end Sys2Proof
end

