-- ==== Sys2Proof/Machine/Flags.lean ====
section
/-! DEFINITION. Quality codes, their flags and their precedence (R19, R20). -/

namespace Sys2Proof

namespace Qual

/-- GOOD. -/
def good : Nat := 0x00
/-- GOOD_FORCED. -/
def forced : Nat := 0x01
/-- UNCERTAIN_SUBSTITUTE. -/
def subst : Nat := 0x40
/-- UNCERTAIN_STALE. -/
def stale : Nat := 0x41
/-- UNCERTAIN_LAST_USABLE. -/
def lastUsable : Nat := 0x42
/-- UNCERTAIN_PREDICTED. -/
def predicted : Nat := 0x43
/-- BAD_NOT_READY. -/
def notReady : Nat := 0x80
/-- BAD_COMM. -/
def comm : Nat := 0x81
/-- BAD_SENSOR. -/
def sensor : Nat := 0x82
/-- BAD_CHECK. -/
def check : Nat := 0x83
/-- BAD_OUT_OF_SERVICE. -/
def oos : Nat := 0x84
/-- BAD_CONFIG. -/
def config : Nat := 0x85

/-- Precedence, highest first (R20). -/
def order : List Nat :=
  [check, forced, config, oos, comm, sensor, notReady, predicted, subst, stale, lastUsable, good]

/-- The governing condition among those that hold; GOOD when none does (R20). -/
def govern (conds : List Nat) : Nat := (order.find? fun q => conds.contains q).getD good

/-- The flags that go with the conditions that hold (R20): FORCED, SUBST, STALE, PREDICTED. -/
def flagsOf (conds : List Nat) : BitVec 4 :=
  (if conds.contains forced then 1#4 else 0#4) ||| (if conds.contains subst then 2#4 else 0#4) |||
    (if conds.contains stale then 4#4 else 0#4) ||| (if conds.contains predicted then 8#4 else 0#4)

/-- A reserved code (R19). -/
def reserved (q : Nat) : Bool := !order.contains q

/-- A BAD code, or a reserved one, which a reader treats as BAD_CONFIG (R19, R21). -/
def bad (q : Nat) : Bool := reserved q || q ≥ 0x80

/-- The conditions that the QUAL and FLAGS of a received cell name (R20): a reserved QUAL is BAD_CONFIG (R21). -/
def condsOf (q : Nat) (flags : BitVec 4) : List Nat :=
  (if reserved q then config else q) ::
    ((if flags.getLsbD 0 then [forced] else []) ++ (if flags.getLsbD 1 then [subst] else []) ++
      (if flags.getLsbD 2 then [stale] else []) ++ (if flags.getLsbD 3 then [predicted] else []))

/-- An UNCERTAIN code (R19). -/
def uncertain (q : Nat) : Bool := q == subst || q == stale || q == lastUsable || q == predicted

end Qual

/-- KIND codes (R16). -/
inductive Kind
  | bool | int32 | uint32 | binary32 | enumeration | counter | packed | reserved
  deriving DecidableEq, Repr, Inhabited

/-- The kind a KIND field names (R16). -/
def kindOf (k : BitVec 4) : Kind :=
  match k.toNat with
  | 0 => .bool | 1 => .int32 | 2 => .uint32 | 3 => .binary32 | 4 => .enumeration | 5 => .counter | 6 => .packed
  | _ => .reserved

end Sys2Proof
end

