-- ==== Sys2Proof/Config.lean ====
section
/-! DEFINITION. What one implementation fixes and what the spec leaves open, as constants without a body: nothing in Lean
can evaluate them, so a statement holds whatever they are. -/

namespace Sys2Proof
namespace Config

/-- A fresh open value; a step applies it to `Core.fresh` and advances that counter. Log entry 6 (DESIGN CHOICE, safe). -/
opaque freeWord : Nat → Word
/-- A fresh open choice. Log entry 6 (DESIGN CHOICE, safe). -/
opaque freeBool : Nat → Bool
/-- Where a controller's stamp counter stands against network time, in ns, by controller, adjustments made and network time;
read through a clamp of ±25 (R303). Log entry 75 (DESIGN CHOICE, safe). -/
opaque canStampErr : Nat → Nat → Int → Int
/-- What the supply monitor measures at each ms of the counter C, which no command carries: 0 VIN in mV, 1 the input current
in mA, 2 the input power in mW, 3 the input limiter's state; read through the field's width (R469). Log entry 11 (DESIGN
CHOICE, safe). -/
opaque measured : Nat → Nat → Nat
/-- A byte of an event record whose coding the spec does not give: the record's code, and what it is to tell. Log entry 8
(DESIGN CHOICE, safe). -/
opaque eventByte : Nat → Nat → Nat
/-- The payload of a partner-link frame whose layout the spec does not give: TYPE and SEQ (R229). Log entry 54 (DESIGN CHOICE,
unsafe). -/
opaque linkPayload : Nat → Nat → List Byte
/-- AES-256-GCM of an exchange datagram: key generation, nonce, additional data, plaintext; its ciphertext and tag (R252). Log
entry 7 (DESIGN CHOICE, safe). -/
opaque gcmSeal : Nat → List Byte → List Byte → List Byte → List Byte
/-- A TLS record's ciphertext and tag: session, place in the stream, plaintext (R262). Log entry 7 (DESIGN CHOICE, safe). -/
opaque tlsSeal : Nat → Nat → List Byte → List Byte
/-- The Ethernet, IPv6 and TCP headers of a send of the point service, whose peer and TCP state the spec leaves outside:
session and place in the stream (R287). Log entry 66 (DESIGN CHOICE, unsafe). -/
opaque tcpHeaders : Nat → Nat → List Byte
/-- MACsec's ciphertext and ICV: uplink, SecTAG, plaintext (R289). Log entry 67 (DESIGN CHOICE, unsafe). -/
opaque macsecSeal : Nat → List Byte → List Byte → List Byte
/-- A PTP message or an MKA frame as it leaves, whose layout the spec takes from its standards: what it is, port, place in the
sequence of frames sent (R290, R330). Log entry 66 (DESIGN CHOICE, unsafe). -/
opaque ownFrame : Nat → Nat → Nat → List Byte
/-- The decimator's fractional delay by a number of 10 ns, on a converter's latest samples (R161). Log entry 116 (PRESUMED,
unsafe). -/
opaque fractionalDelay : Int → List Int → Int
/-- A step of a Rogowski channel's integrator and high-pass filter, their gain and phase cancelled at the tracked frequency:
the corners and the frequency in mHz, the filters' state, the sample (R160). Log entry 116 (PRESUMED, unsafe). -/
opaque integrator : Nat → Nat → Nat → Nat → Int → Int × Nat
/-- The 127-tap Hilbert filter: a voltage shifted by −90° (R165). Log entry 116 (PRESUMED, unsafe). -/
opaque hilbert : List Int → Int
/-- A harmonic's magnitude in % of the fundamental over a window: the order, the tracked frequency, a Rogowski channel's
corners, the window's samples (R160, R167). Log entry 116 (PRESUMED, unsafe). -/
opaque harmonic : Nat → Nat → Option (Nat × Nat) → List Int → Word
/-- THD over a window up to an order (R167). Log entry 116 (PRESUMED, unsafe). -/
opaque distortion : Nat → Nat → Option (Nat × Nat) → List Int → Word
/-- The blocks of the flash whose erase or program fails at a write, by the number of free values taken (R476). Log entry 6
(DESIGN CHOICE, safe). -/
opaque failedBlocks : Nat → List Nat
/-- SHA-384 of a byte string, as a number (R376, R395). Log entry 7 (DESIGN CHOICE, safe). -/
opaque sha384 : List Byte → Nat
/-- HMAC-SHA-384: key, message (R385, R386, R394). Log entry 7 (DESIGN CHOICE, safe). -/
opaque hmac384 : List Byte → List Byte → List Byte
/-- An ECDSA P-384 signature over SHA-384: private key, message (R190, R395). Log entry 7 (DESIGN CHOICE, safe). -/
opaque ecdsaSign : Nat → List Byte → List Byte
/-- The P-384 public key of a private key (R395). Log entry 7 (DESIGN CHOICE, safe). -/
opaque publicKey : Nat → List Byte
/-- ECDH over P-384: private key, the other's public key (R392). Log entry 7 (DESIGN CHOICE, safe). -/
opaque ecdh : Nat → List Byte → List Byte
/-- AES key wrap, RFC 3394: wrapping key, key (R386, R392). Log entry 7 (DESIGN CHOICE, safe). -/
opaque keyWrap : List Byte → List Byte → List Byte
/-- The key that a wrapped key holds: wrapping key, wrapped key (R386, R392). Log entry 7 (DESIGN CHOICE, safe). -/
opaque keyUnwrap : List Byte → List Byte → List Byte
/-- The identity certificate chain (R385, R395). Log entry 7 (DESIGN CHOICE, safe). -/
opaque identityChain : List Byte
/-- SHA-384 over the header and body of an image (R395). Log entry 7 (DESIGN CHOICE, safe). -/
opaque imageHash : ImageFile → List Byte

end Config
end Sys2Proof
end

