-- ==== Sys2Proof/Machine/Crc.lean ====
section
/-! DEFINITION. The two check codes of the module: CRC-32C (R22) and the lane's CRC-16 (R200). -/

namespace Sys2Proof.Machine

/-- One bit of the reflected CRC-32C, polynomial 0x1EDC_6F41 (R22). -/
def crcBit (x : Word) : Word := if x.getLsbD 0 then (x >>> 1) ^^^ 0x82F63B78#32 else x >>> 1

/-- One byte of it. -/
def crcByte (x : Word) (b : Byte) : Word :=
  crcBit (crcBit (crcBit (crcBit (crcBit (crcBit (crcBit (crcBit (x ^^^ b.zeroExtend 32))))))))

/-- CRC-32C of a byte string (R22): initial value and final XOR all ones. -/
def crc32c (bs : List Byte) : Word := bs.foldl crcByte 0xFFFFFFFF#32 ^^^ 0xFFFFFFFF#32

end Sys2Proof.Machine
end

