-- ==== Sys2Proof/Machine/Regs.lean ====
section
/-! DEFINITION. Every register field of the module, one constant each: its address, its bits, its access code and its
reset behaviour, from the register tables of the spec (R13, R52, R73, R124 and on). -/

namespace Sys2Proof

/-- Access codes (R5). -/
inductive Acc
  | ro | rw | wo | w1c | w1s | rwl | ros
  deriving DecidableEq, Repr, Inhabited

/-- A register field: `count` items, `stride` bytes apart from byte offset `addr`; its bits; its access code; its value after
cold reset; whether RESET_N leaves it (`keeps`); whether it stands in the backup domain, which no reset reaches (R445); and,
where the spec gives a range, the values a write may store (R499). Log entry 3 (DESIGN CHOICE, unsafe). -/
structure Row where
  id : Nat
  addr : Nat
  stride : Nat
  count : Nat
  lsb : Nat
  width : Nat
  acc : Acc
  cold : Nat
  keeps : Bool
  bkp : Bool
  accepts : List (Nat × Nat) := []
  deriving DecidableEq, Repr, Inhabited

namespace Reg

/-- R13: Horset vendor code. -/
def GLB_ID_VENDOR : Row := ⟨0, 0x00000, 0x4, 1, 16, 16, .ro, 0xC7A, true, false, []⟩
/-- R13: Part number of the CYO-4096. -/
def GLB_ID_PART : Row := ⟨1, 0x00000, 0x4, 1, 0, 16, .ro, 0x4096, true, false, []⟩
/-- R13: Silicon stepping. -/
def GLB_VER_STEP : Row := ⟨2, 0x00004, 0x4, 1, 24, 8, .ro, 0x0, true, false, []⟩
/-- R13: Boot ROM version. -/
def GLB_VER_ROM_VER : Row := ⟨3, 0x00004, 0x4, 1, 16, 8, .ro, 0x0, true, false, []⟩
/-- R13: 1 once an accepted configuration image has set the fields below. -/
def GLB_UNIT_VALID : Row := ⟨4, 0x00008, 0x4, 1, 31, 1, .ro, 0x0, false, false, []⟩
/-- R13: 0b00 single, 0b01 duty, 0b10 standby, 0b11 not yet assigned. -/
def GLB_UNIT_ROLE : Row := ⟨5, 0x00008, 0x4, 1, 18, 2, .ro, 0x3, false, false, []⟩
/-- R13: Unit is the preferred unit of its pair. -/
def GLB_UNIT_PREFERRED : Row := ⟨6, 0x00008, 0x4, 1, 17, 1, .ro, 0x0, true, false, []⟩
/-- R13: Position holds a pair. -/
def GLB_UNIT_PAIRED : Row := ⟨7, 0x00008, 0x4, 1, 16, 1, .ro, 0x0, true, false, []⟩
/-- R13: Module position 0–1023. -/
def GLB_UNIT_POSITION : Row := ⟨8, 0x00008, 0x4, 1, 0, 10, .ro, 0x0, true, false, []⟩
/-- R13: Estate ID from the configuration image. -/
def GLB_ESTATE_ESTATE_ID : Row := ⟨9, 0x0000C, 0x4, 1, 0, 32, .ro, 0x0, true, false, []⟩
/-- R13: An RWL write was discarded under the lock. -/
def GLB_CTRL_LOCK_VIOL : Row := ⟨10, 0x00010, 0x4, 1, 1, 1, .w1c, 0x0, false, false, []⟩
/-- R13: Set-up lock; once set, stays set until the next reset. -/
def GLB_CTRL_SETUP_LOCK : Row := ⟨11, 0x00010, 0x4, 1, 0, 1, .w1s, 0x0, false, false, []⟩
/-- R13: Cause while STATE = 3: 0x01 primer fault, 0x02 tamper at start-up, 0x03 junction over limit, 0x04 no valid configuration image, 0x05 estate-operator request; 0x00 otherwise. -/
def GLB_STATE_MAINT_CAUSE : Row := ⟨12, 0x00014, 0x4, 1, 8, 8, .ro, 0x0, false, false, []⟩
/-- R13: 0 start-up, 1 run, 2 stopped after a stop-bead trip, 3 maintenance, 4 entering sleep; 5–7 reserved. -/
def GLB_STATE_STATE : Row := ⟨13, 0x00014, 0x4, 1, 0, 3, .ro, 0x0, false, false, []⟩
/-- R52: 1 once an accepted image has set PERIOD and the origin. -/
def TICK_CFG_VALID : Row := ⟨14, 0x1F000, 0x4, 1, 31, 1, .ro, 0x0, false, false, []⟩
/-- R52: 0: 1 ms, 1: 2 ms, 2: 5 ms, 3: 10 ms, 4: 20 ms, 5: 50 ms, 6: 100 ms, 7: 200 ms, 8: 500 ms, 9: 1,000 ms; 10–15 reserved. -/
def TICK_CFG_PERIOD : Row := ⟨15, 0x1F000, 0x4, 1, 0, 4, .ro, 0x0, true, false, []⟩
/-- R52: Estate origin, seconds, bits [31:0]. -/
def TICK_ORIGIN_LO_SEC_LO : Row := ⟨16, 0x1F004, 0x4, 1, 0, 32, .ro, 0x0, true, false, []⟩
/-- R52: Estate origin, seconds, bits [47:32]. -/
def TICK_ORIGIN_HI_SEC_HI : Row := ⟨17, 0x1F008, 0x4, 1, 0, 16, .ro, 0x0, true, false, []⟩
/-- R52: Epoch of the tick in progress, bits [31:0]; latches the high word per R9. -/
def TICK_EPOCH_LO_EPOCH_LO : Row := ⟨18, 0x1F010, 0x4, 1, 0, 32, .ro, 0x0, false, false, []⟩
/-- R52: Epoch bits [63:32]. -/
def TICK_EPOCH_HI_EPOCH_HI : Row := ⟨19, 0x1F014, 0x4, 1, 0, 32, .ro, 0x0, false, false, []⟩
/-- R52: Distinct epochs pinned, 0–4. -/
def TICK_STATUS_PINS : Row := ⟨20, 0x1F018, 0x4, 1, 8, 4, .ro, 0x0, false, false, []⟩
/-- R52: Most recently started phase: 0 none, 1 input sweep, 2 merge, 3 scan and control, 4 output sweep, 5 publish. -/
def TICK_STATUS_PHASE : Row := ⟨21, 0x1F018, 0x4, 1, 4, 3, .ro, 0x0, false, false, []⟩
/-- R52: Per R43. -/
def TICK_STATUS_NEAR_LIMIT : Row := ⟨22, 0x1F018, 0x4, 1, 3, 1, .ro, 0x0, false, false, []⟩
/-- R52: Realignment per R47 in progress. -/
def TICK_STATUS_SLEWING : Row := ⟨23, 0x1F018, 0x4, 1, 2, 1, .ro, 0x0, false, false, []⟩
/-- R52: Ticking on held or seeded time. -/
def TICK_STATUS_TIME_DEGRADED : Row := ⟨24, 0x1F018, 0x4, 1, 1, 1, .ro, 0x0, false, false, []⟩
/-- R52: Sequencer executing ticks. -/
def TICK_STATUS_RUNNING : Row := ⟨25, 0x1F018, 0x4, 1, 0, 1, .ro, 0x0, false, false, []⟩
/-- R52: Re-entry per R48 occurred. -/
def TICK_OVR_REENTRY : Row := ⟨26, 0x1F01C, 0x4, 1, 6, 1, .w1c, 0x0, true, false, []⟩
/-- R52: Per R44. -/
def TICK_OVR_PUBLISH_ABANDON : Row := ⟨27, 0x1F01C, 0x4, 1, 5, 1, .w1c, 0x0, true, false, []⟩
/-- R52: Per R44. -/
def TICK_OVR_OUT_ABORT : Row := ⟨28, 0x1F01C, 0x4, 1, 4, 1, .w1c, 0x0, true, false, []⟩
/-- R52: Per R44. -/
def TICK_OVR_SCAN_OVR : Row := ⟨29, 0x1F01C, 0x4, 1, 3, 1, .w1c, 0x0, true, false, []⟩
/-- R52: Per R44. -/
def TICK_OVR_MERGE_OVR : Row := ⟨30, 0x1F01C, 0x4, 1, 2, 1, .w1c, 0x0, true, false, []⟩
/-- R52: Input sweep passed 170 µs. -/
def TICK_OVR_IN_SWEEP_OVR : Row := ⟨31, 0x1F01C, 0x4, 1, 1, 1, .w1c, 0x0, true, false, []⟩
/-- R52: Input sweep reached its hard limit. -/
def TICK_OVR_IN_HARD_LIMIT : Row := ⟨32, 0x1F01C, 0x4, 1, 0, 1, .w1c, 0x0, true, false, []⟩
/-- R52: Longest scan and control time in the last 1,024 ticks, µs. -/
def TICK_SCAN_MAX_MAX_US : Row := ⟨33, 0x1F020, 0x4, 1, 0, 32, .ro, 0x0, false, false, []⟩
/-- R52: Scan and control window of the configured period, µs. -/
def TICK_SCAN_WIN_WIN_US : Row := ⟨34, 0x1F024, 0x4, 1, 0, 32, .ro, 0x0, true, false, []⟩
/-- R52: Lane cycles of the last output sweep. -/
def TICK_SWEEP_OUT_CYC : Row := ⟨35, 0x1F028, 0x4, 1, 16, 16, .ro, 0x0, false, false, []⟩
/-- R52: Lane cycles of the last input sweep. -/
def TICK_SWEEP_IN_CYC : Row := ⟨36, 0x1F028, 0x4, 1, 0, 16, .ro, 0x0, false, false, []⟩
/-- R52: Check failures since cold reset; saturates at 0xFFFF_FFFF. -/
def TICK_CHECK_FAIL_COUNT : Row := ⟨37, 0x1F02C, 0x4, 1, 0, 32, .ro, 0x0, true, false, []⟩
/-- R52: Epochs skipped by re-entry since cold reset; saturates. -/
def TICK_SKIPPED_EPOCHS : Row := ⟨38, 0x1F030, 0x4, 1, 0, 32, .ro, 0x0, true, false, []⟩
/-- R52: Pin lifetime, 1–600 s; a write outside that range is discarded. -/
def TICK_PIN_CFG_MAX_S : Row := ⟨39, 0x1F034, 0x4, 1, 0, 10, .rwl, 0x3C, true, false, [(1, 600)]⟩
/-- R52: Start-up wait for time lock, 0–255 s. -/
def TICK_START_CFG_LOCK_WAIT_S : Row := ⟨40, 0x1F038, 0x4, 1, 0, 8, .rwl, 0x1E, true, false, []⟩
/-- R91: Engine passed its self-test and is not out of service. -/
def TRW_STAT_IN_SERVICE : Row := ⟨41, 0x10000, 0x100, 8, 31, 1, .ro, 0x0, false, false, []⟩
/-- R91: Task in execution, or last executed. -/
def TRW_STAT_TASK : Row := ⟨42, 0x10000, 0x100, 8, 8, 4, .ro, 0x0, false, false, []⟩
/-- R91: 0 idle, 1 executing, 2 waiting on a dependency, 3 out of service, 4 self-test; 5–7 reserved. -/
def TRW_STAT_STATE : Row := ⟨43, 0x10000, 0x100, 8, 0, 3, .ro, 0x4, false, false, []⟩
/-- R91: Lane mismatches since cold reset; saturates. -/
def TRW_MISM_TOTAL : Row := ⟨44, 0x10004, 0x100, 8, 8, 24, .ro, 0x0, true, false, []⟩
/-- R91: Consecutive mismatched cycles. -/
def TRW_MISM_CONSEC : Row := ⟨45, 0x10004, 0x100, 8, 0, 2, .ro, 0x0, false, false, []⟩
/-- R91: Task of the last task fault or mismatch. -/
def TRW_FAULT_TASK : Row := ⟨46, 0x10008, 0x100, 8, 28, 4, .ro, 0x0, true, false, []⟩
/-- R91: Cause code per R87; 0x08 lane mismatch, 0x09 self-test failure; 0x00 none. -/
def TRW_FAULT_CAUSE : Row := ⟨47, 0x10008, 0x100, 8, 20, 8, .ro, 0x0, true, false, []⟩
/-- R91: Instruction address at the fault. -/
def TRW_FAULT_ADDR : Row := ⟨48, 0x10008, 0x100, 8, 0, 18, .ro, 0x0, true, false, []⟩
/-- R91: Task faults since cold reset; saturates. -/
def TRW_FAULT_CNT_COUNT : Row := ⟨49, 0x1000C, 0x100, 8, 0, 16, .ro, 0x0, true, false, []⟩
/-- R91: Largest busy clocks of the engine in one tick over the last 1,024 ticks. -/
def TRW_CLK_MAX_CLOCKS : Row := ⟨50, 0x10010, 0x100, 8, 0, 32, .ro, 0x0, false, false, []⟩
/-- R91: Operand reads that failed their check (R61); saturates. -/
def TRW_CHK_RD_COUNT : Row := ⟨51, 0x10014, 0x100, 8, 0, 32, .ro, 0x0, true, false, []⟩
/-- R91: Committed cycles that ended with OVF = 1; saturates. -/
def TRW_OVF_CNT_COUNT : Row := ⟨52, 0x10018, 0x100, 8, 0, 32, .ro, 0x0, true, false, []⟩
/-- R91: Bit e mirrors TRW_STAT.IN_SERVICE of engine e. -/
def TRW_INSVC_ENGINES : Row := ⟨53, 0x10800, 0x4, 1, 0, 8, .ro, 0x0, false, false, []⟩
/-- R124: Task defined by the running image. -/
def TSK_CFG_VALID : Row := ⟨54, 0x11000, 0x20, 16, 31, 1, .ro, 0x0, false, false, []⟩
/-- R124: Guarded task. -/
def TSK_CFG_GUARDED : Row := ⟨55, 0x11000, 0x20, 16, 30, 1, .ro, 0x0, true, false, []⟩
/-- R124: Error task. -/
def TSK_CFG_ERROR_TASK : Row := ⟨56, 0x11000, 0x20, 16, 29, 1, .ro, 0x0, true, false, []⟩
/-- R124: Bound trowel engine. -/
def TSK_CFG_ENGINE : Row := ⟨57, 0x11000, 0x20, 16, 24, 3, .ro, 0x0, true, false, []⟩
/-- R124: Priority, 0 highest. -/
def TSK_CFG_PRIO : Row := ⟨58, 0x11000, 0x20, 16, 16, 4, .ro, 0x0, true, false, []⟩
/-- R124: Period in ticks; 0 for an error task. -/
def TSK_CFG_PERIOD_K : Row := ⟨59, 0x11000, 0x20, 16, 0, 10, .ro, 0x0, true, false, []⟩
/-- R124: Due offset (R94). -/
def TSK_SCHED_OFFSET : Row := ⟨60, 0x11004, 0x20, 16, 16, 10, .ro, 0x0, true, false, []⟩
/-- R124: Number of predecessors, 0–8. -/
def TSK_SCHED_NPRED : Row := ⟨61, 0x11004, 0x20, 16, 0, 4, .ro, 0x0, true, false, []⟩
/-- R124: First code address. -/
def TSK_CODE_LO_START : Row := ⟨62, 0x11008, 0x20, 16, 0, 18, .ro, 0x0, true, false, []⟩
/-- R124: Last code address. -/
def TSK_CODE_HI_END : Row := ⟨63, 0x1100C, 0x20, 16, 0, 18, .ro, 0x0, true, false, []⟩
/-- R124: An overrun occurred. -/
def TSK_STAT_OVR_SEEN : Row := ⟨64, 0x11010, 0x20, 16, 8, 1, .w1c, 0x0, false, false, []⟩
/-- R124: 0 not configured, 1 ready, 2 skip pending, 3 faulted, 4 stopped by the stop bead; 5–7 reserved. -/
def TSK_STAT_STATE : Row := ⟨65, 0x11010, 0x20, 16, 0, 3, .ro, 0x0, false, false, []⟩
/-- R124: Cycles and error triggers skipped; saturates. -/
def TSK_SKIP_COUNT : Row := ⟨66, 0x11014, 0x20, 16, 0, 32, .ro, 0x0, true, false, []⟩
/-- R124: Overruns; saturates. -/
def TSK_OVR_COUNT : Row := ⟨67, 0x11018, 0x20, 16, 0, 32, .ro, 0x0, true, false, []⟩
/-- R124: Longest busy time of one cycle over the last 1,024 due cycles. -/
def TSK_BUSY_MAX_CLOCKS : Row := ⟨68, 0x1101C, 0x20, 16, 0, 32, .ro, 0x0, false, false, []⟩
/-- R124: Stop bead tripped and not yet restarted. -/
def SBD_STAT_TRIPPED : Row := ⟨69, 0x11400, 0x4, 1, 31, 1, .ro, 0x0, false, false, []⟩
/-- R124: Cause per R100. -/
def SBD_STAT_CAUSE : Row := ⟨70, 0x11400, 0x4, 1, 16, 8, .ro, 0x0, true, false, []⟩
/-- R124: Guarded task of causes 0x01 and 0x03. -/
def SBD_STAT_TASK : Row := ⟨71, 0x11400, 0x4, 1, 8, 4, .ro, 0x0, true, false, []⟩
/-- R124: Loop slot within its engine for cause 0x02. -/
def SBD_STAT_LOOP : Row := ⟨72, 0x11400, 0x4, 1, 0, 7, .ro, 0x0, true, false, []⟩
/-- R124: Trip epoch, bits [31:0]; latches the high word per R9. -/
def SBD_TRIP_EPOCH_LO_EPOCH_LO : Row := ⟨73, 0x11404, 0x4, 1, 0, 32, .ro, 0x0, true, false, []⟩
/-- R124: Trip epoch, bits [63:32]. -/
def SBD_TRIP_EPOCH_HI_EPOCH_HI : Row := ⟨74, 0x11408, 0x4, 1, 0, 32, .ro, 0x0, true, false, []⟩
/-- R124: Cells still ramping (R103). -/
def SBD_FEATHER_ACTIVE : Row := ⟨75, 0x1140C, 0x4, 1, 0, 11, .ro, 0x0, false, false, []⟩
/-- R124: Accepted restarts; saturates. -/
def SBD_RESTARTS_COUNT : Row := ⟨76, 0x11410, 0x4, 1, 0, 16, .ro, 0x0, true, false, []⟩
/-- R124: Persistent entries, 0–1,024. -/
def MSK_STAT_PERSIST : Row := ⟨77, 0x11500, 0x4, 1, 16, 11, .ro, 0x0, true, false, []⟩
/-- R124: Entries in use, 0–1,024. -/
def MSK_STAT_USED : Row := ⟨78, 0x11500, 0x4, 1, 0, 11, .ro, 0x0, true, false, []⟩
/-- R124: Writes refused or dropped because of a force; saturates. -/
def MSK_REFUSED_COUNT : Row := ⟨79, 0x11504, 0x4, 1, 0, 32, .ro, 0x0, true, false, []⟩
/-- R124: Last outcome: 0x00 none, 0x01 swapped, 0x02 signature failed, 0x03 load check failed, 0x04 duplicate SYMID, 0x05 task table invalid, 0x06 arm refused, 0x07 SWAP_LATE, 0x08 cancelled. -/
def RCT_STAT_RESULT : Row := ⟨80, 0x11600, 0x4, 1, 8, 8, .ro, 0x0, true, false, []⟩
/-- R124: Idle bank holds a verified or previous program. -/
def RCT_STAT_IDLE_VALID : Row := ⟨81, 0x11600, 0x4, 1, 5, 1, .ro, 0x0, false, false, []⟩
/-- R124: Bank in use, 0 or 1. -/
def RCT_STAT_RUN_BANK : Row := ⟨82, 0x11600, 0x4, 1, 4, 1, .ro, 0x0, false, false, []⟩
/-- R124: State per R116; 5–7 reserved. -/
def RCT_STAT_STATE : Row := ⟨83, 0x11600, 0x4, 1, 0, 3, .ro, 0x0, false, false, []⟩
/-- R124: Armed epoch S, or epoch of the last swap; latches the high word per R9. -/
def RCT_SWAP_LO_EPOCH_LO : Row := ⟨84, 0x11604, 0x4, 1, 0, 32, .ro, 0x0, true, false, []⟩
/-- R124: Bits [63:32]. -/
def RCT_SWAP_HI_EPOCH_HI : Row := ⟨85, 0x11608, 0x4, 1, 0, 32, .ro, 0x0, true, false, []⟩
/-- R124: Old-bank items discarded at the last swap; saturates at 0xFFF. -/
def RCT_COUNTS_DISCARDED : Row := ⟨86, 0x1160C, 0x4, 1, 20, 12, .ro, 0x0, true, false, []⟩
/-- R124: New items at rest; saturates at 0x3FF. -/
def RCT_COUNTS_NEW : Row := ⟨87, 0x1160C, 0x4, 1, 10, 10, .ro, 0x0, true, false, []⟩
/-- R124: Matched items ÷ 32, rounded down. -/
def RCT_COUNTS_MATCHED_K : Row := ⟨88, 0x1160C, 0x4, 1, 0, 10, .ro, 0x0, true, false, []⟩
/-- R124: Accepted touch-ups not yet applied, including the one due at the next screed instant, 0–5 (R112). -/
def TUP_STAT_QUEUED : Row := ⟨89, 0x11700, 0x4, 1, 16, 3, .ro, 0x0, false, false, []⟩
/-- R124: Touch-ups applied since cold reset; saturates. -/
def TUP_STAT_APPLIED : Row := ⟨90, 0x11700, 0x4, 1, 0, 16, .ro, 0x0, true, false, []⟩
/-- R157: Engine passed self-test and is in service. -/
def FLT_STAT_IN_SERVICE : Row := ⟨91, 0x20000, 0x100, 4, 31, 1, .ro, 0x0, false, false, []⟩
/-- R157: Slot in execution, or last executed. -/
def FLT_STAT_SLOT : Row := ⟨92, 0x20000, 0x100, 4, 16, 7, .ro, 0x0, false, false, []⟩
/-- R157: 0 idle, 1 executing, 2 waiting on a dependency, 3 out of service, 4 self-test; 5–7 reserved. -/
def FLT_STAT_STATE : Row := ⟨93, 0x20000, 0x100, 4, 0, 3, .ro, 0x4, false, false, []⟩
/-- R157: Lane mismatches since cold reset; saturates. -/
def FLT_MISM_TOTAL : Row := ⟨94, 0x20004, 0x100, 4, 8, 24, .ro, 0x0, true, false, []⟩
/-- R157: Consecutive mismatched samples. -/
def FLT_MISM_CONSEC : Row := ⟨95, 0x20004, 0x100, 4, 0, 2, .ro, 0x0, false, false, []⟩
/-- R157: 0x08 lane mismatch, 0x09 self-test failure, 0x10 numeric fault, 0x11 descriptor ECC; 0x00 none. -/
def FLT_FAULT_CAUSE : Row := ⟨96, 0x20008, 0x100, 4, 24, 8, .ro, 0x0, true, false, []⟩
/-- R157: Slot of the last fault. -/
def FLT_FAULT_SLOT : Row := ⟨97, 0x20008, 0x100, 4, 16, 7, .ro, 0x0, true, false, []⟩
/-- R157: Numeric faults since cold reset; saturates. -/
def FLT_NUM_CNT_COUNT : Row := ⟨98, 0x2000C, 0x100, 4, 0, 16, .ro, 0x0, true, false, []⟩
/-- R157: Largest busy clocks in one tick over the last 1,024 ticks. -/
def FLT_CLK_MAX_CLOCKS : Row := ⟨99, 0x20010, 0x100, 4, 0, 32, .ro, 0x0, false, false, []⟩
/-- R157: Operand reads that failed their check; saturates. -/
def FLT_CHK_RD_COUNT : Row := ⟨100, 0x20014, 0x100, 4, 0, 32, .ro, 0x0, true, false, []⟩
/-- R157: Guarded slots configured on the engine. -/
def FLT_LOOPS_GUARDED : Row := ⟨101, 0x20018, 0x100, 4, 16, 8, .ro, 0x0, true, false, []⟩
/-- R157: Slots configured, 0–128. -/
def FLT_LOOPS_CONFIGURED : Row := ⟨102, 0x20018, 0x100, 4, 0, 8, .ro, 0x0, true, false, []⟩
/-- R157: Bit f mirrors FLT_STAT.IN_SERVICE of engine f. -/
def FLT_INSVC_ENGINES : Row := ⟨103, 0x20400, 0x4, 1, 0, 4, .ro, 0x0, false, false, []⟩
/-- R157: Slot configured by the running image. -/
def LP_STAT_VALID : Row := ⟨104, 0x21000, 0x10, 512, 31, 1, .ro, 0x0, false, false, []⟩
/-- R157: Guarded slot. -/
def LP_STAT_GUARDED : Row := ⟨105, 0x21000, 0x10, 512, 30, 1, .ro, 0x0, true, false, []⟩
/-- R157: 0 MANUAL, 1 AUTO, 2 CASCADE. -/
def LP_STAT_MODE : Row := ⟨106, 0x21000, 0x10, 512, 24, 2, .ro, 0x1, false, false, []⟩
/-- R157: 0 normal, 1 predicting, 2 HOLD, 3 FEATHER, 4 switched; 5–7 reserved. -/
def LP_STAT_FB : Row := ⟨107, 0x21000, 0x10, 512, 20, 3, .ro, 0x0, false, false, []⟩
/-- R157: A reference is held under R132. -/
def LP_STAT_REF_HELD : Row := ⟨108, 0x21000, 0x10, 512, 17, 1, .ro, 0x0, false, false, []⟩
/-- R157: Rate limit or clamp acted in the last sample. -/
def LP_STAT_AT_LIMIT : Row := ⟨109, 0x21000, 0x10, 512, 16, 1, .ro, 0x0, false, false, []⟩
/-- R157: An overrun occurred. -/
def LP_STAT_OVR_SEEN : Row := ⟨110, 0x21000, 0x10, 512, 8, 1, .w1c, 0x0, false, false, []⟩
/-- R157: 0 not configured, 1 ready, 2 skip pending, 3 faulted, 4 stopped by the stop bead; 5–7 reserved. -/
def LP_STAT_STATE : Row := ⟨111, 0x21000, 0x10, 512, 0, 3, .ro, 0x0, false, false, []⟩
/-- R157: Predicting samples; saturates. -/
def LP_FB_AGE : Row := ⟨112, 0x21004, 0x10, 512, 16, 16, .ro, 0x0, false, false, []⟩
/-- R157: Bit j: measurement j lost or frozen. -/
def LP_FB_LOST : Row := ⟨113, 0x21004, 0x10, 512, 8, 8, .ro, 0x0, false, false, []⟩
/-- R157: Bit j: measurement j read from Y_ALT. -/
def LP_FB_SWITCHED : Row := ⟨114, 0x21004, 0x10, 512, 0, 8, .ro, 0x0, false, false, []⟩
/-- R157: Skipped samples; saturates. -/
def LP_OVR_SKIPS : Row := ⟨115, 0x21008, 0x10, 512, 16, 16, .ro, 0x0, true, false, []⟩
/-- R157: Overruns; saturates. -/
def LP_OVR_OVERRUNS : Row := ⟨116, 0x21008, 0x10, 512, 0, 16, .ro, 0x0, true, false, []⟩
/-- R157: Rejoins after a fall-back or prediction; saturates. -/
def LP_FALLBACK_REJOINS : Row := ⟨117, 0x2100C, 0x10, 512, 16, 16, .ro, 0x0, true, false, []⟩
/-- R157: Fall-back entries; saturates. -/
def LP_FALLBACK_ENTRIES : Row := ⟨118, 0x2100C, 0x10, 512, 0, 16, .ro, 0x0, true, false, []⟩
/-- R157: Rows recorded, 0–4,096. -/
def TRC_STAT_ROWS : Row := ⟨119, 0x24000, 0x100, 4, 16, 13, .ro, 0x0, false, false, []⟩
/-- R157: Clocking slot. -/
def TRC_STAT_TBASE : Row := ⟨120, 0x24000, 0x100, 4, 8, 7, .ro, 0x0, false, false, []⟩
/-- R157: State per R154; 5–7 reserved. -/
def TRC_STAT_STATE : Row := ⟨121, 0x24000, 0x100, 4, 0, 3, .ro, 0x0, false, false, []⟩
/-- R157: Trigger epoch, bits [31:0]; latches the high word per R9. -/
def TRC_TRIG_LO_EPOCH_LO : Row := ⟨122, 0x24004, 0x100, 4, 0, 32, .ro, 0x0, false, false, []⟩
/-- R157: Trigger epoch, bits [63:32]. -/
def TRC_TRIG_HI_EPOCH_HI : Row := ⟨123, 0x24008, 0x100, 4, 0, 32, .ro, 0x0, false, false, []⟩
/-- R195: Sampling and accumulating. -/
def MET_STAT_RUN : Row := ⟨124, 0x30000, 0x4, 1, 31, 1, .ro, 0x0, true, false, []⟩
/-- R195: Neither slot was valid at start-up (R183). -/
def MET_STAT_REG_LOST : Row := ⟨125, 0x30000, 0x4, 1, 18, 1, .w1c, 0x0, true, false, []⟩
/-- R195: Frequency locked (R166). -/
def MET_STAT_FREQ_LOCK : Row := ⟨126, 0x30000, 0x4, 1, 17, 1, .ro, 0x0, true, false, []⟩
/-- R195: Warning in force (R184). -/
def MET_STAT_PFW_ACTIVE : Row := ⟨127, 0x30000, 0x4, 1, 16, 1, .ro, 0x0, true, false, []⟩
/-- R195: 0 idle, 1 PARALLEL, 2 SUBSTITUTE, 3 RETURN, 4 spare self-calibration; 5–7 reserved. -/
def MET_STAT_ROVE_PHASE : Row := ⟨128, 0x30000, 0x4, 1, 8, 3, .ro, 0x0, true, false, []⟩
/-- R195: Channel being visited. -/
def MET_STAT_ROVE_CH : Row := ⟨129, 0x30000, 0x4, 1, 0, 5, .ro, 0x0, true, false, []⟩
/-- R195: Frequency, mHz. -/
def MET_FREQ_MHZ : Row := ⟨130, 0x30004, 0x4, 1, 0, 32, .ro, 0x0, true, false, []⟩
/-- R195: SEQ of the last commit, bits [31:0]; latches the high word per R9. -/
def MET_SEQ_LO_SEQ_LO : Row := ⟨131, 0x30008, 0x4, 1, 0, 32, .ro, 0x0, true, false, []⟩
/-- R195: Bits [63:32]. -/
def MET_SEQ_HI_SEQ_HI : Row := ⟨132, 0x3000C, 0x4, 1, 0, 32, .ro, 0x0, true, false, []⟩
/-- R195: Duration of the last periodic commit, µs. -/
def MET_COMMIT_LAST_US : Row := ⟨133, 0x30010, 0x4, 1, 16, 16, .ro, 0x0, true, false, []⟩
/-- R195: Duration of the last final commit, µs. -/
def MET_COMMIT_FINAL_US : Row := ⟨134, 0x30010, 0x4, 1, 0, 16, .ro, 0x0, true, false, []⟩
/-- R195: Warnings since cold reset; saturates. -/
def MET_PFW_WARNINGS : Row := ⟨135, 0x30014, 0x4, 1, 16, 16, .ro, 0x0, true, false, []⟩
/-- R195: Warnings cleared under R185; saturates. -/
def MET_PFW_RECOVERED : Row := ⟨136, 0x30014, 0x4, 1, 0, 16, .ro, 0x0, true, false, []⟩
/-- R195: Trigger code 4. -/
def MET_SNAP_CTRL_TAKE : Row := ⟨137, 0x30018, 0x4, 1, 0, 1, .wo, 0x0, false, false, []⟩
/-- R195: Per R192. -/
def MET_SNAP_STAT_NOT_READY : Row := ⟨138, 0x3001C, 0x4, 1, 31, 1, .ro, 0x0, true, false, []⟩
/-- R195: Snapshot number, bits [15:0]. -/
def MET_SNAP_STAT_NUMBER : Row := ⟨139, 0x3001C, 0x4, 1, 0, 16, .ro, 0x0, true, false, []⟩
/-- R195: Completed rounds; saturates. -/
def MET_CAL_ROUNDS : Row := ⟨140, 0x30020, 0x4, 1, 16, 16, .ro, 0x0, true, false, []⟩
/-- R195: Rejected visits; saturates. -/
def MET_CAL_REJECTS : Row := ⟨141, 0x30020, 0x4, 1, 0, 16, .ro, 0x0, true, false, []⟩
/-- R195: Clipped samples; saturates. -/
def MET_OVR_COUNT : Row := ⟨142, 0x30024, 0x4, 1, 0, 32, .ro, 0x0, true, false, []⟩
/-- R195: Outage records written. -/
def MET_OUTAGES_COUNT : Row := ⟨143, 0x30028, 0x4, 1, 0, 32, .ro, 0x0, true, false, []⟩
/-- R195: Channel in use. -/
def MET_CH_CFG_ENABLE : Row := ⟨144, 0x30100, 0x10, 29, 31, 1, .ro, 0x0, true, false, []⟩
/-- R195: 0 voltage, 1 shunt, 2 CT, 3 Rogowski. -/
def MET_CH_CFG_SENSOR : Row := ⟨145, 0x30100, 0x10, 29, 24, 2, .ro, 0x0, true, false, []⟩
/-- R195: G = 2^GAIN; 6–7 reserved. -/
def MET_CH_CFG_GAIN : Row := ⟨146, 0x30100, 0x10, 29, 16, 3, .ro, 0x0, true, false, []⟩
/-- R195: Signed, 10 ns units (R161). -/
def MET_CH_CFG_PHASE : Row := ⟨147, 0x30100, 0x10, 29, 0, 16, .ro, 0x0, true, false, []⟩
/-- R195: A sample reached full scale. -/
def MET_CH_STAT_OVERRANGE : Row := ⟨148, 0x30104, 0x10, 29, 8, 1, .w1c, 0x0, true, false, []⟩
/-- R195: Per R164. -/
def MET_CH_STAT_CAL_SUSPECT : Row := ⟨149, 0x30104, 0x10, 29, 1, 1, .ro, 0x0, true, false, []⟩
/-- R195: Spare is the source of the channel. -/
def MET_CH_STAT_SUBSTITUTED : Row := ⟨150, 0x30104, 0x10, 29, 0, 1, .ro, 0x0, true, false, []⟩
/-- R195: Calibration gain in use, binary32. -/
def MET_CH_GAIN_GAIN : Row := ⟨151, 0x30108, 0x10, 29, 0, 32, .ro, 0x3F800000, true, false, []⟩
/-- R195: Seconds since the last accepted calibration. -/
def MET_CH_CALAGE_SECONDS : Row := ⟨152, 0x3010C, 0x10, 29, 0, 32, .ro, 0x0, true, false, []⟩
/-- R221: 1 once an accepted image has set the fields. -/
def LANE_CFG_VALID : Row := ⟨153, 0x60000, 0x4, 1, 31, 1, .ro, 0x0, false, false, []⟩
/-- R221: Repeats per failed burst, 0–3 (R206). -/
def LANE_CFG_RETRY : Row := ⟨154, 0x60000, 0x4, 1, 16, 2, .ro, 0x1, true, false, []⟩
/-- R221: Lane-silence time written to carriers (R214). -/
def LANE_CFG_SILENCE_MS : Row := ⟨155, 0x60000, 0x4, 1, 0, 16, .ro, 0x0, true, false, []⟩
/-- R221: Unit drives the lane. -/
def LANE_STAT_MASTER : Row := ⟨156, 0x60004, 0x4, 1, 31, 1, .ro, 0x0, false, false, []⟩
/-- R221: Unit snoops and compares as standby. -/
def LANE_STAT_SNOOP : Row := ⟨157, 0x60004, 0x4, 1, 30, 1, .ro, 0x0, false, false, []⟩
/-- R221: Live level: 1 when LN_HOLD_N is low. -/
def LANE_STAT_HOLD_LINE : Row := ⟨158, 0x60004, 0x4, 1, 29, 1, .ro, 0x0, false, false, []⟩
/-- R221: Live level: 1 when LN_ERR_N is low. -/
def LANE_STAT_ERR_LINE : Row := ⟨159, 0x60004, 0x4, 1, 28, 1, .ro, 0x0, false, false, []⟩
/-- R221: Bit k: carrier k present and matched. -/
def LANE_PRESENT_CARRIERS : Row := ⟨160, 0x60008, 0x4, 1, 0, 32, .ro, 0x0, false, false, []⟩
/-- R221: Bit k: carrier k mismatched. -/
def LANE_MISMATCH_CARRIERS : Row := ⟨161, 0x6000C, 0x4, 1, 0, 32, .ro, 0x0, false, false, []⟩
/-- R221: Repeated bursts; saturates. -/
def LANE_RETRIES_COUNT : Row := ⟨162, 0x60010, 0x4, 1, 0, 32, .ro, 0x0, true, false, []⟩
/-- R221: Write bursts failed after repeats; saturates. -/
def LANE_CRC_FAIL_WR : Row := ⟨163, 0x60014, 0x4, 1, 16, 16, .ro, 0x0, true, false, []⟩
/-- R221: Read bursts failed after repeats; saturates. -/
def LANE_CRC_FAIL_RD : Row := ⟨164, 0x60014, 0x4, 1, 0, 16, .ro, 0x0, true, false, []⟩
/-- R221: Held words seen (R209); saturates. -/
def LANE_HOLDS_COUNT : Row := ⟨165, 0x60018, 0x4, 1, 0, 32, .ro, 0x0, true, false, []⟩
/-- R221: Low 16 bits of the epoch. -/
def LANE_HOLD_LAST_EPOCH : Row := ⟨166, 0x6001C, 0x4, 1, 16, 16, .ro, 0x0, true, false, []⟩
/-- R221: Carrier of the held word. -/
def LANE_HOLD_LAST_CARRIER : Row := ⟨167, 0x6001C, 0x4, 1, 11, 5, .ro, 0x0, true, false, []⟩
/-- R221: Channel of the held word. -/
def LANE_HOLD_LAST_CHANNEL : Row := ⟨168, 0x6001C, 0x4, 1, 4, 7, .ro, 0x0, true, false, []⟩
/-- R221: Outputs not written because VALUE was NaN; saturates. -/
def LANE_NAN_COUNT : Row := ⟨169, 0x60020, 0x4, 1, 0, 32, .ro, 0x0, true, false, []⟩
/-- R246: 1 once an accepted image has set the fields. -/
def PTR_CFG_VALID : Row := ⟨170, 0x68000, 0x4, 1, 31, 1, .ro, 0x0, false, false, []⟩
/-- R246: Automatic takeback (R242). -/
def PTR_CFG_REVERTIVE : Row := ⟨171, 0x68000, 0x4, 1, 30, 1, .ro, 0x0, true, false, []⟩
/-- R246: Start-up wait of R223, s. -/
def PTR_CFG_START_WAIT_S : Row := ⟨172, 0x68000, 0x4, 1, 16, 8, .ro, 0x14, true, false, []⟩
/-- R246: Hold-off, 10–3,600 s. -/
def PTR_CFG_HOLDOFF_S : Row := ⟨173, 0x68000, 0x4, 1, 0, 16, .ro, 0x3C, true, false, []⟩
/-- R246: PTR_OK_I high and PTR_HB_I toggling. -/
def PTR_STAT_PARTNER_OK : Row := ⟨174, 0x68004, 0x4, 1, 31, 1, .ro, 0x0, false, false, []⟩
/-- R246: Standby has hold authority. -/
def PTR_STAT_HOLD_AUTH : Row := ⟨175, 0x68004, 0x4, 1, 30, 1, .ro, 0x0, false, false, []⟩
/-- R246: Per R236; write 1 by domain 0 only. -/
def PTR_STAT_PAIR_SUSPECT : Row := ⟨176, 0x68004, 0x4, 1, 29, 1, .w1c, 0x0, true, false, []⟩
/-- R246: PTR_FENCEI_N low. -/
def PTR_STAT_FENCED : Row := ⟨177, 0x68004, 0x4, 1, 28, 1, .ro, 0x0, false, false, []⟩
/-- R246: Bit k: link lane k up. -/
def PTR_STAT_LINK_LANES : Row := ⟨178, 0x68004, 0x4, 1, 24, 2, .ro, 0x0, false, false, []⟩
/-- R246: 0 alone, 1 seeking, 2 resynchronising, 3 in step, 4 resolving, 5 detached; 6–15 reserved. -/
def PTR_STAT_PAIR_STATE : Row := ⟨179, 0x68004, 0x4, 1, 16, 4, .ro, 0x1, false, false, []⟩
/-- R246: Seconds until takeback. -/
def PTR_STAT_HOLDOFF_LEFT_S : Row := ⟨180, 0x68004, 0x4, 1, 0, 16, .ro, 0x0, false, false, []⟩
/-- R246: Epoch of the last role change; latches the high word per R9. -/
def PTR_ROLE_EPOCH_LO_EPOCH_LO : Row := ⟨181, 0x68008, 0x4, 1, 0, 32, .ro, 0x0, true, false, []⟩
/-- R246: Bits [63:32]. -/
def PTR_ROLE_EPOCH_HI_EPOCH_HI : Row := ⟨182, 0x6800C, 0x4, 1, 0, 32, .ro, 0x0, true, false, []⟩
/-- R246: Takeovers by this unit; saturates. -/
def PTR_CHANGES_TAKEOVERS : Row := ⟨183, 0x68010, 0x4, 1, 16, 16, .ro, 0x0, true, false, []⟩
/-- R246: Takebacks; saturates. -/
def PTR_CHANGES_TAKEBACKS : Row := ⟨184, 0x68010, 0x4, 1, 0, 16, .ro, 0x0, true, false, []⟩
/-- R246: 0 none, 1 standby divergent, 2 duty divergent, 3 undecided. -/
def PTR_RESOLVE_OUTCOME : Row := ⟨185, 0x68014, 0x4, 1, 24, 8, .ro, 0x0, true, false, []⟩
/-- R246: Deciding step 1–4 of R235; 0 none. -/
def PTR_RESOLVE_STEP : Row := ⟨186, 0x68014, 0x4, 1, 16, 8, .ro, 0x0, true, false, []⟩
/-- R246: 0–7 trowel, 8–11 float 0–3. -/
def PTR_RESOLVE_ENGINE : Row := ⟨187, 0x68014, 0x4, 1, 12, 4, .ro, 0x0, true, false, []⟩
/-- R246: Task or slot. -/
def PTR_RESOLVE_ITEM : Row := ⟨188, 0x68014, 0x4, 1, 0, 7, .ro, 0x0, true, false, []⟩
/-- R246: Cause of the last declaration (R237). -/
def PTR_DECLARE_CAUSE : Row := ⟨189, 0x68018, 0x4, 1, 24, 8, .ro, 0x0, true, false, []⟩
/-- R246: Declarations; saturates. -/
def PTR_DECLARE_COUNT : Row := ⟨190, 0x68018, 0x4, 1, 0, 16, .ro, 0x0, true, false, []⟩
/-- R246: Digest differences; saturates. -/
def PTR_DIGEST_MISM_COUNT : Row := ⟨191, 0x6801C, 0x4, 1, 0, 32, .ro, 0x0, true, false, []⟩
/-- R246: Frames received with a bad CRC; saturates. -/
def PTR_LINK_ERR_CRC : Row := ⟨192, 0x68020, 0x4, 1, 16, 16, .ro, 0x0, true, false, []⟩
/-- R246: Frames sent again; saturates. -/
def PTR_LINK_ERR_RESENT : Row := ⟨193, 0x68020, 0x4, 1, 0, 16, .ro, 0x0, true, false, []⟩
/-- R246: Completed resynchronisations; saturates. -/
def PTR_RESYNC_DONE : Row := ⟨194, 0x68024, 0x4, 1, 16, 16, .ro, 0x0, true, false, []⟩
/-- R246: Consecutive failed attempts. -/
def PTR_RESYNC_FAILS : Row := ⟨195, 0x68024, 0x4, 1, 8, 8, .ro, 0x0, false, false, []⟩
/-- R246: Buffered epochs, 0–64. -/
def PTR_RESYNC_BACKLOG : Row := ⟨196, 0x68024, 0x4, 1, 0, 8, .ro, 0x0, false, false, []⟩
/-- R246: Duration of the last resynchronisation, ms. -/
def PTR_RESYNC_MS_MS : Row := ⟨197, 0x68028, 0x4, 1, 0, 32, .ro, 0x0, true, false, []⟩
/-- R246: Sweeps without standby readiness (R233); saturates. -/
def PTR_LATE_COUNT : Row := ⟨198, 0x6802C, 0x4, 1, 0, 32, .ro, 0x0, true, false, []⟩
/-- R276: 1 once an accepted image has set the fields. -/
def XCH_CFG_VALID : Row := ⟨199, 0x48000, 0x4, 1, 31, 1, .ro, 0x0, false, false, []⟩
/-- R276: Send on both uplinks (R250). -/
def XCH_CFG_DUAL : Row := ⟨200, 0x48000, 0x4, 1, 30, 1, .ro, 0x0, true, false, []⟩
/-- R276: Repeat depth d (R254). -/
def XCH_CFG_REPEAT : Row := ⟨201, 0x48000, 0x4, 1, 24, 2, .ro, 0x0, true, false, []⟩
/-- R276: Key generation in use for sending. -/
def XCH_CFG_KEYGEN_TX : Row := ⟨202, 0x48000, 0x4, 1, 16, 8, .ro, 0x0, true, false, []⟩
/-- R276: Largest packet, bytes. -/
def XCH_CFG_MTU : Row := ⟨203, 0x48000, 0x4, 1, 0, 11, .ro, 0x5DC, true, false, []⟩
/-- R276: Point-service TCP port. -/
def XCH_PORT_SERVICE : Row := ⟨204, 0x48004, 0x4, 1, 16, 16, .ro, 0x48BC, true, false, []⟩
/-- R276: Exchange UDP port. -/
def XCH_PORT_EXCHANGE : Row := ⟨205, 0x48004, 0x4, 1, 0, 16, .ro, 0x48BD, true, false, []⟩
/-- R276: Cells in the published set. -/
def XCH_PUB_PUBSET : Row := ⟨206, 0x48008, 0x4, 1, 16, 12, .ro, 0x0, true, false, []⟩
/-- R276: Datagrams sent for the last epoch. -/
def XCH_PUB_DG_LAST : Row := ⟨207, 0x48008, 0x4, 1, 0, 8, .ro, 0x0, false, false, []⟩
/-- R276: Datagrams sent; saturates. -/
def XCH_TX_DG_COUNT : Row := ⟨208, 0x4800C, 0x4, 1, 0, 32, .ro, 0x0, true, false, []⟩
/-- R276: Datagrams accepted; saturates. -/
def XCH_RX_DG_COUNT : Row := ⟨209, 0x48010, 0x4, 1, 0, 32, .ro, 0x0, true, false, []⟩
/-- R276: Estate, key generation or tag failures; saturates. -/
def XCH_RX_DROP_AUTH : Row := ⟨210, 0x48014, 0x4, 1, 16, 16, .ro, 0x0, true, false, []⟩
/-- R276: Replay, format (including fragmented datagrams, R250) or epoch-window discards; saturates. -/
def XCH_RX_DROP_REPLAY : Row := ⟨211, 0x48014, 0x4, 1, 0, 16, .ro, 0x0, true, false, []⟩
/-- R276: Late datagrams discarded (R255); saturates. -/
def XCH_LATE_COUNT : Row := ⟨212, 0x48018, 0x4, 1, 0, 32, .ro, 0x0, true, false, []⟩
/-- R276: Publisher epochs incomplete or absent at merge; saturates. -/
def XCH_INCOMPLETE_COUNT : Row := ⟨213, 0x4801C, 0x4, 1, 0, 32, .ro, 0x0, true, false, []⟩
/-- R276: Slot substitutions (R260); saturates. -/
def XCH_SUBST_COUNT : Row := ⟨214, 0x48020, 0x4, 1, 0, 32, .ro, 0x0, true, false, []⟩
/-- R276: LEVEL waits begun; saturates. -/
def XCH_LEVEL_WAITS : Row := ⟨215, 0x48024, 0x4, 1, 16, 16, .ro, 0x0, true, false, []⟩
/-- R276: Waits ended at WAIT_US; saturates. -/
def XCH_LEVEL_TIMEOUTS : Row := ⟨216, 0x48024, 0x4, 1, 0, 16, .ro, 0x0, true, false, []⟩
/-- R276: Longest LEVEL wait in the last 1,024 ticks, µs. -/
def XCH_LEVEL_MAX_US : Row := ⟨217, 0x48028, 0x4, 1, 0, 32, .ro, 0x0, false, false, []⟩
/-- R276: Open sessions, 0–32. -/
def PS_STAT_SESSIONS : Row := ⟨218, 0x48040, 0x4, 1, 16, 6, .ro, 0x0, false, false, []⟩
/-- R276: Session subscriptions, 0–256. -/
def PS_STAT_SUBS : Row := ⟨219, 0x48040, 0x4, 1, 0, 9, .ro, 0x0, false, false, []⟩
/-- R276: Refused handshakes; saturates. -/
def PS_HANDSHAKE_FAIL_COUNT : Row := ⟨220, 0x48044, 0x4, 1, 0, 32, .ro, 0x0, true, false, []⟩
/-- R276: Requests answered; saturates. -/
def PS_REQ_COUNT : Row := ⟨221, 0x48048, 0x4, 1, 0, 32, .ro, 0x0, true, false, []⟩
/-- R296: 1 once an accepted image has set the fields. -/
def FP_CFG_VALID : Row := ⟨222, 0x40000, 0x1000, 4, 31, 1, .ro, 0x0, false, false, []⟩
/-- R296: MACsec enabled (uplinks). -/
def FP_CFG_MACSEC : Row := ⟨223, 0x40000, 0x1000, 4, 8, 1, .ro, 0x0, true, false, []⟩
/-- R296: Port kind of an uplink. -/
def FP_CFG_KIND : Row := ⟨224, 0x40000, 0x1000, 2, 0, 1, .ro, 0x0, true, false, []⟩
/-- R296: Port kind of a segment. -/
def FP_CFG_KIND_SEG : Row := ⟨225, 0x42000, 0x1000, 2, 0, 1, .ro, 0x1, true, false, []⟩
/-- R296: Link up. -/
def FP_STAT_LINK : Row := ⟨226, 0x40004, 0x1000, 4, 31, 1, .ro, 0x0, true, false, []⟩
/-- R296: Uplink PHY resolved master. -/
def FP_STAT_MS_MASTER : Row := ⟨227, 0x40004, 0x1000, 4, 30, 1, .ro, 0x0, true, false, []⟩
/-- R296: Transmission paused (R285). -/
def FP_STAT_PAUSED : Row := ⟨228, 0x40004, 0x1000, 4, 29, 1, .ro, 0x0, false, false, []⟩
/-- R296: Fenced, or packet number exhausted (R290, R295). -/
def FP_STAT_TX_STOPPED : Row := ⟨229, 0x40004, 0x1000, 4, 28, 1, .ro, 0x0, false, false, []⟩
/-- R296: MAC address, bits [31:0]; latches the high word per R9. -/
def FP_MAC_LO_ADDR_LO : Row := ⟨230, 0x40008, 0x1000, 4, 0, 32, .ro, 0x0, true, false, []⟩
/-- R296: MAC address, bits [47:32]. -/
def FP_MAC_HI_ADDR_HI : Row := ⟨231, 0x4000C, 0x1000, 4, 0, 16, .ro, 0x0, true, false, []⟩
/-- R296: Egress correction, ns. -/
def FP_TS_CORR_EGRESS_NS : Row := ⟨232, 0x40010, 0x1000, 4, 16, 16, .ro, 0x0, true, false, []⟩
/-- R296: Ingress correction, ns; follows MS_MASTER. -/
def FP_TS_CORR_INGRESS_NS : Row := ⟨233, 0x40010, 0x1000, 4, 0, 16, .ro, 0x0, true, false, []⟩
/-- R296: Signed, ns. -/
def FP_TS_TRIM_EGR_TRIM : Row := ⟨234, 0x40014, 0x1000, 4, 8, 8, .rwl, 0x0, true, false, []⟩
/-- R296: Signed, ns. -/
def FP_TS_TRIM_ING_TRIM : Row := ⟨235, 0x40014, 0x1000, 4, 0, 8, .rwl, 0x0, true, false, []⟩
/-- R296: Frames delivered; saturates. -/
def FP_RX_OK_COUNT : Row := ⟨236, 0x40020, 0x1000, 4, 0, 32, .ro, 0x0, true, false, []⟩
/-- R296: FCS or length errors; saturates. -/
def FP_RX_ERR_FCS : Row := ⟨237, 0x40024, 0x1000, 4, 16, 16, .ro, 0x0, true, false, []⟩
/-- R296: TCP or UDP checksum failures; saturates. -/
def FP_RX_ERR_CSUM : Row := ⟨238, 0x40024, 0x1000, 4, 0, 16, .ro, 0x0, true, false, []⟩
/-- R296: Class 0 or 1 frames discarded for space; saturates. -/
def FP_RX_OVF_PRIORITY : Row := ⟨239, 0x40028, 0x1000, 4, 16, 16, .ro, 0x0, true, false, []⟩
/-- R296: Other frames discarded for space; saturates. -/
def FP_RX_OVF_OTHER : Row := ⟨240, 0x40028, 0x1000, 4, 0, 16, .ro, 0x0, true, false, []⟩
/-- R296: Frames not addressed or not classified; saturates. -/
def FP_RX_FILT_COUNT : Row := ⟨241, 0x4002C, 0x1000, 4, 0, 32, .ro, 0x0, true, false, []⟩
/-- R296: Frames sent; saturates. -/
def FP_TX_OK_COUNT : Row := ⟨242, 0x40030, 0x1000, 4, 0, 32, .ro, 0x0, true, false, []⟩
/-- R296: Exchange datagrams discarded at dequeue (R284); saturates. -/
def FP_TX_STALE_COUNT : Row := ⟨243, 0x40034, 0x1000, 4, 0, 32, .ro, 0x0, true, false, []⟩
/-- R296: Link losses; saturates. -/
def FP_LINK_DOWNS_COUNT : Row := ⟨244, 0x40038, 0x1000, 4, 0, 16, .ro, 0x0, true, false, []⟩
/-- R296: PAUSE frames honoured; saturates. -/
def FP_PAUSE_RX_COUNT : Row := ⟨245, 0x40040, 0x1000, 4, 0, 32, .ro, 0x0, true, false, []⟩
/-- R296: Time paused, µs; saturates. -/
def FP_PAUSE_US_US : Row := ⟨246, 0x40044, 0x1000, 4, 0, 32, .ro, 0x0, true, false, []⟩
/-- R296: Segments produced; saturates. -/
def FP_SEG_COUNT : Row := ⟨247, 0x40048, 0x1000, 4, 0, 32, .ro, 0x0, true, false, []⟩
/-- R296: Frames matched to a binding; saturates. -/
def FP_BIND_RX_COUNT : Row := ⟨248, 0x40050, 0x1000, 4, 0, 32, .ro, 0x0, true, false, []⟩
/-- R296: Matched frames too short (R294); saturates. -/
def FP_BIND_SHORT_COUNT : Row := ⟨249, 0x40054, 0x1000, 4, 0, 16, .ro, 0x0, true, false, []⟩
/-- R296: MKA has a live peer and an installed SA. -/
def MS_STAT_SECURED : Row := ⟨250, 0x40080, 0x1000, 2, 31, 1, .ro, 0x0, false, false, []⟩
/-- R296: Transmit association in use. -/
def MS_STAT_TX_AN : Row := ⟨251, 0x40080, 0x1000, 2, 24, 2, .ro, 0x0, false, false, []⟩
/-- R296: SAs installed; saturates. -/
def MS_STAT_REKEYS : Row := ⟨252, 0x40080, 0x1000, 2, 0, 16, .ro, 0x0, true, false, []⟩
/-- R296: ICV failures; saturates. -/
def MS_DROP_ICV : Row := ⟨253, 0x40084, 0x1000, 2, 16, 16, .ro, 0x0, true, false, []⟩
/-- R296: Replay discards; saturates. -/
def MS_DROP_REPLAY : Row := ⟨254, 0x40084, 0x1000, 2, 0, 16, .ro, 0x0, true, false, []⟩
/-- R296: Unprotected frames discarded; saturates. -/
def MS_UNPROT_COUNT : Row := ⟨255, 0x40088, 0x1000, 2, 0, 32, .ro, 0x0, true, false, []⟩
/-- R296: PLCA enabled. -/
def PLCA_CTRL_EN : Row := ⟨256, 0x42100, 0x1000, 2, 31, 1, .ro, 0x0, true, false, []⟩
/-- R296: LOCAL_ID is 0. -/
def PLCA_CTRL_COORD : Row := ⟨257, 0x42100, 0x1000, 2, 30, 1, .ro, 0x0, true, false, []⟩
/-- R296: Per R280. -/
def PLCA_CTRL_NODE_COUNT : Row := ⟨258, 0x42100, 0x1000, 2, 8, 8, .ro, 0x8, true, false, []⟩
/-- R296: Per R280. -/
def PLCA_CTRL_LOCAL_ID : Row := ⟨259, 0x42100, 0x1000, 2, 0, 8, .ro, 0x0, true, false, []⟩
/-- R296: Bit times. -/
def PLCA_TIMER_BURST_TMR : Row := ⟨260, 0x42104, 0x1000, 2, 8, 8, .ro, 0x80, true, false, []⟩
/-- R296: Bit times. -/
def PLCA_TIMER_TO_TMR : Row := ⟨261, 0x42104, 0x1000, 2, 0, 8, .ro, 0x20, true, false, []⟩
/-- R296: Per R280. -/
def PLCA_BURST_MAX_BC : Row := ⟨262, 0x42108, 0x1000, 2, 0, 8, .ro, 0x0, true, false, []⟩
/-- R296: PLCA status OK. -/
def PLCA_STAT_ACTIVE : Row := ⟨263, 0x4210C, 0x1000, 2, 31, 1, .ro, 0x0, false, false, []⟩
/-- R296: Sending under CSMA/CD (R281). -/
def PLCA_STAT_CSMA_FALLBACK : Row := ⟨264, 0x4210C, 0x1000, 2, 30, 1, .ro, 0x0, false, false, []⟩
/-- R296: Beacon losses; saturates. -/
def PLCA_BEACON_LOSS_COUNT : Row := ⟨265, 0x42110, 0x1000, 2, 0, 16, .ro, 0x0, true, false, []⟩
/-- R296: Longest cycle in the last 1,024 ticks, µs. -/
def PLCA_CYCLE_MAX_US : Row := ⟨266, 0x42114, 0x1000, 2, 0, 32, .ro, 0x0, false, false, []⟩
/-- R296: Collisions; saturates. -/
def PLCA_COLL_COUNT : Row := ⟨267, 0x42118, 0x1000, 2, 0, 16, .ro, 0x0, true, false, []⟩
/-- R324: 1 once an accepted image has set the fields. -/
def CAN_CFG_VALID : Row := ⟨268, 0x58000, 0x1000, 4, 31, 1, .ro, 0x0, false, false, []⟩
/-- R324: Per R302; 4–7 reserved. -/
def CAN_CFG_MODE : Row := ⟨269, 0x58000, 0x1000, 4, 24, 3, .ro, 0x0, true, false, []⟩
/-- R324: Per R312. -/
def CAN_CFG_TXPRIO : Row := ⟨270, 0x58000, 0x1000, 4, 20, 1, .ro, 0x0, true, false, []⟩
/-- R324: Per R300. -/
def CAN_CFG_TRIPLE : Row := ⟨271, 0x58000, 0x1000, 4, 19, 1, .ro, 0x0, true, false, []⟩
/-- R324: Protocol exception enabled (R297). -/
def CAN_CFG_PEX_EN : Row := ⟨272, 0x58000, 0x1000, 4, 18, 1, .ro, 0x0, true, false, []⟩
/-- R324: Per R320. -/
def CAN_CFG_TIME_MASTER : Row := ⟨273, 0x58000, 0x1000, 4, 17, 1, .ro, 0x0, true, false, []⟩
/-- R324: Transmitter delay compensation with a secondary sample point (R301). -/
def CAN_CFG_SSP_EN : Row := ⟨274, 0x58000, 0x1000, 4, 16, 1, .ro, 0x0, true, false, []⟩
/-- R324: Nominal TSEG1 − 1. -/
def CAN_BITN_SEG1 : Row := ⟨275, 0x58004, 0x1000, 4, 24, 8, .ro, 0x0, true, false, []⟩
/-- R324: Nominal TSEG2 − 1. -/
def CAN_BITN_SEG2 : Row := ⟨276, 0x58004, 0x1000, 4, 16, 7, .ro, 0x0, true, false, []⟩
/-- R324: Nominal SJW − 1. -/
def CAN_BITN_RJW : Row := ⟨277, 0x58004, 0x1000, 4, 8, 7, .ro, 0x0, true, false, []⟩
/-- R324: Nominal BRP − 1. -/
def CAN_BITN_PRESC : Row := ⟨278, 0x58004, 0x1000, 4, 0, 8, .ro, 0x0, true, false, []⟩
/-- R324: Data TSEG1 − 1. -/
def CAN_BITD_SEG1 : Row := ⟨279, 0x58008, 0x1000, 4, 24, 5, .ro, 0x0, true, false, []⟩
/-- R324: Data TSEG2 − 1. -/
def CAN_BITD_SEG2 : Row := ⟨280, 0x58008, 0x1000, 4, 16, 4, .ro, 0x0, true, false, []⟩
/-- R324: Data SJW − 1. -/
def CAN_BITD_RJW : Row := ⟨281, 0x58008, 0x1000, 4, 8, 4, .ro, 0x0, true, false, []⟩
/-- R324: Data BRP − 1. -/
def CAN_BITD_PRESC : Row := ⟨282, 0x58008, 0x1000, 4, 0, 5, .ro, 0x0, true, false, []⟩
/-- R324: Measured loop delay, 12.5 ns units. -/
def CAN_SSP_LOOP : Row := ⟨283, 0x5800C, 0x1000, 4, 16, 7, .ro, 0x0, false, false, []⟩
/-- R324: Secondary sample point offset, 12.5 ns units. -/
def CAN_SSP_SSPO : Row := ⟨284, 0x5800C, 0x1000, 4, 0, 7, .ro, 0x0, true, false, []⟩
/-- R324: Per R308. -/
def CAN_ACPT_MISS_BASE : Row := ⟨285, 0x58010, 0x1000, 4, 30, 2, .ro, 0x2, true, false, []⟩
/-- R324: Per R308. -/
def CAN_ACPT_MISS_EXT : Row := ⟨286, 0x58010, 0x1000, 4, 28, 2, .ro, 0x2, true, false, []⟩
/-- R324: Base remote frames that match no entry follow MISS_BASE. -/
def CAN_ACPT_RMT_BASE : Row := ⟨287, 0x58010, 0x1000, 4, 27, 1, .ro, 0x0, true, false, []⟩
/-- R324: Extended remote frames that match no entry follow MISS_EXT. -/
def CAN_ACPT_RMT_EXT : Row := ⟨288, 0x58010, 0x1000, 4, 26, 1, .ro, 0x0, true, false, []⟩
/-- R324: Stencil entries in use, 0–192. -/
def CAN_ACPT_USED : Row := ⟨289, 0x58010, 0x1000, 4, 0, 8, .ro, 0x0, true, false, []⟩
/-- R324: Receive error counter. -/
def CAN_ECR_REC : Row := ⟨290, 0x58014, 0x1000, 4, 16, 8, .ro, 0x0, false, false, []⟩
/-- R324: Transmit error counter. -/
def CAN_ECR_TEC : Row := ⟨291, 0x58014, 0x1000, 4, 0, 9, .ro, 0x0, false, false, []⟩
/-- R324: Recessive sequences counted in bus-off, 0–128. -/
def CAN_BUS_RECOV : Row := ⟨292, 0x58018, 0x1000, 4, 24, 8, .ro, 0x0, false, false, []⟩
/-- R324: 0 integrating, 1 idle, 2 receiving, 3 transmitting. -/
def CAN_BUS_ACTIVITY : Row := ⟨293, 0x58018, 0x1000, 4, 12, 2, .ro, 0x0, false, false, []⟩
/-- R324: Last data-phase error, coded as ERR_LAST. -/
def CAN_BUS_ERR_DATA : Row := ⟨294, 0x58018, 0x1000, 4, 8, 3, .ro, 0x0, false, false, []⟩
/-- R324: Last error: 0 none, 1 stuff, 2 form, 3 ACK, 4 CRC, 5 bit error with recessive sent and dominant seen, 6 bit error with dominant sent and recessive seen; 7 reserved. -/
def CAN_BUS_ERR_LAST : Row := ⟨295, 0x58018, 0x1000, 4, 4, 3, .ro, 0x0, false, false, []⟩
/-- R324: Error warning (R316). -/
def CAN_BUS_WARN : Row := ⟨296, 0x58018, 0x1000, 4, 2, 1, .ro, 0x0, false, false, []⟩
/-- R324: 0 error-active, 1 error-passive, 2 bus-off, 3 off. -/
def CAN_BUS_STATE : Row := ⟨297, 0x58018, 0x1000, 4, 0, 2, .ro, 0x0, false, false, []⟩
/-- R324: Per R323. -/
def CAN_EVT_EVENTS : Row := ⟨298, 0x5801C, 0x1000, 4, 0, 18, .w1c, 0x0, false, false, []⟩
/-- R324: Per R323. -/
def CAN_EVT_EN_ENABLES : Row := ⟨299, 0x58020, 0x1000, 4, 0, 18, .rw, 0x0, false, false, []⟩
/-- R324: Bit b: buffer b in transmission. -/
def CAN_TXSTAT_ACTIVE : Row := ⟨300, 0x58024, 0x1000, 4, 8, 3, .ro, 0x0, false, false, []⟩
/-- R324: Bit b: cancel waiting on the attempt. -/
def CAN_TXSTAT_CANCEL : Row := ⟨301, 0x58024, 0x1000, 4, 4, 3, .ro, 0x0, false, false, []⟩
/-- R324: Bit b: buffer b holds a request. -/
def CAN_TXSTAT_PEND : Row := ⟨302, 0x58024, 0x1000, 4, 0, 3, .ro, 0x0, false, false, []⟩
/-- R324: Elements held in receive queue 0, 0–64. -/
def CAN_RXQ0_FILL : Row := ⟨303, 0x58028, 0x1000, 4, 16, 7, .ro, 0x0, false, false, []⟩
/-- R324: Frames discarded; saturates. -/
def CAN_RXQ0_LOST : Row := ⟨304, 0x58028, 0x1000, 4, 0, 16, .ro, 0x0, true, false, []⟩
/-- R324: Elements held in receive queue 1, 0–32. -/
def CAN_RXQ1_FILL : Row := ⟨305, 0x5802C, 0x1000, 4, 16, 6, .ro, 0x0, false, false, []⟩
/-- R324: Frames discarded; saturates. -/
def CAN_RXQ1_LOST : Row := ⟨306, 0x5802C, 0x1000, 4, 0, 16, .ro, 0x0, true, false, []⟩
/-- R324: Frames accepted; saturates. -/
def CAN_RX_OK_COUNT : Row := ⟨307, 0x58030, 0x1000, 4, 0, 32, .ro, 0x0, true, false, []⟩
/-- R324: CAN_RX_SHORT: bound frames below DLC_MIN; saturates. -/
def CAN_RX_LATE_SHORT : Row := ⟨308, 0x58034, 0x1000, 4, 16, 16, .ro, 0x0, true, false, []⟩
/-- R324: Frames entered a tick late; saturates. -/
def CAN_RX_LATE_LATE : Row := ⟨309, 0x58034, 0x1000, 4, 0, 16, .ro, 0x0, true, false, []⟩
/-- R324: Frames sent; saturates. -/
def CAN_TX_OK_COUNT : Row := ⟨310, 0x58038, 0x1000, 4, 0, 32, .ro, 0x0, true, false, []⟩
/-- R324: Binding updates skipped (R314); saturates. -/
def CAN_TX_SKIP_COUNT : Row := ⟨311, 0x5803C, 0x1000, 4, 0, 16, .ro, 0x0, true, false, []⟩
/-- R324: Bus-off entries; saturates. -/
def CAN_BUSOFF_ENTRIES : Row := ⟨312, 0x58040, 0x1000, 4, 16, 16, .ro, 0x0, true, false, []⟩
/-- R324: Recoveries; saturates. -/
def CAN_BUSOFF_RECOVERIES : Row := ⟨313, 0x58040, 0x1000, 4, 0, 16, .ro, 0x0, true, false, []⟩
/-- R324: Stamp counter, bits [31:0]; latches the high word per R9. -/
def CAN_STAMP_LO_NS_LO : Row := ⟨314, 0x58044, 0x1000, 4, 0, 32, .ro, 0x0, true, false, []⟩
/-- R324: Bits [63:32]. -/
def CAN_STAMP_HI_NS_HI : Row := ⟨315, 0x58048, 0x1000, 4, 0, 32, .ro, 0x0, true, false, []⟩
/-- R324: Reference identifier extended. -/
def CAN_TT_REF_XTD : Row := ⟨316, 0x5804C, 0x1000, 4, 31, 1, .ro, 0x0, true, false, []⟩
/-- R324: Reference identifier. -/
def CAN_TT_REF_ID : Row := ⟨317, 0x5804C, 0x1000, 4, 0, 29, .ro, 0x0, true, false, []⟩
/-- R324: Schedule synchronised. -/
def CAN_TT_STAT_REF_OK : Row := ⟨318, 0x58050, 0x1000, 4, 31, 1, .ro, 0x0, false, false, []⟩
/-- R324: Basic cycles per matrix cycle, 1–32. -/
def CAN_TT_STAT_NCYC : Row := ⟨319, 0x58050, 0x1000, 4, 24, 6, .ro, 0x0, true, false, []⟩
/-- R324: Current basic cycle. -/
def CAN_TT_STAT_CYCLE : Row := ⟨320, 0x58050, 0x1000, 4, 16, 5, .ro, 0x0, false, false, []⟩
/-- R324: Current column. -/
def CAN_TT_STAT_COLUMN : Row := ⟨321, 0x58050, 0x1000, 4, 8, 6, .ro, 0x0, false, false, []⟩
/-- R324: Reference losses; saturates. -/
def CAN_TT_STAT_REF_LOSSES : Row := ⟨322, 0x58050, 0x1000, 4, 0, 8, .ro, 0x0, true, false, []⟩
/-- R324: Basic cycle length, µs. -/
def CAN_TT_CYC_CYC_US : Row := ⟨323, 0x58054, 0x1000, 4, 0, 16, .ro, 0x0, true, false, []⟩
/-- R324: Register i, bit k: slot entry 32i + k missed. -/
def CAN_TT_MISS0_SLOTS : Row := ⟨324, 0x58060, 0x1000, 4, 0, 32, .w1c, 0x0, false, false, []⟩
/-- R324: Register i, bit k: slot entry 32i + k missed. -/
def CAN_TT_MISS1_SLOTS : Row := ⟨325, 0x58064, 0x1000, 4, 0, 32, .w1c, 0x0, false, false, []⟩
/-- R324: Register i, bit k: slot entry 32i + k missed. -/
def CAN_TT_MISS2_SLOTS : Row := ⟨326, 0x58068, 0x1000, 4, 0, 32, .w1c, 0x0, false, false, []⟩
/-- R324: Register i, bit k: slot entry 32i + k missed. -/
def CAN_TT_MISS3_SLOTS : Row := ⟨327, 0x5806C, 0x1000, 4, 0, 32, .w1c, 0x0, false, false, []⟩
/-- R324: Register i, bit k: slot entry 32i + k missed. -/
def CAN_TT_MISS4_SLOTS : Row := ⟨328, 0x58070, 0x1000, 4, 0, 32, .w1c, 0x0, false, false, []⟩
/-- R324: Register i, bit k: slot entry 32i + k missed. -/
def CAN_TT_MISS5_SLOTS : Row := ⟨329, 0x58074, 0x1000, 4, 0, 32, .w1c, 0x0, false, false, []⟩
/-- R324: Register i, bit k: slot entry 32i + k missed. -/
def CAN_TT_MISS6_SLOTS : Row := ⟨330, 0x58078, 0x1000, 4, 0, 32, .w1c, 0x0, false, false, []⟩
/-- R324: Register i, bit k: slot entry 32i + k missed. -/
def CAN_TT_MISS7_SLOTS : Row := ⟨331, 0x5807C, 0x1000, 4, 0, 32, .w1c, 0x0, false, false, []⟩
/-- R344: 1 once an accepted image has set the fields. -/
def NT_CFG_VALID : Row := ⟨332, 0x50000, 0x4, 1, 31, 1, .ro, 0x0, false, false, []⟩
/-- R344: domainNumber. -/
def NT_CFG_DOMAIN : Row := ⟨333, 0x50000, 0x4, 1, 16, 7, .ro, 0x0, true, false, []⟩
/-- R344: Per R330; 3 reserved. -/
def NT_CFG_ROLE : Row := ⟨334, 0x50000, 0x4, 1, 8, 2, .ro, 0x0, true, false, []⟩
/-- R344: 0 1588 E2E, 1 1588 P2P, 2 gPTP; 3 reserved. -/
def NT_CFG_PROFILE : Row := ⟨335, 0x50000, 0x4, 1, 4, 2, .ro, 0x0, true, false, []⟩
/-- R344: 0 UDP/IPv6, 1 IEEE 802.3. -/
def NT_CFG_TRANSPORT : Row := ⟨336, 0x50000, 0x4, 1, 0, 1, .ro, 0x0, true, false, []⟩
/-- R344: Per R337. -/
def NT_STAT_TIME_DEGRADED : Row := ⟨337, 0x50004, 0x4, 1, 31, 1, .ro, 0x1, false, false, []⟩
/-- R344: Per R341. -/
def NT_STAT_SEED_INVALID : Row := ⟨338, 0x50004, 0x4, 1, 30, 1, .ro, 0x0, false, false, []⟩
/-- R344: 0 none, 1 uplink 0, 2 uplink 1, 3 PPS. -/
def NT_STAT_SLAVE : Row := ⟨339, 0x50004, 0x4, 1, 24, 2, .ro, 0x0, false, false, []⟩
/-- R344: portState of uplink 1, 1–9. -/
def NT_STAT_PORT1 : Row := ⟨340, 0x50004, 0x4, 1, 8, 4, .ro, 0x1, false, false, []⟩
/-- R344: portState of uplink 0, 1–9. -/
def NT_STAT_PORT0 : Row := ⟨341, 0x50004, 0x4, 1, 4, 4, .ro, 0x1, false, false, []⟩
/-- R344: Per R335; 4–7 reserved. -/
def NT_STAT_STATE : Row := ⟨342, 0x50004, 0x4, 1, 0, 3, .ro, 0x0, false, false, []⟩
/-- R344: C bits [31:0]; latches the high word per R9. -/
def NT_CNT_LO_C_LO : Row := ⟨343, 0x50008, 0x4, 1, 0, 32, .ro, 0x0, true, false, []⟩
/-- R344: C bits [63:32]. -/
def NT_CNT_HI_C_HI : Row := ⟨344, 0x5000C, 0x4, 1, 0, 32, .ro, 0x0, true, false, []⟩
/-- R344: Per R328. -/
def NT_CAP_CTRL_TAKE : Row := ⟨345, 0x50010, 0x4, 1, 0, 1, .wo, 0x0, false, false, []⟩
/-- R344: Per R328. -/
def NT_CAP_STAT_NOT_READY : Row := ⟨346, 0x50014, 0x4, 1, 31, 1, .ro, 0x0, false, false, []⟩
/-- R344: Mapping generation at capture, low 8 bits. -/
def NT_CAP_STAT_GEN : Row := ⟨347, 0x50014, 0x4, 1, 0, 8, .ro, 0x0, false, false, []⟩
/-- R344: Captured C; latches the high word per R9. -/
def NT_CAP_CNT_LO_C_LO : Row := ⟨348, 0x50018, 0x4, 1, 0, 32, .ro, 0x0, false, false, []⟩
/-- R344: Bits [63:32]. -/
def NT_CAP_CNT_HI_C_HI : Row := ⟨349, 0x5001C, 0x4, 1, 0, 32, .ro, 0x0, false, false, []⟩
/-- R344: Captured NT, ns; latches the high word per R9. -/
def NT_CAP_NS_LO_NS_LO : Row := ⟨350, 0x50020, 0x4, 1, 0, 32, .ro, 0x0, false, false, []⟩
/-- R344: Bits [63:32]. -/
def NT_CAP_NS_HI_NS_HI : Row := ⟨351, 0x50024, 0x4, 1, 0, 32, .ro, 0x0, false, false, []⟩
/-- R344: Signed, units of 2^−32. -/
def NT_RATE_RATE : Row := ⟨352, 0x50028, 0x4, 1, 0, 32, .ro, 0x0, true, false, []⟩
/-- R344: Last x, signed ns; saturates. -/
def NT_OFFSET_LAST_NS : Row := ⟨353, 0x5002C, 0x4, 1, 0, 32, .ro, 0x0, false, false, []⟩
/-- R344: binary32, ppb/ns at 125 ms; finite, 0–64.0 (R333). -/
def PLB_KP_KP : Row := ⟨354, 0x50030, 0x4, 1, 0, 32, .rwl, 0x40800000, true, false, [(0, 1115684864), (2147483648, 2147483648)]⟩
/-- R344: binary32, ppb/ns at 125 ms; finite, 0–64.0 (R333). -/
def PLB_KI_KI : Row := ⟨355, 0x50034, 0x4, 1, 0, 32, .rwl, 0x3F000000, true, false, [(0, 1115684864), (2147483648, 2147483648)]⟩
/-- R344: Step threshold, 1,000–1,000,000,000 ns. -/
def PLB_STEP_NS_NS : Row := ⟨356, 0x50038, 0x4, 1, 0, 32, .rwl, 0x4E20, true, false, [(1000, 1000000000)]⟩
/-- R344: Lock threshold, 10–10,000 ns. -/
def PLB_LOCK_NS_NS : Row := ⟨357, 0x5003C, 0x4, 1, 0, 16, .rwl, 0x64, true, false, [(10, 10000)]⟩
/-- R344: Rate clamp, 1,000–500,000 ppb. -/
def PLB_MAX_PPB_PPB : Row := ⟨358, 0x50040, 0x4, 1, 0, 20, .rwl, 0x7A120, true, false, [(1000, 500000)]⟩
/-- R344: Holdover bound (R337); 0 in LOCKED. -/
def NT_EST_ERR_NS : Row := ⟨359, 0x50044, 0x4, 1, 0, 32, .ro, 0xFFFFFFFF, false, false, []⟩
/-- R344: Steps of NT; saturates. -/
def NT_STEPS_COUNT : Row := ⟨360, 0x50048, 0x4, 1, 0, 16, .ro, 0x0, true, false, []⟩
/-- R344: Measurements discarded; saturates. -/
def NT_SPIKES_COUNT : Row := ⟨361, 0x5004C, 0x4, 1, 0, 16, .ro, 0x0, true, false, []⟩
/-- R344: Received currentUtcOffset in use. -/
def NT_UTC_RX_VALID : Row := ⟨362, 0x50050, 0x4, 1, 31, 1, .ro, 0x0, false, false, []⟩
/-- R344: Grandmaster announces leap59. -/
def NT_UTC_LEAP59 : Row := ⟨363, 0x50050, 0x4, 1, 17, 1, .rw, 0x0, true, false, []⟩
/-- R344: Grandmaster announces leap61. -/
def NT_UTC_LEAP61 : Row := ⟨364, 0x50050, 0x4, 1, 16, 1, .rw, 0x0, true, false, []⟩
/-- R344: U in s, signed; from the image at start-up. -/
def NT_UTC_OFFSET : Row := ⟨365, 0x50050, 0x4, 1, 0, 16, .rw, 0x25, true, false, []⟩
/-- R344: 1–500 ms. -/
def NT_PPS_CFG_OUT_WIDTH_MS : Row := ⟨366, 0x50054, 0x4, 1, 16, 10, .rwl, 0x64, true, false, [(1, 500)]⟩
/-- R344: PPS_IN steers a grandmaster. -/
def NT_PPS_CFG_IN_EN : Row := ⟨367, 0x50054, 0x4, 1, 4, 1, .rwl, 0x0, true, false, []⟩
/-- R344: Per R339; 3 reserved. -/
def NT_PPS_CFG_OUT_MODE : Row := ⟨368, 0x50054, 0x4, 1, 0, 2, .rwl, 0x0, true, false, [(0, 2)]⟩
/-- R344: Last PPS_IN offset, signed ns. -/
def NT_PPS_IN_OFS_NS : Row := ⟨369, 0x50058, 0x4, 1, 0, 32, .ro, 0x0, false, false, []⟩
/-- R344: 10–60,000 ms. -/
def NT_RTC_RTC_STEP_MS : Row := ⟨370, 0x5005C, 0x4, 1, 0, 16, .rwl, 0x3E8, true, false, [(10, 60000)]⟩
/-- R344: B minus NT in UTC, signed µs; saturates. -/
def NT_RTC_DIFF_US : Row := ⟨371, 0x50060, 0x4, 1, 0, 32, .ro, 0x0, true, false, []⟩
/-- R344: delayAsymmetry of uplink 0, signed ns. -/
def NT_ASYM0_NS : Row := ⟨372, 0x50064, 0x4, 1, 0, 16, .rwl, 0x0, true, false, []⟩
/-- R344: delayAsymmetry of uplink 1, signed ns. -/
def NT_ASYM1_NS : Row := ⟨373, 0x50068, 0x4, 1, 0, 16, .rwl, 0x0, true, false, []⟩
/-- R373: B. -/
def BKP_SEC_SEC : Row := ⟨374, 0x70000, 0x4, 1, 0, 32, .ro, 0x0, true, true, []⟩
/-- R373: F, 2^−16 s. -/
def BKP_FRAC_FRAC : Row := ⟨375, 0x70004, 0x4, 1, 0, 16, .ro, 0x0, true, true, []⟩
/-- R373: Render view, R347. -/
def BKP_CAL0_DOW : Row := ⟨376, 0x70008, 0x4, 1, 24, 3, .ro, 0x0, true, true, []⟩
/-- R373. -/
def BKP_CAL0_HOUR : Row := ⟨377, 0x70008, 0x4, 1, 16, 5, .ro, 0x0, true, true, []⟩
/-- R373. -/
def BKP_CAL0_MIN : Row := ⟨378, 0x70008, 0x4, 1, 8, 6, .ro, 0x0, true, true, []⟩
/-- R373. -/
def BKP_CAL0_SEC : Row := ⟨379, 0x70008, 0x4, 1, 0, 6, .ro, 0x0, true, true, []⟩
/-- R373: Year − 2000. -/
def BKP_CAL1_YEAR : Row := ⟨380, 0x7000C, 0x4, 1, 16, 8, .ro, 0x0, true, true, []⟩
/-- R373. -/
def BKP_CAL1_MON : Row := ⟨381, 0x7000C, 0x4, 1, 8, 4, .ro, 0x0, true, true, []⟩
/-- R373. -/
def BKP_CAL1_DOM : Row := ⟨382, 0x7000C, 0x4, 1, 0, 5, .ro, 0x0, true, true, []⟩
/-- R373: Local time, R348. -/
def BKP_LOC0_DOW : Row := ⟨383, 0x70010, 0x4, 1, 24, 3, .ro, 0x0, true, true, []⟩
/-- R373: Local time, R348. -/
def BKP_LOC0_HOUR : Row := ⟨384, 0x70010, 0x4, 1, 16, 5, .ro, 0x0, true, true, []⟩
/-- R373: Local time, R348. -/
def BKP_LOC0_MIN : Row := ⟨385, 0x70010, 0x4, 1, 8, 6, .ro, 0x0, true, true, []⟩
/-- R373: Local time, R348. -/
def BKP_LOC0_SEC : Row := ⟨386, 0x70010, 0x4, 1, 0, 6, .ro, 0x0, true, true, []⟩
/-- R373: Local time. -/
def BKP_LOC1_YEAR : Row := ⟨387, 0x70014, 0x4, 1, 16, 8, .ro, 0x0, true, true, []⟩
/-- R373: Local time. -/
def BKP_LOC1_MON : Row := ⟨388, 0x70014, 0x4, 1, 8, 4, .ro, 0x0, true, true, []⟩
/-- R373: Local time. -/
def BKP_LOC1_DOM : Row := ⟨389, 0x70014, 0x4, 1, 0, 5, .ro, 0x0, true, true, []⟩
/-- R373: Time era; releases the shadow. -/
def BKP_ERA_ERA : Row := ⟨390, 0x70018, 0x4, 1, 0, 16, .ro, 0x0, true, true, []⟩
/-- R373: OFS, signed minutes. -/
def BKP_OFFSET_MIN : Row := ⟨391, 0x70020, 0x4, 1, 0, 16, .rw, 0x0, true, true, [(0, 960), (64576, 65535)]⟩
/-- R373: Write in crossing (R372). -/
def CAL_STATUS_BUSY : Row := ⟨392, 0x70024, 0x4, 1, 31, 1, .ro, 0x0, false, false, []⟩
/-- R373: R346. -/
def CAL_STATUS_RANGE_END : Row := ⟨393, 0x70024, 0x4, 1, 3, 1, .ro, 0x0, true, true, []⟩
/-- R373: R352. -/
def CAL_STATUS_OSF : Row := ⟨394, 0x70024, 0x4, 1, 2, 1, .ro, 0x1, true, true, []⟩
/-- R373: Write rejected (R350, R354). -/
def CAL_STATUS_INVALID : Row := ⟨395, 0x70024, 0x4, 1, 1, 1, .w1c, 0x0, true, true, []⟩
/-- R373: Staged count. -/
def BKP_SET_SEC_SEC : Row := ⟨396, 0x70028, 0x4, 1, 0, 32, .rw, 0x0, true, true, []⟩
/-- R373: Staged fraction. -/
def BKP_SET_FRAC_FRAC : Row := ⟨397, 0x7002C, 0x4, 1, 0, 16, .rw, 0x0, true, true, []⟩
/-- R373: Staged fields; DOW ignored. -/
def BKP_SET_CAL0_DOW : Row := ⟨398, 0x70030, 0x4, 1, 24, 3, .rw, 0x0, true, true, []⟩
/-- R373: Staged fields; DOW ignored. -/
def BKP_SET_CAL0_HOUR : Row := ⟨399, 0x70030, 0x4, 1, 16, 5, .rw, 0x0, true, true, []⟩
/-- R373: Staged fields; DOW ignored. -/
def BKP_SET_CAL0_MIN : Row := ⟨400, 0x70030, 0x4, 1, 8, 6, .rw, 0x0, true, true, []⟩
/-- R373: Staged fields; DOW ignored. -/
def BKP_SET_CAL0_SEC : Row := ⟨401, 0x70030, 0x4, 1, 0, 6, .rw, 0x0, true, true, []⟩
/-- R373: Staged fields. -/
def BKP_SET_CAL1_YEAR : Row := ⟨402, 0x70034, 0x4, 1, 16, 8, .rw, 0x0, true, true, []⟩
/-- R373: Staged fields. -/
def BKP_SET_CAL1_MON : Row := ⟨403, 0x70034, 0x4, 1, 8, 4, .rw, 0x0, true, true, []⟩
/-- R373: Staged fields. -/
def BKP_SET_CAL1_DOM : Row := ⟨404, 0x70034, 0x4, 1, 0, 5, .rw, 0x0, true, true, []⟩
/-- R373: Staged fields are local time. -/
def BKP_SET_CTRL_LOCAL : Row := ⟨405, 0x70038, 0x4, 1, 8, 1, .rw, 0x0, true, true, []⟩
/-- R373: Apply calendar write. -/
def BKP_SET_CTRL_GO_CAL : Row := ⟨406, 0x70038, 0x4, 1, 1, 1, .wo, 0x0, false, false, []⟩
/-- R373: Apply count write. -/
def BKP_SET_CTRL_GO_SEC : Row := ⟨407, 0x70038, 0x4, 1, 0, 1, .wo, 0x0, false, false, []⟩
/-- R373: Signed, 2^−24 s/s (R345). -/
def BKP_TRIM_TRIM : Row := ⟨408, 0x7003C, 0x4, 1, 0, 16, .rw, 0x0, true, true, [(0, 3355), (62181, 65535)]⟩
/-- R373: Supplied from VBAT. -/
def BKP_PWR_ON_VBAT : Row := ⟨409, 0x70040, 0x4, 1, 31, 1, .ro, 0x0, false, false, []⟩
/-- R373: R361. -/
def BKP_PWR_VBAT_LOW : Row := ⟨410, 0x70040, 0x4, 1, 30, 1, .ro, 0x0, true, true, []⟩
/-- R373: Switches to VBAT; saturates. -/
def BKP_PWR_SWITCHES : Row := ⟨411, 0x70040, 0x4, 1, 0, 16, .ro, 0x0, true, true, []⟩
/-- R373: B at the last switch to VBAT. -/
def BKP_PWR_FAIL_SEC_SEC : Row := ⟨412, 0x70044, 0x4, 1, 0, 32, .ro, 0x0, true, true, []⟩
/-- R373: F at that switch. -/
def BKP_PWR_FAIL_SUB_FRAC : Row := ⟨413, 0x70048, 0x4, 1, 16, 16, .ro, 0x0, true, true, []⟩
/-- R373: Era at that switch. -/
def BKP_PWR_FAIL_SUB_ERA : Row := ⟨414, 0x70048, 0x4, 1, 0, 16, .ro, 0x0, true, true, []⟩
/-- R373: B at the last return. -/
def BKP_PWR_RET_SEC_SEC : Row := ⟨415, 0x7004C, 0x4, 1, 0, 32, .ro, 0x0, true, true, []⟩
/-- R373: As BKP_PWR_FAIL_SUB. -/
def BKP_PWR_RET_SUB_FRAC : Row := ⟨416, 0x70050, 0x4, 1, 16, 16, .ro, 0x0, true, true, []⟩
/-- R373: As BKP_PWR_FAIL_SUB. -/
def BKP_PWR_RET_SUB_ERA : Row := ⟨417, 0x70050, 0x4, 1, 0, 16, .ro, 0x0, true, true, []⟩
/-- R373: B at the last reset assertion (R360). -/
def BKP_RST_SEC_SEC : Row := ⟨418, 0x70054, 0x4, 1, 0, 32, .ro, 0x0, true, true, []⟩
/-- R373: F and era at that assertion. -/
def BKP_RST_SUB_FRAC : Row := ⟨419, 0x70058, 0x4, 1, 16, 16, .ro, 0x0, true, true, []⟩
/-- R373: F and era at that assertion. -/
def BKP_RST_SUB_ERA : Row := ⟨420, 0x70058, 0x4, 1, 0, 16, .ro, 0x0, true, true, []⟩
/-- R373: Bit 0: power-on reset took part; bit 1: RESET_N took part. -/
def BKP_RST_KIND_KIND : Row := ⟨421, 0x7005C, 0x4, 1, 0, 2, .ro, 0x0, true, true, []⟩
/-- R373: R354. -/
def ALM_TIME_DOW : Row := ⟨422, 0x70080, 0x20, 2, 24, 3, .rw, 0x0, true, true, [(1, 7)]⟩
/-- R373: R354. -/
def ALM_TIME_HOUR : Row := ⟨423, 0x70080, 0x20, 2, 16, 5, .rw, 0x0, true, true, [(0, 23)]⟩
/-- R373: R354. -/
def ALM_TIME_MIN : Row := ⟨424, 0x70080, 0x20, 2, 8, 6, .rw, 0x0, true, true, [(0, 59)]⟩
/-- R373: R354. -/
def ALM_TIME_SEC : Row := ⟨425, 0x70080, 0x20, 2, 0, 6, .rw, 0x0, true, true, [(0, 59)]⟩
/-- R373: R354, R355. -/
def ALM_DATE_YEAR : Row := ⟨426, 0x70084, 0x20, 2, 16, 8, .rw, 0x0, true, true, [(0, 135)]⟩
/-- R373: R354, R355. -/
def ALM_DATE_MON : Row := ⟨427, 0x70084, 0x20, 2, 8, 4, .rw, 0x0, true, true, [(1, 12)]⟩
/-- R373: R354, R355. -/
def ALM_DATE_DOM : Row := ⟨428, 0x70084, 0x20, 2, 0, 6, .rw, 0x0, true, true, [(1, 31), (63, 63)]⟩
/-- R373: Alarm enabled. -/
def ALM_CTRL_EN : Row := ⟨429, 0x70088, 0x20, 2, 31, 1, .rw, 0x0, true, true, []⟩
/-- R373: Raises PWRON. -/
def ALM_CTRL_WAKE : Row := ⟨430, 0x70088, 0x20, 2, 30, 1, .rw, 0x0, true, true, []⟩
/-- R373: R358. -/
def ALM_CTRL_CATCHUP : Row := ⟨431, 0x70088, 0x20, 2, 29, 1, .rw, 0x0, true, true, []⟩
/-- R373: R357. -/
def ALM_CTRL_TABLE : Row := ⟨432, 0x70088, 0x20, 2, 28, 1, .rw, 0x0, true, true, []⟩
/-- R373: Bit set: field ignored. -/
def ALM_CTRL_MASK : Row := ⟨433, 0x70088, 0x20, 2, 16, 7, .rw, 0x0, true, true, []⟩
/-- R373: R358. -/
def ALM_STAT_REPEATED : Row := ⟨434, 0x7008C, 0x20, 2, 3, 1, .w1c, 0x0, true, true, []⟩
/-- R373: R358. -/
def ALM_STAT_SKIPPED_LOST : Row := ⟨435, 0x7008C, 0x20, 2, 2, 1, .w1c, 0x0, true, true, []⟩
/-- R373: R358. -/
def ALM_STAT_SKIPPED : Row := ⟨436, 0x7008C, 0x20, 2, 1, 1, .w1c, 0x0, true, true, []⟩
/-- R373: R356. -/
def ALM_STAT_FIRED : Row := ⟨437, 0x7008C, 0x20, 2, 0, 1, .w1c, 0x0, true, true, []⟩
/-- R373: Firings; saturates. -/
def ALM_COUNT_COUNT : Row := ⟨438, 0x70090, 0x20, 2, 0, 32, .ro, 0x0, true, true, []⟩
/-- R373: Input i, R363. -/
def TMP_CFG_EN : Row := ⟨439, 0x700C0, 0x4, 4, 31, 1, .rwl, 0x0, true, true, []⟩
/-- R373: Input i, R363. -/
def TMP_CFG_LEVEL : Row := ⟨440, 0x700C0, 0x4, 4, 30, 1, .rwl, 0x0, true, true, []⟩
/-- R373: Input i, R363. -/
def TMP_CFG_RESP : Row := ⟨441, 0x700C0, 0x4, 4, 29, 1, .rwl, 0x0, true, true, []⟩
/-- R373: Input i, R363. -/
def TMP_CFG_WAKE : Row := ⟨442, 0x700C0, 0x4, 4, 28, 1, .rwl, 0x0, true, true, []⟩
/-- R373. -/
def TMP_CFG_PULL : Row := ⟨443, 0x700C0, 0x4, 4, 26, 2, .rwl, 0x0, true, true, [(0, 2)]⟩
/-- R373: 1–8. -/
def TMP_CFG_FILTER : Row := ⟨444, 0x700C0, 0x4, 4, 16, 4, .rwl, 0x1, true, true, [(1, 8)]⟩
/-- R373. -/
def TMP_CFG_PERIOD : Row := ⟨445, 0x700C0, 0x4, 4, 8, 2, .rwl, 0x0, true, true, [(0, 2)]⟩
/-- R373: Once 1, writes of 0 are discarded. -/
def MESH_CFG_EN : Row := ⟨446, 0x700D0, 0x4, 1, 31, 1, .rwl, 0x0, true, true, []⟩
/-- R373: 1–8. -/
def MESH_CFG_FILTER : Row := ⟨447, 0x700D0, 0x4, 1, 8, 8, .rwl, 0x1, true, true, [(1, 8)]⟩
/-- R373: 1–64. -/
def MESH_CFG_RATE_HZ : Row := ⟨448, 0x700D0, 0x4, 1, 0, 7, .rwl, 0x8, true, true, [(1, 64)]⟩
/-- R373: Full tamper latched. -/
def TMP_STAT_FULL : Row := ⟨449, 0x700D4, 0x4, 1, 8, 1, .ro, 0x1, true, true, []⟩
/-- R373: Backup power-up. -/
def TMP_STAT_SUPPLY : Row := ⟨450, 0x700D4, 0x4, 1, 5, 1, .ro, 0x1, true, true, []⟩
/-- R373: Mesh event. -/
def TMP_STAT_MESH : Row := ⟨451, 0x700D4, 0x4, 1, 4, 1, .ro, 0x0, true, true, []⟩
/-- R373: Bit i: input i. -/
def TMP_STAT_INPUTS : Row := ⟨452, 0x700D4, 0x4, 1, 0, 4, .ro, 0x0, true, true, []⟩
/-- R373: B at the first event. -/
def TMP_TIME_SEC_SEC : Row := ⟨453, 0x700D8, 0x4, 1, 0, 32, .ro, 0x0, true, true, []⟩
/-- R373: F and era at the first event. -/
def TMP_TIME_SUB_FRAC : Row := ⟨454, 0x700DC, 0x4, 1, 16, 16, .ro, 0x0, true, true, []⟩
/-- R373: F and era at the first event. -/
def TMP_TIME_SUB_ERA : Row := ⟨455, 0x700DC, 0x4, 1, 0, 16, .ro, 0x0, true, true, []⟩
/-- R373: Scratch-coat generation. -/
def TMP_GEN_GEN : Row := ⟨456, 0x700E0, 0x4, 1, 0, 32, .ro, 0x0, true, true, []⟩
/-- R373: R367. -/
def BKP_WIPE_BANKS : Row := ⟨457, 0x700E4, 0x4, 1, 0, 8, .rwl, 0xFF, true, true, []⟩
/-- R373: R370. -/
def BKP_WAKE_SLEEP_FAIL : Row := ⟨458, 0x700F0, 0x4, 1, 16, 1, .w1c, 0x0, true, true, []⟩
/-- R373: R368. -/
def BKP_WAKE_WAKE_N_EN : Row := ⟨459, 0x700F0, 0x4, 1, 8, 1, .rw, 0x0, true, true, []⟩
/-- R373: R371; 0 none. -/
def BKP_WAKE_CAUSE : Row := ⟨460, 0x700F0, 0x4, 1, 0, 4, .ro, 0x0, true, true, []⟩
/-- R373: R369. -/
def BKP_SLEEP_KEY : Row := ⟨461, 0x700F4, 0x4, 1, 0, 32, .wo, 0x0, false, false, []⟩
/-- R373: Backup bytes, 4 per word. -/
def BKP_BYTES_DATA : Row := ⟨462, 0x70100, 0x4, 32, 0, 32, .rw, 0x0, true, true, []⟩
/-- R398: Step 5 of R380 completed. -/
def SEC_BOOT_KEYS_RELEASED : Row := ⟨463, 0x78000, 0x4, 1, 31, 1, .ro, 0x0, false, false, []⟩
/-- R398: 0 ROM, 1 stage 1, 2 firmware, 3 ROM recovery; 4–7 reserved. -/
def SEC_BOOT_STAGE : Row := ⟨464, 0x78000, 0x4, 1, 24, 3, .ro, 0x0, false, false, []⟩
/-- R398: Booted the slot other than the one first chosen. -/
def SEC_BOOT_FALLBACK : Row := ⟨465, 0x78000, 0x4, 1, 17, 1, .ro, 0x0, false, false, []⟩
/-- R398: Firmware slot running, 0 A or 1 B. -/
def SEC_BOOT_FW_SLOT : Row := ⟨466, 0x78000, 0x4, 1, 16, 1, .ro, 0x0, false, false, []⟩
/-- R398: Running slot is marked TRIAL. -/
def SEC_BOOT_TRIAL : Row := ⟨467, 0x78000, 0x4, 1, 8, 1, .ro, 0x0, false, false, []⟩
/-- R398: Configuration slot in use. -/
def SEC_BOOT_CFG_SLOT : Row := ⟨468, 0x78000, 0x4, 1, 0, 1, .ro, 0x0, false, false, []⟩
/-- R398: SVN_CFG, 0–64. -/
def SEC_SVN_CFG : Row := ⟨469, 0x78004, 0x4, 1, 16, 7, .ro, 0x0, true, false, []⟩
/-- R398: SVN_FW. -/
def SEC_SVN_FW : Row := ⟨470, 0x78004, 0x4, 1, 8, 7, .ro, 0x0, true, false, []⟩
/-- R398: SVN_BL. -/
def SEC_SVN_BL : Row := ⟨471, 0x78004, 0x4, 1, 0, 7, .ro, 0x0, true, false, []⟩
/-- R398: OWNER_HASH[0] written. -/
def SEC_OWNER_CLAIMED : Row := ⟨472, 0x78008, 0x4, 1, 31, 1, .ro, 0x0, true, false, []⟩
/-- R398: FW_KEY_REVOKED. -/
def SEC_OWNER_FW_REVOKED : Row := ⟨473, 0x78008, 0x4, 1, 8, 4, .ro, 0x0, true, false, []⟩
/-- R398: OWNER_REVOKED. -/
def SEC_OWNER_REVOKED : Row := ⟨474, 0x78008, 0x4, 1, 4, 4, .ro, 0x0, true, false, []⟩
/-- R398: Current owner index. -/
def SEC_OWNER_CURRENT : Row := ⟨475, 0x78008, 0x4, 1, 0, 2, .ro, 0x0, true, false, []⟩
/-- R398: Bit k − 1: cause k outstanding (R397). -/
def SEC_MAINT_CAUSES : Row := ⟨476, 0x7800C, 0x4, 1, 0, 5, .ro, 0x0, false, false, []⟩
/-- R398: Key operations completed; saturates. -/
def SEC_OPS_COUNT : Row := ⟨477, 0x78010, 0x4, 1, 0, 32, .ro, 0x0, true, false, []⟩
/-- R398: Operations and commands refused; saturates. -/
def SEC_REFUSED_COUNT : Row := ⟨478, 0x78014, 0x4, 1, 0, 32, .ro, 0x0, true, false, []⟩
/-- R398: Operations aborted (R390); saturates. -/
def SEC_TAMPER_ABORTS_COUNT : Row := ⟨479, 0x78018, 0x4, 1, 0, 16, .ro, 0x0, true, false, []⟩
/-- R398: Result of the last image verification (R378). -/
def SEC_IMG_RESULT_RESULT : Row := ⟨480, 0x7801C, 0x4, 1, 0, 8, .ro, 0x0, false, false, []⟩
/-- R398: Register i, bit k: slot 32i + k unusable. -/
def SEC_SLOT_BAD_SLOTS : Row := ⟨481, 0x78020, 0x4, 8, 0, 32, .ro, 0x0, false, false, []⟩
/-- R398: Register i, bit k: slot 32i + k orphaned. -/
def SEC_SLOT_ORPH_SLOTS : Row := ⟨482, 0x78040, 0x4, 8, 0, 32, .ro, 0x0, false, false, []⟩
/-- R398: GEN of brown slot 1–5. -/
def SEC_BROWN_GEN_GEN : Row := ⟨483, 0x78060, 0x4, 5, 0, 32, .ro, 0x0, true, false, []⟩
/-- R398: Active slots, 0–256. -/
def SEC_SLOTS_USED_COUNT : Row := ⟨484, 0x78074, 0x4, 1, 0, 9, .ro, 0x0, true, false, []⟩
/-- R413: Start-up scan complete (R404). -/
def EVR_STAT_READY : Row := ⟨485, 0x80000, 0x4, 1, 31, 1, .ro, 0x0, true, false, []⟩
/-- R413: Highest FIFO fill in the last 1,024 ticks. -/
def EVR_STAT_FIFO_MAX : Row := ⟨486, 0x80000, 0x4, 1, 16, 11, .ro, 0x0, true, false, []⟩
/-- R413: Present FIFO fill, 0–1,024. -/
def EVR_STAT_FIFO : Row := ⟨487, 0x80000, 0x4, 1, 0, 11, .ro, 0x0, false, false, []⟩
/-- R413: NEXT; latches the high word per R9. -/
def EVR_NEXT_LO_SEQ_LO : Row := ⟨488, 0x80004, 0x4, 1, 0, 32, .ro, 0x0, true, false, []⟩
/-- R413: Bits [63:32]. -/
def EVR_NEXT_HI_SEQ_HI : Row := ⟨489, 0x80008, 0x4, 1, 0, 32, .ro, 0x0, true, false, []⟩
/-- R413: F0; latches the high word per R9. -/
def EVR_FIRST_LO_SEQ_LO : Row := ⟨490, 0x8000C, 0x4, 1, 0, 32, .ro, 0x0, true, false, []⟩
/-- R413: Bits [63:32]. -/
def EVR_FIRST_HI_SEQ_HI : Row := ⟨491, 0x80010, 0x4, 1, 0, 32, .ro, 0x0, true, false, []⟩
/-- R413: Lowest SEQ held in the circulating area; latches the high word per R9. -/
def EVR_CIRC_LO_SEQ_LO : Row := ⟨492, 0x80014, 0x4, 1, 0, 32, .ro, 0x0, true, false, []⟩
/-- R413: Bits [63:32]. -/
def EVR_CIRC_HI_SEQ_HI : Row := ⟨493, 0x80018, 0x4, 1, 0, 32, .ro, 0x0, true, false, []⟩
/-- R413: Events given no SEQ (R405); saturates. -/
def EVR_DROPPED_COUNT : Row := ⟨494, 0x8001C, 0x4, 1, 0, 32, .ro, 0x0, true, false, []⟩
/-- R413: Slots read with an invalid CRC; saturates. -/
def EVR_CORRUPT_COUNT : Row := ⟨495, 0x80020, 0x4, 1, 0, 16, .ro, 0x0, true, false, []⟩
/-- R413: Clears since cold reset; saturates. -/
def EVR_CLEARS_COUNT : Row := ⟨496, 0x80024, 0x4, 1, 0, 16, .ro, 0x0, true, false, []⟩
/-- R441: Per R420. -/
def HQ_CFG_ENABLE : Row := ⟨497, 0x04000, 0x80, 64, 31, 1, .rw, 0x0, false, false, []⟩
/-- R441: Queue bound to a domain. -/
def HQ_CFG_BOUND : Row := ⟨498, 0x04000, 0x80, 64, 30, 1, .ro, 0x0, true, false, []⟩
/-- R441: Bound domain (R419). -/
def HQ_CFG_DOMAIN : Row := ⟨499, 0x04000, 0x80, 64, 16, 10, .ro, 0x0, true, false, []⟩
/-- R441: Data-mover priority, 0 highest. -/
def HQ_CFG_PRIO : Row := ⟨500, 0x04000, 0x80, 64, 12, 2, .rw, 0x3, true, false, []⟩
/-- R441: Submission ring size 2^n, n = 4–12. -/
def HQ_CFG_SQ_LOG2 : Row := ⟨501, 0x04000, 0x80, 64, 8, 4, .rw, 0x4, true, false, [(4, 12)]⟩
/-- R441: Completion ring size 2^n, n = 4–12. -/
def HQ_CFG_CQ_LOG2 : Row := ⟨502, 0x04000, 0x80, 64, 4, 4, .rw, 0x4, true, false, [(4, 12)]⟩
/-- R441: IOVA page of the submission ring. -/
def HQ_SQ_BASE_PAGE : Row := ⟨503, 0x04004, 0x80, 64, 12, 18, .rw, 0x0, true, false, []⟩
/-- R441: IOVA page of the completion ring. -/
def HQ_CQ_BASE_PAGE : Row := ⟨504, 0x04008, 0x80, 64, 12, 18, .rw, 0x0, true, false, []⟩
/-- R441: Queue halted (R436). -/
def HQ_STAT_HALTED : Row := ⟨505, 0x0400C, 0x80, 64, 31, 1, .ro, 0x0, false, false, []⟩
/-- R441: Descriptor in progress. -/
def HQ_STAT_ACTIVE : Row := ⟨506, 0x0400C, 0x80, 64, 30, 1, .ro, 0x0, false, false, []⟩
/-- R441: Queue holds a pin. -/
def HQ_STAT_PINNED : Row := ⟨507, 0x0400C, 0x80, 64, 29, 1, .ro, 0x0, false, false, []⟩
/-- R441: Cause of the present or last halt. -/
def HQ_STAT_CAUSE : Row := ⟨508, 0x0400C, 0x80, 64, 16, 8, .ro, 0x0, false, false, []⟩
/-- R441: Submission head. -/
def HQ_STAT_SQ_HEAD : Row := ⟨509, 0x0400C, 0x80, 64, 0, 12, .ro, 0x0, false, false, []⟩
/-- R441: Phase of the next entry written. -/
def HQ_CQ_PHASE : Row := ⟨510, 0x04010, 0x80, 64, 12, 1, .ro, 0x1, false, false, []⟩
/-- R441: Next completion slot. -/
def HQ_CQ_TAIL : Row := ⟨511, 0x04010, 0x80, 64, 0, 12, .ro, 0x0, false, false, []⟩
/-- R441: Descriptors completed; saturates. -/
def HQ_DONE_COUNT : Row := ⟨512, 0x04014, 0x80, 64, 0, 32, .ro, 0x0, true, false, []⟩
/-- R441: Halts; saturates. -/
def HQ_FAULTS_COUNT : Row := ⟨513, 0x04018, 0x80, 64, 0, 32, .ro, 0x0, true, false, []⟩
/-- R441: Pre-emptions suffered; saturates. -/
def HQ_PREEMPT_COUNT : Row := ⟨514, 0x0401C, 0x80, 64, 0, 32, .ro, 0x0, true, false, []⟩
/-- R441: Ring enabled (R428). -/
def EQ_CFG_ENABLE : Row := ⟨515, 0x06000, 0x40, 16, 31, 1, .rw, 0x0, false, false, []⟩
/-- R441: Ring size 2^n, n = 4–12. -/
def EQ_CFG_LOG2 : Row := ⟨516, 0x06000, 0x40, 16, 24, 4, .rw, 0x4, true, false, [(4, 12)]⟩
/-- R441: Owning queue pair. -/
def EQ_CFG_OWNER_Q : Row := ⟨517, 0x06000, 0x40, 16, 16, 6, .rw, 0x0, true, false, []⟩
/-- R441: Bound domain. -/
def EQ_CFG_DOMAIN : Row := ⟨518, 0x06000, 0x40, 16, 0, 10, .ro, 0x0, true, false, []⟩
/-- R441: IOVA page in OWNER_Q's space. -/
def EQ_BASE_PAGE : Row := ⟨519, 0x06004, 0x40, 16, 12, 18, .rw, 0x0, true, false, []⟩
/-- R441: Bit t: types 0x01–0x07 (bit 0 unused); OVERFLOW is always enabled. -/
def EQ_MASK_TYPES : Row := ⟨520, 0x06008, 0x40, 16, 0, 8, .rw, 0x0, true, false, []⟩
/-- R441: Per R429. -/
def EQ_STAT_STOPPED : Row := ⟨521, 0x0600C, 0x40, 16, 31, 1, .ro, 0x0, false, false, []⟩
/-- R441: Phase of the next entry. -/
def EQ_STAT_PHASE : Row := ⟨522, 0x0600C, 0x40, 16, 12, 1, .ro, 0x1, false, false, []⟩
/-- R441: Next slot. -/
def EQ_STAT_TAIL : Row := ⟨523, 0x0600C, 0x40, 16, 0, 12, .ro, 0x0, false, false, []⟩
/-- R441: Entries lost; saturates. -/
def EQ_LOST_COUNT : Row := ⟨524, 0x06010, 0x40, 16, 0, 32, .ro, 0x0, true, false, []⟩
/-- R441: Bit q: queue q halted, q = 0–31; latches the high word per R9. -/
def HQE_HALTED_LO_QUEUES : Row := ⟨525, 0x07000, 0x4, 1, 0, 32, .ro, 0x0, false, false, []⟩
/-- R441: Queues 32–63. -/
def HQE_HALTED_HI_QUEUES : Row := ⟨526, 0x07004, 0x4, 1, 0, 32, .ro, 0x0, false, false, []⟩
/-- R441: 1, 2 or 3: 2.5, 5 or 8 GT/s; 0 down. -/
def HQE_LINK_SPEED : Row := ⟨527, 0x07008, 0x4, 1, 16, 4, .ro, 0x0, true, false, []⟩
/-- R441: Negotiated lanes. -/
def HQE_LINK_WIDTH : Row := ⟨528, 0x07008, 0x4, 1, 0, 4, .ro, 0x0, true, false, []⟩
/-- R441: Level-1 table, bits [31:12]; latches the high word per R9. -/
def ATC_ROOT_LO_ADDR : Row := ⟨529, 0x08000, 0x20, 64, 12, 20, .rw, 0x0, true, false, []⟩
/-- R441: Bits [47:32]. -/
def ATC_ROOT_HI_ADDR : Row := ⟨530, 0x08004, 0x20, 64, 0, 16, .rw, 0x0, true, false, []⟩
/-- R441: Last translation fault of the queue. -/
def ATC_FAULT_CAUSE : Row := ⟨531, 0x08008, 0x20, 64, 24, 8, .ro, 0x0, false, false, []⟩
/-- R441: IOVA bits [29:12]. -/
def ATC_FAULT_PAGE : Row := ⟨532, 0x08008, 0x20, 64, 0, 18, .ro, 0x0, false, false, []⟩
/-- R441: Start invalidation. -/
def ATC_INV_CTRL_GO : Row := ⟨533, 0x09000, 0x4, 1, 31, 1, .wo, 0x0, false, false, []⟩
/-- R441: All pages of QUEUE. -/
def ATC_INV_CTRL_ALL : Row := ⟨534, 0x09000, 0x4, 1, 16, 1, .rw, 0x0, false, false, []⟩
/-- R441: Queue pair. -/
def ATC_INV_CTRL_QUEUE : Row := ⟨535, 0x09000, 0x4, 1, 0, 6, .rw, 0x0, false, false, []⟩
/-- R441: First IOVA page. -/
def ATC_INV_PAGE_FIRST : Row := ⟨536, 0x09004, 0x4, 1, 0, 18, .rw, 0x0, false, false, []⟩
/-- R441: Pages, 1–262,144. -/
def ATC_INV_COUNT_PAGES : Row := ⟨537, 0x09008, 0x4, 1, 0, 19, .rw, 0x0, false, false, [(1, 262144)]⟩
/-- R441: Per R433. -/
def ATC_INV_STAT_BUSY : Row := ⟨538, 0x0900C, 0x4, 1, 0, 1, .ro, 0x0, false, false, []⟩
/-- R441: Cache hits; saturates. -/
def ATC_HIT_COUNT : Row := ⟨539, 0x09010, 0x4, 1, 0, 32, .ro, 0x0, true, false, []⟩
/-- R441: Walks; saturates. -/
def ATC_MISS_COUNT : Row := ⟨540, 0x09014, 0x4, 1, 0, 32, .ro, 0x0, true, false, []⟩
/-- R469: The module drove RESET_N (R442). -/
def RST_CAUSE_SELF : Row := ⟨541, 0x01000, 0x4, 1, 2, 1, .ro, 0x0, true, false, []⟩
/-- R469: RESET_N took part. -/
def RST_CAUSE_WARM : Row := ⟨542, 0x01000, 0x4, 1, 1, 1, .ro, 0x0, true, false, []⟩
/-- R469: Power-on reset took part. -/
def RST_CAUSE_COLD : Row := ⟨543, 0x01000, 0x4, 1, 0, 1, .ro, 0x1, true, false, []⟩
/-- R469: Cold resets since manufacture, wrapping; the BOOT field of R399. -/
def RST_COUNT_COLD : Row := ⟨544, 0x01004, 0x4, 1, 16, 16, .ro, 0x0, true, false, []⟩
/-- R469: Warm resets since cold reset; saturates. -/
def RST_COUNT_WARM : Row := ⟨545, 0x01004, 0x4, 1, 0, 16, .ro, 0x0, true, false, []⟩
/-- R469: Shadows valid (R451). -/
def RST_PRIMER_VALID : Row := ⟨546, 0x01008, 0x4, 1, 31, 1, .ro, 0x0, false, false, []⟩
/-- R469: R452, R453. -/
def RST_PRIMER_PRIMER_FAULT : Row := ⟨547, 0x01008, 0x4, 1, 30, 1, .ros, 0x0, true, false, []⟩
/-- R469: Failed loads before the one that ended, 0–3. -/
def RST_PRIMER_ATTEMPTS : Row := ⟨548, 0x01008, 0x4, 1, 16, 2, .ro, 0x0, false, false, []⟩
/-- R469: Duration of the last load, µs. -/
def RST_PRIMER_LOAD_US : Row := ⟨549, 0x01008, 0x4, 1, 0, 16, .ro, 0x0, false, false, []⟩
/-- R469: Duration of steps 1–9 of R449, ms. -/
def RST_START_MS : Row := ⟨550, 0x0100C, 0x4, 1, 0, 16, .ro, 0x0, false, false, []⟩
/-- R469: Start a block-alone reset (R454). -/
def RST_BLOCK_GO : Row := ⟨551, 0x01010, 0x4, 1, 31, 1, .wo, 0x0, false, false, []⟩
/-- R469: Block code (R455). -/
def RST_BLOCK_BLOCK : Row := ⟨552, 0x01010, 0x4, 1, 0, 8, .rw, 0x0, false, false, []⟩
/-- R469: Block-alone reset running. -/
def RST_BLOCK_STAT_BUSY : Row := ⟨553, 0x01014, 0x4, 1, 31, 1, .ro, 0x0, false, false, []⟩
/-- R469: The last block reported idle. -/
def RST_BLOCK_STAT_HANDSHAKE : Row := ⟨554, 0x01014, 0x4, 1, 16, 1, .ro, 0x0, true, false, []⟩
/-- R469: Block-alone resets; saturates. -/
def RST_BLOCK_STAT_COUNT : Row := ⟨555, 0x01014, 0x4, 1, 8, 8, .ro, 0x0, true, false, []⟩
/-- R469: Block of the last reset. -/
def RST_BLOCK_STAT_LAST : Row := ⟨556, 0x01014, 0x4, 1, 0, 8, .ro, 0x0, true, false, []⟩
/-- R469: Present level of WDT_OUT. -/
def WDT_STAT_LEVEL : Row := ⟨557, 0x01018, 0x4, 1, 31, 1, .ro, 0x0, true, false, []⟩
/-- R469: Watchdog expired (R457). -/
def WDT_STAT_EXPIRED : Row := ⟨558, 0x01018, 0x4, 1, 30, 1, .w1c, 0x0, true, false, []⟩
/-- R469: Watchdog armed. -/
def WDT_STAT_ARMED : Row := ⟨559, 0x01018, 0x4, 1, 29, 1, .ro, 0x0, false, false, []⟩
/-- R469: Expiries since cold reset; saturates. -/
def WDT_STAT_EXPIRIES : Row := ⟨560, 0x01018, 0x4, 1, 0, 16, .ro, 0x0, true, false, []⟩
/-- R469: 100–10,000 ms; a write outside the range is discarded. -/
def WDT_CFG_TIMEOUT_MS : Row := ⟨561, 0x0101C, 0x4, 1, 0, 16, .rwl, 0x3E8, true, false, [(100, 10000)]⟩
/-- R469: Warning in force (R184). -/
def PWR_STAT_WARN : Row := ⟨562, 0x01020, 0x4, 1, 31, 1, .ro, 0x0, true, false, []⟩
/-- R469: Warning hold (R464). -/
def PWR_STAT_HOLD : Row := ⟨563, 0x01020, 0x4, 1, 30, 1, .ro, 0x0, true, false, []⟩
/-- R469: 1 while PFW_N is low. -/
def PWR_STAT_PFW_LEVEL : Row := ⟨564, 0x01020, 0x4, 1, 29, 1, .ro, 0x0, false, false, []⟩
/-- R469: 1 while VIN is below 17.0 V. -/
def PWR_STAT_DETECTOR : Row := ⟨565, 0x01020, 0x4, 1, 28, 1, .ro, 0x0, false, false, []⟩
/-- R469: Input current limit acting. -/
def PWR_STAT_ILIMIT : Row := ⟨566, 0x01020, 0x4, 1, 27, 1, .ro, 0x0, false, false, []⟩
/-- R469: VIN, mV, measured every 1 ms. -/
def PWR_STAT_VIN_MV : Row := ⟨567, 0x01020, 0x4, 1, 0, 16, .ro, 0x0, false, false, []⟩
/-- R469: Input current, mA. -/
def PWR_INPUT_IIN_MA : Row := ⟨568, 0x01024, 0x4, 1, 16, 16, .ro, 0x0, false, false, []⟩
/-- R469: Input power, mW. -/
def PWR_INPUT_PIN_MW : Row := ⟨569, 0x01024, 0x4, 1, 0, 16, .ro, 0x0, false, false, []⟩
/-- R469: Junction, signed, 0.1 °C. -/
def THM_STAT_TJ : Row := ⟨570, 0x01030, 0x4, 1, 16, 16, .ro, 0x0, false, false, []⟩
/-- R469: Stage 0–3 (R467); 4–7 reserved. -/
def THM_STAT_STAGE : Row := ⟨571, 0x01030, 0x4, 1, 0, 3, .ro, 0x0, false, false, []⟩
/-- R469: Highest junction since cold reset, signed, 0.1 °C. -/
def THM_MAX_TJ : Row := ⟨572, 0x01034, 0x4, 1, 0, 16, .ro, 0x0, true, false, []⟩
/-- R469: Time in stages 1–3; saturates. -/
def THM_STAGE_S_SECONDS : Row := ⟨573, 0x01038, 0x4, 1, 0, 32, .ro, 0x0, true, false, []⟩
/-- R469: Inverse of CAL_STATUS.OSF. -/
def CLK_STAT_BKP_OK : Row := ⟨574, 0x02000, 0x4, 1, 7, 1, .ro, 0x0, true, false, []⟩
/-- R469: Recovered partner clock present. -/
def CLK_STAT_PTNR_OK : Row := ⟨575, 0x02000, 0x4, 1, 6, 1, .ro, 0x0, false, false, []⟩
/-- R469: Metrology crystal running. -/
def CLK_STAT_MET_OK : Row := ⟨576, 0x02000, 0x4, 1, 5, 1, .ro, 0x0, true, false, []⟩
/-- R469: PCIe reference present. -/
def CLK_STAT_PCIE_REF_OK : Row := ⟨577, 0x02000, 0x4, 1, 4, 1, .ro, 0x0, true, false, []⟩
/-- R469: Bit k: PLLk locked. -/
def CLK_STAT_PLL_LOCK : Row := ⟨578, 0x02000, 0x4, 1, 0, 4, .ro, 0x0, true, false, []⟩
/-- R469: Lock losses of PLL0; saturates. -/
def CLK_LOSS_PLL0 : Row := ⟨579, 0x02004, 0x4, 1, 24, 8, .ro, 0x0, true, false, []⟩
/-- R469: Lock losses of PLL1–PLL3; saturates. -/
def CLK_LOSS_PLL123 : Row := ⟨580, 0x02004, 0x4, 1, 16, 8, .ro, 0x0, true, false, []⟩
/-- R469: Metrology crystal losses; saturates. -/
def CLK_LOSS_MET : Row := ⟨581, 0x02004, 0x4, 1, 8, 8, .ro, 0x0, true, false, []⟩
/-- R469: Reference clock losses; saturates. -/
def CLK_LOSS_PCIE_REF : Row := ⟨582, 0x02004, 0x4, 1, 0, 8, .ro, 0x0, true, false, []⟩
/-- R484: Bad BAR0 and BAR2 accesses (R8, R417); saturates. -/
def BG_BADACC_COUNT : Row := ⟨583, 0x90000, 0x4, 1, 0, 32, .ro, 0x0, true, false, []⟩
/-- R484: Uncorrectable errors; saturates. -/
def SKIM_SRAM_UNCORR : Row := ⟨584, 0x90010, 0x4, 1, 16, 16, .ro, 0x0, true, false, []⟩
/-- R484: Corrected words; saturates. -/
def SKIM_SRAM_CORR : Row := ⟨585, 0x90010, 0x4, 1, 0, 16, .ro, 0x0, true, false, []⟩
/-- R484: As SKIM_SRAM, LPDDR4X. -/
def SKIM_DRAM_UNCORR : Row := ⟨586, 0x90014, 0x4, 1, 16, 16, .ro, 0x0, true, false, []⟩
/-- R484: As SKIM_SRAM, LPDDR4X. -/
def SKIM_DRAM_CORR : Row := ⟨587, 0x90014, 0x4, 1, 0, 16, .ro, 0x0, true, false, []⟩
/-- R484: As SKIM_SRAM, MRAM. -/
def SKIM_MRAM_UNCORR : Row := ⟨588, 0x90018, 0x4, 1, 16, 16, .ro, 0x0, true, false, []⟩
/-- R484: As SKIM_SRAM, MRAM. -/
def SKIM_MRAM_CORR : Row := ⟨589, 0x90018, 0x4, 1, 0, 16, .ro, 0x0, true, false, []⟩
/-- R484: R476. -/
def FLASH_STAT_WEAR_WARN : Row := ⟨590, 0x90030, 0x4, 1, 31, 1, .ro, 0x0, true, false, []⟩
/-- R484: Replacement blocks left. -/
def FLASH_STAT_SPARE : Row := ⟨591, 0x90030, 0x4, 1, 0, 11, .ro, 0x500, true, false, []⟩
/-- R484: Highest program/erase count of any trend block. -/
def FLASH_PE_MAX_PE : Row := ⟨592, 0x90034, 0x4, 1, 0, 32, .ro, 0x0, true, false, []⟩
/-- R484: Ingest over the last second, KiB/s. -/
def TREND_STAT_KIB_S : Row := ⟨593, 0x90038, 0x4, 1, 16, 16, .ro, 0x0, false, false, []⟩
/-- R484: Trend items configured, 0–4,096. -/
def TREND_STAT_ITEMS : Row := ⟨594, 0x90038, 0x4, 1, 0, 12, .ro, 0x0, true, false, []⟩
/-- R484: Entries dropped (R477); saturates. -/
def TREND_DROP_COUNT : Row := ⟨595, 0x9003C, 0x4, 1, 0, 32, .ro, 0x0, true, false, []⟩
/-- R484: Next page sequence; latches the high word per R9. -/
def TREND_NEXT_LO_SEQ_LO : Row := ⟨596, 0x90040, 0x4, 1, 0, 32, .ro, 0x0, true, false, []⟩
/-- R484: Bits [63:32]. -/
def TREND_NEXT_HI_SEQ_HI : Row := ⟨597, 0x90044, 0x4, 1, 0, 32, .ro, 0x0, true, false, []⟩
/-- R484: TREND_FLUSH_S from the image. -/
def TREND_CFG_FLUSH_S : Row := ⟨598, 0x90048, 0x4, 1, 0, 12, .ro, 0x3C, true, false, []⟩
/-- R484: Completed key-slot sweeps; saturates. -/
def SWEEP_KEYS_PASSES : Row := ⟨599, 0x90050, 0x4, 1, 16, 16, .ro, 0x0, true, false, []⟩
/-- R484: Slots unusable or orphaned at the last sweep. -/
def SWEEP_KEYS_BAD : Row := ⟨600, 0x90050, 0x4, 1, 0, 9, .ro, 0x0, false, false, []⟩
/-- R484: Completed recorder sweeps; saturates. -/
def SWEEP_EVR_PASSES : Row := ⟨601, 0x90054, 0x4, 1, 16, 16, .ro, 0x0, true, false, []⟩
/-- R484: Corrupt slots found (R481); saturates. -/
def SWEEP_EVR_CORRUPT : Row := ⟨602, 0x90054, 0x4, 1, 0, 16, .ro, 0x0, true, false, []⟩

/-- A piece of the register map. -/
def rows0 : List Row :=
  [GLB_ID_VENDOR, GLB_ID_PART, GLB_VER_STEP, GLB_VER_ROM_VER,
   GLB_UNIT_VALID, GLB_UNIT_ROLE, GLB_UNIT_PREFERRED, GLB_UNIT_PAIRED,
   GLB_UNIT_POSITION, GLB_ESTATE_ESTATE_ID, GLB_CTRL_LOCK_VIOL, GLB_CTRL_SETUP_LOCK,
   GLB_STATE_MAINT_CAUSE, GLB_STATE_STATE, TICK_CFG_VALID, TICK_CFG_PERIOD,
   TICK_ORIGIN_LO_SEC_LO, TICK_ORIGIN_HI_SEC_HI, TICK_EPOCH_LO_EPOCH_LO, TICK_EPOCH_HI_EPOCH_HI,
   TICK_STATUS_PINS, TICK_STATUS_PHASE, TICK_STATUS_NEAR_LIMIT, TICK_STATUS_SLEWING,
   TICK_STATUS_TIME_DEGRADED, TICK_STATUS_RUNNING, TICK_OVR_REENTRY, TICK_OVR_PUBLISH_ABANDON,
   TICK_OVR_OUT_ABORT, TICK_OVR_SCAN_OVR, TICK_OVR_MERGE_OVR, TICK_OVR_IN_SWEEP_OVR,
   TICK_OVR_IN_HARD_LIMIT, TICK_SCAN_MAX_MAX_US, TICK_SCAN_WIN_WIN_US, TICK_SWEEP_OUT_CYC,
   TICK_SWEEP_IN_CYC, TICK_CHECK_FAIL_COUNT, TICK_SKIPPED_EPOCHS, TICK_PIN_CFG_MAX_S]

/-- A piece of the register map. -/
def rows1 : List Row :=
  [TICK_START_CFG_LOCK_WAIT_S, TRW_STAT_IN_SERVICE, TRW_STAT_TASK, TRW_STAT_STATE,
   TRW_MISM_TOTAL, TRW_MISM_CONSEC, TRW_FAULT_TASK, TRW_FAULT_CAUSE,
   TRW_FAULT_ADDR, TRW_FAULT_CNT_COUNT, TRW_CLK_MAX_CLOCKS, TRW_CHK_RD_COUNT,
   TRW_OVF_CNT_COUNT, TRW_INSVC_ENGINES, TSK_CFG_VALID, TSK_CFG_GUARDED,
   TSK_CFG_ERROR_TASK, TSK_CFG_ENGINE, TSK_CFG_PRIO, TSK_CFG_PERIOD_K,
   TSK_SCHED_OFFSET, TSK_SCHED_NPRED, TSK_CODE_LO_START, TSK_CODE_HI_END,
   TSK_STAT_OVR_SEEN, TSK_STAT_STATE, TSK_SKIP_COUNT, TSK_OVR_COUNT,
   TSK_BUSY_MAX_CLOCKS, SBD_STAT_TRIPPED, SBD_STAT_CAUSE, SBD_STAT_TASK,
   SBD_STAT_LOOP, SBD_TRIP_EPOCH_LO_EPOCH_LO, SBD_TRIP_EPOCH_HI_EPOCH_HI, SBD_FEATHER_ACTIVE,
   SBD_RESTARTS_COUNT, MSK_STAT_PERSIST, MSK_STAT_USED, MSK_REFUSED_COUNT]

/-- A piece of the register map. -/
def rows2 : List Row :=
  [RCT_STAT_RESULT, RCT_STAT_IDLE_VALID, RCT_STAT_RUN_BANK, RCT_STAT_STATE,
   RCT_SWAP_LO_EPOCH_LO, RCT_SWAP_HI_EPOCH_HI, RCT_COUNTS_DISCARDED, RCT_COUNTS_NEW,
   RCT_COUNTS_MATCHED_K, TUP_STAT_QUEUED, TUP_STAT_APPLIED, FLT_STAT_IN_SERVICE,
   FLT_STAT_SLOT, FLT_STAT_STATE, FLT_MISM_TOTAL, FLT_MISM_CONSEC,
   FLT_FAULT_CAUSE, FLT_FAULT_SLOT, FLT_NUM_CNT_COUNT, FLT_CLK_MAX_CLOCKS,
   FLT_CHK_RD_COUNT, FLT_LOOPS_GUARDED, FLT_LOOPS_CONFIGURED, FLT_INSVC_ENGINES,
   LP_STAT_VALID, LP_STAT_GUARDED, LP_STAT_MODE, LP_STAT_FB,
   LP_STAT_REF_HELD, LP_STAT_AT_LIMIT, LP_STAT_OVR_SEEN, LP_STAT_STATE,
   LP_FB_AGE, LP_FB_LOST, LP_FB_SWITCHED, LP_OVR_SKIPS,
   LP_OVR_OVERRUNS, LP_FALLBACK_REJOINS, LP_FALLBACK_ENTRIES, TRC_STAT_ROWS]

/-- A piece of the register map. -/
def rows3 : List Row :=
  [TRC_STAT_TBASE, TRC_STAT_STATE, TRC_TRIG_LO_EPOCH_LO, TRC_TRIG_HI_EPOCH_HI,
   MET_STAT_RUN, MET_STAT_REG_LOST, MET_STAT_FREQ_LOCK, MET_STAT_PFW_ACTIVE,
   MET_STAT_ROVE_PHASE, MET_STAT_ROVE_CH, MET_FREQ_MHZ, MET_SEQ_LO_SEQ_LO,
   MET_SEQ_HI_SEQ_HI, MET_COMMIT_LAST_US, MET_COMMIT_FINAL_US, MET_PFW_WARNINGS,
   MET_PFW_RECOVERED, MET_SNAP_CTRL_TAKE, MET_SNAP_STAT_NOT_READY, MET_SNAP_STAT_NUMBER,
   MET_CAL_ROUNDS, MET_CAL_REJECTS, MET_OVR_COUNT, MET_OUTAGES_COUNT,
   MET_CH_CFG_ENABLE, MET_CH_CFG_SENSOR, MET_CH_CFG_GAIN, MET_CH_CFG_PHASE,
   MET_CH_STAT_OVERRANGE, MET_CH_STAT_CAL_SUSPECT, MET_CH_STAT_SUBSTITUTED, MET_CH_GAIN_GAIN,
   MET_CH_CALAGE_SECONDS, LANE_CFG_VALID, LANE_CFG_RETRY, LANE_CFG_SILENCE_MS,
   LANE_STAT_MASTER, LANE_STAT_SNOOP, LANE_STAT_HOLD_LINE, LANE_STAT_ERR_LINE]

/-- A piece of the register map. -/
def rows4 : List Row :=
  [LANE_PRESENT_CARRIERS, LANE_MISMATCH_CARRIERS, LANE_RETRIES_COUNT, LANE_CRC_FAIL_WR,
   LANE_CRC_FAIL_RD, LANE_HOLDS_COUNT, LANE_HOLD_LAST_EPOCH, LANE_HOLD_LAST_CARRIER,
   LANE_HOLD_LAST_CHANNEL, LANE_NAN_COUNT, PTR_CFG_VALID, PTR_CFG_REVERTIVE,
   PTR_CFG_START_WAIT_S, PTR_CFG_HOLDOFF_S, PTR_STAT_PARTNER_OK, PTR_STAT_HOLD_AUTH,
   PTR_STAT_PAIR_SUSPECT, PTR_STAT_FENCED, PTR_STAT_LINK_LANES, PTR_STAT_PAIR_STATE,
   PTR_STAT_HOLDOFF_LEFT_S, PTR_ROLE_EPOCH_LO_EPOCH_LO, PTR_ROLE_EPOCH_HI_EPOCH_HI, PTR_CHANGES_TAKEOVERS,
   PTR_CHANGES_TAKEBACKS, PTR_RESOLVE_OUTCOME, PTR_RESOLVE_STEP, PTR_RESOLVE_ENGINE,
   PTR_RESOLVE_ITEM, PTR_DECLARE_CAUSE, PTR_DECLARE_COUNT, PTR_DIGEST_MISM_COUNT,
   PTR_LINK_ERR_CRC, PTR_LINK_ERR_RESENT, PTR_RESYNC_DONE, PTR_RESYNC_FAILS,
   PTR_RESYNC_BACKLOG, PTR_RESYNC_MS_MS, PTR_LATE_COUNT, XCH_CFG_VALID]

/-- A piece of the register map. -/
def rows5 : List Row :=
  [XCH_CFG_DUAL, XCH_CFG_REPEAT, XCH_CFG_KEYGEN_TX, XCH_CFG_MTU,
   XCH_PORT_SERVICE, XCH_PORT_EXCHANGE, XCH_PUB_PUBSET, XCH_PUB_DG_LAST,
   XCH_TX_DG_COUNT, XCH_RX_DG_COUNT, XCH_RX_DROP_AUTH, XCH_RX_DROP_REPLAY,
   XCH_LATE_COUNT, XCH_INCOMPLETE_COUNT, XCH_SUBST_COUNT, XCH_LEVEL_WAITS,
   XCH_LEVEL_TIMEOUTS, XCH_LEVEL_MAX_US, PS_STAT_SESSIONS, PS_STAT_SUBS,
   PS_HANDSHAKE_FAIL_COUNT, PS_REQ_COUNT, FP_CFG_VALID, FP_CFG_MACSEC,
   FP_CFG_KIND, FP_CFG_KIND_SEG, FP_STAT_LINK, FP_STAT_MS_MASTER,
   FP_STAT_PAUSED, FP_STAT_TX_STOPPED, FP_MAC_LO_ADDR_LO, FP_MAC_HI_ADDR_HI,
   FP_TS_CORR_EGRESS_NS, FP_TS_CORR_INGRESS_NS, FP_TS_TRIM_EGR_TRIM, FP_TS_TRIM_ING_TRIM,
   FP_RX_OK_COUNT, FP_RX_ERR_FCS, FP_RX_ERR_CSUM, FP_RX_OVF_PRIORITY]

/-- A piece of the register map. -/
def rows6 : List Row :=
  [FP_RX_OVF_OTHER, FP_RX_FILT_COUNT, FP_TX_OK_COUNT, FP_TX_STALE_COUNT,
   FP_LINK_DOWNS_COUNT, FP_PAUSE_RX_COUNT, FP_PAUSE_US_US, FP_SEG_COUNT,
   FP_BIND_RX_COUNT, FP_BIND_SHORT_COUNT, MS_STAT_SECURED, MS_STAT_TX_AN,
   MS_STAT_REKEYS, MS_DROP_ICV, MS_DROP_REPLAY, MS_UNPROT_COUNT,
   PLCA_CTRL_EN, PLCA_CTRL_COORD, PLCA_CTRL_NODE_COUNT, PLCA_CTRL_LOCAL_ID,
   PLCA_TIMER_BURST_TMR, PLCA_TIMER_TO_TMR, PLCA_BURST_MAX_BC, PLCA_STAT_ACTIVE,
   PLCA_STAT_CSMA_FALLBACK, PLCA_BEACON_LOSS_COUNT, PLCA_CYCLE_MAX_US, PLCA_COLL_COUNT,
   CAN_CFG_VALID, CAN_CFG_MODE, CAN_CFG_TXPRIO, CAN_CFG_TRIPLE,
   CAN_CFG_PEX_EN, CAN_CFG_TIME_MASTER, CAN_CFG_SSP_EN, CAN_BITN_SEG1,
   CAN_BITN_SEG2, CAN_BITN_RJW, CAN_BITN_PRESC, CAN_BITD_SEG1]

/-- A piece of the register map. -/
def rows7 : List Row :=
  [CAN_BITD_SEG2, CAN_BITD_RJW, CAN_BITD_PRESC, CAN_SSP_LOOP,
   CAN_SSP_SSPO, CAN_ACPT_MISS_BASE, CAN_ACPT_MISS_EXT, CAN_ACPT_RMT_BASE,
   CAN_ACPT_RMT_EXT, CAN_ACPT_USED, CAN_ECR_REC, CAN_ECR_TEC,
   CAN_BUS_RECOV, CAN_BUS_ACTIVITY, CAN_BUS_ERR_DATA, CAN_BUS_ERR_LAST,
   CAN_BUS_WARN, CAN_BUS_STATE, CAN_EVT_EVENTS, CAN_EVT_EN_ENABLES,
   CAN_TXSTAT_ACTIVE, CAN_TXSTAT_CANCEL, CAN_TXSTAT_PEND, CAN_RXQ0_FILL,
   CAN_RXQ0_LOST, CAN_RXQ1_FILL, CAN_RXQ1_LOST, CAN_RX_OK_COUNT,
   CAN_RX_LATE_SHORT, CAN_RX_LATE_LATE, CAN_TX_OK_COUNT, CAN_TX_SKIP_COUNT,
   CAN_BUSOFF_ENTRIES, CAN_BUSOFF_RECOVERIES, CAN_STAMP_LO_NS_LO, CAN_STAMP_HI_NS_HI,
   CAN_TT_REF_XTD, CAN_TT_REF_ID, CAN_TT_STAT_REF_OK, CAN_TT_STAT_NCYC]

/-- A piece of the register map. -/
def rows8 : List Row :=
  [CAN_TT_STAT_CYCLE, CAN_TT_STAT_COLUMN, CAN_TT_STAT_REF_LOSSES, CAN_TT_CYC_CYC_US,
   CAN_TT_MISS0_SLOTS, CAN_TT_MISS1_SLOTS, CAN_TT_MISS2_SLOTS, CAN_TT_MISS3_SLOTS,
   CAN_TT_MISS4_SLOTS, CAN_TT_MISS5_SLOTS, CAN_TT_MISS6_SLOTS, CAN_TT_MISS7_SLOTS,
   NT_CFG_VALID, NT_CFG_DOMAIN, NT_CFG_ROLE, NT_CFG_PROFILE,
   NT_CFG_TRANSPORT, NT_STAT_TIME_DEGRADED, NT_STAT_SEED_INVALID, NT_STAT_SLAVE,
   NT_STAT_PORT1, NT_STAT_PORT0, NT_STAT_STATE, NT_CNT_LO_C_LO,
   NT_CNT_HI_C_HI, NT_CAP_CTRL_TAKE, NT_CAP_STAT_NOT_READY, NT_CAP_STAT_GEN,
   NT_CAP_CNT_LO_C_LO, NT_CAP_CNT_HI_C_HI, NT_CAP_NS_LO_NS_LO, NT_CAP_NS_HI_NS_HI,
   NT_RATE_RATE, NT_OFFSET_LAST_NS, PLB_KP_KP, PLB_KI_KI,
   PLB_STEP_NS_NS, PLB_LOCK_NS_NS, PLB_MAX_PPB_PPB, NT_EST_ERR_NS]

/-- A piece of the register map. -/
def rows9 : List Row :=
  [NT_STEPS_COUNT, NT_SPIKES_COUNT, NT_UTC_RX_VALID, NT_UTC_LEAP59,
   NT_UTC_LEAP61, NT_UTC_OFFSET, NT_PPS_CFG_OUT_WIDTH_MS, NT_PPS_CFG_IN_EN,
   NT_PPS_CFG_OUT_MODE, NT_PPS_IN_OFS_NS, NT_RTC_RTC_STEP_MS, NT_RTC_DIFF_US,
   NT_ASYM0_NS, NT_ASYM1_NS, BKP_SEC_SEC, BKP_FRAC_FRAC,
   BKP_CAL0_DOW, BKP_CAL0_HOUR, BKP_CAL0_MIN, BKP_CAL0_SEC,
   BKP_CAL1_YEAR, BKP_CAL1_MON, BKP_CAL1_DOM, BKP_LOC0_DOW,
   BKP_LOC0_HOUR, BKP_LOC0_MIN, BKP_LOC0_SEC, BKP_LOC1_YEAR,
   BKP_LOC1_MON, BKP_LOC1_DOM, BKP_ERA_ERA, BKP_OFFSET_MIN,
   CAL_STATUS_BUSY, CAL_STATUS_RANGE_END, CAL_STATUS_OSF, CAL_STATUS_INVALID,
   BKP_SET_SEC_SEC, BKP_SET_FRAC_FRAC, BKP_SET_CAL0_DOW, BKP_SET_CAL0_HOUR]

/-- A piece of the register map. -/
def rows10 : List Row :=
  [BKP_SET_CAL0_MIN, BKP_SET_CAL0_SEC, BKP_SET_CAL1_YEAR, BKP_SET_CAL1_MON,
   BKP_SET_CAL1_DOM, BKP_SET_CTRL_LOCAL, BKP_SET_CTRL_GO_CAL, BKP_SET_CTRL_GO_SEC,
   BKP_TRIM_TRIM, BKP_PWR_ON_VBAT, BKP_PWR_VBAT_LOW, BKP_PWR_SWITCHES,
   BKP_PWR_FAIL_SEC_SEC, BKP_PWR_FAIL_SUB_FRAC, BKP_PWR_FAIL_SUB_ERA, BKP_PWR_RET_SEC_SEC,
   BKP_PWR_RET_SUB_FRAC, BKP_PWR_RET_SUB_ERA, BKP_RST_SEC_SEC, BKP_RST_SUB_FRAC,
   BKP_RST_SUB_ERA, BKP_RST_KIND_KIND, ALM_TIME_DOW, ALM_TIME_HOUR,
   ALM_TIME_MIN, ALM_TIME_SEC, ALM_DATE_YEAR, ALM_DATE_MON,
   ALM_DATE_DOM, ALM_CTRL_EN, ALM_CTRL_WAKE, ALM_CTRL_CATCHUP,
   ALM_CTRL_TABLE, ALM_CTRL_MASK, ALM_STAT_REPEATED, ALM_STAT_SKIPPED_LOST,
   ALM_STAT_SKIPPED, ALM_STAT_FIRED, ALM_COUNT_COUNT, TMP_CFG_EN]

/-- A piece of the register map. -/
def rows11 : List Row :=
  [TMP_CFG_LEVEL, TMP_CFG_RESP, TMP_CFG_WAKE, TMP_CFG_PULL,
   TMP_CFG_FILTER, TMP_CFG_PERIOD, MESH_CFG_EN, MESH_CFG_FILTER,
   MESH_CFG_RATE_HZ, TMP_STAT_FULL, TMP_STAT_SUPPLY, TMP_STAT_MESH,
   TMP_STAT_INPUTS, TMP_TIME_SEC_SEC, TMP_TIME_SUB_FRAC, TMP_TIME_SUB_ERA,
   TMP_GEN_GEN, BKP_WIPE_BANKS, BKP_WAKE_SLEEP_FAIL, BKP_WAKE_WAKE_N_EN,
   BKP_WAKE_CAUSE, BKP_SLEEP_KEY, BKP_BYTES_DATA, SEC_BOOT_KEYS_RELEASED,
   SEC_BOOT_STAGE, SEC_BOOT_FALLBACK, SEC_BOOT_FW_SLOT, SEC_BOOT_TRIAL,
   SEC_BOOT_CFG_SLOT, SEC_SVN_CFG, SEC_SVN_FW, SEC_SVN_BL,
   SEC_OWNER_CLAIMED, SEC_OWNER_FW_REVOKED, SEC_OWNER_REVOKED, SEC_OWNER_CURRENT,
   SEC_MAINT_CAUSES, SEC_OPS_COUNT, SEC_REFUSED_COUNT, SEC_TAMPER_ABORTS_COUNT]

/-- A piece of the register map. -/
def rows12 : List Row :=
  [SEC_IMG_RESULT_RESULT, SEC_SLOT_BAD_SLOTS, SEC_SLOT_ORPH_SLOTS, SEC_BROWN_GEN_GEN,
   SEC_SLOTS_USED_COUNT, EVR_STAT_READY, EVR_STAT_FIFO_MAX, EVR_STAT_FIFO,
   EVR_NEXT_LO_SEQ_LO, EVR_NEXT_HI_SEQ_HI, EVR_FIRST_LO_SEQ_LO, EVR_FIRST_HI_SEQ_HI,
   EVR_CIRC_LO_SEQ_LO, EVR_CIRC_HI_SEQ_HI, EVR_DROPPED_COUNT, EVR_CORRUPT_COUNT,
   EVR_CLEARS_COUNT, HQ_CFG_ENABLE, HQ_CFG_BOUND, HQ_CFG_DOMAIN,
   HQ_CFG_PRIO, HQ_CFG_SQ_LOG2, HQ_CFG_CQ_LOG2, HQ_SQ_BASE_PAGE,
   HQ_CQ_BASE_PAGE, HQ_STAT_HALTED, HQ_STAT_ACTIVE, HQ_STAT_PINNED,
   HQ_STAT_CAUSE, HQ_STAT_SQ_HEAD, HQ_CQ_PHASE, HQ_CQ_TAIL,
   HQ_DONE_COUNT, HQ_FAULTS_COUNT, HQ_PREEMPT_COUNT, EQ_CFG_ENABLE,
   EQ_CFG_LOG2, EQ_CFG_OWNER_Q, EQ_CFG_DOMAIN, EQ_BASE_PAGE]

/-- A piece of the register map. -/
def rows13 : List Row :=
  [EQ_MASK_TYPES, EQ_STAT_STOPPED, EQ_STAT_PHASE, EQ_STAT_TAIL,
   EQ_LOST_COUNT, HQE_HALTED_LO_QUEUES, HQE_HALTED_HI_QUEUES, HQE_LINK_SPEED,
   HQE_LINK_WIDTH, ATC_ROOT_LO_ADDR, ATC_ROOT_HI_ADDR, ATC_FAULT_CAUSE,
   ATC_FAULT_PAGE, ATC_INV_CTRL_GO, ATC_INV_CTRL_ALL, ATC_INV_CTRL_QUEUE,
   ATC_INV_PAGE_FIRST, ATC_INV_COUNT_PAGES, ATC_INV_STAT_BUSY, ATC_HIT_COUNT,
   ATC_MISS_COUNT, RST_CAUSE_SELF, RST_CAUSE_WARM, RST_CAUSE_COLD,
   RST_COUNT_COLD, RST_COUNT_WARM, RST_PRIMER_VALID, RST_PRIMER_PRIMER_FAULT,
   RST_PRIMER_ATTEMPTS, RST_PRIMER_LOAD_US, RST_START_MS, RST_BLOCK_GO,
   RST_BLOCK_BLOCK, RST_BLOCK_STAT_BUSY, RST_BLOCK_STAT_HANDSHAKE, RST_BLOCK_STAT_COUNT,
   RST_BLOCK_STAT_LAST, WDT_STAT_LEVEL, WDT_STAT_EXPIRED, WDT_STAT_ARMED]

/-- A piece of the register map. -/
def rows14 : List Row :=
  [WDT_STAT_EXPIRIES, WDT_CFG_TIMEOUT_MS, PWR_STAT_WARN, PWR_STAT_HOLD,
   PWR_STAT_PFW_LEVEL, PWR_STAT_DETECTOR, PWR_STAT_ILIMIT, PWR_STAT_VIN_MV,
   PWR_INPUT_IIN_MA, PWR_INPUT_PIN_MW, THM_STAT_TJ, THM_STAT_STAGE,
   THM_MAX_TJ, THM_STAGE_S_SECONDS, CLK_STAT_BKP_OK, CLK_STAT_PTNR_OK,
   CLK_STAT_MET_OK, CLK_STAT_PCIE_REF_OK, CLK_STAT_PLL_LOCK, CLK_LOSS_PLL0,
   CLK_LOSS_PLL123, CLK_LOSS_MET, CLK_LOSS_PCIE_REF, BG_BADACC_COUNT,
   SKIM_SRAM_UNCORR, SKIM_SRAM_CORR, SKIM_DRAM_UNCORR, SKIM_DRAM_CORR,
   SKIM_MRAM_UNCORR, SKIM_MRAM_CORR, FLASH_STAT_WEAR_WARN, FLASH_STAT_SPARE,
   FLASH_PE_MAX_PE, TREND_STAT_KIB_S, TREND_STAT_ITEMS, TREND_DROP_COUNT,
   TREND_NEXT_LO_SEQ_LO, TREND_NEXT_HI_SEQ_HI, TREND_CFG_FLUSH_S, SWEEP_KEYS_PASSES]

/-- A piece of the register map. -/
def rows15 : List Row :=
  [SWEEP_KEYS_BAD, SWEEP_EVR_PASSES, SWEEP_EVR_CORRUPT]

/-- The whole register map. -/
def all : List Row :=
  rows0 ++
  rows1 ++
  rows2 ++
  rows3 ++
  rows4 ++
  rows5 ++
  rows6 ++
  rows7 ++
  rows8 ++
  rows9 ++
  rows10 ++
  rows11 ++
  rows12 ++
  rows13 ++
  rows14 ++
  rows15

/-- The low words of the two-register values (R9); the high word stands 4 bytes further on. -/
def lowWords : List Row :=
  [TICK_ORIGIN_LO_SEC_LO, TICK_EPOCH_LO_EPOCH_LO, SBD_TRIP_EPOCH_LO_EPOCH_LO, RCT_SWAP_LO_EPOCH_LO,
   TRC_TRIG_LO_EPOCH_LO, MET_SEQ_LO_SEQ_LO, PTR_ROLE_EPOCH_LO_EPOCH_LO, FP_MAC_LO_ADDR_LO,
   CAN_STAMP_LO_NS_LO, NT_CNT_LO_C_LO, NT_CAP_CNT_LO_C_LO, NT_CAP_NS_LO_NS_LO,
   EVR_NEXT_LO_SEQ_LO, EVR_FIRST_LO_SEQ_LO, EVR_CIRC_LO_SEQ_LO, HQE_HALTED_LO_QUEUES,
   ATC_ROOT_LO_ADDR, TREND_NEXT_LO_SEQ_LO]

end Reg

end Sys2Proof
end

