-- ==== Sys2Proof/Parts/Core.lean ====
section
/-! DEFINITION. The part of the state every unit shares: the register file, the free-running counter, the event
recorder, the event rings, and what has left the module. -/

namespace Sys2Proof

/-- Output lands whose level the chapters state (R446, R224, R339, R370). Log entries 4 (DESIGN CHOICE, unsafe); 53 (DESIGN
CHOICE, safe). -/
inductive Land
  | wdtOut | resetN | ptrHb | ptrOk | ptrMst | ptrRdy | ptrTrip | ptrFenceN | pwron | ppsOut | lnSync | lnClk
  | mesh0 | mesh1
  deriving DecidableEq, Repr, Inhabited

/-- A completion entry (R425). -/
structure Completion where
  tag : Nat
  /-- A status code (R267). -/
  status : Nat
  /-- 0 DONE, 1 FAULT, 2 ABANDONED. -/
  kind : Nat
  phase : Bool
  pinned : Bool
  inReq : Bool
  cause : Nat
  sqHead : Nat
  bytesDone : Nat
  faultPage : Nat
  deriving DecidableEq, Repr, Inhabited

/-- An event-ring entry (R428). -/
structure EqEntry where
  type : Nat
  phase : Bool
  source : Nat
  data0 : Nat
  epoch : Nat
  counter : Nat
  data1 : Nat
  deriving DecidableEq, Repr, Inhabited

/-- What leaves the module towards its host, its clients and its carrier's lands; the field buses, the lane and the
partner link keep their own lists. -/
inductive Out
  | msix (vector : Nat)
  | response (r : Req) (st : Status) (body : List Byte)
  | push (src : ReqSrc) (body : List Byte)
  | sessionClosed (n : Fin 32)
  | hostWrite (q : Nat) (addr : Nat) (bytes : List Byte)
  | completion (q : Nat) (slot : Nat) (c : Completion)
  /-- An entry of an event ring, and its 32 bytes (R428). -/
  | eqEntry (ring : Nat) (slot : Nat) (e : EqEntry) (bytes : List Byte)
  | land (l : Land) (level : Bool)
  | readData (addr : Nat) (v : Word)
  deriving DecidableEq, Repr, Inhabited

/-- An event record (R399). -/
structure Rec where
  seq : Nat
  wallSec : Nat
  wallFrac : Nat
  era : Nat
  mono : Nat
  code : Nat
  boot : Nat
  domain : Nat
  sev : Nat
  deferred : Bool
  payload : List Byte
  crc : Word
  deriving DecidableEq, Repr, Inhabited

/-- An event that waits for the recorder's start-up scan, with the stamp the backup domain latched for it (R400). -/
structure Waiting where
  code : Nat
  domain : Nat
  payload : List Byte
  stamp : Nat × Nat × Nat
  deriving DecidableEq, Repr, Inhabited

/-- The event recorder (R403 to R411): its MRAM slots, its FIFO oldest first, and what it counts. Log entry 4 (DESIGN CHOICE,
unsafe). -/
structure Recorder where
  slots : SMap Rec := []
  fifo : List Rec := []
  next : Nat := 0
  f0 : Nat := 0
  clears : Nat := 0
  /-- Dropped events not yet reported: count, first and last MONO (R405). -/
  dropped : Nat := 0
  dropFirst : Nat := 0
  dropLast : Nat := 0
  /-- The scan of this start-up is complete (R404): until then nothing is admitted. -/
  scanned : Bool := false
  waiting : List Waiting := []
  /-- Slots the sweep has counted as corrupt and that have not been written since (R481). -/
  counted : List Nat := []
  /-- Highest fill of the tick in progress and of the 1,023 before, newest first (R413). -/
  fills : List Nat := []
  deriving DecidableEq, Repr, Inhabited

/-- An event ring's pointers that no register shows (R428, R429): the host's head, and the losses not yet reported. -/
structure Ring where
  head : Nat := 0
  /-- Entries written and not yet consumed. -/
  used : Nat := 0
  lost : Nat := 0
  deriving DecidableEq, Repr, Inhabited

/-- The shared core of the module. -/
structure Core where
  /-- Register fields by `row * 1024 + item`; a field not listed has its cold value (R5). -/
  regs : SMap Nat := []
  /-- High words latched by a read of their low word, by address (R9). -/
  latch : SMap Nat := []
  /-- The free-running counter C, 4 ns a count (R325). -/
  c : Nat := 0
  /-- What has left the module, newest first. -/
  out : List Out := []
  evr : Recorder := {}
  rings : SMap Ring := []
  /-- Words of the MSI-X table, by byte offset (R430); and the pending bits. -/
  msixTable : SMap Nat := []
  msixPend : List Nat := []
  /-- The level of each output land (R446), newest setting first. -/
  lands : List (Land × Bool) := []
  /-- Position of the next free value (the model's own field, not the spec's). -/
  fresh : Nat := 0
  deriving DecidableEq, Repr, Inhabited

end Sys2Proof
end

