-- ==== Sys2Proof/Parts/Platform.lean ====
section
/-! DEFINITION. Reset, start-up, clocks and power, and background work (R442 to R484). -/

namespace Sys2Proof

/-- Resets, start-up and supplies beside their registers. -/
structure Plat where
  /-- Power-on reset asserted; RESET_N low. -/
  por : Bool := false
  rstLow : Bool := false
  /-- Sources of the reset that ended, until start-up reports them (R447, R448): cold, warm, self. -/
  srcCold : Bool := true
  srcWarm : Bool := false
  srcSelf : Bool := false
  /-- The start-up step in progress, 1 to 10 (R449); `none` while it is finished or a reset is asserted. -/
  step : Option Nat := some 1
  /-- This start-up is a cold one, until its step 9 has ended. -/
  cold : Bool := true
  /-- Failed primer loads in a row. -/
  fails : Nat := 0
  /-- Watchdog expiry latched in MRAM until its record is written: C and epoch (R457). -/
  expiry : Option (Nat × Nat) := none
  /-- The block a block-alone reset acts on. -/
  block : Option Nat := none
  /-- Clocks lost: code of R412 with the counter C at detection, and backup-domain time then. -/
  lost : List (Nat × Nat × Nat) := []
  /-- A PLL0 loss has stopped the module until relock. -/
  frozen : Bool := false
  /-- Counter C up to which THM_STAGE_S has booked the time in stages 1 to 3, and the junction is below 100 °C (R467). -/
  stageSince : Nat := 0
  cool : Bool := false
  /-- The module sleeps: PWRON low with no supply of VIN (R370). -/
  asleep : Bool := false
  /-- The tick in which a sleep request was accepted (R370). -/
  sleepReq : Option Nat := none
  /-- Shed because of a power-fail warning (R464). -/
  hold : Bool := false
  deriving DecidableEq, Repr, Inhabited

/-- A staged trend entry (R477). -/
structure TrendEntry where
  cell : Nat
  content : Cell
  epoch : Nat
  deriving DecidableEq, Repr, Inhabited

/-- Background work (R470 to R484). -/
structure Bg where
  items : List TrendItem := []
  /-- Entries staged for the next page, oldest first. -/
  staged : List TrendEntry := []
  /-- Last entry of each item: epoch and content. -/
  last : SMap (Nat × Cell) := []
  /-- Pages of the flash log, by page sequence. -/
  pages : SMap (List TrendEntry) := []
  /-- Blocks of the flash retired so far, which its block index keeps (R476). -/
  retired : Nat := 0
  /-- Entries staged in each of the last ticks, newest first (TREND_STAT.KIB_S). -/
  ingest : List Nat := []
  /-- What each system cell was last written with (R483). -/
  sys : SMap Nat := []
  deriving DecidableEq, Repr, Inhabited

end Sys2Proof
end

