-- ==== Sys2Proof/Machine/Ops.lean ====
section
/-! DEFINITION. The named operations over the shared core: register fields, counts that saturate, interrupts, lands,
the admission of event records, and the event rings. -/

namespace Sys2Proof

/-- Where a field of item `i` is kept. -/
def Row.key (r : Row) (i : Nat) : Nat := r.id * 1024 + i

/-- Read a register field. -/
def Core.fget (k : Core) (r : Row) (i : Nat := 0) : Nat := k.regs.atD (r.key i) r.cold

/-- Write a register field; bits beyond its width are lost. -/
def Core.fput (k : Core) (r : Row) (v : Nat) (i : Nat := 0) : Core :=
  { k with regs := k.regs.put (r.key i) (v % 2 ^ r.width) }

/-- A one-bit field. -/
def Core.flag (k : Core) (r : Row) (i : Nat := 0) : Bool := k.fget r i != 0

/-- Set a one-bit field. -/
def Core.setFlag (k : Core) (r : Row) (b : Bool) (i : Nat := 0) : Core := k.fput r (if b then 1 else 0) i

/-- A two's-complement field. -/
def Core.sget (k : Core) (r : Row) (i : Nat := 0) : Int := signedOf r.width (k.fget r i)

/-- Write a two's-complement field. -/
def Core.sput (k : Core) (r : Row) (v : Int) (i : Nat := 0) : Core := k.fput r (bitsOf r.width v) i

/-- Count: add `n` and stop at the largest value ("saturates"). -/
def Core.bump (k : Core) (r : Row) (i : Nat := 0) (n : Nat := 1) : Core := k.fput r (satAdd r.width (k.fget r i) n) i

/-- Set one bit of a bitmap field. -/
def Core.setBit (k : Core) (r : Row) (bit : Nat) (b : Bool) (i : Nat := 0) : Core :=
  let v := k.fget r i
  k.fput r (if b then v ||| 2 ^ bit else if v.testBit bit then v - 2 ^ bit else v) i

/-- A 64-bit value held in a low and a high register. -/
def Core.pair (k : Core) (lo hi : Row) (i : Nat := 0) : Nat := k.fget lo i + 2 ^ 32 * k.fget hi i

/-- Write a 64-bit value held in a low and a high register. -/
def Core.putPair (k : Core) (lo hi : Row) (v : Nat) (i : Nat := 0) : Core := (k.fput lo v i).fput hi (v / 2 ^ 32) i

/-- The epoch of the tick in progress (TICK_EPOCH, R52). -/
def Core.epoch (k : Core) : Nat := k.pair Reg.TICK_EPOCH_LO_EPOCH_LO Reg.TICK_EPOCH_HI_EPOCH_HI

/-- PLL `i` is locked (R459, R469). -/
def Core.pllOk (k : Core) (i : Nat) : Bool := (k.fget Reg.CLK_STAT_PLL_LOCK).testBit i

/-- The shared core as a command that started at `a` leaves it: C counts with time alone (R325). -/
def Core.after (a b : Core) : Core := { b with c := a.c }

/-- The platform as a command other than a reset and a start-up step leaves it: no reset is asserted or released, and start-up
stays where it stands, but that the end of the last maintenance cause runs it on from its step 8 (R397), and a firmware bundle
that the boot ROM accepts boots from step 4 (R381). -/
def runPlat (a b : Plat) : Plat :=
  { b with por := a.por, rstLow := a.rstLow, srcCold := a.srcCold, srcWarm := a.srcWarm, srcSelf := a.srcSelf, cold := a.cold
           fails := a.fails, step := if b.step = some 8 ∨ b.step = some 4 then b.step else a.step }

/-- What leaves the module. Log entry 10 (DESIGN CHOICE, safe). -/
def Core.emit (k : Core) (o : Out) : Core := { k with out := o :: k.out }

/-- The level a land is driven to; a land never driven is low, and PTR_FENCEO_N, RESET_N and PWRON are high (R368, R446). Log
entry 10 (DESIGN CHOICE, safe). -/
def Core.landLevel (k : Core) (l : Land) : Bool :=
  ((k.lands.find? fun p => p.1 == l).map (·.2)).getD (l == .ptrFenceN || l == .resetN || l == .pwron)

/-- Drive a land. Log entries 10 (DESIGN CHOICE, safe); 53 (DESIGN CHOICE, safe). -/
def Core.drive (k : Core) (l : Land) (v : Bool) : Core :=
  { k with lands := (l, v) :: k.lands.filter (fun p => p.1 != l) }.emit (.land l v)

/-- A land goes low, where it is not. -/
def Machine.lowerLand (k : Core) (l : Land) : Core := if k.landLevel l then k.drive l false else k

/-- A land goes high, where it is not. -/
def Machine.raiseLand (k : Core) (l : Land) : Core := if k.landLevel l then k else k.drive l true

/-- Vector Control of an MSI-X vector: bit 0 masks it, and it is 1 until host software clears it (R430). Log entry 14
(PRESUMED, unsafe). -/
def Core.msixMasked (k : Core) (v : Nat) : Bool := (k.msixTable.atD (16 * v + 12) 1).testBit 0

/-- Signal an MSI-X vector: the message, or its pending bit while it is masked (R430). Log entry 14 (PRESUMED, unsafe). -/
def Core.signal (k : Core) (v : Nat) : Core :=
  if k.msixMasked v then { k with msixPend := if k.msixPend.contains v then k.msixPend else v :: k.msixPend }
  else k.emit (.msix v)

/-- Take the next open value. Log entry 6 (DESIGN CHOICE, safe). -/
def Core.takeFree (k : Core) : Word × Core := (Config.freeWord k.fresh, { k with fresh := k.fresh + 1 })

/-! ### Event rings (R428, R429) -/

/-- An event-ring entry as its 32 bytes (R428). -/
def EqEntry.bytes (e : EqEntry) : List Byte :=
  le e.type 1 ++ le (if e.phase then 1 else 0) 1 ++ le e.source 2 ++ le e.data0 4 ++ le e.epoch 8 ++ le e.counter 8 ++ le e.data1 8

/-- Write one entry into ring `e`, which has a free slot. A range fault of the ring's address (R431), or a host answer the
spec leaves outside, stops the ring (R429). Log entry 94 (DESIGN CHOICE, safe). -/
def Core.ringWrite (k : Core) (e : Nat) (type source d0 d1 : Nat) : Core :=
  let q := k.fget Reg.EQ_CFG_OWNER_Q e
  let size := 2 ^ k.fget Reg.EQ_CFG_LOG2 e
  let tail := k.fget Reg.EQ_STAT_TAIL e % size
  let root := k.pair Reg.ATC_ROOT_LO_ADDR Reg.ATC_ROOT_HI_ADDR q
  if root = 0 ∨ k.fget Reg.EQ_BASE_PAGE e * 4096 + tail * 32 + 32 > 2 ^ 30 then
    (k.setFlag Reg.EQ_STAT_STOPPED true e).bump Reg.EQ_LOST_COUNT e
  else if Config.freeBool k.fresh then
    ({ k with fresh := k.fresh + 1 }.setFlag Reg.EQ_STAT_STOPPED true e).bump Reg.EQ_LOST_COUNT e
  else
    let ph := k.flag Reg.EQ_STAT_PHASE e
    let k := { k with fresh := k.fresh + 1 }
    let x : EqEntry := ⟨type, ph, source, d0, k.epoch, k.c, d1⟩
    let k := k.emit (.eqEntry e tail x x.bytes)
    let k := k.fput Reg.EQ_STAT_TAIL ((tail + 1) % size) e
    let k := if tail + 1 = size then k.setFlag Reg.EQ_STAT_PHASE (!ph) e else k
    let k := { k with rings := k.rings.alter e {} fun r => { r with used := r.used + 1 } }
    k.signal (64 + e)

/-- Offer an entry to ring `e`: lost and counted when the ring is stopped or full (R429). Log entry 94 (DESIGN CHOICE, safe).
-/
def Core.ringPost (k : Core) (e : Nat) (type source d0 d1 : Nat) : Core :=
  if !k.flag Reg.EQ_CFG_ENABLE e then k
  else if !(k.fget Reg.EQ_MASK_TYPES e).testBit type then k
  else
    let r := k.rings.atD e {}
    if k.flag Reg.EQ_STAT_STOPPED e then k.bump Reg.EQ_LOST_COUNT e
    else if r.used ≥ 2 ^ k.fget Reg.EQ_CFG_LOG2 e then
      { k with rings := k.rings.put e { r with lost := r.lost + 1 } }.bump Reg.EQ_LOST_COUNT e
    else k.ringWrite e type source d0 d1

/-- Offer an event of R428 to every ring whose domain may have it. -/
def Core.postEvent (k : Core) (type source d0 d1 : Nat) (may : Nat → Bool) : Core :=
  (List.range 16).foldl (fun k e => if may (k.fget Reg.EQ_CFG_DOMAIN e) then k.ringPost e type source d0 d1 else k) k

/-! ### Admission of event records (R399 to R405) -/

/-- Severity of a code, and whether it is marked Kept (R412). -/
def codeTable : List (Nat × Nat × Bool) :=
  [(0x0101, 2, false), (0x0102, 1, false), (0x0103, 2, false), (0x0104, 1, false), (0x0105, 1, false),
   (0x0201, 2, false), (0x0202, 1, false), (0x0203, 2, true), (0x0204, 0, false), (0x0205, 0, false),
   (0x0206, 0, false), (0x0207, 0, false), (0x0208, 2, false), (0x0301, 2, false), (0x0302, 1, false),
   (0x0303, 1, false), (0x0401, 1, false), (0x0402, 0, false), (0x0403, 1, true), (0x0404, 2, false),
   (0x0405, 0, false), (0x0501, 2, false), (0x0502, 2, false), (0x0601, 2, false), (0x0602, 1, true)] ++
  [(0x0603, 1, false), (0x0701, 1, false), (0x0801, 1, false), (0x0802, 1, false), (0x0803, 1, false),
   (0x0901, 2, false), (0x0A01, 1, false), (0x0B01, 1, true), (0x0B02, 0, false), (0x0B03, 0, false),
   (0x0B04, 3, true), (0x0B05, 0, false), (0x0C01, 3, false), (0x0C02, 0, false), (0x0C03, 3, false),
   (0x0C04, 2, false), (0x0D01, 3, true), (0x0D02, 1, false), (0x0E01, 1, false), (0x0F01, 1, true),
   (0x0F02, 2, false), (0x0F03, 2, false), (0x0F04, 1, false), (0x0F05, 2, true), (0x0F06, 2, false),
   (0x1001, 2, false)]

/-- Severity of a code (R412). -/
def sevOf (code : Nat) : Nat := ((codeTable.find? fun p => p.1 == code).map (·.2.1)).getD 0

/-- Whether a code may use the reserved FIFO entries (R405, R412). -/
def keptOf (code : Nat) : Bool := ((codeTable.find? fun p => p.1 == code).map (·.2.2)).getD false

/-- Backup-domain time: B, F, ERA (R345, R351). -/
def Core.wall (k : Core) : Nat × Nat × Nat :=
  (k.fget Reg.BKP_SEC_SEC, k.fget Reg.BKP_FRAC_FRAC, k.fget Reg.BKP_ERA_ERA)

/-- The 60 bytes a record's CRC covers (R399). -/
def Rec.bytes (r : Rec) : List Byte :=
  le r.seq 8 ++ le r.wallSec 4 ++ le r.wallFrac 2 ++ le r.era 2 ++ le r.mono 8 ++ le r.code 2 ++ le r.boot 2 ++
    le (r.domain + 1024 * r.sev + (if r.deferred then 4096 else 0)) 2 ++
    (r.payload ++ List.replicate 30 (0 : Byte)).take 30

/-- The 64 bytes of a record as it stands in MRAM (R399). -/
def Rec.image (r : Rec) : List Byte := r.bytes ++ le r.crc.toNat 4

/-- Whether a requester of domain `d` may read a record of domain `c` (R408). -/
def recReadable (d c : Nat) : Bool := d == 0 || c == 1 || (d ≥ 2 && c == d)

/-- An event finds no FIFO entry free to it (R405): counted, given no SEQ, vector 86 (R430). -/
def Core.dropEvent (k : Core) : Core :=
  let e := k.evr
  let k := { k with evr := { e with dropped := e.dropped + 1
                                    dropFirst := if e.dropped = 0 then k.c else e.dropFirst
                                    dropLast := k.c } }
  (k.bump Reg.EVR_DROPPED_COUNT).signal 86

/-- Give an event its record: SEQ, wall time, MONO and CRC are fixed here (R400, R405), and a record of severity 2 or 3 is
offered to the rings that may read it (R428). Log entry 88 (DESIGN CHOICE, unsafe). -/
def Core.pushRecord (k : Core) (code domain : Nat) (payload : List Byte) (deferred : Bool) (t : Nat × Nat × Nat) : Core :=
  let e := k.evr
  let r : Rec := { seq := e.next, wallSec := t.1, wallFrac := t.2.1, era := t.2.2, mono := k.c, code := code
                   boot := k.fget Reg.RST_COUNT_COLD, domain := domain, sev := sevOf code, deferred := deferred
                   payload := payload, crc := 0 }
  let r := { r with crc := Machine.crc32c r.bytes }
  let n := e.fifo.length + 1
  let fills := max n (e.fills.headD 0) :: e.fills.drop 1
  let noCirc := k.pair Reg.EVR_CIRC_LO_SEQ_LO Reg.EVR_CIRC_HI_SEQ_HI == e.next
  let k := { k with evr := { e with fifo := e.fifo ++ [r], next := e.next + 1, fills := fills } }
  let k := k.putPair Reg.EVR_NEXT_LO_SEQ_LO Reg.EVR_NEXT_HI_SEQ_HI (e.next + 1)
  let k := if noCirc then k.putPair Reg.EVR_CIRC_LO_SEQ_LO Reg.EVR_CIRC_HI_SEQ_HI (e.next + 1) else k
  let k := k.fput Reg.EVR_STAT_FIFO n
  let k := if n > k.fget Reg.EVR_STAT_FIFO_MAX then k.fput Reg.EVR_STAT_FIFO_MAX n else k
  if sevOf code ≥ 2 then k.postEvent 6 0 code r.seq (recReadable · domain) else k

/-- Free FIFO entries a code may use (R405). -/
def Core.evrRoom (k : Core) (code : Nat) : Bool :=
  k.evr.fifo.length + (if keptOf code then 0 else 32) < 1024

/-- An event with the wall time that belongs to it: admitted, dropped, or held for the start-up scan (R400, R404, R405). -/
def Core.recordAt (k : Core) (code domain : Nat) (payload : List Byte) (deferred : Bool) (t : Nat × Nat × Nat) : Core :=
  if !k.evr.scanned then
    if k.flag Reg.RST_BLOCK_STAT_BUSY && k.fget Reg.RST_BLOCK_STAT_LAST == 0x0C then k.dropEvent
    else { k with evr := { k.evr with waiting := k.evr.waiting ++ [⟨code, domain, payload, t⟩] } }
  else if k.evrRoom code then k.pushRecord code domain payload deferred t
  else k.dropEvent

/-- An event that happens now. -/
def Core.record (k : Core) (code domain : Nat) (payload : List Byte) : Core :=
  k.recordAt code domain payload false k.wall

/-! ### Module state (R13) -/

/-- GLB_STATE.STATE (R13). -/
def Core.state (k : Core) : Nat := k.fget Reg.GLB_STATE_STATE

/-- A key operation has been completed (SEC_OPS, R389, R398). Log entries 33 (DEDUCED, unsafe); 33 (DEDUCED, unsafe). -/
def Core.opDone (k : Core) : Core := k.bump Reg.SEC_OPS_COUNT

/-- Change GLB_STATE.STATE and MAINT_CAUSE; a change is offered to the rings and to vector 83 (R428, R430). -/
def Core.setState (k : Core) (st cause : Nat) : Core :=
  let old := k.state
  let oldc := k.fget Reg.GLB_STATE_MAINT_CAUSE
  if old = st ∧ oldc = cause then k
  else
    let k := (k.fput Reg.GLB_STATE_STATE st).fput Reg.GLB_STATE_MAINT_CAUSE cause
    (k.postEvent 4 0 (st + 256 * cause) old (fun _ => true)).signal 83

/-- The module runs as duty or single unit. -/
def Core.isStandby (k : Core) : Bool := k.fget Reg.GLB_UNIT_ROLE == 2

end Sys2Proof
end

