-- ==== Sys2Proof/Parts/Backup.lean ====
section
/-! DEFINITION. The backup domain beside its registers (R345 to R373). -/

namespace Sys2Proof

/-- A watched tamper source: consecutive active samples, or differing periods, up to now (R363, R364), and whether this run of
them has made its event. -/
structure TamperWatch where
  count : Nat := 0
  tripped : Bool := false
  deriving DecidableEq, Repr, Inhabited

/-- The backup domain. Log entry 5 (DESIGN CHOICE, unsafe). -/
structure Bkp where
  /-- Phase of the 32,768 Hz crystal against C, in 512 / 3,906,250 of a cycle a count (the model's own field). -/
  phase : Nat := 0
  /-- The trim accumulator, in 2^-24 s (R345). -/
  acc : Int := 0
  /-- Fraction units to insert (or, negative, to remove) in this second, and the place of the even spread (R345). -/
  corr : Int := 0
  err : Nat := 0
  /-- The frozen shadow of the time group: B, F, ERA, OFS (R349). -/
  shadow : Option (Nat × Nat × Nat × Int) := none
  /-- A window write on its way: address and word (R372). -/
  crossing : Option (Nat × Word) := none
  /-- The four static inputs, and the mesh (R363, R364). -/
  inputs : SMap TamperWatch := []
  mesh : TamperWatch := {}
  /-- The two LFSRs of the mesh (R364). -/
  lfsr0 : BitVec 32 := 0
  lfsr1 : BitVec 32 := 0
  /-- Highest local second that a backward step re-enters (R358). -/
  reenter : Option Int := none
  /-- A tamper event waits for its record (R366). -/
  tamperDue : Bool := false
  /-- PWRON is low and its 250 ms have not passed; a wake cause latched meanwhile (R371). -/
  lowMin : Bool := false
  wake : Bool := false
  deriving DecidableEq, Repr, Inhabited

end Sys2Proof
end

