-- ==== Sys2Proof/Parts/CanBus.lean ====
section
/-! DEFINITION. The CAN FD controllers beside their registers: message RAM, buffers, bindings and the time-triggered
schedule (R297 to R324). -/

namespace Sys2Proof

/-- A receive element (R306): the frame, the stencil that decided it (0xFF for none), its stamp, and its number in the
queue. -/
structure RxElement where
  el : CanElement
  stencil : Nat
  stamp : Int
  seq : Nat
  deriving DecidableEq, Repr, Inhabited

/-- A transmit buffer or time-triggered buffer (R312, R313, R319). -/
structure TxBuffer where
  el : CanElement := ⟨0, false, false, false, false, false, 0, []⟩
  pending : Bool := false
  /-- In transmission. -/
  active : Bool := false
  /-- A cancel waits on the attempt. -/
  cancel : Bool := false
  /-- Content that waits for the end of the attempt. -/
  next : Option CanElement := none
  deriving DecidableEq, Repr, Inhabited

/-- A transmit event (R315). -/
structure TxEvent where
  el : CanElement
  esi : Bool
  status : Nat
  buffer : Nat
  stamp : Int
  deriving DecidableEq, Repr, Inhabited

/-- A controller. -/
structure CanCtl where
  cfg : CanCfg := { ctl := 0 }
  q0 : List RxElement := []
  q1 : List RxElement := []
  /-- Number the next element of each queue takes. -/
  seq0 : Nat := 1
  seq1 : Nat := 1
  bufs : SMap TxBuffer := []
  /-- Transmit log, newest first, at most 16 (R315). -/
  log : List TxEvent := []
  /-- Receive bindings: epoch of the last frame, and those marked stale (R311). -/
  matched : SMap Nat := []
  stale : List Nat := []
  /-- Protocol exception (R297). -/
  exception : Bool := false
  /-- Not yet integrated since a reset, a fence or takeover (R322). -/
  joining : Bool := true
  /-- Listen-only because of the standby role, until a takeover's first bus idle (R322). -/
  listen : Bool := false
  /-- Bus idle after T0(K) has not been seen since the takeover (R322). -/
  enter : Bool := false
  /-- Stamp-counter adjustments made (R303). -/
  adjusts : Nat := 0
  /-- SOF stamp of the previous reference message, and whether the next one is discontinuous (DISC, R320). -/
  refSof : Option Int := none
  disc : Bool := true
  /-- Frames sent, newest first, with their buffers; 256 for a reference message. -/
  sent : List (Nat × CanElement) := []
  deriving DecidableEq, Repr, Inhabited

/-- The controllers. -/
structure Can where
  ctl : SMap CanCtl := []
  deriving DecidableEq, Repr, Inhabited

end Sys2Proof
end

