-- ==== Sys2Proof/Parts/Clock.lean ====
section
/-! DEFINITION. Network time: the mapping from the counter C, the plumb servo, and the PTP instance (R325 to R344). -/

namespace Sys2Proof

/-- A mapping (R326, R327): BASE_NT in units of 2^-16 ns, BASE_C, RATE, and its generation. -/
structure Mapping where
  base : Int := 0
  baseC : Nat := 0
  rate : Int := 0
  gen : Nat := 0
  deriving DecidableEq, Repr, Inhabited

/-- A PTP message the instance has sent (R330): its uplink, whether it goes out in a master role, and what a grandmaster
announces of itself: clock class, priority1, priority2 and clockAccuracy; and the UTC offset. -/
structure PtpOut where
  port : Nat
  master : Bool
  clockClass : Option Nat
  priority1 : Option (BitVec 8) := none
  priority2 : Option (BitVec 8) := none
  accuracy : Option (BitVec 8) := none
  utc : Int
  leap59 : Bool
  leap61 : Bool
  deriving DecidableEq, Repr, Inhabited

/-- Network time beside its registers. -/
structure Nt where
  map : Mapping := {}
  /-- The three generations before, newest first (R327). -/
  old : List Mapping := []
  /-- The integral term I in units of 2^-176 ppb (R333). -/
  integ : Int := 0
  /-- Consecutive measurements within PLB_LOCK_NS, and beyond 4 × PLB_LOCK_NS (R335). -/
  good : Nat := 0
  poor : Nat := 0
  /-- Consecutive spikes. -/
  spikes : Nat := 0
  /-- C at holdover entry, and abs(x) of the last measurement before it (R337). -/
  holdC : Nat := 0
  holdErr : Nat := 0
  lastX : Int := 0
  /-- Valid delay measurements of each uplink in 2^-16 ns, newest first, at most 16 (R331). -/
  delays : SMap (List Int) := []
  /-- Transmit stamp of each uplink's last PTP event message, and t1 and t2 of its last Sync, ns (R291, R331). -/
  sentAt : SMap Int := []
  syncs : SMap (Int × Int) := []
  /-- UTC offset received and valid (R340). -/
  utcRx : Option Int := none
  /-- The comparison before (R342): network time and difference in 2^-16 ns, and the trim set; none after a step. -/
  prev : Option (Int × Int × Int) := none
  /-- Trim needed as the last 16 comparisons measured it, in 2^-32 s/s, newest first (R342). -/
  needs : List Int := []
  sent : List PtpOut := []
  deriving DecidableEq, Repr, Inhabited

end Sys2Proof
end

