-- ==== Sys2Proof/Parts/Custody.lean ====
section
/-! DEFINITION. The security core's part of the state: OTP fields, key slots, firmware and configuration slots, the
operations it has queued (R374 to R398). -/

namespace Sys2Proof

/-- A key slot (R386); `okA` and `okB` say whether the check of its copy holds. -/
structure KeySlot where
  active : Bool := false
  coat : Nat := 0
  purpose : Nat := 0
  alg : Nat := 0
  parent : Nat := 0xFFFF
  use : Nat := 0
  gen : Nat := 0
  parentGen : Nat := 0
  tag : Nat := 0
  imported : Bool := false
  /-- MATERIAL: the wrapped key of an imported slot (R386). -/
  material : List Byte := []
  okA : Bool := true
  okB : Bool := true
  deriving DecidableEq, Repr, Inhabited

/-- The one-time-programmable fields the rules use (R374). Log entry 3 (DESIGN CHOICE, unsafe). -/
structure Otp where
  /-- ROOT, 48 bytes; only the derivations read it. -/
  root : List Byte := List.replicate 48 0
  serial : Nat := 1
  /-- The MAC address of each port (R295). -/
  macs : List Nat := [0x020000000000, 0x020000000001, 0x020000000002, 0x020000000003]
  fwHash : List (Option Nat) := [some 1, none, none, none]
  fwRevoked : List (Fin 4) := []
  ownerHash : List Nat := []
  ownerRevoked : List Nat := []
  /-- SVN_BL, SVN_FW, SVN_CFG: the burned bits of the anti-rollback counters (R375). -/
  svnBl : BitVec 64 := 0
  svnFw : BitVec 64 := 0
  svnCfg : BitVec 64 := 0
  deriving DecidableEq, Repr, Inhabited

/-- A firmware slot: the headers of its two images (R379). -/
structure FwSlot where
  stage1 : ImageFile
  firmware : ImageFile
  deriving DecidableEq, Repr, Inhabited

/-- A key operation the security core has queued (R389). -/
inductive KeyOp
  | sealing (number domain : Nat)
  | attest (r : Req) (nonce : List Byte)
  | challenge (r : Req) (bytes : List Byte)
  deriving DecidableEq, Repr, Inhabited

/-- The security core. Log entry 4 (DESIGN CHOICE, unsafe). -/
structure Sec where
  otp : Otp := {}
  slots : SMap KeySlot := []
  fw : List (Option FwSlot) := [none, none]
  /-- Preferred firmware slot (MRAM). -/
  fwPref : Nat := 0
  /-- The slot marked TRIAL, and whether it has been tried since its mark. -/
  trial : Option (Nat × Bool) := none
  /-- Configuration slots with the SEQ that MRAM records of each. -/
  cfg : List (Option ImageFile) := [none, none]
  /-- Highest SEQ accepted for kinds 3 and 4 (R378). -/
  seqMax : Nat := 0
  /-- Highest signed current epoch accepted, by command code (R269). -/
  replay : SMap Nat := []
  ops : List KeyOp := []
  /-- The running configuration image carries ADVANCE, and its SVN (R383). -/
  runSeq : Nat := 0
  runSvn : Nat := 0
  runAdvance : Bool := false
  deriving DecidableEq, Repr, Inhabited

end Sys2Proof
end

