-- ==== Sys2Proof/Parts/Image.lean ====
section
/-! DEFINITION. The point image: its two buffers, the pinned epochs, the writes that wait for the next tick, and the
definitions of the cells (R26 to R32). -/

namespace Sys2Proof

/-- A holder's hold on a pin: who, for which epoch, and the counter C when it was taken (R31). `snap` marks the hold a
halted or overrun read took by itself (R32, R438). -/
structure Hold where
  who : ReqSrc
  since : Nat
  snap : Bool := false
  deriving DecidableEq, Repr, Inhabited

/-- A pinned epoch (R31). -/
structure Pin where
  epoch : Nat
  cells : SMap Cell
  holds : List Hold
  deriving DecidableEq, Repr, Inhabited

/-- A host or point-service write that waits for the next tick (R30), and the epoch of the tick that accepted it. -/
structure HostWrite where
  cell : Nat
  value : Word
  accepted : Nat
  deriving DecidableEq, Repr, Inhabited

/-- The point image. Cells are keyed as R57 encodes them: owned cells below 0x1000, mirror slot i at 0x1000 + i. A cell
exists when it stands in `working` (R27). -/
structure Img where
  working : SMap Cell := []
  published : SMap Cell := []
  /-- The conditions of R20 that hold of each cell, as quality codes. -/
  conds : SMap (List Nat) := []
  /-- The epoch the published buffer holds. -/
  pubEpoch : Option Nat := none
  /-- Cells whose content changed in the epoch being built. -/
  changed : List Nat := []
  /-- Cells that changed in the published epochs, newest first, kept for the repeat depth (R254). -/
  hist : List (List Nat) := []
  pins : List Pin := []
  writes : List HostWrite := []
  defs : SMap CellDef := []
  mirror : SMap MirrorDef := []
  /-- Epoch of the last check-failure record of each cell (R24). -/
  failSeen : SMap Nat := []
  deriving DecidableEq, Repr, Inhabited

/-- The tick sequencer beside its registers (R36 to R51). -/
structure Seq where
  /-- Bursts of the input sweep still to be made. -/
  inLeft : List BurstDef := []
  /-- Bursts of the output sweep still to be made. -/
  outLeft : List BurstDef := []
  /-- Lane channels whose cells no input burst of this tick has renewed yet, and the lane cycles used. -/
  inCycles : Nat := 0
  outCycles : Nat := 0
  /-- The counter C at the LN_SYNC of the last executed epoch: L of R48. -/
  syncC : Nat := 0
  /-- An epoch has been executed since the sequencer last started. -/
  started : Bool := false
  /-- The sequencer waits for its first screed instant (R49): the counter C when the wait began. -/
  waitFrom : Option Nat := none
  /-- The instant, in ns of network time, at which the module got its time base (R49). -/
  base : Option Int := none
  /-- The next epoch to execute where it is not the one after the last (R48, R240), and M of the re-entry that decided it. -/
  next : Option Nat := none
  stepM : Option Nat := none
  /-- What is left of a realignment, in ns (R47). -/
  realign : Int := 0
  /-- Measured scan and control times, µs, newest first (R52). -/
  scans : List Nat := []
  near : Nat := 0
  far : Nat := 0
  /-- The metrology results of this tick have been entered (R168). -/
  metDone : Bool := false
  /-- The input sweep of this tick has ended. -/
  inDone : Bool := false
  outStarted : Bool := false
  swapped : Bool := false
  /-- Next cell the age visit looks at (R51). -/
  visit : Nat := 0
  deriving DecidableEq, Repr, Inhabited

end Sys2Proof
end

