-- ==== Sys2Proof/Parts/LaneBus.lean ====
section
/-! DEFINITION. The I/O lane: the carriers on it as their duties make them behave, and what the lane writer keeps
(R196 to R221). -/

namespace Sys2Proof

/-- A carrier as the lane has seen it (R203, R204, R207, R211, R214, R216, R220). Log entry 46 (DESIGN CHOICE, unsafe). -/
structure Carrier where
  /-- Identity words 0 to 39 (R211). -/
  ident : List LWord := []
  /-- Input words latched at the last LN_SYNC. -/
  latched : SMap LWord := []
  /-- Pending buffer; a channel not listed is empty. -/
  waiting : SMap LWord := []
  /-- Applied outputs; a channel not listed is in its safe state. -/
  applied : SMap LWord := []
  /-- Lane-silence time in ms, and outputs enabled (R214). -/
  silence : Nat := 65535
  enabled : Bool := false
  /-- Status bits 1 to 4 (R220), and write CRC failures, wrapping. -/
  status : LWord := 0
  crcFails : LWord := 0
  deriving DecidableEq, Repr, Inhabited

/-- The lane beside its registers. -/
structure LaneBus where
  carriers : SMap Carrier := []
  /-- Carriers whose probe matched and whose CFG_WR is still to be written (R213): silence written, enable written. -/
  joining : SMap (Bool × Bool) := []
  /-- Carriers that join at the next tick (R213). -/
  joinNext : List Nat := []
  /-- Reference word of each counter channel, by carrier * 128 + channel (R215). -/
  refs : SMap LWord := []
  /-- Carriers whose last successful STAT_RD showed bit 2 or 3 (R220). -/
  faulty : List Nat := []
  /-- Status bits read and still to be cleared (R220). -/
  clearDue : SMap LWord := []
  /-- Epoch of the last burst-failure record of each carrier (R206). -/
  failSeen : SMap Nat := []
  /-- A held word has been recorded in this tick (R209). -/
  heldSeen : Bool := false
  /-- ECHO_RD bursts requested and not yet made (R219): carrier, channel, words. -/
  echoes : List (Nat × Nat × Nat) := []
  /-- The counter C at the last LN_SYNC, for the carriers' silence (R216). -/
  syncC : Nat := 0
  /-- The first epoch in which a carrier is probed again, and carriers whose CFG_WR has failed once (R213). -/
  nextProbe : SMap Nat := []
  retried : List Nat := []
  /-- How far the service window of the tick has come (R219), and the carrier the next STAT_RD turns to. -/
  step : Nat := 0
  turn : Nat := 0
  deriving DecidableEq, Repr, Inhabited

end Sys2Proof
end

