-- ==== Sys2Proof/Parts/Metering.lean ====
section
/-! DEFINITION. The metrology front end, its registers and the ferroelectric register store (R158 to R195). -/

namespace Sys2Proof

/-- What an accumulation point keeps beside its block: the run of opposite samples (R175), and its demand interval: C at
its start and whether it is IRREGULAR (R176, R177). -/
structure PointExtra where
  run : Nat := 0
  startC : Nat := 0
  irregular : Bool := false
  deriving DecidableEq, Repr, Inhabited

/-- What a thermal channel keeps beside its block: the direction of its edges and the run against it, the error time below 1
ms, and the quality and VALUE of its cells at the latest input sweep (R194). Log entry 130 (DESIGN CHOICE, unsafe). -/
structure ThermalExtra where
  dir : Bool := false
  run : Nat := 0
  errUs : Nat := 0
  supply : Option Cell := none
  ret : Option Cell := none
  dirCell : Option Cell := none
  deriving DecidableEq, Repr, Inhabited

/-- The waves of the channels (R158 to R167), newest sample first: what each converter's decimator delivered, in nV at its input;
the samples in use, in nV or nA of what is measured; the integrators' own state; and of the cycle in progress the squares by
channel, the products v·i and v_h·i by phase, and its samples. `since` is the time from the last crossing to the latest sample in
2^-32 samples, `clock` the part of an unlocked cycle gone by, `cycles` and `wide` the cycles and samples of the harmonic window.
`ratio` and `delay` are the PARALLEL transfer (R163). -/
structure Waves where
  raw : SMap (List Int) := []
  used : SMap (List Int) := []
  integ : SMap Nat := []
  squares : SMap Nat := []
  sums : SMap (Int × Int) := []
  n : Nat := 0
  crossed : Bool := false
  since : Nat := 0
  clock : Nat := 0
  cycles : Nat := 0
  wide : Nat := 0
  ratio : Word := 0x3F800000
  delay : Int := 0
  deriving DecidableEq, Repr, Inhabited

/-- A snapshot with the seal records made of it so far, by domain (R189, R190). -/
structure MeterSnap where
  number : Nat
  trigger : Nat
  regLost : Bool
  image : CommitImage
  domains : List Nat
  seals : List (Nat × List Byte) := []
  deriving DecidableEq, Repr, Inhabited

/-- A snapshot trigger that waits for the next commit (R189): its code, RESET_MAX and the point mask. -/
structure SnapDue where
  trigger : Nat
  resetMax : Bool := false
  mask : Nat := 0
  deriving DecidableEq, Repr, Inhabited

/-- An outage record (R188). START and END are 64-bit backup-domain times. -/
structure Outage where
  number : Nat
  start : Nat
  fin : Nat
  warned : Nat
  seq : Nat
  flags : Nat
  unmeteredMs : Nat
  deriving DecidableEq, Repr, Inhabited

/-- Metrology beside its registers. Log entry 4 (DESIGN CHOICE, unsafe). -/
structure Met where
  cfg : MeterCfg := {}
  points : List PointBlock := []
  extra : List PointExtra := []
  thermal : List ThermalBlock := []
  thermalExtra : List ThermalExtra := []
  samples : Nat := 0
  /-- C and network time (WALL) of the last sample. -/
  lastC : Nat := 0
  lastWall : Nat := 0
  wave : Waves := {}
  /-- Products of each phase, newest first, by element * 4 + phase: v·i and v_h·i in 10^-12 µW (R165). -/
  products : SMap (List (Int × Int)) := []
  /-- Latest cycle values: Irms by channel in nA, S by point in 10^-12 µVA; frequency in mHz; consecutive cycles at 10 % of Un. -/
  irms : SMap Nat := []
  apparent : SMap Nat := []
  mhz : Nat := 50000
  okCycles : Nat := 0
  /-- Channels clipped in the cycle and in the harmonic window in progress (R169). -/
  clipCycle : List Nat := []
  clipWindow : List Nat := []
  /-- Results by cell: those stamped since the last screed instant, and those not later than it (R168). -/
  ready : SMap (Word × List Nat) := []
  due : SMap (Word × List Nat) := []
  /-- Commit slots A and B; `none` fails its check (R180, R182). -/
  slotA : Option CommitImage := none
  slotB : Option CommitImage := none
  seq : Nat := 0
  /-- FLAGS of the next commit. -/
  flags : Nat := 0
  /-- The next commit clears STATUS bits 0 and 1 (R181). -/
  clearStatus : Bool := false
  snapsDue : List SnapDue := []
  snaps : List MeterSnap := []
  snapNo : Nat := 0
  /-- The next snapshot is marked REG_LOST (R183). -/
  lostMark : Bool := false
  /-- Pending accumulators of a warning, one list of eight per point, and thermal forward and reverse (R185). -/
  pend : List (List AccReg) := []
  pendThermal : List (AccReg × AccReg) := []
  /-- WALL and C of the warning sample; a warning waits for its sample (R184). -/
  warned : Option (Nat × Nat) := none
  warnDue : Bool := false
  /-- A warning came, and neither its clearing nor an outage record has followed (R188). -/
  warnSeen : Bool := false
  outages : List Outage := []
  outageNo : Nat := 0
  /-- Coefficients of each channel, consecutive rejects, C at the last accepted calibration (R164). -/
  gains : SMap Word := []
  /-- The two copies of the coefficients in the ferroelectric store, each with its sequence number (R179). -/
  calA : Option (Nat × SMap Word) := none
  calB : Option (Nat × SMap Word) := none
  rejects : SMap Nat := []
  calC : SMap Nat := []
  /-- On a standby: what the samples and edges after the mirrored image have added, newest first, each with its WALL: the
  energies of every point's registers in units of 2^-32, and a thermal channel's additions (R245). -/
  trail : List (Nat × List (List Nat)) := []
  trailThermal : List (Nat × Nat × ThermalBlock) := []
  mirror : Option CommitImage := none
  /-- Sampling stopped by a block-alone reset (R187). -/
  blocked : Bool := false
  deriving DecidableEq, Repr, Inhabited

end Sys2Proof
end

