-- ==== Sys2Proof/Parts/Partner.lean ====
section
/-! DEFINITION. Redundant pairs (R222 to R246): the partner link and what the two units agree on. -/

namespace Sys2Proof

/-- A command the duty has sent to its standby and not yet applied (R232). -/
structure Sent where
  /-- SEQ of its frame. -/
  id : Nat
  r : Req
  c : Passed
  deriving DecidableEq, Repr, Inhabited

/-- Frames the unit sends on the partner link (R229). -/
inductive PFrame
  | input (epoch : Nat) (items : List InputItem)
  | close (epoch : Nat) (items : List InputItem) (fallbacks : List Nat) (digest : Word)
  | command (c : Passed) (apply : Nat)
  | ack (id : Nat) (st : Status) (cause : Cause)
  | digest (epoch : Nat) (d : Digest)
  | meter (half : Fin 2) (img : CommitImage)
  | query (kind item : Nat)
  | reply (kind item : Nat) (data : List Word)
  | state (part : StatePart)
  | role (m : RoleMsg)
  deriving DecidableEq, Repr, Inhabited

/-- A frame as it is sent (R228): its SEQ, the epoch it belongs to, and whether it is a retransmission. -/
structure PSent where
  seq : Nat
  epoch : Nat
  again : Bool := false
  frame : PFrame
  deriving DecidableEq, Repr, Inhabited

/-- One epoch a joining unit has buffered (R241): its snooped lane reads (carrier, first channel, words), its INPUT and CLOSE
items, what CLOSE said, COMMANDs, and the duty's digest. -/
structure Buffered where
  epoch : Nat
  reads : List (Nat × Nat × List LWord) := []
  items : List InputItem := []
  closed : Option (List Nat × Word) := none
  /-- COMMANDs: SEQ, content, application epoch. -/
  cmds : List (Nat × Passed × Nat) := []
  digest : Option Digest := none
  deriving DecidableEq, Repr, Inhabited

/-- A divergence being resolved (R235): its epoch, the step reached, the engine and the item located so far, and what
the replays showed. -/
structure Resolve where
  epoch : Nat
  step : Nat
  engine : Nat := 0
  item : Nat := 0
  /-- Engines whose commit digests differ, and the partner's item digests of those it has answered for (R235 step 2). -/
  asked : List Nat := []
  theirs : List (Nat × List Word) := []
  /-- This unit's replay equals the partner's original and not its own; one of its pages fails (R235). -/
  replay : Option Bool := none
  page : Option Bool := none
  deriving DecidableEq, Repr, Inhabited

/-- The pair's part of the state. -/
structure Pair where
  /-- Commands sent and not acknowledged, oldest first. -/
  cmds : List Sent := []
  /-- SEQ of the last COMMAND applied (R233), and of the last one accepted, which counts as applied from the next tick on. -/
  lastApplied : Nat := 0
  accepted : Nat := 0
  /-- COMMANDs a standby has acknowledged and applies at their application epoch (R232): content and epoch. -/
  agreed : List (Command × Nat) := []
  /-- Bytes of a recoat image, and those received by COMMAND chunks so far, on a standby (R244). -/
  load : Option (Nat × Nat) := none
  /-- What the partner last reported to have verified (R117). -/
  partner : Option StaticId := none
  /-- Frames sent, newest first, the next SEQ, and how often a SEQ was sent again (R228). -/
  sent : List PSent := []
  /-- SEQ of the frames acknowledged to the partner, newest first (R228). -/
  acks : List Nat := []
  /-- The commit image whose first METER frame has come (R229). -/
  half : Option CommitImage := none
  txSeq : Nat := 0
  resends : SMap Nat := []
  /-- SEQ of received frames, newest first, to drop a repeated one. -/
  rxSeen : List Nat := []
  /-- Levels of the sideband inputs (R226). -/
  okIn : Bool := false
  mstIn : Bool := false
  rdyIn : Bool := false
  fenceIn : Bool := false
  /-- PTR_OK_I has fallen since this unit fenced its partner (R240). -/
  okFell : Bool := false
  /-- The link is silent. -/
  silent : Bool := true
  /-- Inputs of the epoch on their way to the standby's image (R230). -/
  inputs : List InputItem := []
  /-- Bytes of this tick's digests: inputs read, sweep words, and entries committed by each engine (R233). -/
  inBytes : List Byte := []
  outBytes : List Byte := []
  commits : SMap (List Byte) := []
  /-- Commit digest of each task and slot of the last executed tick, and of the tick in progress, by engine * 128 + item, in
  dispatch order (R233). -/
  items : List (Nat × Word) := []
  itemsNow : List (Nat × Word) := []
  /-- What the targets of those commits held before, as entries of each task or slot: of the last executed tick, and of the
  tick in progress (R233). -/
  prior : List (Nat × List Byte) := []
  priorNow : List (Nat × List Byte) := []
  /-- EVIDENCE bits of this tick (R233). -/
  evidence : List Nat := []
  /-- Own and received DIGEST of an epoch. -/
  own : Option (Nat × Digest) := none
  peer : Option (Nat × Digest) := none
  resolve : Option Resolve := none
  /-- C at the last undecided outcome (R236). -/
  undecided : Option Nat := none
  /-- Consecutive sweeps without the standby's readiness (R233). -/
  lateRun : Nat := 0
  notReady : Bool := false
  /-- A takeover declared, with its cause; a takeback agreed, with its epoch; a takeback proposed (R239, R243). -/
  declared : Option Nat := none
  takeback : Option Nat := none
  proposed : Option Nat := none
  /-- A re-entry the duty has announced: next epoch (R244). -/
  reentry : Option Nat := none
  /-- Resynchronisation (R241): stage 1 to 4 and 0 for none; on a duty 2 while a snapshot is due; epochs buffered, C at the start. -/
  stage : Nat := 0
  backlog : List Buffered := []
  /-- What the duty's answer to the static check holds. -/
  target : Option StaticId := none
  startC : Nat := 0
  /-- CLOSE of the tick in progress has arrived (R231). -/
  closed : Option Nat := none
  /-- Hold-off runs from this C (R242). -/
  holdFrom : Option Nat := none
  /-- A non-preferred unit waits for its partner at start-up (R223). -/
  waiting : Bool := false
  deriving DecidableEq, Repr, Inhabited

end Sys2Proof
end

