-- ==== Sys2Proof/Parts/Ports.lean ====
section
/-! DEFINITION. The frame ports beside their registers, and the values that wait for the entry point of their tick
(R277 to R296, R311). -/

namespace Sys2Proof

/-- A TCP or UDP send as the protocol engines hand it to a port (R287): one Ethernet header with its tag, one IPv6 header, one TCP or
UDP header, up to 65,535 bytes of payload, and the segment size SEG. -/
structure Send where
  eth : List Byte
  ip : List Byte
  l4 : List Byte
  payload : List Byte
  seg : Nat
  deriving DecidableEq, Repr, Inhabited

/-- What stands in a transmit queue (R284, R287): TQ0 PTP, TQ1 an exchange datagram, TQ2 point service and network control
(neighbour advertisements for the position address, MLDv2 reports, MKA), TQ3 bulk transfers. `n` is the session of a send, `done`
counts its payload bytes already cut into segments, and `upd` is what its end frees in the session's send buffer. -/
inductive TxItem
  | ptp
  | exchange (d : Datagram)
  | service (n upd : Nat) (x : Send) (done : Nat)
  | advert
  | mld (groups : List Nat)
  | mka
  | bulk (n : Nat) (x : Send) (done : Nat)
  deriving DecidableEq, Repr, Inhabited

/-- The transmit queue an item stands in (R284). -/
def TxItem.queue : TxItem → Nat
  | .ptp => 0 | .exchange _ => 1 | .service .. => 2 | .advert => 2 | .mld _ => 2 | .mka => 2 | .bulk .. => 3

/-- A frame a port has sent (R278): its bytes from destination address to before the FCS, and its transmit stamp in ns (R291). -/
structure TxFrame where
  port : Nat
  item : TxItem
  data : List Byte := []
  stamp : Int := 0
  deriving DecidableEq, Repr, Inhabited

/-- MACsec on an uplink (R289, R290): the transmit packet number, and of each of up to four receive channels its SCI with the next
packet number expected of each association it has. -/
structure MacsecPort where
  pn : Nat := 1
  rekey : Bool := false
  exhausted : Bool := false
  rx : List (BitVec 64 × SMap Nat) := []
  deriving DecidableEq, Repr, Inhabited

/-- A converted value that waits for the entry point of its tick (R294, R311). -/
structure InCell where
  cell : Nat
  value : Word
  src : Nat
  epoch : Nat
  stamp : Int
  /-- The tick at whose entry point it enters. -/
  entry : Nat
  deriving DecidableEq, Repr, Inhabited

/-- The frame ports. -/
structure Net where
  /-- Items of each port, oldest first. -/
  txq : SMap (List TxItem) := []
  /-- Frames sent, newest first. -/
  sent : List TxFrame := []
  /-- C at which the pause in progress began, by port, and its length in counts (R285). -/
  pauses : SMap (Nat × Nat) := []
  /-- Epoch of the last long-pause record of each port (R285). -/
  pauseSeen : SMap Nat := []
  macsec : SMap MacsecPort := []
  /-- Occupancy of each port's receive buffer (R283). -/
  rx : SMap RxRoom := []
  /-- Frames a segment has sent in its present PLCA cycle (R281). -/
  inCycle : SMap Nat := []
  inbox : List InCell := []
  /-- Stamp of the frame each cell was last written from (R38). -/
  stamps : SMap Int := []
  /-- Epoch of the last match of each frame binding, and bindings marked stale (R294). -/
  matched : SMap Nat := []
  stale : List Nat := []
  /-- C at the last PLCA beacon of each segment, and the cycles of the last 1,024 ticks: epoch and µs (R281). -/
  beaconC : SMap Nat := []
  cycles : SMap (List (Nat × Nat)) := []
  /-- Ports whose transmission the fence or start-up has stopped (R295). -/
  fenced : Bool := false
  quiet : Bool := true
  deriving DecidableEq, Repr, Inhabited

end Sys2Proof
end

