-- ==== Sys2Proof/Parts/Service.lean ====
section
/-! DEFINITION. The estate exchange and the point service (R247 to R276). -/

namespace Sys2Proof

/-- The replay window of one sender (R253). -/
structure Window where
  hi : Nat
  seen : List Nat
  deriving DecidableEq, Repr, Inhabited

/-- A LEVEL wait in progress (R259). -/
structure LevelWait where
  sub : Nat
  /-- The counter C at the end of the merge. -/
  since : Nat
  deriving DecidableEq, Repr, Inhabited

/-- The estate exchange beside its registers. -/
structure Xch where
  subs : List SubDef := []
  /-- Replay windows, by position + 1,024 for the other unit of a pair. -/
  windows : SMap Window := []
  /-- Accepted datagrams held for their merge (R255). -/
  held : List Datagram := []
  /-- Slots confirmed, by slot (R257). -/
  confirmed : List Nat := []
  /-- Freshness epoch of each slot (R142, R256). -/
  fresh : SMap Nat := []
  /-- The last cell received for each slot since start-up (R256, R260). -/
  received : SMap Cell := []
  /-- Slots that hold a substitute (R260). -/
  subbed : List Nat := []
  /-- Slots of a subscription that stood confirmed after its last complete set (R257). -/
  lastConf : SMap (List Nat) := []
  /-- Consecutive substituted ticks of each slot (R260), and of each subscription (R261). -/
  runs : SMap Nat := []
  subRuns : SMap Nat := []
  /-- Epoch of the last complete set of each publisher (R257). -/
  complete : SMap Nat := []
  /-- The PUB_ID last received from each publisher (R249). -/
  pubIds : SMap Nat := []
  waits : List LevelWait := []
  /-- Error tasks to trigger at the next merge (R261). -/
  triggers : List (Fin 16) := []
  /-- The merge of this epoch has started; datagrams of the epoch before it are late (R255). -/
  mergedEpoch : Option Nat := none
  /-- This unit's datagram counter, and the value saved in MRAM (R252). -/
  ctr : Option Nat := none
  ctrSaved : Option Nat := none
  /-- KEYGEN of the image that set the generation, and the generation in use since a roll (R253, R391). -/
  keyBase : Option Nat := none
  keyNow : Option Nat := none
  /-- Generation accepted beside the current one, and a switch that waits for its epoch (R253, R391). -/
  keyPrev : Option Nat := none
  keySwitch : Option (Nat × Nat) := none
  /-- The next publish carries the whole published set (R254). -/
  fullDue : Bool := true
  /-- Cells whose datagrams an abandoned publish never sent (R44). -/
  unsent : List Nat := []
  /-- LEVEL waits measured: epoch and µs, newest first (R276). -/
  levels : List (Nat × Nat) := []
  deriving DecidableEq, Repr, Inhabited

/-- A session or queue subscription (R273). -/
structure Subscription where
  number : Nat
  k : Nat
  ranges : List (Nat × Nat)
  /-- Cells as last delivered. -/
  sent : SMap Cell := []
  first : Bool := true
  skipped : Nat := 0
  coalesced : Bool := false
  deriving DecidableEq, Repr, Inhabited

/-- A request in a session's line (R265, R271): its REQ_ID, its TYPE, whether its response is remembered, and its answer once there
is one. -/
structure LineEntry where
  id : Word
  type : Nat := 0
  kept : Bool := false
  answer : Option (Status × List Byte) := none
  deriving DecidableEq, Repr, Inhabited

/-- A point-service session (R262 to R274). `line` holds its requests in order. -/
structure Session where
  domain : Nat
  /-- The uplink it was opened on. -/
  port : Nat := 0
  /-- The module presented its identity certificate chain, slot 9 being unusable (R262). -/
  identity : Bool := false
  line : List LineEntry := []
  subs : List Subscription := []
  memory : List (Word × Status × List Byte) := []
  /-- Bytes of the 64 KiB send buffer in use (R273). -/
  buffered : Nat := 0
  deriving DecidableEq, Repr, Inhabited

/-- An open image transfer (R274). -/
structure Transfer where
  src : ReqSrc
  kind : Nat
  total : Nat
  received : Nat := 0
  /-- END has been asked, with its request, and verification runs. -/
  ended : Option Req := none
  deriving DecidableEq, Repr, Inhabited

/-- A SNAPSHOT held for a future epoch (R270). -/
structure HeldSnapshot where
  r : Req
  epoch : Nat
  pin : Bool
  ranges : List (Nat × Nat)
  deriving DecidableEq, Repr, Inhabited

/-- The point service. -/
structure Svc where
  sessions : SMap Session := []
  transfer : Option Transfer := none
  held : List HeldSnapshot := []
  /-- Denials by domain, readable by domain 0 only (R35). -/
  denials : SMap Nat := []
  deriving DecidableEq, Repr, Inhabited

/-- The step of a descriptor a fault has stopped (R436, R437). -/
inductive HaltStep
  | fetch | request | response | complete | doorbell
  deriving DecidableEq, Repr, Inhabited

/-- The descriptor in progress on a queue (R421 to R427). -/
structure Progress where
  d : Descriptor
  /-- Bytes of the request body read. -/
  reqRead : Nat := 0
  /-- The request has been applied (at most once, R423). -/
  applied : Bool := false
  /-- The response, once it is decided, and the bytes of it written. -/
  answer : Option (Status × List Byte) := none
  sent : Nat := 0
  /-- The epoch a SNAPSHOT has fixed (R438). -/
  epoch : Option Nat := none
  /-- Subscription an UPDATE_WAIT waits for; controller and buffer a CAN_TX waits for, and whether its content waits for the attempt before it; echo a LANE_ECHO waits for. -/
  waitSub : Option Nat := none
  waitCan : Option (Nat × Nat × Bool) := none
  waitEcho : Option (Nat × Nat × Nat) := none
  deriving DecidableEq, Repr, Inhabited

/-- A queue pair beside its registers (R420 to R438). -/
structure Queue where
  sqTail : Nat := 0
  cqHead : Nat := 0
  /-- Completion entries written and not consumed. -/
  cqUsed : Nat := 0
  cur : Option Progress := none
  halt : Option HaltStep := none
  /-- The IOVA page of the present halt (R436). -/
  haltPage : Nat := 0
  /-- Completion entries decided and not yet written, oldest first. -/
  entries : List Completion := []
  subs : List Subscription := []
  /-- Updates that wait for an UPDATE_WAIT. -/
  updates : List (Nat × List Byte) := []
  buffered : Nat := 0
  deriving DecidableEq, Repr, Inhabited

/-- A cached translation (R432): queue, IOVA page, host page, and its R and W bits. -/
structure AtcEntry where
  q : Nat
  page : Nat
  host : Nat
  r : Bool
  w : Bool
  deriving DecidableEq, Repr, Inhabited

/-- The host queue engine. -/
structure Hq where
  queues : SMap Queue := []
  /-- The translation cache, most recently used first. -/
  atc : List AtcEntry := []
  /-- The queue the data mover served last (R434). -/
  last : Option Nat := none
  /-- The invalidation in progress: its queue, whether it takes all pages, the first page and the number of pages (R433). -/
  inv : Option (Nat × Bool × Nat × Nat) := none
  deriving DecidableEq, Repr, Inhabited

end Sys2Proof
end

