-- ==== Sys2Proof/Machine/State.lean ====
section
/-! DEFINITION. The state of the module, its faults and refusals, and the state right after power-on reset. -/

namespace Sys2Proof.Machine

/-- The module: the commands that wait, oldest first, and every unit's state. Register fields stand in `core.regs`. -/
structure State where
  pending : List Instr := []
  core : Core := {}
  /-- The running configuration image. -/
  cfg : Image := {}
  img : Img := {}
  seq : Seq := {}
  trw : Trw := {}
  flt : Flt := {}
  cmd : Cmd := {}
  met : Met := {}
  lane : LaneBus := {}
  pair : Pair := {}
  xch : Xch := {}
  svc : Svc := {}
  hq : Hq := {}
  net : Net := {}
  can : Can := {}
  nt : Nt := {}
  bkp : Bkp := {}
  sec : Sec := {}
  plat : Plat := {}
  bg : Bg := {}
  deriving DecidableEq, Repr, Inhabited

/-- No meaning of this block faults; the one name stands for a state that cannot be entered (nobody raises it; safe). -/
inductive Fault
  | none
  deriving DecidableEq, Repr, Inhabited

/-- Refusals. -/
inductive Refusal
  /-- A command whose meaning is not written: raised by the arms of `exec` only; safe, since nothing follows from it. -/
  | notModelled (mnemonic : String)
  deriving DecidableEq, Repr, Inhabited

/-- What a command answers. -/
abbrev Answer := Host.Outcome State Fault Refusal

/-- The machine right after power-on reset: every register field at its cold value (R5), start-up at its first step (R449).
Log entries 3 (DESIGN CHOICE, unsafe); 4 (DESIGN CHOICE, unsafe); 5 (DESIGN CHOICE, unsafe); 112 (DESIGN CHOICE, safe). -/
def State.reset : State := {}

end Sys2Proof.Machine
end

