-- ==== Sys2Proof/Machine/Cells.lean ====
section
/-! DEFINITION. The operations over the point image: the check value, reading with its verification, sealing, writing,
marking, the dado filter, pins, and host writes (R15 to R35). -/

namespace Sys2Proof

/-- Low 32 bits of an epoch, as cells carry it (R50). -/
def ep32 (n : Nat) : Word := BitVec.ofNat 32 n

/-- Epoch `a` is newer than `b` by serial-number arithmetic (R50). -/
def newer (a b : Word) : Bool := let d := (a - b).toNat; 1 ≤ d && d ≤ 2 ^ 31 - 1

/-- Bits [95:0] of a cell as 12 bytes (R15). -/
def Cell.body (c : Cell) : List Byte :=
  le c.value.toNat 4 ++ [c.qual, BitVec.ofNat 8 (c.kind.toNat + 16 * c.flags.toNat)] ++
    le (c.domain.toNat + 1024 * c.src.toNat) 2 ++ le c.epoch.toNat 4

/-- A cell as 16 bytes (R15). -/
def Cell.image (c : Cell) : List Byte := c.body ++ le c.check.toNat 4

/-- The check value of a cell under an estate point ID (R22). -/
def checkOf (pid : Nat) (c : Cell) : Word := Machine.crc32c (c.body ++ le pid 3)

/-- Remake the check (R23). -/
def Cell.sealed (c : Cell) (pid : Nat) : Cell := { c with check := checkOf pid c }

/-- What "content" means when the chapters ask whether a cell changed: everything but EPOCH and CHECK. Log entry 21 (DESIGN
CHOICE, unsafe). -/
def Cell.content (c : Cell) : Cell := { c with epoch := 0, check := 0 }

end Sys2Proof

namespace Sys2Proof.Machine

/-- Run an operation of the shared core. Log entry 1 (DESIGN CHOICE, unsafe). -/
def State.onCore (s : State) (f : Core → Core) : State := { s with core := f s.core }

/-- Write an event record (R399 to R405). -/
def State.record (s : State) (code domain : Nat) (payload : List Byte) : State := s.onCore (·.record code domain payload)

/-- The epoch of the tick in progress. -/
def State.epoch (s : State) : Nat := s.core.epoch

/-- The estate point ID of a place of the image (R22): its own position, or the publisher's for a mirror slot. -/
def State.pointId (s : State) (a : Nat) : Nat :=
  if a < 0x1000 then s.core.fget Reg.GLB_UNIT_POSITION * 4096 + a
  else match s.img.mirror.at? a with
    | some m => m.position * 4096 + m.cell
    | none => 0

/-- The conditions that hold of a cell (R20). -/
def State.conds (s : State) (a : Nat) : List Nat := s.img.conds.atD a []

/-- A cell is forced (R108). Log entry 22 (DESIGN CHOICE, unsafe). -/
def State.isForced (s : State) (a : Nat) : Bool := (s.cmd.forces.at? a).isSome

/-- Store a cell in the working buffer with the conditions that hold of it. -/
def State.store (s : State) (a : Nat) (c : Cell) (conds : List Nat) : State :=
  { s with img := { s.img with working := s.img.working.put a c, conds := s.img.conds.put a conds } }

/-- The unit is one of a pair. -/
def State.paired (s : State) : Bool := s.core.flag Reg.GLB_UNIT_PAIRED

/-- The epoch a frame belongs to (R228): the one it names, else the tick in progress. -/
def State.frameEpoch (s : State) : PFrame → Nat
  | .input e _ => e
  | .close e .. => e
  | .digest e _ => e
  | .meter _ c => c.epoch
  | _ => s.epoch

/-- Send a frame on the partner link (R228). -/
def State.sendFrame (s : State) (f : PFrame) : State :=
  if s.paired then
    { s with pair := { s.pair with sent := { seq := s.pair.txSeq, epoch := s.frameEpoch f, frame := f } :: s.pair.sent
                                   txSeq := s.pair.txSeq + 1 } }
  else s

/-- A bit of this tick's EVIDENCE (R233). -/
def State.evidence (s : State) (bit : Nat) : State :=
  if s.core.flag Reg.GLB_UNIT_PAIRED then { s with pair := { s.pair with evidence := bit :: s.pair.evidence } } else s

/-- Report a failed check (R24): counted, and one record for the first failure of the cell in any 1,024 ticks. -/
def State.checkFailed (s : State) (a place : Nat) (domain : Nat) : State :=
  let s := s.onCore (·.bump Reg.TICK_CHECK_FAIL_COUNT)
  let s := if place = 1 then s.evidence 12 else s
  let n := s.epoch
  if (s.img.failSeen.at? a).all (fun e => n ≥ e + 1024) then
    { s with img := { s.img with failSeen := s.img.failSeen.put a n } }.record 0x0101 domain
      (le (s.pointId a) 4 ++ le n 8 ++ le place 1)
  else s

/-- Seal a cell of the working buffer (R24): BAD_CHECK, VALUE, EPOCH and FLAGS kept, CHECK remade. -/
def State.sealCell (s : State) (a : Nat) (c : Cell) : State :=
  s.store a ({ c with qual := BitVec.ofNat 8 Qual.check }.sealed (s.pointId a)) (Qual.check :: s.conds a)

/-- Read and verify a cell of the working buffer at a place of R24: the cell as it stands afterwards, and whether its
check held. A cell that does not exist reads as none. -/
def State.readCell (s : State) (a place : Nat) : Option (Cell × Bool) × State :=
  match s.img.working.at? a with
  | none => (none, s)
  | some c =>
    if c.check = checkOf (s.pointId a) c then (some (c, true), s)
    else
      let s := (s.sealCell a c).checkFailed a place c.domain.toNat
      (some (s.img.working.atD a default, false), s)

/-- KIND and DOMAIN of an owned cell or a mirror slot (R18, R26). -/
def State.kindDomain (s : State) (a : Nat) : BitVec 4 × BitVec 10 :=
  match s.img.mirror.at? a, s.img.defs.at? a, s.img.working.at? a with
  | some m, _, _ => (m.kind, m.domain)
  | none, some d, _ => (d.kind, d.domain)
  | none, none, some c => (c.kind, c.domain)
  | none, none, none => (0, 0)

/-- The conditions a write leaves: the writer's, and out of service while the image says so (R19). -/
def State.writeConds (s : State) (a : Nat) (conds : List Nat) : List Nat :=
  if (s.img.defs.at? a).any (·.oos) then Qual.oos :: conds else conds

/-- Form a cell (R15, R18, R20): VALUE by kind, KIND and DOMAIN of the definition, QUAL and FLAGS of the conditions. -/
def State.formCell (s : State) (a : Nat) (value : Word) (conds : List Nat) (src epoch : Nat) : Cell :=
  let kd := s.kindDomain a
  let v := if kindOf kd.1 = .bool then value &&& 1 else value
  { value := v, qual := BitVec.ofNat 8 (Qual.govern conds), kind := kd.1, flags := Qual.flagsOf conds, domain := kd.2
    src := BitVec.ofNat 6 src, epoch := ep32 epoch : Cell }.sealed (s.pointId a)

/-- A writer's write into the working buffer; dropped and counted while the cell is forced (R108), and nothing where the
cell does not exist. -/
def State.writeCell (s : State) (a : Nat) (value : Word) (conds : List Nat) (src epoch : Nat) : State :=
  if (s.img.working.at? a).isNone then s
  else if s.isForced a then s.onCore (·.bump Reg.MSK_REFUSED_COUNT)
  else
    let cs := s.writeConds a conds
    s.store a (s.formCell a value cs src epoch) cs

/-- The sequencer changes the conditions of a cell only (R23): verified first, then remade; VALUE and EPOCH kept. -/
def State.markCell (s : State) (a : Nat) (f : List Nat → List Nat) : State :=
  match s.readCell a 2 with
  | (some (c, true), s) =>
    let cs := f (s.conds a)
    s.store a ({ c with qual := BitVec.ofNat 8 (Qual.govern cs), flags := Qual.flagsOf cs }.sealed (s.pointId a)) cs
  | (_, s) => s

/-- A cell gets an EPOCH (R51): verified first, its VALUE, QUAL and FLAGS kept, its check remade. -/
def State.restamp (s : State) (a : Nat) (epoch : Word) : State :=
  match s.readCell a 2 with
  | (some (c, true), s) => s.store a ({ c with epoch := epoch }.sealed (s.pointId a)) (s.conds a)
  | (_, s) => s

/-- Add a condition (R20). -/
def addCond (q : Nat) (cs : List Nat) : List Nat := if cs.contains q then cs else q :: cs

/-- End a condition (R20). -/
def dropCond (q : Nat) (cs : List Nat) : List Nat := cs.filter (· != q)

/-- Mark every cell of a list with a condition. -/
def State.markCells (s : State) (cells : List Nat) (q : Nat) : State := cells.foldl (fun s a => s.markCell a (addCond q)) s

/-! ### The dado filter (R33 to R35) -/

/-- A requester of domain `d` may read the cell. -/
def State.mayRead (s : State) (d a : Nat) : Bool :=
  match s.img.published.at? a with
  | none => false
  | some c => d == 0 || c.domain.toNat == 1 || (c.domain.toNat == d && !(0xF00 ≤ a && a ≤ 0xFFF))

/-- A requester of domain `d` may write the cell; forcing is answered apart (R33). -/
def State.mayWrite (s : State) (d a : Nat) : Bool :=
  match s.img.working.at? a with
  | none => false
  | some c => a < 0xF00 && (d == 0 || (2 ≤ d && c.domain.toNat == d))

/-- Count a denial of a domain (R35). -/
def State.deny (s : State) (d : Nat) : State :=
  { s with svc := { s.svc with denials := s.svc.denials.alter d 0 (· + 1) } }

/-- Read one published cell as it leaves at a place of R24; a failed check seals the image's cells and the sealed cell
goes out (R23, R25). -/
def State.readPublished (s : State) (a place : Nat) : Option Cell × State :=
  match s.img.published.at? a with
  | none => (none, s)
  | some c =>
    if c.check = checkOf (s.pointId a) c then (some c, s)
    else
      let sc := { c with qual := BitVec.ofNat 8 Qual.check }.sealed (s.pointId a)
      let s := { s with img := { s.img with published := s.img.published.put a sc } }
      let s := match s.img.working.at? a with
        | some w => if w = c then s.sealCell a w else s
        | none => s
      (some sc, s.checkFailed a place c.domain.toNat)

/-- Read one cell out of a pinned epoch (R23, R24 place 0x04). -/
def State.readPinned (s : State) (epoch a : Nat) : Option Cell × State :=
  match (s.img.pins.find? (·.epoch == epoch)).bind (·.cells.at? a) with
  | none => (none, s)
  | some c =>
    if c.check = checkOf (s.pointId a) c then (some c, s)
    else
      let sc := { c with qual := BitVec.ofNat 8 Qual.check }.sealed (s.pointId a)
      let pins := s.img.pins.map fun p => if p.epoch == epoch then { p with cells := p.cells.put a sc } else p
      (some sc, { s with img := { s.img with pins := pins } }.checkFailed a 4 c.domain.toNat)

/-! ### Pins (R31, R32) -/

/-- Show the number of pinned epochs (TICK_STATUS.PINS, R52) and which queues hold a pin (HQ_STAT.PINNED, R441). -/
def State.showPins (s : State) : State :=
  let held (q : Nat) : Bool := s.img.pins.any fun p => p.holds.any fun h => match h.who with
    | .queue j => j.val == q
    | .session _ => false
  s.onCore fun k => (SMap.keys s.hq.queues).foldl (fun k q => k.setFlag Reg.HQ_STAT_PINNED (held q) q)
    (k.fput Reg.TICK_STATUS_PINS s.img.pins.length)

/-- Pin an epoch for a holder (R31). -/
def State.pin (s : State) (who : ReqSrc) (epoch : Nat) (snap : Bool) : Status × State :=
  let h : Hold := { who := who, since := s.core.c, snap := snap }
  if s.img.pins.any (·.epoch == epoch) then
    let pins := s.img.pins.map fun p => if p.epoch == epoch then { p with holds := p.holds ++ [h] } else p
    (.ok, { s with img := { s.img with pins := pins } }.showPins)
  else if s.img.pubEpoch ≠ some epoch then (.epochGone, s)
  else if s.img.pins.length ≥ 4 then (.pinBusy, s)
  else (.ok, { s with img := { s.img with pins := s.img.pins ++ [(⟨epoch, s.img.published, [h]⟩ : Pin)] } }.showPins)

/-- Drop the holds a test picks; a pin without holds is released (R31). -/
def State.unpinIf (s : State) (f : Nat → Hold → Bool) : State :=
  let pins := s.img.pins.map fun p => { p with holds := p.holds.filter fun h => !f p.epoch h }
  { s with img := { s.img with pins := pins.filter fun p => !p.holds.isEmpty } }.showPins

/-- A holder has a hold on an epoch. -/
def State.holds (s : State) (who : ReqSrc) (epoch : Nat) : Bool :=
  s.img.pins.any fun p => p.epoch == epoch && p.holds.any (·.who == who)

/-! ### Writes from outside the module (R30) -/

/-- The writes whose tick has come: those not accepted in the tick in progress (R30). -/
def State.writesDue (s : State) : List HostWrite := s.img.writes.filter (·.accepted != s.epoch)

/-- A forced cell is stamped with the current epoch and its forced content at every input sweep (R108). -/
def State.stampForced (s : State) : State :=
  s.cmd.forces.foldl (fun s p =>
    if (s.img.working.at? p.1).isNone then s
    else
      let cs := s.writeConds p.1 [Qual.forced]
      let c := s.formCell p.1 p.2.value cs 0x07 s.epoch
      s.store p.1 ({ c with qual := BitVec.ofNat 8 Qual.forced }.sealed (s.pointId p.1)) cs) s

end Sys2Proof.Machine
end

