-- ==== Sys2Proof/Machine/Sched.lean ====
section
/-! DEFINITION. What tasks and loops share: the task table, readiness, marking a write set, the stop bead, and an engine
that leaves service (R85 to R101, R141, R149). -/

namespace Sys2Proof.Machine

/-- The task of a number in the running bank (R92). -/
def State.taskDef (s : State) (t : Fin 16) : Option TaskDef := s.trw.bank.tasks.find? (·.id == t)

/-- A slot's loop. -/
def State.loopAt (s : State) (f : Nat) (slot : Nat) : Option Loop := s.flt.slots.at? (f * 128 + slot)

/-- Mark the write set of a task UNCERTAIN_LAST_USABLE (R85). -/
def State.markTask (s : State) (d : TaskDef) : State := s.markCells d.wCells Qual.lastUsable

/-- A fault the unit declares of itself: PTR_OK_O low in a pair (R237). -/
def State.selfFault (s : State) : State :=
  if s.core.flag Reg.GLB_UNIT_PAIRED then s.onCore (·.drive .ptrOk false) else s

/-- A record as its 16 bytes (R75); the INIT marks and MEM bits stand in word 0. -/
def recImage (r : TRec) : List Byte :=
  let b (x : Bool) (i : Nat) : Nat := if x then 2 ^ i else 0
  le (r.sym * 65536 + r.type * 4096 + b r.memB 6 + b r.memA 5 + b r.initB 4 + b r.initA 3 + b r.run 2 + b r.qd 1 + b r.q 0) 4 ++
    le r.et.toNat 4 ++ le r.pt.toNat 4 ++ le r.last.toNat 4

/-- A committed entry as the commit digest covers it: 4 bytes of target (SP and IDX as R62 places them), 16 of content
(R233). -/
def entryBytes (sp idx : Nat) (content : List Byte) : List Byte :=
  le (sp * 32768 + idx) 4 ++ (content ++ List.replicate 16 (0 : Byte)).take 16

/-- Note the entries a task or slot has committed, and what their targets held before (R233): `eng` is 0 to 7 for trowel, 8 to 11 for float engines. -/
def State.pairCommit (s : State) (eng item : Nat) (prior bytes : List Byte) : State :=
  if s.core.flag Reg.GLB_UNIT_PAIRED then
    { s with pair := { s.pair with commits := s.pair.commits.alter eng [] (· ++ bytes)
                                   itemsNow := s.pair.itemsNow ++ [(eng * 128 + item, crc32c bytes)]
                                   priorNow := s.pair.priorNow ++ [(eng * 128 + item, prior)] } }
  else s

/-- Set a task's TSK_STAT.STATE (R124). -/
def State.setTask (s : State) (t : Fin 16) (v : Nat) : State := s.onCore (·.fput Reg.TSK_STAT_STATE v t)

/-- A due cycle of a task enters the window of 1,024 with its busy clocks (TSK_BUSY_MAX, R124): those up to its discard, 0
where it never ran. Log entry 118 (DESIGN CHOICE, unsafe). -/
def State.bookCycle (s : State) (t clk : Nat) : State :=
  let h := (clk :: s.trw.busy.atD t []).take 1024
  { s with trw := { s.trw with busy := s.trw.busy.put t h } }.onCore (·.fput Reg.TSK_BUSY_MAX_CLOCKS (h.foldl max 0) t)

/-- Stop an engine's cycle and throw its commit buffer away (R97). Log entry 118 (DESIGN CHOICE, unsafe). -/
def State.dropCycle (s : State) (e : Fin 8) (st : Nat) : State :=
  let g := s.trw.engines.atD e {}
  let s := match g.task with
    | some t => s.bookCycle t g.clocks
    | none => s
  { s with trw := { s.trw with
      engines := s.trw.engines.put e { g with task := none, buf := {}, tickClocks := g.tickClocks + g.clocks, clocks := 0 }
      stages := match g.task with
        | some t => s.trw.stages.put t .discarded
        | none => s.trw.stages } }.onCore (·.fput Reg.TRW_STAT_STATE st e)

/-- Guarded loops of the module. -/
def State.guardedLoops (s : State) : List Nat := SMap.keys (s.flt.slots.filter fun p => p.2.desc.guarded)

/-- Trip the stop bead (R100, R101); a further cause while it stands tripped trips nothing more. `item` is the guarded task or
the loop slot the cause names. Log entry 129 (DESIGN CHOICE, unsafe). -/
def State.trip (s : State) (cause item : Nat) : State :=
  if s.core.flag Reg.SBD_STAT_TRIPPED then s
  else
    let n := s.epoch
    let s := s.onCore fun k =>
      let k := (k.setFlag Reg.SBD_STAT_TRIPPED true).fput Reg.SBD_STAT_CAUSE cause
      let k := if cause = 1 ∨ cause = 3 then k.fput Reg.SBD_STAT_TASK item else k
      let k := if cause = 2 then k.fput Reg.SBD_STAT_LOOP item else k
      k.putPair Reg.SBD_TRIP_EPOCH_LO_EPOCH_LO Reg.SBD_TRIP_EPOCH_HI_EPOCH_HI n
    let s : State := s.trw.bank.tasks.foldl (fun (s : State) d =>
      if d.guarded then
        let s := if (s.trw.engines.atD d.engine {}).task = some d.id then s.dropCycle d.engine 0 else s
        (match s.trw.stages.at? d.id with
          | some .due => { s with trw := { s.trw with stages := s.trw.stages.put d.id .discarded } }.bookCycle d.id 0
          | _ => s).setTask d.id 4
      else s) s
    let s : State := s.guardedLoops.foldl (fun (s : State) i =>
      if s.core.fget Reg.LP_STAT_STATE i = 3 then s else s.onCore (·.fput Reg.LP_STAT_STATE 4 i)) s
    let s : State := { s with cmd := { s.cmd with tripC := s.core.c } }
    let s := if s.core.state = 1 then s.onCore (·.setState 2 0) else s
    let s := if s.core.flag Reg.GLB_UNIT_PAIRED && cause != 6 then
        s.onCore fun k => (k.drive .ptrTrip true).drive .ptrTrip false
      else s
    s.record 0x0203 0 (le cause 1 ++ le item 2 ++ le n 8)

/-- A trowel engine leaves service (R86): the write sets of its tasks marked, a guarded task among them trips the bead, and
in a pair the unit declares a fault of itself. -/
def State.trwOut (s : State) (e : Fin 8) : State :=
  let mine := s.trw.bank.tasks.filter (·.engine == e)
  let s := (s.dropCycle e 3).onCore fun k =>
    (k.setFlag Reg.TRW_STAT_IN_SERVICE false e).setBit Reg.TRW_INSVC_ENGINES e false
  let s := mine.foldl (fun s d =>
    let s := s.markTask d
    if s.trw.stages.at? d.id = some .due then
      { s with trw := { s.trw with stages := s.trw.stages.put d.id .discarded } }.bookCycle d.id 0
    else s) s
  let s := if mine.any (·.guarded) then s.trip 4 e else s
  s.selfFault

/-- Words of the code a task may run that read a mirror slot: the slots, as R57 encodes them (R62). -/
def State.mirrorReads (s : State) (d : TaskDef) : List Nat :=
  (s.trw.bank.code.filter fun p =>
      decide (d.codeStart ≤ p.1 ∧ p.1 ≤ d.codeEnd) && decide (1 ≤ p.2.toNat / 2 ^ 24 ∧ p.2.toNat / 2 ^ 24 < 0x50) &&
        p.2.toNat / 2 ^ 15 % 8 == 0 && decide (p.2.toNat % 2 ^ 15 ≥ 0x1000)).map fun p => p.2.toNat % 2 ^ 15

/-- Mirror slots of a subscription, as R57 encodes them. -/
def State.subSlots (s : State) (sub : Nat) : List Nat := SMap.keys (s.img.mirror.filter fun p => p.2.sub == sub)

/-- Every operand a loop reads (R129, R259). -/
def Loop.reads (l : Loop) : List Nat :=
  l.desc.yCell ++ l.desc.yAlt.filterMap id ++ l.desc.rCell ++ l.desc.manCell.filterMap id ++ l.desc.modeCell.toList

/-- An item that reads these operands waits for a LEVEL subscription (R259). -/
def State.levelBlocked (s : State) (reads : List Nat) : Bool :=
  s.xch.waits.any fun w => (s.subSlots w.sub).any reads.contains

/-- A predecessor holds nothing back any more in this tick (R95). -/
def State.predDone (s : State) : Pred → Bool
  | .task t => match s.trw.stages.at? t with
    | some .due => false
    | some .running => false
    | _ => true
  | .loop f i => match s.flt.stages.at? (f.val * 128 + i.val) with
    | some .due => false
    | some .running => false
    | _ => true

/-- A due task is ready (R95, R259). -/
def State.taskReady (s : State) (d : TaskDef) : Bool :=
  s.trw.stages.at? d.id == some .due && d.preds.all s.predDone && !s.levelBlocked (s.mirrorReads d)

/-- A task comes before another on its engine: error tasks first, then PRIO, then its number (R95, R96). -/
def TaskDef.before (a b : TaskDef) : Bool :=
  if a.errorTask != b.errorTask then a.errorTask
  else if a.prio != b.prio then a.prio < b.prio else a.id < b.id

/-- The first of a list under an order. -/
def firstBy {α : Type} (lt : α → α → Bool) : List α → Option α
  | [] => none
  | x :: xs => match firstBy lt xs with
    | none => some x
    | some y => if lt y x then some y else some x

/-- The task an engine would start next. -/
def State.nextTask (s : State) (e : Fin 8) : Option TaskDef :=
  firstBy TaskDef.before (s.trw.bank.tasks.filter fun d => d.engine == e && s.taskReady d)

/-- Show whether an idle engine waits for a dependency (TRW_STAT.STATE, R95). -/
def State.showEngine (s : State) (e : Fin 8) : State :=
  let k := s.core.fget Reg.TRW_STAT_STATE e
  if k = 1 ∨ k = 3 ∨ k = 4 then s
  else
    let due := s.trw.bank.tasks.any fun d => d.engine == e && s.trw.stages.at? d.id == some .due
    s.onCore (·.fput Reg.TRW_STAT_STATE (if due && (s.nextTask e).isNone then 2 else 0) e)

/-- A due slot is ready (R95, R133): its predecessors, its outer loop, and no LEVEL wait on what it reads. -/
def State.loopReady (s : State) (f : Nat) (slot : Nat) (l : Loop) : Bool :=
  s.flt.stages.at? (f * 128 + slot) == some .due && l.desc.preds.all s.predDone &&
    (!l.desc.cascade || (match s.flt.stages.at? (f * 128 + l.desc.outer.val) with
      | some .due => false
      | _ => true)) && !s.levelBlocked (Loop.reads l)

/-- The slot an engine would run next: lowest PRIO, then lowest number (R133). -/
def State.nextLoop (s : State) (f : Nat) : Option Nat :=
  (firstBy (fun (a b : Nat × Loop) => if a.2.desc.prio != b.2.desc.prio then a.2.desc.prio < b.2.desc.prio else a.1 < b.1)
    (s.flt.slots.filter fun p => p.1 / 128 == f && s.loopReady f (p.1 % 128) p.2)).map (·.1 % 128)

/-- Show whether an idle float engine waits for a dependency (FLT_STAT.STATE, R157). -/
def State.showFloat (s : State) (f : Nat) : State :=
  let k := s.core.fget Reg.FLT_STAT_STATE f
  if k = 3 ∨ k = 4 then s
  else
    let due := s.flt.stages.any fun p => p.1 / 128 == f && p.2 == .due
    s.onCore (·.fput Reg.FLT_STAT_STATE (if due && (s.nextLoop f).isNone then 2 else 0) f)

/-- Show of every engine whether it waits for a dependency. -/
def State.showEngines (s : State) : State :=
  let s : State := (List.finRange 8).foldl (fun (s : State) e => s.showEngine e) s
  (List.range 4).foldl (fun (s : State) f => s.showFloat f) s

/-- No task and no loop that is due in this tick is unfinished (R41). -/
def State.allDone (s : State) : Bool :=
  s.trw.stages.all (fun p => p.2 != .due && p.2 != .running) &&
    s.flt.stages.all (fun p => p.2 != .due && p.2 != .running)

end Sys2Proof.Machine
end

