-- ==== Sys2Proof/Machine/Operands.lean ====
section
/-! DEFINITION. Operand forms of the trowel instructions: which operand an instruction may name (R57, R63), reading it, and
what a write of it puts into the commit buffer (R59 to R61, R83). -/

namespace Sys2Proof

/-- A retained word some symbol of the bank covers (R115). -/
def Program.hasRetained (p : Program) (i : Nat) : Bool :=
  p.retained.any fun r => decide (r.idx ≤ i ∧ i < r.idx + r.init.length)

end Sys2Proof

namespace Sys2Proof.Machine

/-- The engine of a number. -/
def State.engine (s : State) (e : Fin 8) : Engine := s.trw.engines.atD e {}

/-- Put an engine back. -/
def State.putEngine (s : State) (e : Fin 8) (g : Engine) : State :=
  { s with trw := { s.trw with engines := s.trw.engines.put e g } }

/-- A record; one the image has just defined is at rest (R76). -/
def State.recAt (s : State) (i : Nat) : TRec := s.trw.recs.atD i {}

/-- The tick period in ms (R52). -/
def periodMs (code : Nat) : Nat :=
  match code with
  | 0 => 1 | 1 => 2 | 2 => 5 | 3 => 10 | 4 => 20 | 5 => 50 | 6 => 100 | 7 => 200 | 8 => 500 | _ => 1000

/-- The tick period P of the module, in ms. -/
def State.period (s : State) : Nat := periodMs (s.core.fget Reg.TICK_CFG_PERIOD)

/-- The kind of a cell that exists. -/
def State.cellKind (s : State) (a : Nat) : Option Kind := (s.img.working.at? a).map fun c => kindOf c.kind

/-- A cell this task may store to: owned, user, configured with source trowel, in its write set (R57, R63). -/
def State.storable (s : State) (d : TaskDef) (a : Nat) : Bool :=
  a < 0xF00 && (s.img.defs.at? a).any (fun c => c.src.toNat == 4) && d.wCells.contains a

/-- The operand of a bit read (R63, R65). -/
def State.okBitRead (s : State) (m : MemOp) : Bool :=
  match m.sp with
  | .cell => match s.cellKind m.idx with
    | some .bool => m.bit == 0
    | some _ => true
    | none => false
  | .retained => s.trw.bank.hasRetained m.idx
  | _ => false

/-- The operand of a bit store (R63, R65). -/
def State.okBitStore (s : State) (d : TaskDef) (m : MemOp) : Bool :=
  match m.sp with
  | .cell => s.storable d m.idx && (match s.cellKind m.idx with
    | some .bool => m.bit == 0
    | some .packed => true
    | _ => false)
  | .retained => d.wRetained.contains m.idx
  | _ => false

/-- The operand of a word read (R68). -/
def State.okWordRead (s : State) (m : MemOp) : Bool :=
  m.bit == 0 && (match m.sp with
    | .cell => (s.cellKind m.idx).isSome
    | .retained => s.trw.bank.hasRetained m.idx
    | .const => m.idx < 0x4000
    | _ => false)

/-- The operand of a word store (R68). -/
def State.okWordStore (s : State) (d : TaskDef) (m : MemOp) : Bool :=
  m.bit == 0 && (match m.sp with
    | .cell => s.storable d m.idx && (s.cellKind m.idx).isSome
    | .retained => d.wRetained.contains m.idx
    | _ => false)

/-- The operand of QOK and LDQL (R68). -/
def State.okCell (s : State) (m : MemOp) : Bool := m.bit == 0 && m.sp == .cell && (s.cellKind m.idx).isSome

/-- The record of a timer or counter instruction: of its TYPE, in the task's write set (R63, R75). -/
def State.okRecord (s : State) (d : TaskDef) (m : MemOp) (type : Nat) : Bool :=
  m.bit == 0 && m.sp == .record && (s.recAt m.idx).type == type && d.wRecords.contains m.idx

/-- The record of LDQ and LET (R63, R80). -/
def State.okRecordRead (s : State) (m : MemOp) (bits : Bool) : Bool :=
  let ty := (s.recAt m.idx).type
  m.sp == .record && 1 ≤ ty && ty ≤ 4 &&
    (m.bit == 0 || (bits && m.bit == 1 && ty == 4))

/-- The edge bit of EDGR and EDGF (R63). -/
def okEdge (d : TaskDef) (m : MemOp) : Bool := m.bit == 0 && m.sp == .edge && d.wEdges.contains m.idx

/-- What a read gives both lanes: the word and its quality, and whether its check failed (R61). -/
structure Fetched where
  value : Word
  qual : Nat := 0
  failed : Bool := false
  deriving DecidableEq, Repr, Inhabited

/-- Read a memory operand's word: the task's own pending write first, then the stores (R57, R61, R83). Log entry 18 (DESIGN
CHOICE, safe). -/
def State.fetch (s : State) (e : Fin 8) (m : MemOp) : Fetched × State :=
  let g := s.engine e
  match m.sp with
  | .cell => match g.buf.cells.at? m.idx with
    | some v => ({ value := v, qual := Qual.govern (s.writeConds m.idx []) }, s)
    | none => match s.readCell m.idx 1 with
      | (some (c, true), s) => ({ value := c.value, qual := c.qual.toNat }, s)
      | (_, s) => ({ value := 0, qual := Qual.check, failed := true }, s.onCore (·.bump Reg.TRW_CHK_RD_COUNT e))
  | .retained => ({ value := (g.buf.ret.at? m.idx).getD (s.trw.ret.atD m.idx 0) }, s)
  | .const => ({ value := s.trw.bank.consts.atD m.idx 0 }, s)
  | .record => ({ value := ((g.buf.recs.at? m.idx).getD (s.recAt m.idx)).et }, s)
  | .edge => ({ value := if ((g.buf.edges.at? m.idx).getD (s.trw.edges.atD m.idx {})).m then 1 else 0 }, s)

/-- Extra clock of a remote-mirror operand (R64). -/
def mirrorClock (m : MemOp) : Nat := if m.sp = .cell ∧ m.idx ≥ 0x1000 then 1 else 0

/-- Put one bit into a word. -/
def putBit (w : Word) (i : Nat) (b : Bool) : Word :=
  if b then w ||| (1#32 <<< i) else w &&& ~~~(1#32 <<< i)

/-- An entry of the commit buffer. -/
inductive Entry
  | cell (a : Nat) (v : Word) | ret (i : Nat) (v : Word) | record (i : Nat) (r : TRec) | edge (i : Nat) (b : EdgeBit)
  deriving DecidableEq, Repr, Inhabited

/-- Put an entry; the same target takes the same place (R83). -/
def addEntry (b : Commit) : Entry → Commit
  | .cell a v => { b with cells := b.cells.put a v }
  | .ret i v => { b with ret := b.ret.put i v }
  | .record i r => { b with recs := b.recs.put i r }
  | .edge i x => { b with edges := b.edges.put i x }

end Sys2Proof.Machine
end

