-- ==== Sys2Proof/Machine/Fallback.lean ====
section
/-! DEFINITION. The fall-back store: banks 0 and 1 of the backup bytes (R367, R482). -/

namespace Sys2Proof.Machine

/-- Write one 16-byte bank of the backup bytes. -/
def putBank (k : Core) (bank : Nat) (xs : List Byte) : Core :=
  (List.range 4).foldl (fun k i => k.fput Reg.BKP_BYTES_DATA (ofLe ((xs.drop (4 * i)).take 4)) (4 * bank + i)) k

/-- Twelve bytes with their CRC-32C. -/
def withCrc (xs : List Byte) : List Byte := xs ++ le (crc32c xs).toNat 4

/-- The service cores write the fall-back store (R482). -/
def State.writeFallback (s : State) : State :=
  let b0 := withCrc (le s.core.evr.next 8 ++ le (s.core.fget Reg.RST_COUNT_COLD) 2 ++ le 0 2)
  let b1 := withCrc (le s.met.seq 8 ++ le s.cmd.forceGen 4)
  s.onCore fun k => putBank (putBank k 0 b0) 1 b1

end Sys2Proof.Machine
end

