-- ==== Sys2Proof/Machine/Keys.lean ====
section
/-! DEFINITION. Key slots as R387 judges them: unusable, orphaned, usable; and the slots the units use. -/

namespace Sys2Proof.Machine

/-- A key slot; an empty one where nothing was written. -/
def State.slot (s : State) (i : Nat) : KeySlot := s.sec.slots.atD i {}

/-- Both copies fail their check (R387). -/
def KeySlotBad (k : KeySlot) : Bool := !(k.okA || k.okB)

/-- The scratch slot is orphaned: a tamper has raised TMP_GEN, or TMP_STAT.FULL is set (R387). -/
def State.scratchOrphan (s : State) : Bool :=
  let k := s.slot 0
  k.active && (k.gen != s.core.fget Reg.TMP_GEN_GEN || s.core.flag Reg.TMP_STAT_FULL)

/-- A brown slot is orphaned (R387). -/
def State.brownOrphan (s : State) (i : Nat) : Bool :=
  let k := s.slot i
  let p := s.slot 0
  k.active && (!p.active || KeySlotBad p || s.scratchOrphan || k.parentGen != p.gen)

/-- A slot is orphaned (R387): scratch, brown, or finish by its COAT. -/
def State.orphan (s : State) (i : Nat) : Bool :=
  let k := s.slot i
  match k.coat with
  | 1 => s.scratchOrphan
  | 2 => s.brownOrphan i
  | _ =>
    let p := s.slot k.parent
    k.active && (!p.active || KeySlotBad p || (if k.parent = 0 then s.scratchOrphan else s.brownOrphan k.parent) ||
      k.parentGen != p.gen)

/-- A slot's key is usable (R387). -/
def State.usable (s : State) (i : Nat) : Bool :=
  let k := s.slot i
  k.active && !KeySlotBad k && !s.orphan i

/-- The slot of the exchange key of a generation (R252, R386): AES-256, cipher use, under brown slot 2. -/
def State.exchangeSlot (s : State) (gen : Nat) : Option Nat :=
  (s.sec.slots.find? fun p => p.2.active && p.2.coat == 3 && p.2.parent == 2 && p.2.tag == gen && p.2.alg == 2 &&
    p.2.use.testBit 2).map (·.1)

/-- The unit holds a usable exchange key of that generation (R388). -/
def State.exchangeKey (s : State) (gen : Nat) : Bool := (s.exchangeSlot gen).any s.usable

end Sys2Proof.Machine
end

