-- ==== Sys2Proof/Machine/Packet.lean ====
section
/-! DEFINITION. Frames and packets as bytes: IPv6, TCP and UDP headers, checksums, segmentation, the exchange datagram's payload, and
the network-control messages the module sends (R250 to R252, R278, R287 to R289). -/

namespace Sys2Proof.Machine

/-- `k` bytes of `n`, most significant first: the byte order of network headers. -/
def be (n k : Nat) : List Byte := (le n k).reverse

/-- The number whose big-endian bytes are `xs`. -/
def ofBe (xs : List Byte) : Nat := ofLe xs.reverse

/-- A byte string brought to a length. -/
def fixLen (n : Nat) (xs : List Byte) : List Byte := (xs ++ List.replicate n (0 : Byte)).take n

/-- `n` bytes of a list from an offset, and zeros where it has none. -/
def cut (xs : List Byte) (off n : Nat) : List Byte := (List.range n).map fun i => xs.getD (off + i) 0

/-- The bytes `ys` written over a list from an offset. -/
def patch (xs : List Byte) (off : Nat) (ys : List Byte) : List Byte := xs.take off ++ ys ++ xs.drop (off + ys.length)

/-- Cut a list into pieces of `k`, `fuel` at most. -/
def pieces {α : Type} (k : Nat) : Nat → List α → List (List α)
  | 0, _ => []
  | _, [] => []
  | f + 1, xs => xs.take k :: pieces k f (xs.drop k)

/-! ### Checksums (R288) -/

/-- The sum of a list's 16-bit big-endian words, an odd last byte padded. -/
def sum16 : List Byte → Nat
  | [] => 0
  | [a] => a.toNat * 256
  | a :: b :: xs => a.toNat * 256 + b.toNat + sum16 xs

/-- A sum folded to 16 bits with end-around carry. -/
def fold16 (n : Nat) : Nat :=
  let a := n / 65536 + n % 65536
  a / 65536 + a % 65536

/-- The Internet checksum over the IPv6 pseudo-header and an upper-layer packet (R288): 0xFFFF less the folded sum, so that a packet
with a right checksum in place has 0. -/
def checksum (ip : List Byte) (proto : Nat) (xs : List Byte) : Nat :=
  0xFFFF - fold16 (sum16 (cut ip 8 32 ++ be xs.length 4 ++ be proto 4 ++ xs))

/-- An upper-layer packet with its checksum made at `off`; UDP sends 0xFFFF for 0x0000 (R288). -/
def withSum (ip : List Byte) (proto off : Nat) (xs : List Byte) : List Byte :=
  let c := checksum ip proto (patch xs off (be 0 2))
  patch xs off (be (if proto = 17 ∧ c = 0 then 0xFFFF else c) 2)

/-! ### IPv6 as received (R250, R282, R288, R293) -/

/-- What stands behind an IPv6 header and its extension headers: the upper-layer protocol and its bytes, and whether the packet is
a fragment. A fragment that does not begin the packet has no upper-layer header. -/
structure Upper where
  proto : Nat
  frag : Bool
  bytes : List Byte
  deriving DecidableEq, Repr, Inhabited

/-- Walk an IPv6 packet's extension headers: hop-by-hop, routing, destination options, fragment. -/
def walkHeaders : Nat → Nat → Bool → List Byte → Option Upper
  | 0, _, _, _ => none
  | fuel + 1, next, frag, xs =>
    if next = 0 ∨ next = 43 ∨ next = 60 then
      if xs.length < 8 then none
      else walkHeaders fuel (ofBe (cut xs 0 1)) frag (xs.drop (8 * (ofBe (cut xs 1 1) + 1)))
    else if next = 44 then
      if xs.length < 8 ∨ ofBe (cut xs 2 2) / 8 ≠ 0 then none
      else walkHeaders fuel (ofBe (cut xs 0 1)) true (xs.drop 8)
    else some ⟨next, frag, xs⟩

/-- The upper-layer packet of an IPv6 packet that is whole; a UDP or TCP header must stand in it. -/
def upperOf (ip : List Byte) : Option Upper :=
  let n := ofBe (cut ip 4 2)
  if ip.length < 40 + n ∨ ofBe (cut ip 0 1) / 16 ≠ 6 then none
  else match walkHeaders 16 (ofBe (cut ip 6 1)) false ((ip.drop 40).take n) with
    | none => none
    | some u =>
      if (u.proto = 17 ∧ u.bytes.length < 8) ∨ (u.proto = 6 ∧ u.bytes.length < 20) ∨ u.bytes.isEmpty then none else some u

/-- Destination port of a TCP or UDP packet. -/
def Upper.port (u : Upper) : Nat := ofBe (cut u.bytes 2 2)

/-- The payload of a UDP packet. -/
def Upper.udpPayload (u : Upper) : List Byte := (u.bytes.take (max 8 (ofBe (cut u.bytes 4 2)))).drop 8

/-- A TCP or UDP packet fails its checksum, or a UDP packet carries 0x0000 (R288); a fragment's cannot be told. -/
def Upper.badSum (u : Upper) (ip : List Byte) : Bool :=
  !u.frag && ((u.proto == 6 && checksum ip 6 u.bytes != 0) ||
    (u.proto == 17 && (checksum ip 17 u.bytes != 0 || ofBe (cut u.bytes 6 2) == 0)))

/-! ### Segmentation (R287) -/

/-- A send's protocol: the IPv6 Next Header. -/
def sendProto (x : Send) : Nat := ofBe (cut x.ip 6 1)

/-- A send is cut into segments only when its Next Header is 6 or 17 (R287). -/
def sendSize (x : Send) : Nat := if (sendProto x = 6 ∨ sendProto x = 17) ∧ x.seg ≠ 0 then x.seg else x.payload.length

/-- The segment that follows `done` payload bytes ends the send. -/
def sendLast (x : Send) (done : Nat) : Bool := decide (x.payload.length ≤ done + sendSize x)

/-- TCP's flags byte in a segment (R287): FIN and PSH only in the last one, CWR only in the first. -/
def tcpFlags (f done : Nat) (last : Bool) : Nat :=
  let f := if last then f else f - (if f.testBit 0 then 1 else 0) - (if f.testBit 3 then 8 else 0)
  if done = 0 then f else f - (if f.testBit 7 then 128 else 0)

/-- The transport header of the segment that follows `done` payload bytes and carries `n` (R287). -/
def segmentHeader (x : Send) (done n : Nat) : List Byte :=
  if sendProto x = 6 then
    let h := patch x.l4 4 (be ((ofBe (cut x.l4 4 4) + done) % 2 ^ 32) 4)
    patch h 13 (be (tcpFlags (ofBe (cut x.l4 13 1)) done (sendLast x done)) 1)
  else if sendProto x = 17 then patch x.l4 4 (be (x.l4.length + n) 2)
  else x.l4

/-- The frame of the segment that follows `done` payload bytes (R287). -/
def segmentFrame (x : Send) (done : Nat) : List Byte :=
  let part := (x.payload.drop done).take (sendSize x)
  let h := segmentHeader x done part.length
  let ip := patch x.ip 4 (be (h.length + part.length) 2)
  let body := h ++ part
  x.eth ++ ip ++ (if sendProto x = 6 then withSum ip 6 16 body else if sendProto x = 17 then withSum ip 17 6 body else body)

/-! ### Frames the module builds (R250 to R252, R278) -/

/-- A frame padded to the least length a port sends: 60 bytes before its FCS (R278). -/
def padFrame (xs : List Byte) : List Byte := xs ++ List.replicate (60 - xs.length) 0

/-- The Ethernet multicast address of an IPv6 group. -/
def groupMac (addr : Nat) : Nat := 0x333300000000 + addr % 2 ^ 32

/-- An IPv6 header without extension headers of its own. -/
def ipHeader (cls next hop src dst len : Nat) : List Byte :=
  be (6 * 16 ^ 7 + cls * 2 ^ 20) 4 ++ be len 2 ++ be next 1 ++ be hop 1 ++ be src 16 ++ be dst 16

/-- An IPv6 frame to a group. -/
def groupFrame (mac dst : Nat) (ip body : List Byte) : List Byte :=
  be (groupMac dst) 6 ++ be mac 6 ++ be 0x86DD 2 ++ ip ++ body

/-- Bytes 0 to 35 of an exchange datagram's payload: the additional authenticated data (R251, R252). -/
def Datagram_header (d : Datagram) : List Byte :=
  le d.version 1 ++ le d.type 1 ++ le (if d.full then 1 else 0) 1 ++ le d.keyGen 1 ++ le d.estateId.toNat 4 ++
    le (d.senderPos % 1024 + (if d.senderUnit then 1024 else 0)) 2 ++ le d.dgIndex 1 ++ le d.dgCount 1 ++ le d.epoch 8 ++
    le d.ctr 8 ++ le d.repDepth 1 ++ le d.slice 1 ++ le d.cells 2 ++ le d.pubId.toNat 4

/-- The entries of a datagram before encryption, 20 bytes each (R251). -/
def Datagram_plain (d : Datagram) : List Byte := d.entries.flatMap fun e => le (e.1 % 4096) 2 ++ le 0 2 ++ e.2.image

/-- The 96-bit nonce of a datagram: bytes 8 and 9 of the payload, two zero bytes, bytes 20 to 27 (R252). -/
def Datagram_nonce (d : Datagram) : List Byte := cut (Datagram_header d) 8 2 ++ le 0 2 ++ cut (Datagram_header d) 20 8

/-- The UDP payload of a datagram: header, ciphertext, tag (R251, R252). -/
def Datagram_payload (d : Datagram) : List Byte :=
  Datagram_header d ++ cut (Config.gcmSeal d.keyGen (Datagram_nonce d) (Datagram_header d) (Datagram_plain d)) 0
    ((Datagram_plain d).length + 16)

/-- A neighbour advertisement for an address, unsolicited, to all nodes (R240). Log entry 66 (DESIGN CHOICE, unsafe). -/
def advertFrame (mac addr : Nat) : List Byte :=
  let ip := ipHeader 0 58 255 addr (0xFF02 * 2 ^ 112 + 1) 32
  groupFrame mac (0xFF02 * 2 ^ 112 + 1) ip
    (withSum ip 58 2 (be 136 1 ++ be 0 3 ++ be 0x20000000 4 ++ be addr 16 ++ be 2 1 ++ be 1 1 ++ be mac 6))

/-- An MLDv2 report that joins groups from any source (R250). Log entry 66 (DESIGN CHOICE, unsafe). -/
def mldFrame (mac addr : Nat) (groups : List Nat) : List Byte :=
  let dst := 0xFF02 * 2 ^ 112 + 0x16
  let body := be 143 1 ++ be 0 1 ++ be 0 2 ++ be 0 2 ++ be groups.length 2 ++ groups.flatMap fun g => be 4 1 ++ be 0 1 ++ be 0 2 ++ be g 16
  let ip := ipHeader 0 0 1 addr dst (8 + body.length)
  groupFrame mac dst ip (be 0x3A00050200000100 8 ++ withSum ip 58 2 body)

/-! ### MACsec's frame (R289) -/

/-- A protected frame: the addresses, the SecTAG with the SCI, ciphertext, ICV (R289). Log entry 67 (DESIGN CHOICE, unsafe).
-/
def macsecFrame (p an pn sci : Nat) (xs : List Byte) : List Byte :=
  let plain := xs.drop 12
  let tagged := be 0x88E5 2 ++ be (0x2C + an) 1 ++ be (if plain.length < 48 then plain.length else 0) 1 ++ be (pn % 2 ^ 32) 4 ++ be sci 8
  xs.take 12 ++ tagged ++ cut (Config.macsecSeal p tagged plain) 0 (plain.length + 16)

end Sys2Proof.Machine
end

