-- ==== Sys2Proof/Machine/Derive.lean ====
section
/-! DEFINITION. The keys themselves: derivations from ROOT, the bytes of a key slot, import and wrapping, and the anti-rollback
counters (R374, R375, R384 to R386, R392). -/

namespace Sys2Proof.Machine

/-! ### Derivation (R385) -/

/-- The ASCII bytes of a label. -/
def ascii (t : String) : List Byte := t.toList.map fun c => BitVec.ofNat 8 c.toNat

/-- SP 800-108 in counter mode with HMAC-SHA-384: the first `bits` bits of the blocks 1, 2 and so on (R385). -/
def kdf (key label ctx : List Byte) (bits : Nat) : List Byte :=
  ((List.range ((bits + 383) / 384)).flatMap fun i =>
    fixLen 48 (Config.hmac384 key (be (i + 1) 4 ++ label ++ [0] ++ ctx ++ be bits 4))).take (bits / 8)

/-- The order n of the P-384 group. -/
def p384Order : Nat :=
  0xFFFFFFFFFFFFFFFFFFFFFFFFFFFFFFFFFFFFFFFFFFFFFFFFC7634D81F4372DDF581A0DB248B0A77AECEC196ACCC52973

/-- The private key of a derivation's output: (c mod (n − 1)) + 1 (R385). -/
def scalarOf (c : List Byte) : Nat := ofBe c % (p384Order - 1) + 1

/-- SERIAL as a context. -/
def State.serialBytes (s : State) : List Byte := be s.sec.otp.serial 8

/-- The slot-integrity key (R385). -/
def State.slotIntegrityKey (s : State) : List Byte := kdf s.sec.otp.root (ascii "CYO-SLOTINT") s.serialBytes 384

/-- The identity key (R385). -/
def State.identityScalar (s : State) : Nat := scalarOf (kdf s.sec.otp.root (ascii "CYO-IDENT") s.serialBytes 448)

/-- The scratch coat, at the generation its slot holds (R384, R385). -/
def State.scratchKey (s : State) : List Byte :=
  kdf s.sec.otp.root (ascii "CYO-SCRATCH") (be (s.slot 0).gen 4 ++ s.serialBytes) 384

/-- Brown coat `p` (R385). -/
def State.brownKey (s : State) (p : Nat) : List Byte := kdf s.scratchKey (ascii "CYO-BROWN") (be p 1 ++ be (s.slot p).gen 4) 384

/-- The wrapping key of brown coat `p` (R385). -/
def State.wrapKey (s : State) (p : Nat) : List Byte := kdf (s.brownKey p) (ascii "CYO-WRAP") (be p 1 ++ be (s.slot p).gen 4) 256

/-- Bits a finish key's derivation gives, by ALG (R385, R386). -/
def keyBits (alg : Nat) : Nat :=
  match alg with
  | 1 => 384 | 2 => 256 | 5 => 256 | _ => 448

/-- A finish slot's key: unwrapped where it was imported, derived otherwise (R385, R386). -/
def State.finishKey (s : State) (i : Nat) : List Byte :=
  let k := s.slot i
  if k.imported then Config.keyUnwrap (s.wrapKey k.parent) k.material
  else kdf (s.brownKey k.parent) (ascii "CYO-FINISH") (be i 2 ++ be k.gen 4 ++ be k.tag 2) (keyBits k.alg)

/-- The private key an ECDSA or ECDH slot holds (R385). -/
def State.keyScalar (s : State) (i : Nat) : Nat := if (s.slot i).imported then ofBe (s.finishKey i) else scalarOf (s.finishKey i)

/-! ### A slot's bytes (R386) -/

/-- Bytes 0 to 23 of a slot. -/
def slotHead (k : KeySlot) : List Byte :=
  le (if k.active then 1 else 0) 1 ++ le k.coat 1 ++ le k.purpose 1 ++ le k.alg 1 ++ le k.parent 2 ++ le k.use 2 ++ le k.gen 4 ++
    le k.parentGen 4 ++ le k.tag 2 ++ le (if k.imported then 1 else 0) 1 ++ le 0 5

/-- Bytes 0 to 111: the head, MATERIAL, and reserved bytes. -/
def slotBody (k : KeySlot) : List Byte := slotHead k ++ fixLen 64 k.material ++ List.replicate 24 (0 : Byte)

/-- A slot as its 128 bytes, with the CHECK a write gives it; the two bytes of its index go low byte first. Log entry 120
(DESIGN CHOICE, unsafe). -/
def State.slotBytes (s : State) (i : Nat) : List Byte :=
  let b := slotBody (s.slot i)
  b ++ (fixLen 48 (Config.hmac384 s.slotIntegrityKey (le i 2 ++ b))).take 16

/-! ### Import (R392) -/

/-- Bytes of a wrapped key, by ALG (R386, R392). -/
def wrapLen (alg : Nat) : Nat := if alg = 2 ∨ alg = 5 then 40 else 56

/-- The material of an imported key: agreed with slot 6 and the ephemeral public key, unwrapped under CYO-IMPORT, wrapped again
under the brown slot's wrapping key (steps 1 to 4 of R392). -/
def State.importMaterial (s : State) (epoch slot alg parent : Nat) (ephemeral wrapped : List Byte) : List Byte :=
  let z := Config.ecdh (s.keyScalar 6) ephemeral
  let kek := kdf z (ascii "CYO-IMPORT") (s.serialBytes ++ be slot 2 ++ be epoch 8) 256
  Config.keyWrap (s.wrapKey parent) (Config.keyUnwrap kek (wrapped.take (wrapLen alg)))

/-! ### Anti-rollback counters (R375) -/

/-- The value of a counter: the index of its highest burned bit plus 1, or 0. -/
def svnValue (b : BitVec 64) : Nat := if b = 0 then 0 else b.toNat.log2 + 1

/-- Burn bits 0 to v − 1: no bit is ever cleared. -/
def burnTo (b : BitVec 64) (v : Nat) : BitVec 64 := b ||| BitVec.ofNat 64 (2 ^ min v 64 - 1)

end Sys2Proof.Machine
end

