-- ==== Sys2Proof/Machine/Binary32.lean ====
section
/-! DEFINITION. IEEE 754 binary32 arithmetic as R71 fixes it: exact dyadic results, one rounding to nearest, ties to even;
subnormals kept; one NaN. -/

namespace Sys2Proof.Machine.F32

/-- The one NaN the engines deliver (R71). -/
def nan : Word := 0x7FC00000#32
/-- +∞. -/
def inf : Word := 0x7F800000#32

/-- Sign bit. -/
def sign (w : Word) : Bool := w.getLsbD 31
/-- Bits [30:0]. -/
def mag (w : Word) : Nat := w.toNat % 2 ^ 31
/-- A NaN. -/
def isNan (w : Word) : Bool := mag w > 0x7F800000
/-- A signalling NaN: its quiet bit is 0. -/
def isSnan (w : Word) : Bool := isNan w && !w.getLsbD 22
/-- ±∞. -/
def isInf (w : Word) : Bool := mag w == 0x7F800000
/-- Neither NaN nor infinite. -/
def isFinite (w : Word) : Bool := mag w < 0x7F800000
/-- ±0. -/
def isZero (w : Word) : Bool := mag w == 0

/-- The number of a finite pattern is `m * 2 ^ e`, sign apart. -/
def parts (w : Word) : Nat × Int :=
  let x : Nat := mag w / 2 ^ 23
  let f : Nat := mag w % 2 ^ 23
  if x = 0 then (f, -149) else (f + 2 ^ 23, (x : Int) - 150)

/-- Give a magnitude its sign. -/
def withSign (s : Bool) (m : Nat) : Word := BitVec.ofNat 32 (m + if s then 2 ^ 31 else 0)

/-- Round `m * 2 ^ e` to binary32, ties to even; the flag tells of overflow to infinity (R71). -/
def round (s : Bool) (m : Nat) (e : Int) : Word × Bool :=
  if m = 0 then (withSign s 0, false)
  else
    let q : Int := max ((m.log2 : Int) + e - 23) (-149)
    let mant :=
      if q ≤ e then m <<< (e - q).toNat
      else
        let k := (q - e).toNat
        let t := m >>> k
        let r := m - (t <<< k)
        let half := 1 <<< (k - 1)
        if r > half ∨ (r = half ∧ t % 2 = 1) then t + 1 else t
    let b := (q + 149).toNat * 2 ^ 23 + mant
    if b ≥ 0x7F800000 then (withSign s 0x7F800000, true) else (withSign s b, false)

/-- A signed dyadic. -/
def sgnd (s : Bool) (m : Nat) : Int := if s then -(m : Int) else m

/-- `n * 2 ^ e` rounded; an exact zero takes the sign given. -/
def roundInt (n : Int) (e : Int) (zeroNeg : Bool) : Word × Bool :=
  if n = 0 then (withSign zeroNeg 0, false) else round (n < 0) n.natAbs e

/-- Scale an integer to a lower exponent. -/
def scale (n : Int) (e lo : Int) : Int := n * 2 ^ (e - lo).toNat

/-- The sum of two finite numbers given as dyadics. -/
def addDyadic (sa : Bool) (ma : Nat) (ea : Int) (sb : Bool) (mb : Nat) (eb : Int) : Word × Bool :=
  let lo := min ea eb
  roundInt (scale (sgnd sa ma) ea lo + scale (sgnd sb mb) eb lo) lo (sa && sb)

/-- Addition; the flag is the OVF of R71. Log entry 17 (PRESUMED, unsafe). -/
def add (a b : Word) : Word × Bool :=
  if isNan a || isNan b then (nan, isSnan a || isSnan b)
  else if isInf a && isInf b then if sign a == sign b then (a, false) else (nan, true)
  else if isInf a then (a, false)
  else if isInf b then (b, false)
  else addDyadic (sign a) (parts a).1 (parts a).2 (sign b) (parts b).1 (parts b).2

/-- Inverts bit 31 (NEGF). -/
def neg (a : Word) : Word := a ^^^ 0x80000000#32
/-- Clears bit 31 (ABSF). -/
def abs (a : Word) : Word := a &&& 0x7FFFFFFF#32

/-- Subtraction. -/
def sub (a b : Word) : Word × Bool :=
  if isNan a || isNan b then (nan, isSnan a || isSnan b) else add a (neg b)

/-- Multiplication. Log entry 17 (PRESUMED, unsafe). -/
def mul (a b : Word) : Word × Bool :=
  let s := sign a != sign b
  if isNan a || isNan b then (nan, isSnan a || isSnan b)
  else if isInf a || isInf b then if isZero a || isZero b then (nan, true) else (withSign s 0x7F800000, false)
  else round s ((parts a).1 * (parts b).1) ((parts a).2 + (parts b).2)

/-- Division: the quotient to 64 bits with the remainder's presence below, then one rounding. -/
def div (a b : Word) : Word × Bool :=
  let s := sign a != sign b
  if isNan a || isNan b then (nan, isSnan a || isSnan b)
  else if isInf a then if isInf b then (nan, true) else (withSign s 0x7F800000, false)
  else if isInf b then (withSign s 0, false)
  else if isZero b then if isZero a then (nan, true) else (withSign s 0x7F800000, true)
  else
    let n := (parts a).1 <<< 64
    let d := (parts b).1
    let t := 2 * (n / d) + if n % d = 0 then 0 else 1
    round s t ((parts a).2 - (parts b).2 - 65)

/-- Integer square root, one bit a step from bit `k` down. -/
def isqrtFrom (n : Nat) : Nat → Nat → Nat
  | 0, r => r
  | k + 1, r => let t := r + 2 ^ k; isqrtFrom n k (if t * t ≤ n then t else r)

/-- Square root. Log entry 17 (PRESUMED, unsafe). -/
def sqrt (a : Word) : Word × Bool :=
  if isNan a then (nan, isSnan a)
  else if isZero a then (a, false)
  else if sign a then (nan, true)
  else if isInf a then (a, false)
  else
    let p := parts a
    let odd := p.2 % 2 != 0
    let m := (if odd then 2 * p.1 else p.1) <<< 64
    let e := if odd then p.2 - 1 else p.2
    let r := isqrtFrom m 45 0
    round false (2 * r + if r * r = m then 0 else 1) (e / 2 - 33)

/-- Fused multiply-add `a * b + c` with one rounding (R128); NaN results canonical. -/
def fma (a b c : Word) : Word :=
  let s := sign a != sign b
  if isNan a || isNan b || isNan c then nan
  else if isInf a || isInf b then
    if isZero a || isZero b then nan
    else if isInf c && sign c != s then nan else withSign s 0x7F800000
  else if isInf c then c
  else (addDyadic s ((parts a).1 * (parts b).1) ((parts a).2 + (parts b).2) (sign c) (parts c).1 (parts c).2).1

/-- The order of non-NaN numbers as integers; both zeros are 0. -/
def key (a : Word) : Int := if sign a then -(mag a : Int) else mag a

/-- Equal, less and less-or-equal as R73 gives them: false with a NaN. -/
def eq (a b : Word) : Bool := !isNan a && !isNan b && key a == key b
/-- Less. -/
def lt (a b : Word) : Bool := !isNan a && !isNan b && key a < key b
/-- Less or equal. -/
def le (a b : Word) : Bool := !isNan a && !isNan b && key a ≤ key b

/-- The smaller (R71). -/
def min (a b : Word) : Word :=
  if isNan a && isNan b then nan else if isNan a then b else if isNan b then a
  else if key a < key b then a else if key b < key a then b else if sign a then a else b
/-- The larger (R71). -/
def max (a b : Word) : Word :=
  if isNan a && isNan b then nan else if isNan a then b else if isNan b then a
  else if key b < key a then a else if key a < key b then b else if sign a then b else a

/-- An integer as binary32. -/
def ofInt (n : Int) : Word := (roundInt n 0 false).1
/-- A rational `n / d` as binary32. -/
def ofRat (n : Int) (d : Nat) : Word :=
  let m := n.natAbs <<< 64
  (round (n < 0) (2 * (m / d) + if m % d = 0 then 0 else 1) (-65)).1

/-- Truncate toward zero, exactly. -/
def trunc (a : Word) : Int :=
  let p := parts a
  sgnd (sign a) (if 0 ≤ p.2 then p.1 <<< p.2.toNat else p.1 >>> (-p.2).toNat)

/-- To the nearest integer, ties to even. -/
def nearest (a : Word) : Int :=
  let p := parts a
  if 0 ≤ p.2 then sgnd (sign a) (p.1 <<< p.2.toNat)
  else
    let k := (-p.2).toNat
    let t := p.1 >>> k
    let r := p.1 - (t <<< k)
    let half := 1 <<< (k - 1)
    sgnd (sign a) (if r > half ∨ (r = half ∧ t % 2 = 1) then t + 1 else t)

/-- Saturate an integer to a range. -/
def clampInt (lo hi n : Int) : Int := if n < lo then lo else if hi < n then hi else n

/-- FTOI (R71): truncates, saturates, NaN to 0, with OVF in both cases. -/
def toInt (a : Word) : Word × Bool :=
  if isNan a then (0, true)
  else if isInf a then (if sign a then 0x80000000#32 else 0x7FFFFFFF#32, true)
  else
    let t := trunc a
    let c := clampInt (-(2 ^ 31)) (2 ^ 31 - 1) t
    (BitVec.ofInt 32 c, c != t)

end Sys2Proof.Machine.F32
end

