-- ==== Sys2Proof/Machine/TimeBase.lean ====
section
/-! DEFINITION. Network time as every unit reads it: the mapping from the counter C, hardware stamps, screed instants and
the epoch a stamp belongs to (R36, R38, R303, R326, R327). -/

namespace Sys2Proof

/-- NT under a mapping at counter value `c`, in units of 2^-16 ns, rounded down (R326). -/
def Mapping.at (m : Mapping) (c : Nat) : Int := m.base + (((c : Int) - m.baseC) * 262144 * (2 ^ 32 + m.rate)) / 2 ^ 32

end Sys2Proof

namespace Sys2Proof.Machine

/-- Network time in 2^-16 ns. -/
def State.nt16 (s : State) : Int := s.nt.map.at s.core.c

/-- Network time in whole ns, rounded down (R326). -/
def State.ntNs (s : State) : Int := s.nt16 / 65536

/-- The mapping in force at a counter value, of the four held (R327). -/
def State.mapAt (s : State) (c : Nat) : Option Mapping := ((s.nt.map :: s.nt.old).take 4).find? (·.baseC ≤ c)

/-- A hardware stamp taken `age` counts ago, in ns under the mapping in force at its capture (R327). -/
def State.stampNs (s : State) (age : Nat) : Int :=
  let c := s.core.c - age
  ((s.mapAt c).getD s.nt.map).at c / 65536

/-- Tick period in ns. -/
def State.periodNs (s : State) : Int := s.period * 1000000

/-- The estate origin in ns (R36). -/
def State.originNs (s : State) : Int :=
  ((s.core.fget Reg.TICK_ORIGIN_LO_SEC_LO + 2 ^ 32 * s.core.fget Reg.TICK_ORIGIN_HI_SEC_HI : Nat) : Int) * 1000000000

/-- T0(N) in ns of network time (R36). -/
def State.t0 (s : State) (n : Nat) : Int := s.originNs + n * s.periodNs

/-- The epoch in which an instant lies: the last whose T0 is not after it (R48). -/
def State.epochAt (s : State) (ns : Int) : Nat := ((ns - s.originNs) / s.periodNs).toNat

/-- The epoch a payload stamped `ns` belongs to (R38). -/
def State.stampEpoch (s : State) (ns : Int) : Nat := s.epochAt ns + 1

/-- The smallest epoch whose T0 is not before `ns`. -/
def State.epochFrom (s : State) (ns : Int) : Nat := (-((s.originNs - ns) / s.periodNs)).toNat

/-- Where a controller's stamp counter stands against network time: within 25 ns (R303). Log entry 75 (DESIGN CHOICE, safe).
-/
def State.canErr (s : State) (ctl : Nat) (at_ : Int) : Int :=
  let e := Config.canStampErr ctl (s.can.ctl.atD ctl {}).adjusts at_
  if e < -25 then -25 else if 25 < e then 25 else e

/-- A controller's stamp counter `age` counts ago (R303, R304). Log entry 75 (DESIGN CHOICE, safe). -/
def State.canStamp (s : State) (ctl age : Nat) : Int :=
  let t := s.stampNs age
  t + s.canErr ctl t

/-- U, the UTC offset in s (R340): the received one while it is valid, else NT_UTC.OFFSET. -/
def State.utcOffset (s : State) : Int := s.nt.utcRx.getD (s.core.sget Reg.NT_UTC_OFFSET)

/-- Network time, in 2^-16 ns, that the backup domain's count stands for (R340). -/
def State.backup16 (s : State) : Int :=
  (s.core.fget Reg.BKP_SEC_SEC + s.utcOffset + 946684800) * 1000000000 * 65536 +
    s.core.fget Reg.BKP_FRAC_FRAC * 1000000000

end Sys2Proof.Machine
end

