-- ==== Sys2Proof/Machine/Fields.lean ====
section
/-! DEFINITION. Fields of frame payloads: the conversions of an extraction and of an insertion (R293, R314). -/

namespace Sys2Proof.Machine

/-- `n / d` to the nearest integer, ties to even. Log entry 110 (DESIGN CHOICE, unsafe). -/
def rneDiv (n : Int) (d : Nat) : Int :=
  if d = 0 then 0
  else
    let q := n / d
    let r := n % d
    if 2 * r < d then q else if 2 * r > d then q + 1 else if q % 2 = 0 then q else q + 1

/-- `n` bytes of a payload from an offset; none where it is too short. -/
def bytesAt (xs : List Byte) (off n : Nat) : Option (List Byte) :=
  let b := (xs.drop off).take n
  if b.length = n then some b else none

/-- Bytes a FORM takes (R293). -/
def formBytes (f : Fin 6) : Nat :=
  match f.val with
  | 0 => 1 | 1 => 2 | 2 => 2 | _ => 4

/-- The raw number of an extraction: as int16, uint16, int32, uint32, or the bits of a binary32 or of a byte (R293). -/
def rawNumber (e : Extraction) (xs : List Byte) : Option Int :=
  (bytesAt xs e.offset (formBytes e.form)).map fun b =>
    let n := ofLe (if e.little then b else b.reverse)
    match e.form.val with
    | 1 => signedOf 16 n
    | 3 => signedOf 32 n
    | _ => n

/-- SCALE × n + ADD with the number taken exactly and one rounding (R293). -/
def scaleInt (scale : Word) (n : Int) (add : Word) : Word :=
  if !F32.isFinite scale || !F32.isFinite add then F32.fma scale (F32.ofInt n) add
  else
    let p := F32.parts scale
    let a := F32.parts add
    (F32.addDyadic (F32.sign scale != decide (n < 0)) (p.1 * n.natAbs) p.2 (F32.sign add) a.1 a.2).1

/-- The VALUE an extraction yields for a cell of a kind (R293); none for a payload too short. -/
def extractValue (e : Extraction) (k : Kind) (xs : List Byte) : Option Word :=
  (rawNumber e xs).map fun n =>
    match e.form.val with
    | 0 => if (n / 2 ^ e.bit.val) % 2 = 1 then 1 else 0
    | 5 => BitVec.ofInt 32 n
    | _ => match k with
      | .binary32 => scaleInt e.scale n e.add
      | .uint32 => BitVec.ofInt 32 (if n < 0 then 0 else n)
      | _ => BitVec.ofInt 32 n

/-- A finite binary32 as an integer times 2^-149. -/
def exact149 (w : Word) : Int :=
  let p := F32.parts w
  F32.sgnd (F32.sign w) p.1 * 2 ^ (p.2 + 149).toNat

/-- The integer of round((VALUE − ADD) ÷ SCALE) (R314); none where it is not a number. Infinite where the bounds say. Log
entry 110 (DESIGN CHOICE, unsafe). -/
def insertNumber (e : Extraction) (v : Word) (lo hi : Int) : Option Int :=
  if F32.isNan v || !F32.isFinite e.scale || !F32.isFinite e.add then none
  else
    let neg := F32.sign v != F32.sign e.scale
    if F32.isInf v then some (if neg then lo else hi)
    else
      let n := exact149 v - exact149 e.add
      let d := exact149 e.scale
      if d = 0 then (if n = 0 then none else some (if n < 0 then lo else hi))
      else some (F32.clampInt lo hi (rneDiv (if d < 0 then -n else n) d.natAbs))

/-- The range of a FORM (R314). -/
def formRange (f : Fin 6) : Int × Int :=
  match f.val with
  | 1 => (-(2 ^ 15), 2 ^ 15 - 1) | 2 => (0, 2 ^ 16 - 1) | 3 => (-(2 ^ 31), 2 ^ 31 - 1) | _ => (0, 2 ^ 32 - 1)

/-- The number an insertion writes for a cell's VALUE (R314). Log entry 110 (DESIGN CHOICE, unsafe). -/
def insertRaw (e : Extraction) (k : Kind) (v : Word) : Option Nat :=
  let r := formRange e.form
  let w := 8 * formBytes e.form
  match e.form.val with
  | 0 => some (if v.getLsbD 0 then 2 ^ e.bit.val else 0)
  | 5 => some v.toNat
  | _ => match k with
    | .binary32 => (insertNumber e v r.1 r.2).map (bitsOf w)
    | .int32 => some (bitsOf w (F32.clampInt r.1 r.2 v.toInt))
    | _ => some (bitsOf w (F32.clampInt r.1 r.2 v.toNat))

/-- Put an insertion's bytes into data bytes (R314); a bit is ORed into its byte. -/
def insertBytes (e : Extraction) (n : Nat) (xs : List Byte) : List Byte :=
  let b := le n (formBytes e.form)
  let b := if e.little then b else b.reverse
  (b.zipIdx).foldl (fun xs p =>
    let i := e.offset + p.2
    xs.set i (if e.form.val = 0 then xs.getD i 0 ||| p.1 else p.1)) xs

end Sys2Proof.Machine
end

