-- ==== Sys2Proof/Machine/Service.lean ====
section
/-! DEFINITION. Answering requests: sessions and host queues, the domain of a requester, the order of responses, repeated
requests, and what maintenance and the standby role refuse (R33 to R35, R262 to R271, R396). -/

namespace Sys2Proof.Machine

/-- The unit's own role as R222 shows it in GLB_UNIT.ROLE: standby. -/
def State.standby (s : State) : Bool := s.core.isStandby

/-- The domain a request runs under (R34). -/
def State.domainOf (s : State) : ReqSrc → Option Nat
  | .session n => (s.svc.sessions.at? n).map (·.domain)
  | .queue q => if s.core.flag Reg.HQ_CFG_ENABLE q then some (s.core.fget Reg.HQ_CFG_DOMAIN q) else none

/-- Put a session back. -/
def State.putSession (s : State) (n : Fin 32) (x : Session) : State :=
  { s with svc := { s.svc with sessions := s.svc.sessions.put n x } }

/-- Put a queue back. -/
def State.putQueue (s : State) (q : Fin 64) (x : Queue) : State :=
  { s with hq := { s.hq with queues := s.hq.queues.put q x } }

/-- A queue's hidden state. -/
def State.queue (s : State) (q : Fin 64) : Queue := s.hq.queues.atD q {}

/-- The answered requests at the head of a session's line, and what is left of it: responses go out in request order (R265).
Log entry 62 (DESIGN CHOICE, unsafe). -/
def flushLine : List LineEntry → List (LineEntry × Status × List Byte) × List LineEntry
  | [] => ([], [])
  | e :: rest => match e.answer with
    | some x => ((e, x) :: (flushLine rest).1, (flushLine rest).2)
    | none => ([], e :: rest)

/-- Fill the answer of the first request of that REQ_ID that waits, and, where its response is remembered, of each repeat of
it that waits too (R271). Log entry 62 (DESIGN CHOICE, unsafe). -/
def fillLine (id : Word) (x : Status × List Byte) : List LineEntry → List LineEntry
  | [] => []
  | e :: rest =>
    if e.id = id ∧ e.answer = none then
      { e with answer := some x } :: (if e.kept then rest.map fun o =>
        if o.id = id ∧ o.kept = true ∧ o.answer = none then { o with answer := some x } else o else rest)
    else e :: fillLine id x rest

/-- Hand a port something to send (R284): a port without a link has no queue (R279). -/
def State.enqueue (s : State) (p : Nat) (i : TxItem) : State :=
  if s.core.flag Reg.FP_STAT_LINK p then { s with net := { s.net with txq := s.net.txq.alter p [] (· ++ [i]) } } else s

/-- An uplink carries exchange traffic (R250). -/
def State.carriesXch (s : State) (p : Nat) : Bool := p == 0 || (p == 1 && s.core.flag Reg.XCH_CFG_DUAL)

/-- The multicast group of a publishing position: the image's prefix and the position (R250). -/
def State.groupOf (s : State) (pos : Nat) : Nat := s.cfg.xchPrefix * 2 ^ 16 + pos

/-- The groups of the subscriptions are joined on an uplink that carries exchange traffic, by MLDv2 reports (R250). Log entry
66 (DESIGN CHOICE, unsafe). -/
def State.joinGroups (s : State) (p : Nat) : State :=
  if s.carriesXch p then
    (pieces 60 1024 (s.xch.subs.map fun u => s.groupOf u.pubPos)).foldl (fun (s : State) gs => s.enqueue p (.mld gs)) s
  else s

/-- A message's 16-byte header (R265): LENGTH, TYPE, FLAGS, REQ_ID, STATUS. -/
def messageHeader (len type flags id status : Nat) : List Byte :=
  le (16 + len) 4 ++ le type 2 ++ le flags 2 ++ le id 4 ++ le status 2 ++ le 0 2

/-- A message as TLS records of up to 16,384 bytes of plaintext, each with its 5-byte header and 17 bytes of content type and
tag (R262). Log entry 62 (DESIGN CHOICE, unsafe). -/
def State.tlsRecords (s : State) (n : Nat) (msg : List Byte) : List Byte :=
  ((pieces 16384 (msg.length + 1) msg).zipIdx).flatMap fun p =>
    be 0x170303 3 ++ be (p.1.length + 17) 2 ++ cut (Config.tlsSeal n (s.core.fresh + p.2) p.1) 0 (p.1.length + 17)

/-- The segment size of a send of the point service (R287): TCP in IPv6 without options. Log entry 66 (DESIGN CHOICE, unsafe).
-/
def State.segSize (s : State) : Nat := s.core.fget Reg.XCH_CFG_MTU - 60

/-- A TCP send of session `n` on an uplink (R287): IPv6 without extension headers, and TCP without options, from the service
port. Log entry 66 (DESIGN CHOICE, unsafe). -/
def State.tcpSend (s : State) (p n place : Nat) (xs : List Byte) : Send :=
  let h := cut (Config.tcpHeaders n (s.core.fresh + place)) 0 74
  { eth := patch (patch (h.take 14) 6 (be (s.sec.otp.macs.getD p 0) 6)) 12 (be 0x86DD 2), ip := patch (patch ((h.drop 14).take 40) 0 (be 0x60 1)) 6 (be 6 1)
    l4 := patch (patch (patch (h.drop 54) 0 (be (s.core.fget Reg.XCH_PORT_SERVICE) 2)) 12 (be 0x50 1)) 13 (be 0x18 1)
    payload := xs, seg := s.segSize }

/-- A bulk send of a session. -/
def bulkOf (n : Nat) : TxItem → Bool
  | .bulk i _ _ => i == n
  | _ => false

/-- TYPE of TREND (R479). -/
def trendType : Nat := 0x00A0

/-- A point-service message goes out on its session's uplink in sends of up to 65,535 bytes, trend data as bulk (R265, R284,
R287); `upd` of it is freed when it has been sent. What follows bulk data in the session's stream is bulk too. Log entry 62
(DESIGN CHOICE, unsafe). -/
def State.sendMessage (s : State) (n : Fin 32) (type upd : Nat) (msg : List Byte) : State :=
  let p := ((s.svc.sessions.at? n).map (·.port)).getD 0
  let bulk := type == trendType || (s.net.txq.atD p []).any (bulkOf n)
  let ps := pieces 65535 (msg.length + 1) (s.tlsRecords n msg)
  let s := ps.zipIdx.foldl (fun (s : State) x =>
    let y := s.tcpSend p n x.2 x.1
    s.enqueue p (if bulk then .bulk n y 0 else .service n (if x.2 + 1 = ps.length then upd else 0) y 0)) s
  s.onCore fun k => { k with fresh := k.fresh + msg.length / 16384 + 1 }

/-- What stands answered at the head of a session's line goes out (R265, R276). -/
def State.flushSession (s : State) (n : Fin 32) (x : Session) : State :=
  let f := flushLine x.line
  f.1.foldl (fun (s : State) o =>
    (s.onCore (·.emit (.response ⟨.session n, o.1.id⟩ o.2.1 o.2.2))).sendMessage n o.1.type 0
      (messageHeader o.2.2.length o.1.type 1 o.1.id.toNat o.2.1.code ++ o.2.2)) (s.putSession n { x with line := f.2 })

/-- Requests of a line that stand answered. -/
def answered (xs : List LineEntry) : Nat := (xs.filter (·.answer.isSome)).length

/-- Answer a request (R265, R276): a session's in its turn, a queue's as the response its descriptor writes. -/
def State.answer (s : State) (r : Req) (st : Status) (body : List Byte) : State :=
  match r.src with
  | .session n => match s.svc.sessions.at? n with
    | none => s
    | some x =>
      let line := fillLine r.reqId (st, body) x.line
      (s.onCore (·.bump Reg.PS_REQ_COUNT 0 (answered line - answered x.line))).flushSession n { x with line := line }
  | .queue q =>
    let x := s.queue q
    match x.cur with
    | none => s
    | some p =>
      if p.answer.isSome then s
      else s.putQueue q { x with cur := some { p with answer := some (st, body) } }

/-- Remember the response of a WRITE, COMMAND or IMAGE request: the last 16 of a session (R271). -/
def State.remember (s : State) (r : Req) (st : Status) (body : List Byte) : State :=
  match r.src with
  | .session n => match s.svc.sessions.at? n with
    | none => s
    | some x => s.putSession n { x with memory := ((r.reqId, st, body) :: x.memory).take 16 }
  | .queue _ => s

/-- Answer and remember. -/
def State.answerKept (s : State) (r : Req) (st : Status) (body : List Byte) : State :=
  (s.remember r st body).answer r st body

/-- A refusal's body (R268). -/
def causeBody (c : Cause) : List Byte := le c.code 4

/-- A COMMAND response's body (R266): application epoch, cause. -/
def commandBody (epoch : Nat) (c : Cause) : List Byte := le epoch 8 ++ le c.code 4

/-- Which classes of request maintenance and an unclaimed module still serve (R396). -/
structure Gate where
  /-- Served in maintenance. -/
  maint : Bool := false
  /-- Served by an unclaimed module. -/
  unclaimed : Bool := false
  /-- A write or a command: a standby answers NOT_DUTY (R264). -/
  writes : Bool := false
  /-- A command that names its unit by SERIAL and goes to each unit of a pair (R391, R410): a standby serves it. -/
  unit : Bool := false
  /-- Served by the boot ROM in recovery, on queue pair 0 (R381). -/
  rom : Bool := false
  /-- Its response is remembered (R271). -/
  kept : Bool := false
  /-- A COMMAND, whose response carries an application epoch and a cause (R266). -/
  command : Bool := false
  /-- The message's TYPE (R266). -/
  type : Nat := 0
  deriving DecidableEq, Repr, Inhabited

/-- The body a refusal has (R268). -/
def Gate.body (g : Gate) (c : Cause) : List Byte :=
  if g.command then commandBody 0 c else if c = .none then [] else causeBody c

/-- No OWNER_HASH is written (R376). -/
def State.unclaimed (s : State) : Bool := s.sec.otp.ownerHash.isEmpty

/-- Answer a request of class `g`, remembered where its class is (R271). -/
def State.answerFor (s : State) (r : Req) (g : Gate) (st : Status) (c : Cause) : State :=
  if g.kept then s.answerKept r st (g.body c) else s.answer r st (g.body c)

/-- What a request meets before its service, under its domain (R264, R381, R396). -/
def State.gated (s : State) (r : Req) (g : Gate) (f : State → State) : State :=
  if s.core.fget Reg.SEC_BOOT_STAGE == 3 then (if g.rom && r.src == .queue 0 then f s else s.answerFor r g .refused .maintenance)
  else if g.writes && s.standby then s.answerFor r g .notDuty .none
  else if s.unclaimed && !g.unclaimed then s.answerFor r g .refused .maintenance
  else if s.core.state == 3 && !g.maint then s.answerFor r g .refused .maintenance
  else f s

/-- A session's request beyond 16 outstanding is answered BUSY in its turn (R264, R271). -/
def State.busySession (s : State) (n : Fin 32) (x : Session) (r : Req) (g : Gate) : State :=
  let again := x.memory.any (·.1 == r.reqId) || x.line.any fun e => e.id == r.reqId && e.kept
  let body := g.body .none
  let memory := if g.kept && !again then ((r.reqId, Status.busy, body) :: x.memory).take 16 else x.memory
  let e : LineEntry := { id := r.reqId, type := g.type, kept := g.kept, answer := some (.busy, body) }
  (s.onCore (·.bump Reg.PS_REQ_COUNT)).flushSession n { x with line := x.line ++ [e], memory := memory }

/-- A request arrives: it takes its place in the session's line (BUSY beyond 16, R264), a repeated REQ_ID gets the remembered
response, or waits for the response of the request it repeats (R271), maintenance and the standby role refuse it (R264, R396),
and otherwise `f` serves it under its domain. A request of a session that is not open, or of a queue with no descriptor in
progress, has no effect, and none has while PLL0 is lost (R462). Log entries 30 (DEDUCED, unsafe); 63 (DESIGN CHOICE, unsafe).
-/
def State.serve (s : State) (r : Req) (g : Gate) (f : Nat → State → State) : State :=
  if s.plat.frozen then s
  else match s.domainOf r.src with
  | none => s
  | some d => match r.src with
    | .session n => match s.svc.sessions.at? n with
      | none => s
      | some x =>
        if x.line.length ≥ 16 then s.busySession n x r g
        else
          let waits := g.kept && x.line.any fun e => e.id == r.reqId && e.kept && e.answer.isNone
          let s := s.putSession n { x with line := x.line ++ [{ id := r.reqId, type := g.type, kept := g.kept }] }
          if waits then s
          else match (if g.kept then x.memory.find? (·.1 == r.reqId) else none) with
            | some m => s.answer r m.2.1 m.2.2
            | none => s.gated r g (f d)
    | .queue q => match (s.queue q).cur with
      | none => s
      | some p => if p.answer.isSome || p.applied then s
        else (s.putQueue q { s.queue q with cur := some { p with applied := true } }).gated r g (f d)

end Sys2Proof.Machine

namespace Sys2Proof

/-- The command code of R269 and R391. -/
def Command.code : Command → Nat
  | .forceSet .. => 1 | .forceRemove .. => 2 | .touchUp .. => 3 | .recoatArm .. => 4 | .recoatCancel => 5 | .revertArm .. => 6
  | .slotUpdate .. => 7 | .stop => 8 | .restart .. => 9 | .loopReset .. => 0xA | .traceSetUp .. => 0xB
  | .meterSnapshot .. => 0xC | .switchover .. => 0xD | .recorderClear .. => 0xE | .maintenance .. => 0xF | .claim .. => 0x10
  | .ownerTransfer .. => 0x11 | .keyImport .. => 0x12 | .keyDestroy .. => 0x13 | .coatRenew .. => 0x14
  | .exchangeKeyRoll .. => 0x15 | .tamperClear .. => 0x16 | .recommission .. => 0x17 | .firmwareCommit .. => 0x18
  | .configurationCommit .. => 0x19

end Sys2Proof

namespace Sys2Proof.Machine

/-- The epoch rule of a signed command (R269): within 1,000 ticks, and above the highest accepted of its code. -/
def State.epochOk (s : State) (code epoch : Nat) : Bool :=
  let n := s.epoch
  n ≤ epoch + 1000 && epoch ≤ n + 1000 && (s.sec.replay.at? code).all (· < epoch)

/-- An accepted signed command raises the highest epoch of its code (R269). -/
def State.epochTaken (s : State) (code epoch : Nat) : State :=
  { s with sec := { s.sec with replay := s.sec.replay.put code epoch } }

/-- The pair runs in step (R238): PAIR_STATE 3 or 4. -/
def State.inStep (s : State) : Bool :=
  s.core.flag Reg.GLB_UNIT_PAIRED &&
    (s.core.fget Reg.PTR_STAT_PAIR_STATE == 3 || s.core.fget Reg.PTR_STAT_PAIR_STATE == 4)

/-- The partner of a duty is joining (R241): it gets COMMANDs for its buffer, and the duty applies them alone (R232). -/
def State.joins (s : State) : Bool := s.core.flag Reg.GLB_UNIT_PAIRED && s.core.fget Reg.PTR_STAT_PAIR_STATE == 2

/-- A command's body after the domain and state checks: the check that may refuse it, and its effect. -/
structure Doing where
  /-- Refusal, and how the refusal changes the state. -/
  check : State → Option (Status × Cause)
  refuse : State → State := id
  apply : State → State
  /-- The epoch at which it takes effect. -/
  epoch : State → Nat := fun s => s.epoch

/-- A duty whose standby is in step sends it a COMMAND and waits for its acknowledgement (R232). -/
def State.passCommand (s : State) (r : Req) (c : Passed) (epoch : Nat) : State :=
  { s with pair := { s.pair with cmds := s.pair.cmds ++ [(⟨s.pair.txSeq, r, c⟩ : Sent)] } }.sendFrame (.command c epoch)

/-- Serve a COMMAND (R269): domain 0 only; refused, or applied with its application epoch. In a pair whose standby is in step
a command that passes over the partner link waits for the standby's acknowledgement (R232). Log entry 27 (DESIGN CHOICE,
unsafe). -/
def State.command (s : State) (r : Req) (g : Gate) (pass : Option Command) (x : Doing) : State :=
  s.serve r { g with writes := !g.unit, kept := true, command := true, type := 0x80 } fun d s =>
    if d != 0 then s.answerKept r .domain (commandBody 0 .none)
    else match x.check s with
      | some (st, c) => (x.refuse s).answerKept r st (commandBody 0 c)
      | none =>
        match pass with
        | some c =>
          if s.inStep then s.passCommand r (.command c) (x.epoch s)
          else
            let s := if s.joins then
                { s with pair := { s.pair with accepted := s.pair.txSeq } }.sendFrame (.command (.command c) (x.epoch s))
              else s
            (x.apply s).answerKept r .ok (commandBody (x.epoch s) .none)
        | none => (x.apply s).answerKept r .ok (commandBody (x.epoch s) .none)

end Sys2Proof.Machine
end

