-- ==== Sys2Proof/Machine/CanOps.lean ====
section
/-! DEFINITION. What the CAN FD controllers share: events, error states, transmit buffers and their log, the choice of the next
frame, and roles (R300 to R323). -/

namespace Sys2Proof

/-- A bit of CAN_EVT is set; one that becomes set while it is enabled posts an event entry (R323, R428). -/
def Core.canEvent (k : Core) (c bit : Nat) : Core :=
  if (k.fget Reg.CAN_EVT_EVENTS c).testBit bit then k
  else
    let k := k.setBit Reg.CAN_EVT_EVENTS bit true c
    if (k.fget Reg.CAN_EVT_EN_ENABLES c).testBit bit then k.postEvent 1 c bit 0 (· == 0) else k

/-- Set an error counter, and follow it with the warning and the error state (R316). -/
def Core.canCounts (k : Core) (c tec rec_ : Nat) : Core :=
  let k := (k.fput Reg.CAN_ECR_TEC (min tec 511) c).fput Reg.CAN_ECR_REC (min rec_ 255) c
  let warn := decide (tec ≥ 96 ∨ rec_ ≥ 96)
  let k := if warn && !k.flag Reg.CAN_BUS_WARN c then k.canEvent c 8 else k
  let k := k.setFlag Reg.CAN_BUS_WARN warn c
  let st := k.fget Reg.CAN_BUS_STATE c
  let now := if tec > 127 ∨ rec_ > 127 then 1 else 0
  if st ≥ 2 ∨ st = now then k else (k.fput Reg.CAN_BUS_STATE now c).canEvent c 9

end Sys2Proof

namespace Sys2Proof.Machine

/-- A controller. -/
def State.canCtl (s : State) (c : Nat) : CanCtl := s.can.ctl.atD c {}

/-- Put a controller back. -/
def State.putCan (s : State) (c : Nat) (x : CanCtl) : State := { s with can := { s.can with ctl := s.can.ctl.put c x } }

/-- The controller is part of the running configuration and its domain runs. Log entry 76 (DESIGN CHOICE, unsafe). -/
def State.canOn (s : State) (c : Nat) : Bool :=
  s.core.flag Reg.CAN_CFG_VALID c && s.core.fget Reg.CAN_CFG_MODE c != 0 && !s.plat.por && !s.plat.rstLow && !s.plat.frozen && s.core.pllOk 2

/-- The controller must not drive the bus: listen-only, or on the role's account, or fenced (R302, R322). -/
def State.canSilent (s : State) (c : Nat) : Bool :=
  s.core.fget Reg.CAN_CFG_MODE c == 2 || (s.canCtl c).listen || s.net.fenced

/-- The controller takes part in the bus (R297, R302, R317, R322). -/
def State.canJoined (s : State) (c : Nat) : Bool :=
  s.canOn c && !(s.canCtl c).joining && !(s.canCtl c).exception && s.core.fget Reg.CAN_BUS_STATE c < 2

/-- The controller may send (R302, R317, R322, R464). -/
def State.canDrive (s : State) (c : Nat) : Bool := s.canJoined c && !s.canSilent c && !s.net.quiet && !s.plat.hold

/-- CAN_BUS.ACTIVITY between frames: integrating, idle, or transmitting. -/
def State.showActivity (s : State) (c : Nat) : State :=
  let busy := (s.canCtl c).bufs.any fun p => p.2.active
  s.onCore (·.fput Reg.CAN_BUS_ACTIVITY (if !s.canJoined c then 0 else if busy then 3 else 1) c)

/-- Show a controller's transmit buffers (CAN_TXSTAT). -/
def State.showTx (s : State) (c : Nat) : State :=
  let x := s.canCtl c
  let s : State := (List.range 3).foldl (fun (s : State) i =>
    let b := x.bufs.atD i {}
    s.onCore fun k => ((k.setBit Reg.CAN_TXSTAT_PEND i b.pending c).setBit Reg.CAN_TXSTAT_ACTIVE i b.active c).setBit
      Reg.CAN_TXSTAT_CANCEL i b.cancel c) s
  s.showActivity c

/-- Data bytes of a DLC (R306): CAN FD beyond 8. -/
def dlcBytes (fd : Bool) (dlc : Nat) : Nat :=
  if dlc ≤ 8 then dlc
  else if !fd then 8
  else match dlc with
    | 9 => 12 | 10 => 16 | 11 => 20 | 12 => 24 | 13 => 32 | 14 => 48 | _ => 64

/-! ### The transmit log (R315) -/

/-- Byte 4 of an element (R306). Log entry 73 (PRESUMED, unsafe). -/
def elementBits (el : CanElement) (esi : Bool) : Nat :=
  (if el.ext then 1 else 0) + (if el.rmt then 2 else 0) + (if el.fd then 4 else 0) + (if el.brs then 8 else 0) +
    (if esi then 16 else 0)

/-- A transmit event as its 16 bytes (R315). -/
def TxEvent_bytes (e : TxEvent) : List Byte :=
  le e.el.id.toNat 4 ++ le (elementBits e.el e.esi) 1 ++ le e.el.dlc.toNat 1 ++ le e.status 1 ++ le e.buffer 1 ++
    le e.stamp.toNat 8

/-- Queues whose CAN_TX waits for the request in a buffer get its transmit event (R422, R424). -/
def State.answerCan (s : State) (c b : Nat) (e : TxEvent) : State :=
  (List.finRange 64).foldl (fun (s : State) q => match (s.queue q).cur with
    | some g =>
      if g.waitCan = some (c, b, false) ∧ g.answer.isNone then
        s.putQueue q { s.queue q with cur := some { g with answer := some (.ok, TxEvent_bytes e), waitCan := none } }
      else s
    | none => s) s

/-- A request that waited for the attempt before it is the buffer's request now. -/
def State.promoteCan (s : State) (c b : Nat) : State :=
  (List.finRange 64).foldl (fun (s : State) q => match (s.queue q).cur with
    | some g =>
      if g.waitCan = some (c, b, true) then
        s.putQueue q { s.queue q with cur := some { g with waitCan := some (c, b, false) } }
      else s
    | none => s) s

/-- The event of a request: error-passive nodes send ESI recessive (R306, R316). -/
def State.txEvent (s : State) (c b : Nat) (el : CanElement) (status : Nat) (stamp : Int) : TxEvent :=
  { el := el, esi := el.fd && s.core.fget Reg.CAN_BUS_STATE c == 1, status := status, buffer := b, stamp := stamp }

/-- A completed, cancelled or dropped transmission (R315): its event goes into the log and to the descriptors that wait. -/
def State.logCan (s : State) (c b : Nat) (el : CanElement) (status : Nat) (stamp : Int) : State :=
  let e := s.txEvent c b el status stamp
  let x := s.canCtl c
  let s := if x.log.length ≥ 16 then s.onCore (·.canEvent c 1) else s
  (s.putCan c { x with log := (e :: x.log).take 16 }).answerCan c b e

/-! ### Transmit buffers (R312, R313) -/

/-- Change a buffer. -/
def State.onBuf (s : State) (c b : Nat) (f : TxBuffer → TxBuffer) : State :=
  let x := s.canCtl c
  s.putCan c { x with bufs := x.bufs.alter b {} f }

/-- New content for a buffer (R313): it replaces a waiting request, and waits for the end of an attempt. -/
def State.canPut (s : State) (c b : Nat) (el : CanElement) : State :=
  (s.onBuf c b fun t => if t.active then { t with next := some el } else { t with el := el, pending := true, cancel := false }).showTx c

/-- A cancel (R313): at once where nothing is in transmission, else on the failure of the attempt; content that waits goes. -/
def State.canCancel (s : State) (c b : Nat) : State :=
  let t := (s.canCtl c).bufs.atD b {}
  if t.active then (s.onBuf c b fun t => { t with cancel := true, next := none }).showTx c
  else if t.pending then ((s.onBuf c b fun t => { t with pending := false }).logCan c b t.el 1 0).showTx c
  else s

/-- The attempt of a buffer has failed or lost arbitration (R312, R313): the request stays, is cancelled, or is replaced. -/
def State.canFail (s : State) (c b : Nat) : State :=
  let t := (s.canCtl c).bufs.atD b {}
  if !t.active then s
  else match t.next with
    | some el =>
      let s := (s.onBuf c b fun t => { t with el := el, pending := true, active := false, cancel := false, next := none }).answerCan
        c b (s.txEvent c b t.el 1 0)
      (s.promoteCan c b).showTx c
    | none =>
      if t.cancel then
        ((s.onBuf c b fun t => { t with pending := false, active := false, cancel := false }).logCan c b t.el 1 0).showTx c
      else (s.onBuf c b fun t => { t with active := false }).showTx c

/-- Every attempt of a controller fails. Log entry 71 (DEDUCED, unsafe). -/
def State.canFailAll (s : State) (c : Nat) : State :=
  (List.range 3).foldl (fun (s : State) b => s.canFail c b) s

/-- A frame of a buffer has been sent (R313, R315): counted, logged, and content that waits is a new request. -/
def State.canSent (s : State) (c b : Nat) (stamp : Int) : State :=
  let x := s.canCtl c
  let t := x.bufs.atD b {}
  let s := s.putCan c { x with sent := (b, t.el) :: x.sent }
  let s := s.onCore fun k =>
    let tec := k.fget Reg.CAN_ECR_TEC c
    ((k.canCounts c (tec - 1) (k.fget Reg.CAN_ECR_REC c)).bump Reg.CAN_TX_OK_COUNT c).canEvent c 0
  let s := (s.onBuf c b fun t => match t.next with
    | some el => { t with el := el, pending := true, active := false, cancel := false, next := none }
    | none => { t with pending := false, active := false, cancel := false }).logCan c b t.el 0 stamp
  (s.promoteCan c b).showTx c

/-! ### The choice of the next frame (R312, R319) -/

/-- What wins arbitration: the arbitration field as a number, the lowest first (R312). -/
def arbitration (el : CanElement) : Nat :=
  let i := el.id.toNat
  let r := if el.rmt then 1 else 0
  if el.ext then i / 2 ^ 18 * 2 ^ 21 + 2 ^ 20 + 2 ^ 19 + i % 2 ^ 18 * 2 + r else i % 2 ^ 11 * 2 ^ 21 + r * 2 ^ 20

/-- One nominal or data bit, ns (R299). -/
def bitNs (brp seg1 seg2 : Nat) : Nat := brp * (1 + seg1 + seg2) * 25 / 2

/-- The longest a frame can last, with every stuff bit, in ns, by the frame formats of ISO 11898-1. Log entry 73 (PRESUMED,
unsafe). -/
def longestNs (g : CanCfg) (el : CanElement) : Nat :=
  let n := 8 * dlcBytes el.fd el.dlc.toNat
  let nom := bitNs g.nomBrp g.nomSeg1 g.nomSeg2
  let dat := if el.brs then bitNs g.datBrp g.datSeg1 g.datSeg2 else nom
  if !el.fd then
    let head := if el.ext then 54 else 34
    (head + (if el.rmt then 0 else n) + (head - 1 + n) / 4 + 10) * nom
  else
    let head := if el.ext then 36 else 17
    let crc := if n ≤ 128 then 21 + 6 else 25 + 7
    (head + (head - 1) / 4 + 10) * nom + (5 + n + (5 + n + 3) / 4 + crc) * dat

/-- Exclusive slots of a basic cycle: the START of their columns, µs. -/
def exclusiveStarts (g : CanCfg) (cycle : Nat) : List Nat :=
  (g.slots.filter fun e => e.type == 0 && cycle % 2 ^ e.rep.val == e.base).map fun e => (g.columns.getD e.column (0, 0)).1

/-- An instant of a cycle lies in an exclusive column (ns from the SOF of the reference). Log entry 74 (DESIGN CHOICE,
unsafe). -/
def inExclusive (g : CanCfg) (cycle : Nat) (t : Int) : Bool :=
  g.slots.any fun e => e.type == 0 && cycle % 2 ^ e.rep.val == e.base &&
    (let col := g.columns.getD e.column (0, 0)
     decide ((col.1 : Int) * 1000 ≤ t ∧ t < (col.1 + col.2 : Nat) * 1000))

/-- A transmit buffer's frame may start now (R319): in MODE 3 with its schedule running, only outside exclusive columns and if
it ends before the next one begins. Log entry 73 (PRESUMED, unsafe). -/
def State.canFits (s : State) (c : Nat) (el : CanElement) : Bool :=
  let x := s.canCtl c
  if s.core.fget Reg.CAN_CFG_MODE c != 3 || !s.core.flag Reg.CAN_TT_STAT_REF_OK c then true
  else match x.refSof with
    | none => true
    | some sof =>
      let t := s.canStamp c 0 - sof
      let cycle := s.core.fget Reg.CAN_TT_STAT_CYCLE c
      let len : Int := longestNs x.cfg el
      let next := (exclusiveStarts x.cfg cycle) ++
        (exclusiveStarts x.cfg ((cycle + 1) % max x.cfg.ncyc 1)).map (· + x.cfg.cycUs)
      !inExclusive x.cfg cycle t && next.all fun st => decide ((st : Int) * 1000 < t ∨ t + len ≤ (st : Int) * 1000)

/-- The buffer the controller starts next (R312). -/
def State.canNext (s : State) (c : Nat) : Option Nat :=
  let x := s.canCtl c
  let ps := (x.bufs.filter fun p => decide (p.1 < 3) && p.2.pending && !p.2.active && s.canFits c p.2.el).map fun p =>
    (p.1, if x.cfg.txPrio then 0 else arbitration p.2.el)
  ps.foldl (fun (m : Option (Nat × Nat)) p => match m with
    | none => some p
    | some o => if p.2 < o.2 then some p else some o) none |>.map (·.1)

/-- The bus is idle: a new duty enters its MODE (R322), and the next frame starts (R312). -/
def State.canStart (s : State) (c : Nat) : State :=
  let x := s.canCtl c
  let s := if x.enter && s.canJoined c && s.seq.next.isNone then s.putCan c { x with listen := false, enter := false } else s
  let s :=
    if s.canDrive c && !((s.canCtl c).bufs.any fun p => p.2.active) then match s.canNext c with
      | some b => s.onBuf c b fun t => { t with active := true }
      | none => s
    else s
  s.showTx c

/-! ### Roles and fences (R322) -/

/-- A controller stops driving: the attempt in progress fails. -/
def State.canHush (s : State) : State :=
  s.can.ctl.foldl (fun (s : State) p => s.canFailAll p.1) s

/-- Requests of a unit that gives its role up are lost (R322); descriptors that wait for them get an event of status 1. Log
entry 71 (DEDUCED, unsafe). -/
def State.canLose (s : State) : State :=
  s.can.ctl.foldl (fun (s : State) p =>
    let s := s.canFailAll p.1
    let s : State := (s.canCtl p.1).bufs.foldl (fun (s : State) t =>
      if t.2.pending then s.answerCan p.1 t.1 (s.txEvent p.1 t.1 t.2.el 1 0) else s) s
    let x := s.canCtl p.1
    (s.putCan p.1 { x with bufs := [] }).showTx p.1) s

/-- Every controller follows the role (R322): a standby listens, and a new duty enters its MODE at the next bus idle. Log
entry 76 (DESIGN CHOICE, unsafe). -/
def State.canRole (s : State) (standby : Bool) : State :=
  let f (x : CanCtl) : CanCtl := if standby then { x with listen := true, enter := false } else { x with enter := x.listen }
  let s := if standby then s.canLose else s
  { s with can := { s.can with ctl := s.can.ctl.map fun p => (p.1, f p.2) } }

end Sys2Proof.Machine
end

