-- ==== Sys2Proof/Machine/LaneWords.lean ====
section
/-! DEFINITION. Lane words and cells: the kinds of channels, the conversions both ways, the carriers' duties at LN_SYNC,
and the sweep lists (R202, R207, R212, R213, R215, R216, R218). -/

namespace Sys2Proof.Machine

/-! ### The lane's CRC (R202) -/

/-- One bit of CRC-16, most significant first. -/
def crc16Bit (r : BitVec 16) (b : Bool) : BitVec 16 :=
  if (r.getLsbD 15) != b then (r <<< 1) ^^^ 0x1021#16 else r <<< 1

/-- CRC-16 over one word, most significant bit first (R202). -/
def crc16Word (r : BitVec 16) (w : LWord) : BitVec 16 :=
  (List.range 16).foldl (fun r i => crc16Bit r (w.getLsbD (15 - i))) r

/-- The CRC word of a burst: address word and data words in order (R202). -/
def laneCrc (words : List LWord) : LWord := words.foldl crc16Word 0xFFFF#16

/-- The address word of a burst (R199). -/
def laneAddr (carrier channel kind : Nat) : LWord := BitVec.ofNat 16 (carrier * 2048 + channel * 16 + kind)

/-! ### Channels -/

/-- The kind of a channel the image uses (R212, R213). -/
def State.channelKind (s : State) (carrier channel : Nat) : Nat :=
  ((s.cfg.carriers.find? (·.address.val == carrier)).bind fun d =>
    (d.kinds.find? (·.1 == channel)).map (·.2)).getD 0

/-- Digital output, analog output or PWM output (R212, R215). -/
def outKind (k : Nat) : Bool := k == 2 || k == 5 || k == 7

/-- Bindings of a channel. -/
def State.bindings (s : State) (carrier channel : Nat) : List LaneBinding :=
  s.cfg.laneBindings.filter fun b => b.carrier.val == carrier && b.channel.val == channel

/-- Lane output cells (R215). -/
def State.laneOutputs (s : State) : List Nat :=
  (s.cfg.laneBindings.filter fun b => outKind (s.channelKind b.carrier b.channel)).map (·.cell)

/-- Lane input cells of a carrier (R215). -/
def State.laneInputs (s : State) (carrier : Nat) : List Nat :=
  (s.cfg.laneBindings.filter fun b => b.carrier.val == carrier && !outKind (s.channelKind b.carrier b.channel)).map (·.cell)

/-- A word as the channel kind reads it: int16 for a signed analog input, else uint16 (R212). -/
def laneNumber (chKind : Nat) (w : LWord) : Int := if chKind = 3 then w.toInt else w.toNat

/-- Input word to VALUE (R215); `prev` is a counter's reference word. Log entry 48 (DESIGN CHOICE, safe). -/
def laneIn (chKind : Nat) (b : LaneBinding) (k : Kind) (old : Word) (prev : Option LWord) (w : LWord) : Word :=
  match k with
  | .bool => if w.getLsbD b.bit then 1 else 0
  | .packed => w.setWidth 32
  | .int32 => w.signExtend 32
  | .uint32 => w.setWidth 32
  | .enumeration => w.setWidth 32
  | .counter => match prev with
    | none => old
    | some p => old + (w - p).setWidth 32
  | .binary32 => F32.fma b.scale (F32.ofInt (laneNumber chKind w)) b.offset
  | .reserved => old

/-- Saturate to an output channel's uint16 range (R212, R215). -/
def laneClamp (n : Int) : Nat := (F32.clampInt 0 0xFFFF n).toNat

/-- VALUE to output word (R215): the bits it puts into the word, or none where it is not converted. -/
def laneOut (b : LaneBinding) (k : Kind) (v : Word) : Option Nat :=
  match k with
  | .bool => some (if v.getLsbD 0 then 2 ^ b.bit.val else 0)
  | .packed => some (v.toNat % 65536)
  | .int32 => some (laneClamp v.toInt)
  | .uint32 => some (laneClamp v.toNat)
  | .enumeration => some (laneClamp v.toNat)
  | .binary32 =>
    if F32.isNan v then none
    else
      let q := (F32.div (F32.sub v b.offset).1 b.scale).1
      if F32.isNan q then none
      else if F32.isInf q then some (if F32.sign q then 0 else 0xFFFF)
      else some (laneClamp (F32.nearest q))
  | .counter => none
  | .reserved => none

/-- The word the lane writer builds for a channel, each cell verified as it leaves (R23, R25, R215); `none` where the channel
is not written in this tick. -/
def State.laneWord (s : State) (carrier channel : Nat) : Option LWord × State :=
  (s.bindings carrier channel).foldl (fun (acc : Option LWord × State) b =>
    match acc.2.readCell b.cell 5 with
    | (some (c, true), s) =>
      if c.qual.toNat = Qual.check then (none, s) else match laneOut b (kindOf c.kind) c.value with
      | some n => (acc.1.map fun w => w ||| BitVec.ofNat 16 n, s)
      | none => (none, s.onCore fun k => if kindOf c.kind == .binary32 then k.bump Reg.LANE_NAN_COUNT else k)
    | (_, s) => (none, s)) (some 0#16, s)

/-- The words of a burst from a channel, with their channels. -/
def State.laneWords (s : State) (carrier channel : Nat) : Nat → List (Nat × Option LWord) × State
  | 0 => ([], s)
  | n + 1 =>
    let (w, s) := s.laneWord carrier channel
    let (ws, s) := State.laneWords s carrier (channel + 1) n
    ((channel, w) :: ws, s)

/-- Runs of adjacent channels that are written: the bursts a burst of the list is split into (R25). -/
def splitRuns (carrier : Fin 32) : List (Nat × Option LWord) → List BurstDef
  | [] => []
  | (c, w) :: rest =>
    let out := splitRuns carrier rest
    if w.isNone then out
    else match rest, out with
      | (_, some _) :: _, b :: bs => { b with channel := c, words := b.words + 1 } :: bs
      | _, bs => ⟨carrier, c, 1⟩ :: bs

/-! ### Carriers at LN_SYNC -/

/-- A carrier that is present and matched (LANE_PRESENT). -/
def State.joined (s : State) (carrier : Nat) : Bool := (s.core.fget Reg.LANE_PRESENT_CARRIERS).testBit carrier

end Sys2Proof.Machine

namespace Sys2Proof

/-- Outputs in their safe state after the silence time: pending words emptied (R216). Log entry 50 (DESIGN CHOICE, unsafe). -/
def Carrier.silent (c : Carrier) : Carrier := { c with waiting := [], applied := [], status := c.status ||| 0b10#16 }

/-- One carrier at the rising edge of LN_SYNC: silence judged on the time since the last, inputs latched, pending words
applied while outputs are enabled (R207, R216). -/
def Carrier.sync (c : Carrier) (ns : Nat) (inputs : List (Nat × LWord)) : Carrier :=
  let c := if ns > c.silence * 1000000 then c.silent else c
  { c with latched := inputs.foldl (fun m p => m.put p.1 p.2) c.latched
           applied := if c.enabled then c.waiting.foldl (fun m p => m.put p.1 p.2) c.applied else c.applied }

/-- Lane cycles of a burst (R42). -/
def BurstDef.cycles (b : BurstDef) : Nat := b.words + 2

end Sys2Proof

namespace Sys2Proof.Machine

/-- LN_SYNC reaches the carriers (R207): they apply their pending words and latch their inputs. Log entry 50 (DESIGN CHOICE,
unsafe). -/
def State.carriersSync (s : State) (inputs : List LaneInput) : State :=
  let ns := (s.core.c - s.lane.syncC) * 4
  let cs := s.lane.carriers.map fun p =>
    (p.1, p.2.sync ns ((inputs.filter (·.carrier.val == p.1)).map fun i => (i.channel.val, i.word)))
  { s with lane := { s.lane with carriers := cs, syncC := s.core.c, heldSeen := false, step := 0 } }

/-- The time since LN_SYNC exceeds a carrier's lane-silence time (R216). -/
def State.carriersSilence (s : State) : State :=
  let n := s.core.c - s.lane.syncC
  let cs := s.lane.carriers.map fun p => (p.1, if n = p.2.silence * 250000 + 1 then p.2.silent else p.2)
  { s with lane := { s.lane with carriers := cs } }

/-- LN_SYNC rises (R207): the carriers latch and apply. Log entry 46 (DESIGN CHOICE, unsafe). -/
def State.laneSync (s : State) (inputs : List LaneInput) : State :=
  ((s.carriersSync inputs).onCore (·.drive .lnSync true)).onCore (·.drive .lnSync false)

/-- The bursts of a sweep list that are sent: those of joined carriers (R213). -/
def State.sweepOf (s : State) (l : List BurstDef) : List BurstDef := l.filter fun b => s.joined b.carrier

end Sys2Proof.Machine
end

