-- ==== Sys2Proof/Machine/Publish.lean ====
section
/-! DEFINITION. What happens at the end of the output sweep: the swap of the two buffers, reads that become pins, and what the
publish phase makes of the published epoch: exchange datagrams, UPDATE pushes, held snapshots, CAN transmit bindings, trend
entries and the copies of retained words (R29, R32, R45, R123, R252, R254, R270, R273, R314, R477). -/

namespace Sys2Proof.Machine

/-- A power-fail warning is in force (R184). -/
def State.warning (s : State) : Bool := s.core.flag Reg.PWR_STAT_WARN || s.plat.hold

/-! ### Sleep requests (R369) -/

/-- Why a sleep request is refused, if it is (R369). -/
def State.sleepRefusal (s : State) : Option Cause :=
  let wake := [0, 1].any (fun i => s.core.flag Reg.ALM_CTRL_EN i && s.core.flag Reg.ALM_CTRL_WAKE i) ||
    s.core.flag Reg.BKP_WAKE_WAKE_N_EN
  if !wake then some .noWake
  else if s.core.flag Reg.GLB_UNIT_PAIRED then some .paired
  else if s.core.fget Reg.RCT_STAT_STATE = 3 then some .recoat
  else if s.warning then some .powerWarning
  else none

/-- A sleep request (R369, R370): refused with a record, or STATE 4 with tick N+1 the last. Log entry 109 (DESIGN CHOICE,
unsafe). -/
def State.sleepRequest (s : State) : State :=
  if s.plat.sleepReq.isSome then s
  else match s.sleepRefusal with
    | some c => s.record 0x0B05 0 (le c.code 1 ++ le s.epoch 8)
    | none => { s with plat := { s.plat with sleepReq := some s.epoch } }.onCore (·.setState 4 0)

/-- The configured sleep cell has changed to 1 (R369). -/
def State.sleepCell (s : State) : State :=
  match s.cfg.sleepCell with
  | none => s
  | some a =>
    let now := (s.img.working.at? a).any fun c => c.value == 1
    let was := (s.img.published.at? a).any fun c => c.value == 1
    if now && !was && s.plat.sleepReq.isNone then s.sleepRequest else s

/-! ### Reading an epoch out (R270, R271) -/

/-- Each index of a list of ranges, in order. -/
def rangeCells (ranges : List (Nat × Nat)) : List Nat := ranges.flatMap fun r => (List.range r.2).map (· + r.1)

/-- A cell a requester may not see (R270). -/
def hiddenCell : List Byte := List.replicate 16 0xFF

/-- One cell of a SNAPSHOT: the published buffer's, or a pinned epoch's; hidden and counted where the filter denies it. -/
def State.snapCell (s : State) (d place : Nat) (pinned : Option Nat) (a : Nat) : List Byte × State :=
  match pinned with
  | none =>
    if s.mayRead d a then
      match s.readPublished a place with
      | (some c, s) => (c.image, s)
      | (none, s) => (hiddenCell, s.deny d)
    else (hiddenCell, s.deny d)
  | some e =>
    let vis := ((s.img.pins.find? (·.epoch == e)).bind (·.cells.at? a)).any fun c =>
      d == 0 || c.domain.toNat == 1 || (c.domain.toNat == d && !(0xF00 ≤ a && a ≤ 0xFFF))
    if vis then
      match s.readPinned e a with
      | (some c, s) => (c.image, s)
      | (none, s) => (hiddenCell, s.deny d)
    else (hiddenCell, s.deny d)

/-- The cells of a SNAPSHOT in request order. -/
def State.snapCells (s : State) (d place : Nat) (pinned : Option Nat) : List Nat → List Byte × State
  | [] => ([], s)
  | a :: as =>
    let (b, s) := s.snapCell d place pinned a
    let (bs, s) := State.snapCells s d place pinned as
    (b ++ bs, s)

/-- A SNAPSHOT response's body (R266). -/
def State.snapBody (s : State) (d place epoch : Nat) (pinned : Bool) (ranges : List (Nat × Nat)) : List Byte × State :=
  let cells := rangeCells ranges
  let (b, s) := s.snapCells d place (if pinned then some epoch else none) cells
  (le epoch 8 ++ le cells.length 4 ++ le 0 4 ++ b ++ le 1 4, s)

/-- Where a requester's responses are checked: host DMA or point service (R24). -/
def exitPlace : ReqSrc → Nat
  | .session _ => 8
  | .queue _ => 7

/-- Note on a queue which epoch its read has fixed (R438). -/
def State.noteEpoch (s : State) (r : Req) (epoch : Nat) : State :=
  match r.src with
  | .session _ => s
  | .queue q => match (s.queue q).cur with
    | none => s
    | some p => s.putQueue q { s.queue q with cur := some { p with epoch := some epoch } }

/-- Serve a SNAPSHOT of the published or a pinned epoch (R270): pinned for the requester when it asks so. -/
def State.serveSnapshot (s : State) (r : Req) (d epoch : Nat) (pin : Bool) (ranges : List (Nat × Nat)) : State :=
  let (st, s) := if pin then s.pin r.src epoch false else (Status.ok, s)
  if st ≠ .ok then s.answer r st []
  else
    let pinned := s.img.pubEpoch ≠ some epoch
    let (b, s) := s.snapBody d (exitPlace r.src) epoch pinned ranges
    (s.noteEpoch r epoch).answer r .ok b

/-- SNAPSHOTs held for this epoch are served (R270). -/
def State.serveHeld (s : State) : State :=
  let n := s.epoch
  let due := s.svc.held.filter (·.epoch ≤ n)
  let s := { s with svc := { s.svc with held := s.svc.held.filter fun h => !(h.epoch ≤ n) } }
  due.foldl (fun (s : State) h =>
    match s.domainOf h.r.src with
    | none => s
    | some d => if h.epoch = n then s.serveSnapshot h.r d n h.pin h.ranges else s.answer h.r .epochGone []) s

/-! ### UPDATE pushes (R273) -/

/-- Visible subscribed cells whose content changed since the last epoch delivered, sealed where their check fails (R24). -/
def State.updateCells (s : State) (d place : Nat) (sub : Subscription) : List (Nat × Cell) × State :=
  (rangeCells sub.ranges).foldl (fun (acc : List (Nat × Cell) × State) a =>
    if !acc.2.mayRead d a then acc
    else match acc.2.readPublished a place with
      | (none, s) => (acc.1, s)
      | (some c, s) =>
        if !sub.first && (sub.sent.at? a).any (fun o => o.content == c.content) then (acc.1, s)
        else (acc.1 ++ [(a, c)], s)) ([], s)

/-- An UPDATE body (R266). -/
def updateBody (sub : Subscription) (epoch : Nat) (cells : List (Nat × Cell)) : List Byte :=
  le sub.number 1 ++ le (if sub.coalesced then 1 else 0) 1 ++ le sub.skipped 2 ++ le epoch 8 ++ le cells.length 4 ++
    cells.flatMap fun p => le p.1 2 ++ le 0 2 ++ p.2.image

/-- One subscription after the publish of epoch `n`, with the free bytes of its buffer: the body to deliver, if it is due and
fits, and the subscription afterwards. Log entry 62 (DESIGN CHOICE, unsafe). -/
def State.updateOne (s : State) (d place n room : Nat) (sub : Subscription) :
    Option (List Byte) × Subscription × State :=
  if n % sub.k ≠ 0 then (none, sub, s)
  else
    let (cells, s) := s.updateCells d place sub
    let b := updateBody sub n cells
    if b.length + 16 > room then (none, { sub with coalesced := true, skipped := satAdd 16 sub.skipped 1 }, s)
    else (some b, { sub with sent := cells.foldl (fun m p => m.put p.1 p.2) sub.sent, first := false, skipped := 0
                             coalesced := false }, s)

/-- UPDATEs of one session: pushed on its uplink, their bytes held in the send buffer until they are sent. -/
def State.updateSession (s : State) (n : Nat) (i : Fin 32) (x : Session) : State :=
  x.subs.foldl (fun (s : State) sub =>
    match s.svc.sessions.at? i with
    | none => s
    | some x =>
      let (b, sub', s) := s.updateOne x.domain 8 n (65536 - x.buffered) sub
      let subs := x.subs.map fun o => if o.number == sub.number then sub' else o
      match b with
      | none => s.putSession i { x with subs := subs }
      | some b =>
        let s := s.putSession i { x with subs := subs, buffered := x.buffered + b.length + 16 }
        (s.onCore (·.emit (.push (.session i) b))).sendMessage i 0x32 (b.length + 16)
          (messageHeader b.length 0x32 2 0 0 ++ b)) s

/-- UPDATEs of one queue (R273, R422): the one an UPDATE_WAIT waits for answers it; others wait in the coalescing buffer. -/
def State.updateQueue (s : State) (n : Nat) (q : Fin 64) (x : Queue) : State :=
  x.subs.foldl (fun (s : State) sub =>
    let x := s.queue q
    let d := s.core.fget Reg.HQ_CFG_DOMAIN q
    let (b, sub', s) := s.updateOne d 7 n (65536 - x.buffered) sub
    let x := { s.queue q with subs := x.subs.map fun o => if o.number == sub.number then sub' else o }
    match b with
    | none => s.putQueue q x
    | some b => match x.cur with
      | some p =>
        if p.waitSub = some sub.number ∧ p.answer.isNone then
          s.putQueue q { x with cur := some { p with answer := some (.ok, b) } }
        else s.putQueue q { x with updates := x.updates ++ [(sub.number, b)], buffered := x.buffered + b.length + 16 }
      | none => s.putQueue q { x with updates := x.updates ++ [(sub.number, b)], buffered := x.buffered + b.length + 16 }) s

/-- UPDATEs of every session and queue. Log entry 62 (DESIGN CHOICE, unsafe). -/
def State.pushUpdates (s : State) : State :=
  let n := s.epoch
  let s := s.svc.sessions.foldl (fun (s : State) p => if h : p.1 < 32 then s.updateSession n ⟨p.1, h⟩ p.2 else s) s
  s.hq.queues.foldl (fun (s : State) p => if h : p.1 < 64 then s.updateQueue n ⟨p.1, h⟩ p.2 else s) s

/-! ### The exchange publisher (R252, R254) -/

/-- Entries one datagram holds (R251). -/
def State.perDatagram (s : State) : Nat := (s.core.fget Reg.XCH_CFG_MTU - 100) / 20

/-- Start value of the datagram counter (R252). Log entry 61 (DESIGN CHOICE, unsafe). -/
def State.ctrStart (s : State) : Nat := (s.ntNs / 1000).toNat * 16 + 2 ^ 24

/-- The datagram counter, given its value where it has none yet (R252). Log entry 61 (DESIGN CHOICE, unsafe). -/
def State.ctrReady (s : State) : Option Nat × State :=
  match s.xch.ctr, s.xch.ctrSaved with
  | some c, _ => (some c, s)
  | none, some v =>
    let c := max (v + 65536) s.ctrStart
    (some c, { s with xch := { s.xch with ctr := some c, ctrSaved := some c } })
  | none, none =>
    if s.core.fget Reg.NT_STAT_STATE = 2 then
      (some s.ctrStart, { s with xch := { s.xch with ctr := some s.ctrStart, ctrSaved := some s.ctrStart } })
    else (none, s)

/-- Cells of the publish, in order, without repeats, up to the cap (R247, R254). -/
def State.publishList (s : State) (n d : Nat) (full : Bool) : List Nat :=
  let set := s.cfg.published
  let ch := set.filter fun a => s.img.changed.contains a || s.xch.unsent.contains a
  let old := set.filter fun a => !ch.contains a && (s.img.hist.take d).any (·.contains a)
  let slice := (set.zipIdx.filter fun p => p.2 % 64 == n % 64).map (·.1)
  let all := if full then set else ch ++ old ++ slice.filter fun a => !ch.contains a && !old.contains a
  all.take 3840

/-- Read the cells of a publish out, each verified as it leaves (R23, R25). -/
def State.publishCells (s : State) : List Nat → List (Nat × Cell) × State
  | [] => ([], s)
  | a :: as =>
    let (c, s) := s.readPublished a 6
    let (cs, s) := State.publishCells s as
    (match c with
      | some c => (a, c) :: cs
      | none => cs, s)

/-- Publish the epoch to the estate (R254): the datagrams stand in the queues of the exchange uplinks. Log entry 61 (DESIGN
CHOICE, unsafe). -/
def State.publishExchange (s : State) : State :=
  let s := s.onCore (·.fput Reg.XCH_PUB_DG_LAST 0)
  if s.cfg.published.isEmpty || s.standby then s
  else
    let (ctr, s) := s.ctrReady
    let gen := s.core.fget Reg.XCH_CFG_KEYGEN_TX
    match ctr with
    | none => { s with xch := { s.xch with fullDue := true } }
    | some ctr =>
      if !s.exchangeKey gen then { s with xch := { s.xch with fullDue := true } }
      else
        let n := s.epoch
        let d := s.core.fget Reg.XCH_CFG_REPEAT
        let full := s.xch.fullDue
        let (cells, s) := s.publishCells (s.publishList n d full)
        let ps := pieces s.perDatagram 3841 cells
        let ps := if ps.isEmpty then [[]] else ps
        let dgs : List Datagram := ps.zipIdx.map fun p =>
          { full := full, keyGen := gen, estateId := BitVec.ofNat 32 (s.core.fget Reg.GLB_ESTATE_ESTATE_ID)
            senderPos := s.core.fget Reg.GLB_UNIT_POSITION
            senderUnit := s.core.flag Reg.GLB_UNIT_PAIRED && !s.core.flag Reg.GLB_UNIT_PREFERRED
            dgIndex := p.2, dgCount := ps.length, epoch := n, ctr := ctr + p.2, repDepth := d, slice := n % 64
            pubId := s.cfg.pubId, cells := p.1.length, entries := p.1 }
        let next := ctr + ps.length
        let saved := (s.xch.ctrSaved).map fun v => if next ≥ v + 65536 then next else v
        let s := { s with xch := { s.xch with ctr := some next, ctrSaved := saved, fullDue := false, unsent := [] } }
        dgs.foldl (fun (s : State) dg =>
          let s := s.enqueue 0 (.exchange dg)
          if s.core.flag Reg.XCH_CFG_DUAL then s.enqueue 1 (.exchange dg) else s) s

/-! ### CAN transmit bindings (R314) -/

/-- Build a transmit binding's frame from the published epoch, each source verified as it leaves; `none` skips (R314). -/
def State.canBuild (s : State) (b : CanTxBinding) : Option CanElement × State :=
  let blank : List Byte := List.replicate (dlcBytes b.fd b.dlc.toNat) 0
  let (data, s) := b.insertions.foldl (fun (acc : Option (List Byte) × State) e =>
    match acc.2.readPublished e.cell 9 with
    | (none, s) => (none, s)
    | (some c, s) =>
      if Qual.bad c.qual.toNat then (none, s)
      else match acc.1, insertRaw e (kindOf c.kind) c.value with
        | some xs, some n => (some (insertBytes e n xs), s)
        | _, _ => (none, s)) (some blank, s)
  (data.map fun d => ⟨b.ident, b.ext, false, b.fd, b.brs, false, b.dlc, d⟩, s)

/-- A transmit binding is due in the publish phase of tick `n` (R314). -/
def State.canDue (s : State) (n : Nat) (b : CanTxBinding) : Bool :=
  match b.period with
  | some k => n % (max k 1) == 0
  | none => b.insertions.any fun e => s.img.changed.contains e.cell

/-- The CAN transmit bindings of the tick (R314); a standby only listens (R322). -/
def State.publishCan (s : State) : State :=
  if s.standby then s
  else (s.can.ctl.filter fun p => p.2.cfg.mode != 0).foldl (fun (s : State) p =>
    (p.2.cfg.txBindings.foldl (fun (s : State) b =>
      if !s.canDue s.epoch b then s
      else match s.canBuild b with
        | (none, s) => s.onCore (·.bump Reg.CAN_TX_SKIP_COUNT p.1)
        | (some el, s) =>
          s.canPut p.1 b.buffer el) s).canStart p.1) s

/-! ### Trend entries (R477) -/

/-- The binary32 distance of two values exceeds a deadband (R477). -/
def beyondBand (a b band : Word) : Bool := F32.lt band (F32.abs (F32.sub a b).1)

/-- A trend item records at this publish (R477). Log entry 91 (DESIGN CHOICE, unsafe). -/
def trendDue (it : TrendItem) (last : Option (Nat × Cell)) (n : Nat) (c : Cell) : Bool :=
  match last with
  | none => true
  | some (e, o) =>
    let moved := c.qual != o.qual || (if kindOf c.kind = .binary32 then beyondBand c.value o.value it.deadband
      else c.value != o.value)
    decide (n ≥ e + it.k) && (!it.change || moved)

/-- Entries the 8 MiB staging buffer holds, 20 bytes each (R477). Log entry 91 (DESIGN CHOICE, unsafe). -/
def stagingRoom : Nat := 8 * 1024 * 1024 / 20

/-- Entries a second that throttle stage 2 still lets in: 0.2 MiB/s of 20 bytes (R467). Log entry 91 (DESIGN CHOICE, unsafe).
-/
def throttledEntries : Nat := 1024 * 1024 / 5 / 20

/-- Ticks a second. -/
def State.ticksPerSecond (s : State) : Nat := 1000 / s.period

/-- Stage the trend entries of the published epoch (R477). Log entry 91 (DESIGN CHOICE, unsafe). -/
def State.stageTrend (s : State) : State :=
  let n := s.epoch
  let second := (s.bg.ingest.take (s.ticksPerSecond - 1)).sum
  let (cnt, s) := (s.bg.items.zipIdx).foldl (fun (acc : Nat × State) p =>
    let s := acc.2
    match s.img.published.at? p.1.cell with
    | none => acc
    | some c =>
      if !trendDue p.1 (s.bg.last.at? p.2) n c then acc
      else match s.readPublished p.1.cell 0x0A with
        | (none, s) => (acc.1, s)
        | (some c, s) =>
          let s := { s with bg := { s.bg with last := s.bg.last.put p.2 (n, c) } }
          let slow := s.core.fget Reg.THM_STAT_STAGE = 2 ∧ second + acc.1 ≥ throttledEntries
          if s.bg.staged.length ≥ stagingRoom ∨ slow then (acc.1, s.onCore (·.bump Reg.TREND_DROP_COUNT))
          else
            (acc.1 + 1, { s with bg := { s.bg with staged := s.bg.staged ++ [⟨p.1.cell, c, n⟩] } })) (0, s)
  let ingest := (cnt :: s.bg.ingest).take s.ticksPerSecond
  { s with bg := { s.bg with ingest := ingest } }.onCore (·.fput Reg.TREND_STAT_KIB_S (ingest.sum * 20 / 1024))

/-! ### Retained words (R123) -/

/-- Write the retained words and retentive counters to the older of the two MRAM copies (R123). -/
def State.saveRetained (s : State) : State :=
  let b := s.trw.bank
  let seq := max s.trw.copyA.seq s.trw.copyB.seq + 1
  let words := b.retained.map fun r => (r.symid, r.type, (List.range r.init.length).map fun i => s.trw.ret.atD (r.idx + i) 0)
  let counters := (b.records.filter fun r => r.retentive && r.type == 4).map fun r => (r.symid, s.trw.recs.atD r.idx {})
  let copy : RetCopy := { seq := seq, valid := true, words := words, counters := counters }
  if s.trw.copyA.seq ≤ s.trw.copyB.seq then { s with trw := { s.trw with copyA := copy } }
  else { s with trw := { s.trw with copyB := copy } }

/-! ### The swap (R29, R32, R45) -/

/-- Cells whose content differs from the published epoch. Log entry 21 (DESIGN CHOICE, unsafe). -/
def State.changedNow (s : State) : List Nat :=
  (s.img.working.filter fun p => (s.img.published.at? p.1).map Cell.content != some p.2.content).map (·.1)

/-- Queue reads of the published buffer still running when it is given up become pins, or fail (R32). -/
def State.keepReads (s : State) : State :=
  s.hq.queues.foldl (fun (s : State) p =>
    if h : p.1 < 64 then
      let q : Fin 64 := ⟨p.1, h⟩
      match p.2.cur with
      | some g =>
        let reads := match g.answer with
          | some a => decide (g.sent < a.2.length)
          | none => !g.applied
        if g.epoch.isSome && g.epoch == s.img.pubEpoch && reads &&
            !(s.img.pins.any fun n => some n.epoch == g.epoch && n.holds.any fun x => x.who == .queue q && x.snap) then
          match s.pin (.queue q) (g.epoch.getD 0) true with
          | (.ok, s) => s
          | (_, s) =>
            if g.answer.isNone then s
            else s.putQueue q { s.queue q with cur := some { g with answer := some (.epochGone, []), sent := 0 } }
        else s
      | none => s
    else s) s

/-- The buffers exchange roles: epoch N is published (R29, R45). -/
def State.swap (s : State) : State :=
  let s := s.keepReads
  let hist := (s.img.changed :: s.img.hist).take 3
  let img := { s.img with published := s.img.working, pubEpoch := some s.epoch, changed := s.changedNow, hist := hist }
  { s with img := img, seq := { s.seq with swapped := true } }

/-- The publish phase of the tick (R254). -/
def State.publish (s : State) : State :=
  let s := s.onCore (·.fput Reg.TICK_STATUS_PHASE 5)
  let s := s.publishExchange.serveHeld.pushUpdates.publishCan.stageTrend
  s.saveRetained

/-- The output sweep has ended: the swap, then the publish (R41, R45). -/
def State.sweepEnd (s : State) : State :=
  (s.onCore (·.fput Reg.TICK_SWEEP_OUT_CYC s.seq.outCycles)).swap.publish

end Sys2Proof.Machine
end

