-- ==== Sys2Proof/Machine/LoadCheck.lean ====
section
/-! DEFINITION. The checks on what is loaded: instruction words and banks (R62, R63), the task table (R93), symbol tables
(R115), and loop-slot descriptors with their cascades (R130, R137). -/

namespace Sys2Proof

/-- TYPE of a record the bank defines (R75). -/
def Program.recType (p : Program) (i : Nat) : Option Nat := (p.records.find? (·.idx == i)).map (·.type)

/-- The words of a task's code range, unlisted addresses holding 0 (NOP). -/
def Program.codeOf (p : Program) (d : TaskDef) : List Word :=
  (p.code.filter fun e => decide (d.codeStart ≤ e.1 ∧ e.1 ≤ d.codeEnd)).map (·.2)

/-- Nodes of the PRED relation: tasks by number, loops from 16 on. -/
def Pred.node : Pred → Nat
  | .task t => t.val
  | .loop f i => 16 + f.val * 128 + i.val

end Sys2Proof

namespace Sys2Proof.Machine

/-! ### Instruction words (R62, R63) -/

/-- Every pair of a list, the earlier first. -/
def pairs {α : Type} : List α → List (α × α)
  | [] => []
  | x :: xs => xs.map (fun y => (x, y)) ++ pairs xs

/-- Formats of the instruction words, with the operand each takes (R62 to R81). -/
inductive Form
  | none | bitRead | bitStore | wordRead | wordStore | quality | timer (type : Nat) | counter | ldq | letv | edge | jump
  deriving DecidableEq, Repr, Inhabited

/-- The form of an opcode; none for an opcode the chapter does not list (R65 to R81). -/
def formOf (op : Nat) : Option Form :=
  if op = 0 ∨ (0x0D ≤ op ∧ op ≤ 0x18) ∨ (0x44 ≤ op ∧ op ≤ 0x46) ∨ (0x50 ≤ op ∧ op ≤ 0x5E) ∨ (0x60 ≤ op ∧ op ≤ 0x6B) ∨
      (0x70 ≤ op ∧ op ≤ 0x7D) ∨ (0x88 ≤ op ∧ op ≤ 0x8A) ∨ op = 0x8F then some .none
  else if op ≤ 0x08 then some .bitRead
  else if op ≤ 0x0C then some .bitStore
  else if op = 0x20 ∨ op = 0x21 then some .edge
  else if 0x28 ≤ op ∧ op ≤ 0x2A then some (.timer (op - 0x27))
  else if 0x2B ≤ op ∧ op ≤ 0x2F then some .counter
  else if op = 0x30 then some .ldq
  else if op = 0x31 then some .letv
  else if op = 0x40 ∨ op = 0x41 then some .wordRead
  else if op = 0x42 ∨ op = 0x43 then some .wordStore
  else if op = 0x47 ∨ op = 0x48 then some .quality
  else if 0x80 ≤ op ∧ op ≤ 0x82 then some .jump
  else none

/-- What the loader knows of the image a word belongs to: the KIND of each cell that exists, and the owned user cells
configured with source trowel. -/
structure Names where
  kinds : SMap Kind := []
  trowel : List Nat := []
  prog : Program := {}
  deriving DecidableEq, Repr, Inhabited

/-- The parts of an instruction word (R62): opcode, BIT, SP, IDX, and ADDR of format J. -/
def wordOp (w : Word) : Nat := w.toNat / 2 ^ 24
/-- See `wordOp`. -/
def wordBit (w : Word) : Nat := w.toNat / 2 ^ 19 % 32
/-- See `wordOp`. -/
def wordSp (w : Word) : Nat := w.toNat / 2 ^ 15 % 8
/-- See `wordOp`. -/
def wordIdx (w : Word) : Nat := w.toNat % 2 ^ 15
/-- See `wordOp`. -/
def wordAddr (w : Word) : Nat := w.toNat % 2 ^ 18

/-- IDX lies in the range of its space (R57): cells below 0x5000, 8,192 retained words, 16,384 constants, 4,096 records, 16,384
edge bits. -/
def idxOk (sp idx : Nat) : Bool :=
  match sp with
  | 0 => idx < 0x5000
  | 1 => idx < 0x2000
  | 2 => idx < 0x4000
  | 3 => idx < 0x1000
  | 4 => idx < 0x4000
  | _ => false

/-- The load check of one instruction word, but for what depends on the task it lies in (R63). -/
def Names.plainOk (x : Names) (w : Word) : Bool :=
  let bit := wordBit w
  let sp := wordSp w
  let idx := wordIdx w
  let cell := x.kinds.at? idx
  let store := x.trowel.contains idx && idx < 0xF00
  match formOf (wordOp w) with
  | none => false
  | some .none => w.toNat % 2 ^ 24 == 0
  | some .jump => w.toNat / 2 ^ 18 % 64 == 0
  | some f => w.toNat / 2 ^ 18 % 2 == 0 && idxOk sp idx && match f with
    | .bitRead => if sp = 0 then cell.isSome && (cell != some .bool || bit == 0) else sp == 1 && x.prog.hasRetained idx
    | .bitStore =>
      if sp = 0 then store && (cell == some .packed || (cell == some .bool && bit == 0))
      else sp == 1 && x.prog.hasRetained idx
    | .wordRead => bit == 0 && (if sp = 0 then cell.isSome else if sp = 1 then x.prog.hasRetained idx else sp == 2)
    | .wordStore => bit == 0 && (if sp = 0 then store && cell.isSome else sp == 1 && x.prog.hasRetained idx)
    | .quality => bit == 0 && sp == 0 && cell.isSome
    | .timer t => bit == 0 && sp == 3 && x.prog.recType idx == some t
    | .counter => bit == 0 && sp == 3 && x.prog.recType idx == some 4
    | .ldq => sp == 3 && (match x.prog.recType idx with
        | some 4 => bit ≤ 1
        | some t => 1 ≤ t && t ≤ 3 && bit == 0
        | none => false)
    | .letv => bit == 0 && sp == 3 && (match x.prog.recType idx with
        | some t => 1 ≤ t && t ≤ 4
        | none => false)
    | .edge => bit == 0 && sp == 4 && x.prog.edges.any (·.idx == idx)
    | _ => false

/-- What an instruction word writes is assigned to task `d`, and its jump stays in the task's code (R58, R63). -/
def mineOk (d : TaskDef) (w : Word) : Bool :=
  let idx := wordIdx w
  let writes := if wordSp w = 0 then d.wCells.contains idx else d.wRetained.contains idx
  match formOf (wordOp w) with
  | some .jump => decide (d.codeStart ≤ wordAddr w ∧ wordAddr w ≤ d.codeEnd)
  | some .bitStore => writes
  | some .wordStore => writes
  | some (.timer _) => d.wRecords.contains idx
  | some .counter => d.wRecords.contains idx
  | some .edge => d.wEdges.contains idx
  | _ => true

/-- The load check of one instruction word of task `d` (R63). -/
def Names.wordOk (x : Names) (d : TaskDef) (w : Word) : Bool := x.plainOk w && mineOk d w

/-- The load check of a task's code (R63). -/
def Names.taskOk (x : Names) (d : TaskDef) : Bool :=
  decide (d.codeStart ≤ d.codeEnd ∧ d.codeEnd < 2 ^ 18) && (x.prog.codeOf d).all (x.wordOk d) &&
    (let last := (x.prog.code.atD d.codeEnd 0).toNat / 2 ^ 24; last == 0x8F || last == 0x80)

/-! ### Symbols and the feather table (R57, R58, R75, R102, R115) -/

/-- No element of a list stands in it twice. -/
def noRepeat (xs : List Nat) : Bool := (pairs xs).all fun (a, b) => a != b

/-- The symbols lie in their spaces and have a TYPE and a size there are (R57, R75, R115), and no item is two symbols'. -/
def symbolRanges (p : Program) : Bool :=
  p.records.all (fun r => decide (r.idx < 0x1000 ∧ r.symid < 2 ^ 16 ∧ r.type ≤ 4)) &&
    p.edges.all (fun e => decide (e.idx < 0x4000 ∧ e.symid < 2 ^ 16)) &&
    p.retained.all (fun r => decide (r.symid < 2 ^ 16 ∧ r.type ≤ 3 ∧ 1 ≤ r.init.length ∧ r.init.length ≤ 256 ∧
      r.idx + r.init.length ≤ 0x2000)) &&
    noRepeat (p.records.map (·.idx)) && noRepeat (p.edges.map (·.idx)) &&
    (pairs p.retained).all fun (a, b) => decide (a.idx + a.init.length ≤ b.idx ∨ b.idx + b.init.length ≤ a.idx)

/-- A write set names the records, edge bits and retained words whose symbols carry its task, and no others (R58, R92), so no
item has two tasks. Log entry 113 (DEDUCED, safe). -/
def assignedOk (p : Program) : Bool :=
  p.tasks.all fun d =>
    d.wRecords.all (fun i => p.records.any fun r => r.idx == i && r.task == d.id) &&
      d.wEdges.all (fun i => p.edges.any fun e => e.idx == i && e.task == d.id) &&
      d.wRetained.all (fun i => p.retained.any fun r => decide (r.idx ≤ i ∧ i < r.idx + r.init.length) && r.task == d.id) &&
      p.records.all (fun r => r.task != d.id || d.wRecords.contains r.idx) &&
      p.edges.all (fun e => e.task != d.id || d.wEdges.contains e.idx) &&
      p.retained.all fun r => r.task != d.id || (List.range r.init.length).all fun k => d.wRetained.contains (r.idx + k)

/-- The feather table (R102): at most 1,024 entries, one a cell, each for an owned cell a guarded task writes. -/
def featherOk (p : Program) : Bool :=
  p.feather.length ≤ 1024 && noRepeat (p.feather.map (·.cell)) && p.feather.all fun f =>
    decide (f.cell < 0xF00 ∧ f.holdMs ≤ 600000) && F32.le 0 f.slew && p.tasks.any fun d => d.guarded && d.wCells.contains f.cell

/-- The load check of a bank (R63): every word, a word outside the tasks' ranges as far as it belongs to no task, every task's
code, and the tables beside the code. -/
def Names.bankOk (x : Names) : Bool :=
  x.prog.tasks.all x.taskOk && x.prog.code.all (fun e => e.1 < 2 ^ 18 && x.plainOk e.2) &&
    x.prog.consts.all (fun e => e.1 < 0x4000) && symbolRanges x.prog && assignedOk x.prog && featherOk x.prog

/-! ### The task table (R93) -/

/-- The PRED relation of tasks and loops, with an inner loop's outer loop among its predecessors (R92, R129, R133). -/
def predGraph (tasks : List TaskDef) (loops : List SlotDesc) : List (Nat × List Nat) :=
  tasks.map (fun d => (d.id.val, d.preds.map Pred.node)) ++
    (loops.filter (·.desc.valid)).map fun l =>
      (16 + l.engine.val * 128 + l.slot.val, l.desc.preds.map Pred.node ++
        (if l.desc.cascade then [16 + l.engine.val * 128 + l.desc.outer.val] else []))

/-- Take away the nodes that wait for none of the rest, as often as there are nodes. -/
def prune : Nat → List (Nat × List Nat) → List (Nat × List Nat)
  | 0, g => g
  | k + 1, g => prune k (g.filter fun n => n.2.any fun p => g.any (·.1 == p))

/-- The relation contains a cycle (R93). -/
def cyclic (g : List (Nat × List Nat)) : Bool := !(prune g.length g).isEmpty

/-- One entry's fields lie in their ranges (R92): PERIOD_K 1 to 1,000, or 0 for an error task; at most 8 predecessors. Log
entry 113 (DEDUCED, safe). -/
def entryOk (d : TaskDef) : Bool :=
  (if d.errorTask then decide (d.periodK = 0 ∧ d.offset = 0) else decide (1 ≤ d.periodK ∧ d.periodK ≤ 1000 ∧ d.offset < d.periodK)) &&
    decide (d.codeEnd < 2 ^ 18) && d.preds.length ≤ 8

/-- The task table is valid (R92, R93). `lane` lists the lane output cells. Log entry 113 (DEDUCED, safe). -/
def tableOk (p : Program) (loops : List SlotDesc) (lane : List Nat) : Bool :=
  p.tasks.length ≤ 16 && noRepeat (p.tasks.map (·.id.val)) && p.tasks.all entryOk &&
    (p.tasks.filter (·.guarded)).length ≤ 4 && p.tasks.all (fun d => !(d.guarded && d.errorTask)) &&
    (pairs p.tasks).all (fun (a, b) => decide (a.codeEnd < b.codeStart ∨ b.codeEnd < a.codeStart)) &&
    !cyclic (predGraph p.tasks loops) &&
    (pairs p.tasks).all (fun (a, b) => a.wCells.all fun c => !b.wCells.contains c) &&
    p.tasks.all fun d => !d.guarded || d.wCells.all fun c => !lane.contains c || p.feather.any (·.cell == c)

/-- No SYMID but 0 appears twice in one symbol table (R115). -/
def symbolsOk (p : Program) : Bool :=
  let uniq (xs : List Nat) : Bool := (pairs xs).all fun (a, b) => a == 0 || a != b
  uniq (p.records.map (·.symid)) && uniq (p.edges.map (·.symid)) && uniq (p.retained.map (·.symid))

/-! ### Loop slots (R130, R137) -/

/-- Finite, or an infinity of the given sign where R129 allows one. -/
def numOk (allow : Option Word) (w : Word) : Bool := F32.isFinite w || allow == some w

/-- Entries past `n` are zero. -/
def beyond (n : Nat) (v : List Word) : Bool := (v.drop n).all (· == 0)

/-- A matrix of `r` rows and `c` columns: finite, and zero beyond. -/
def matOk (r c : Nat) (m : List (List Word)) : Bool :=
  m.all (fun row => row.all F32.isFinite && beyond c row) && (m.drop r).all (fun row => row.all (· == 0))

/-- A vector of `n`: finite or the allowed infinity, and zero beyond. -/
def vecOk (n : Nat) (allow : Option Word) (v : List Word) : Bool := v.all (numOk allow) && beyond n v

/-- Not below zero. -/
def notNeg (w : Word) : Bool := F32.le 0 w

/-- An operand a loop may read (R130). -/
def Names.operandOk (x : Names) (a : Nat) : Bool :=
  match x.kinds.at? a with
  | some .int32 => true
  | some .uint32 => true
  | some .binary32 => true
  | _ => false

/-- One descriptor by itself (R129, R130). `float` lists the owned user cells configured with source float. -/
def Names.descOk (x : Names) (float : List Nat) (d : LoopDesc) : Bool :=
  decide (1 ≤ d.n ∧ d.n ≤ 16 ∧ 1 ≤ d.m ∧ d.m ≤ 8 ∧ 1 ≤ d.p ∧ d.p ≤ 8 ∧ d.q ≤ 8) &&
    decide (1 ≤ d.periodK ∧ d.periodK ≤ 1000 ∧ d.offset < d.periodK ∧ 1 ≤ d.ratio ∧ d.ratio ≤ 64) &&
    decide (d.frozenN ≤ 255 ∧ d.stuckN ≤ 255 ∧ 1 ≤ d.rejoinN ∧ d.rejoinN ≤ 255 ∧ d.horizon ≤ 65535) &&
    d.fallback != 3 && d.preds.length ≤ 8 &&
    matOk d.n d.n d.a && matOk d.n d.m d.b && matOk d.p d.n d.c && matOk d.m d.n d.k && matOk d.n d.p d.l &&
    matOk d.m d.q d.nMat &&
    vecOk d.m (some (F32.neg F32.inf)) d.uMin && vecOk d.m (some F32.inf) d.uMax && vecOk d.m (some F32.inf) d.rate &&
    vecOk d.m none d.safe && vecOk d.m (some F32.inf) d.slew && vecOk d.m none d.uStart && vecOk d.n none d.x0 &&
    F32.isFinite d.decay && F32.isFinite d.refSlew && notNeg d.refSlew && notNeg d.decay && F32.lt d.decay 0x3F800000#32 &&
    d.rate.all notNeg && d.slew.all notNeg && (d.uMin.zip d.uMax).all (fun (a, b) => F32.le a b) &&
    d.uCell.length == d.m && d.yCell.length == d.p && d.yAlt.length == d.p && d.rCell.length == d.q &&
    d.manCell.length == d.m &&
    d.uCell.all (fun c => c < 0xF00 && float.contains c && x.kinds.at? c == some .binary32) &&
    (d.yCell ++ d.yAlt.filterMap id ++ d.rCell ++ d.manCell.filterMap id).all x.operandOk &&
    d.modeCell.all (fun c => c < 0xF00 && x.kinds.at? c == some .enumeration) &&
    (d.frozenN == 0 || d.frozenN * d.periodK ≥ 128 || (d.yCell ++ d.yAlt.filterMap id).all (· < 0x1000))

/-- A cascade the module accepts (R137). -/
def cascadeOk (loops : List SlotDesc) (l : SlotDesc) : Bool :=
  !l.desc.cascade || (match loops.find? (fun o => o.engine == l.engine && o.slot == l.desc.outer && o.desc.valid) with
    | none => false
    | some o => o.desc.periodK == l.desc.ratio * l.desc.periodK && o.desc.offset == l.desc.offset &&
        o.desc.m ≤ l.desc.q && (!l.desc.guarded || o.desc.guarded))

/-- All loop slots of an image together (R130, R137). -/
def Names.loopsOk (x : Names) (float : List Nat) (loops : List SlotDesc) : Bool :=
  let v := loops.filter (·.desc.valid)
  v.all (fun l => x.descOk float l.desc && cascadeOk v l) && (v.filter (·.desc.guarded)).length ≤ 64 &&
    (pairs v).all (fun (a, b) => a.desc.uCell.all fun c => !b.desc.uCell.contains c) &&
    v.all (fun l => l.desc.uCell.all fun c => x.prog.tasks.all fun d => !d.wCells.contains c) &&
    !cyclic (predGraph x.prog.tasks v)

/-! ### What the loader knows -/

/-- Names of the running state. -/
def State.names (s : State) : Names :=
  { kinds := s.img.working.map fun p => (p.1, kindOf p.2.kind)
    trowel := SMap.keys (s.img.defs.filter fun p => p.2.src.toNat == 4), prog := s.trw.bank }

/-- Owned user cells configured with source float. -/
def State.floatCells (s : State) : List Nat := SMap.keys (s.img.defs.filter fun p => p.2.src.toNat == 5)

/-- The loop slots in force, as descriptors with their slots. -/
def State.slotDescs (s : State) : List SlotDesc :=
  s.flt.slots.map fun p =>
    ⟨⟨p.1 / 128 % 4, Nat.mod_lt _ (by decide)⟩, ⟨p.1 % 128, Nat.mod_lt _ (by decide)⟩, p.2.desc⟩

/-- The loop slots after a batch. -/
def State.slotsAfter (s : State) (b : List SlotDesc) : List SlotDesc :=
  (s.slotDescs.filter fun o => !b.any fun n => n.engine == o.engine && n.slot == o.slot) ++ b

end Sys2Proof.Machine
end

