-- ==== Sys2Proof/Machine/Command.lean ====
section
/-! DEFINITION. The commands that change a running program: forces, touch-ups, recoat arms, slot updates, stop, restart,
loop reset and trace set-up (R100 to R118, R141, R151 to R154), as checks and effects, and their meanings. -/

namespace Sys2Proof.Machine

/-! ### Forces (R107 to R110) -/

/-- Cells that hold a force or are about to (R107). -/
def State.forceUse (s : State) : List Nat :=
  s.cmd.forceDue.foldl (fun m (p : Nat × Option (Bool × Word)) =>
    if p.2.isSome then (if m.contains p.1 then m else p.1 :: m) else m.filter (· != p.1)) s.cmd.forces.keys

/-- An owned user cell that the image defines. -/
def State.userCell (s : State) (a : Nat) : Bool := a < 0xF00 && (s.img.working.at? a).isSome

/-- FORCE_SET (R107, R108). Log entry 27 (DESIGN CHOICE, unsafe). -/
def doForceSet (cell : Nat) (persist : Bool) (v : Word) : Doing :=
  { check := fun s =>
      if !s.userCell cell then some (.noAccess, .none)
      else if s.forceUse.length ≥ 1024 && !s.forceUse.contains cell then some (.tableFull, .none)
      else none
    refuse := fun s => if s.userCell cell then s else s.deny 0
    apply := fun s =>
      let v := if s.cellKind cell = some .bool then v &&& 1 else v
      { s with cmd := { s.cmd with forceDue := s.cmd.forceDue ++ [(cell, some (persist, v))] } }
    epoch := fun s => s.epoch + 1 }

/-- FORCE_REMOVE (R109); removing a force that does not stand has no effect. -/
def doForceRemove (cell : Nat) : Doing :=
  { check := fun s => if s.userCell cell then none else some (.noAccess, .none)
    refuse := fun s => s.deny 0
    apply := fun s => { s with cmd := { s.cmd with forceDue := s.cmd.forceDue ++ [(cell, none)] } }
    epoch := fun s => s.epoch + 1 }

/-- Show the masking table (MSK_STAT, R124). -/
def State.showForces (s : State) : State :=
  s.onCore fun k => (k.fput Reg.MSK_STAT_USED s.cmd.forces.length).fput Reg.MSK_STAT_PERSIST
    (s.cmd.forces.filter (·.2.persist)).length

/-- Record of a force set or removed: action as the table of R412 codes it. -/
def State.forceRecord (s : State) (cell action : Nat) (persist : Bool) (v : Word) : State :=
  s.record 0x0205 (s.kindDomain cell).2.toNat
    (le cell 2 ++ [BitVec.ofNat 8 action, if persist then 1 else 0] ++ le v.toNat 4 ++ le s.epoch 8)

/-- The slots whose output a force leaves have a transfer event at their next sample (R136). -/
def Flt_unforce (m : SMap Loop) (cell : Nat) : SMap Loop :=
  m.map fun p => (p.1, if p.2.desc.uCell.contains cell then { p.2 with transfer := true } else p.2)

/-- Take a force away (R109): the cell keeps its VALUE, FORCED ends, and it is UNCERTAIN_LAST_USABLE until it is written. -/
def State.dropForce (s : State) (cell action : Nat) : State :=
  match s.cmd.forces.at? cell with
  | none => s
  | some f =>
    let s := { s with cmd := { s.cmd with forces := s.cmd.forces.del cell, forceGen := s.cmd.forceGen + 1 }
                      flt := { s.flt with slots := Flt_unforce s.flt.slots cell } }
    ((s.markCell cell fun cs => addCond Qual.lastUsable (dropCond Qual.forced cs)).forceRecord cell action f.persist
      f.value).showForces

/-- One accepted force change takes effect (R108). -/
def State.applyForce (s : State) (p : Nat × Option (Bool × Word)) : State :=
  match p.2 with
  | none => s.dropForce p.1 3
  | some (persist, v) =>
    let old := s.cmd.forces.at? p.1
    let same := old.any fun f => f.value == v && f.persist == persist
    let s := { s with cmd := { s.cmd with forces := s.cmd.forces.put p.1 ⟨v, persist, s.epoch⟩
                                          forceGen := s.cmd.forceGen + 1 } }
    let s := if same then s else s.forceRecord p.1 (if old.isSome then 2 else 1) persist v
    s.showForces

/-- Accepted force changes take effect at the screed instant, before the input sweep (R108). Log entry 27 (DESIGN CHOICE,
unsafe). -/
def State.applyForces (s : State) : State :=
  let due := s.cmd.forceDue
  due.foldl (fun (s : State) p => s.applyForce p) { s with cmd := { s.cmd with forceDue := [] } }

/-! ### Touch-ups (R111 to R113) -/

/-- A bank with a touch-up's items put into it. -/
def touched (p : Program) (items : List TouchItem) : Program :=
  items.foldl (fun p (i : TouchItem) =>
    if i.instr then { p with code := p.code.put i.index i.word } else { p with consts := p.consts.put i.index i.word }) p

/-- The running bank as the accepted touch-ups will leave it. -/
def State.bankDue (s : State) : Program := s.cmd.touchDue.foldl touched s.trw.bank

/-- A touch-up's items are in range, and its instruction items and their tasks pass the load check (R111). -/
def State.touchOk (s : State) (items : List TouchItem) : Bool :=
  let p := touched s.bankDue items
  let x : Names := { s.names with prog := p }
  1 ≤ items.length && items.length ≤ 1024 &&
    items.all (fun i => if i.instr then i.index < 2 ^ 18 else i.index < 0x4000) &&
    items.all fun i => !i.instr || (x.plainOk i.word &&
      (p.tasks.filter fun d => decide (d.codeStart ≤ i.index ∧ i.index ≤ d.codeEnd)).all x.taskOk)

/-- The epoch at which a touch-up accepted now is applied: one a tick (R112). -/
def State.touchEpoch (s : State) : Nat := s.epoch + 1 + s.cmd.touchDue.length

/-- A recoat is armed (R116). -/
def State.armed (s : State) : Bool := s.core.fget Reg.RCT_STAT_STATE == 3

/-- The swap epoch of RCT_SWAP. -/
def State.swapEpoch (s : State) : Nat := s.core.pair Reg.RCT_SWAP_LO_EPOCH_LO Reg.RCT_SWAP_HI_EPOCH_HI

/-- TOUCH_UP (R111, R112). Log entry 27 (DESIGN CHOICE, unsafe). -/
def doTouchUp (items : List TouchItem) : Doing :=
  { check := fun s =>
      if s.cmd.touchDue.length ≥ 5 then some (.busy, .none)
      else if s.armed && s.touchEpoch ≥ s.swapEpoch then some (.recoatArmed, .none)
      else if !s.touchOk items then some (.badRequest, .none)
      else none
    apply := fun s =>
      { s with cmd := { s.cmd with touchDue := s.cmd.touchDue ++ [items] } }.onCore
        (·.fput Reg.TUP_STAT_QUEUED (s.cmd.touchDue.length + 1))
    epoch := State.touchEpoch }

/-- One pending touch-up is applied whole at the screed instant (R112, R113); a word written anew is sound again. -/
def State.applyTouch (s : State) : State :=
  match s.cmd.touchDue with
  | [] => s
  | items :: rest =>
    let code := s.trw.codeBad.filter fun a => !items.any fun i => i.instr && i.index == a
    let consts := s.trw.constBad.filter fun a => !items.any fun i => !i.instr && i.index == a
    let s := { s with
      trw := { s.trw with bank := touched s.trw.bank items, codeBad := code, constBad := consts }
      cmd := { s.cmd with touchDue := rest } }
    let s : State := s.trw.bank.tasks.foldl (fun (s : State) d =>
      if !d.guarded && s.core.fget Reg.TSK_STAT_STATE d.id == 3 &&
          items.any (fun i => i.instr && decide (d.codeStart ≤ i.index ∧ i.index ≤ d.codeEnd)) then s.setTask d.id 1
      else s) s
    (s.onCore fun k => (k.fput Reg.TUP_STAT_QUEUED rest.length).bump Reg.TUP_STAT_APPLIED).record 0x0206 0
      (le items.length 2 ++ le s.epoch 8)

/-! ### Arming a recoat (R116 to R118) -/

/-- A partner stands by that could verify the image with this unit (R117, R224). -/
def State.hasPartner (s : State) : Bool :=
  s.core.flag Reg.GLB_UNIT_PAIRED && (let p := s.core.fget Reg.PTR_STAT_PAIR_STATE; 2 ≤ p && p ≤ 4)

/-- An arm or revert arm: `from` is the recoat state it needs. -/
def doArm (need swap : Nat) : Doing :=
  { check := fun s =>
      if swap < s.epoch + 8 then some (.refused, .swapEpoch)
      else if s.armed then some (.refused, .alreadyArmed)
      else if s.core.fget Reg.RCT_STAT_STATE ≠ need then some (.refused, .notVerified)
      else if s.hasPartner && !s.cmd.partnerVerified then some (.refused, .partner)
      else none
    refuse := fun s => s.onCore (·.fput Reg.RCT_STAT_RESULT 6)
    apply := fun s => s.onCore fun k =>
      (k.fput Reg.RCT_STAT_STATE 3).putPair Reg.RCT_SWAP_LO_EPOCH_LO Reg.RCT_SWAP_HI_EPOCH_HI swap
    epoch := fun _ => swap }

/-- RECOAT_ARM (R117). -/
def doRecoatArm (swap : Nat) : Doing := doArm 2 swap

/-- REVERT_ARM (R118). -/
def doRevertArm (swap : Nat) : Doing := doArm 4 swap

/-- RECOAT_CANCEL (R117): accepted up to the publish of tick S − 1. Log entry 28 (DESIGN CHOICE, unsafe). -/
def doRecoatCancel : Doing :=
  { check := fun s =>
      if s.armed && (s.epoch + 1 < s.swapEpoch || (s.epoch + 1 == s.swapEpoch && s.img.pubEpoch != some s.epoch)) then none
      else some (.refused, .none)
    apply := fun s => s.onCore fun k => (k.fput Reg.RCT_STAT_STATE 2).fput Reg.RCT_STAT_RESULT 8 }

/-! ### Slot updates (R151) -/

/-- The loop slots as the accepted updates will leave them. -/
def State.slotsDue (s : State) : List SlotDesc :=
  s.cmd.slotDue.foldl (fun acc b => (acc.filter fun o => !b.any fun n => n.engine == o.engine && n.slot == o.slot) ++ b)
    s.slotDescs

/-- SLOT_UPDATE (R151). Log entry 27 (DESIGN CHOICE, unsafe). -/
def doSlotUpdate (descs : List SlotDesc) : Doing :=
  { check := fun s =>
      let after := (s.slotsDue.filter fun o => !descs.any fun n => n.engine == o.engine && n.slot == o.slot) ++ descs
      if 1 ≤ descs.length && descs.length ≤ 128 && s.names.loopsOk s.floatCells after then none
      else some (.badRequest, .none)
    apply := fun s => { s with cmd := { s.cmd with slotDue := s.cmd.slotDue ++ [descs] } }
    epoch := fun s => s.epoch + 1 + s.cmd.slotDue.length }

/-- A slot as an update leaves it (R151): runtime words kept when the dimensions are, a transfer event at its next sample. -/
def updated (old : Option Loop) (d : LoopDesc) : Loop :=
  let fresh : Loop := { desc := d, xhat := d.x0.take d.n, uprev := d.uStart.take d.m, bias := List.replicate d.m 0
                        watch := List.replicate d.p {} }
  match old with
  | none => fresh
  | some l =>
    if l.desc.n = d.n ∧ l.desc.m = d.m ∧ l.desc.p = d.p ∧ l.desc.q = d.q then { l with desc := d, transfer := true }
    else { fresh with uprev := l.uprev.take d.m ++ (d.uStart.take d.m).drop l.uprev.length }

/-- Show how many slots an engine has (FLT_LOOPS, R157). -/
def State.showSlots (s : State) : State :=
  (List.range 4).foldl (fun (s : State) f =>
    let v := s.flt.slots.filter fun p => p.1 / 128 == f && p.2.desc.valid
    s.onCore fun k => (k.fput Reg.FLT_LOOPS_CONFIGURED v.length f).fput Reg.FLT_LOOPS_GUARDED
      (v.filter (·.2.desc.guarded)).length f) s

/-- Put one descriptor into force (R151); a descriptor that is not VALID takes its slot out of use. -/
def State.putSlot (s : State) (b : SlotDesc) : State :=
  let i := b.engine.val * 128 + b.slot.val
  let old := s.flt.slots.at? i
  let keeps := b.desc.valid && old.any fun l => l.desc.n == b.desc.n && l.desc.m == b.desc.m && l.desc.p == b.desc.p &&
    l.desc.q == b.desc.q
  let s := if keeps then s
    else s.onCore fun k => (((k.fput Reg.LP_FB_AGE 0 i).fput Reg.LP_FB_LOST 0 i).fput Reg.LP_FB_SWITCHED 0 i).fput
      Reg.LP_STAT_FB 0 i
  if b.desc.valid then
    let st := if b.desc.guarded && s.core.flag Reg.SBD_STAT_TRIPPED then 4 else 1
    { s with flt := { s.flt with slots := s.flt.slots.put i (updated old b.desc)
                                 descBad := s.flt.descBad.filter (· != i) } }.onCore fun k =>
      ((k.setFlag Reg.LP_STAT_VALID true i).setFlag Reg.LP_STAT_GUARDED b.desc.guarded i).fput Reg.LP_STAT_STATE
        (if k.fget Reg.LP_STAT_STATE i = 2 then 2 else st) i
  else
    { s with flt := { s.flt with slots := s.flt.slots.del i, descBad := s.flt.descBad.filter (· != i) } }.onCore fun k =>
      ((k.setFlag Reg.LP_STAT_VALID false i).setFlag Reg.LP_STAT_GUARDED false i).fput Reg.LP_STAT_STATE 0 i

/-- One slot-update batch is applied at the screed instant (R151). -/
def State.applySlots (s : State) : State :=
  match s.cmd.slotDue with
  | [] => s
  | b :: rest =>
    let cmd := { s.cmd with slotDue := rest, slotSeq := s.cmd.slotSeq + 1 }
    (b.foldl (fun (s : State) d => s.putSlot d) { s with cmd := cmd }).showSlots

/-! ### Stop and restart (R100, R105, R106) -/

/-- STOP (R100, R101): cause 0x07; nothing while the bead is tripped. -/
def doStop : Doing := { check := fun _ => none, apply := fun s => s.trip 7 0 }

/-- Engines that a guarded task or loop is bound to are in service (R105). -/
def State.guardedServed (s : State) : Bool :=
  (s.trw.bank.tasks.all fun d => !d.guarded || s.core.flag Reg.TRW_STAT_IN_SERVICE d.engine) &&
    s.guardedLoops.all fun i => s.core.flag Reg.FLT_STAT_IN_SERVICE (i / 128)

/-- The event record of a restart (R105, R412). -/
def State.restartRecord (s : State) (trip r : Nat) (c : Cause) : State :=
  s.record 0x0204 0 (le trip 8 ++ le r 8 ++ le c.code 1)

/-- RESTART (R105). Log entry 104 (DEDUCED, unsafe). -/
def doRestart (trip current : Nat) (sigValid : Bool) : Doing :=
  { check := fun s =>
      if !sigValid then some (.signature, .none)
      else if !s.epochOk 9 current then some (.staleEpoch, .none)
      else if !s.core.flag Reg.SBD_STAT_TRIPPED || s.cmd.restartDue ||
          trip != s.core.pair Reg.SBD_TRIP_EPOCH_LO_EPOCH_LO Reg.SBD_TRIP_EPOCH_HI_EPOCH_HI then some (.staleEpoch, .none)
      else if s.core.sget Reg.THM_STAT_TJ ≥ 950 then some (.refused, .junctionHot)
      else if !s.guardedServed then some (.refused, .engineOut)
      else none
    refuse := fun s =>
      if sigValid && s.epochOk 9 current && s.core.flag Reg.SBD_STAT_TRIPPED && !s.cmd.restartDue &&
          trip == s.core.pair Reg.SBD_TRIP_EPOCH_LO_EPOCH_LO Reg.SBD_TRIP_EPOCH_HI_EPOCH_HI then
        s.restartRecord trip 0 (if s.core.sget Reg.THM_STAT_TJ ≥ 950 then .junctionHot else .engineOut)
      else s
    apply := fun s =>
      (({ s with cmd := { s.cmd with restartDue := true } }.epochTaken 9 current).onCore (·.opDone)).restartRecord trip (s.epoch + 1) .none
    epoch := fun s => s.epoch + 1 }

/-- An accepted restart takes effect (R106, R148), for the faulted ordinary tasks too (R88). Log entry 117 (DEDUCED, unsafe).
-/
def State.applyRestart (s : State) : State :=
  if !s.cmd.restartDue then s
  else
    let guarded := s.trw.bank.tasks.filter (·.guarded)
    let ids := guarded.map (·.id)
    let rest (m : SMap TRec) : SMap TRec := s.trw.bank.records.foldl (fun m (r : RecordSym) =>
      if ids.contains r.task && !(r.type == 4 && r.retentive) then m.put r.idx { sym := r.symid, type := r.type } else m) m
    let edges := s.trw.bank.edges.foldl (fun m (b : EdgeSym) => if ids.contains b.task then SMap.put m b.idx {} else m) s.trw.edges
    let s := { s with
      trw := { s.trw with recs := rest s.trw.recs, edges := edges }
      cmd := { s.cmd with restartDue := false, feathering := false, stopAll := false } }
    let s : State := guarded.foldl (fun (s : State) d => s.setTask d.id 1) s
    let s : State := s.trw.bank.tasks.foldl (fun (s : State) d =>
      if s.core.fget Reg.TSK_STAT_STATE d.id = 3 then s.setTask d.id 1 else s) s
    let s : State := s.guardedLoops.foldl (fun (s : State) i =>
      match s.flt.slots.at? i with
      | none => s
      | some l =>
        let u := l.desc.uCell.map fun a => ((s.img.working.at? a).map (·.value)).getD 0
        { s with flt := { s.flt with slots := s.flt.slots.put i { l with transfer := true, uprev := u } } }.onCore
          (fun k => if k.fget Reg.LP_STAT_STATE i = 4 then k.fput Reg.LP_STAT_STATE 1 i else k)) s
    s.onCore fun k =>
      let k := ((k.setFlag Reg.SBD_STAT_TRIPPED false).fput Reg.SBD_FEATHER_ACTIVE 0).bump Reg.SBD_RESTARTS_COUNT
      if k.state = 2 then k.setState 1 0 else k

/-! ### Loop reset and trace set-up (R141, R153, R154) -/

/-- LOOP_RESET (R141). -/
def doLoopReset (engine slot : Nat) (fault : Nat) : Doing :=
  { check := fun s => match s.flt.slots.at? (engine * 128 + slot) with
      | none => some (.badRequest, .none)
      | some l =>
        if engine > 3 ∨ slot > 127 then some (.badRequest, .none)
        else if s.core.fget Reg.LP_STAT_STATE (engine * 128 + slot) ≠ 3 ∨ l.faultEpoch ≠ fault then some (.staleEpoch, .none)
        else none
    apply := fun s =>
      let i := engine * 128 + slot
      match s.flt.slots.at? i with
      | none => s
      | some l => { s with flt := { s.flt with slots := s.flt.slots.put i { l with transfer := true } } }.onCore
          (·.fput Reg.LP_STAT_STATE (if l.desc.guarded && s.core.flag Reg.SBD_STAT_TRIPPED then 4 else 1) i) }

/-- TRACE_SET_UP (R153, R154). -/
def doTraceSetUp (engine : Nat) (t : TraceSetup) : Doing :=
  { check := fun _ =>
      if engine ≤ 3 ∧ t.ch.length = 8 ∧ t.pre ≤ 4095 ∧ t.trigMode.val ≤ 4 ∧ t.ch.all (·.2.2.1.val ≤ 6) then none
      else some (.badRequest, .none)
    apply := fun s =>
      { s with flt := { s.flt with traces := s.flt.traces.put engine { setup := some t } } }.onCore fun k =>
        ((k.fput Reg.TRC_STAT_STATE (if t.pre = 0 then 2 else 1) engine).fput Reg.TRC_STAT_ROWS 0 engine).fput
          Reg.TRC_STAT_TBASE t.tbase engine }

end Sys2Proof.Machine

namespace Sys2Proof
open Machine

/-- A COMMAND that takes effect at a screed instant: a force, a touch-up, a slot update or a restart (R105, R108, R112,
R151). -/
def Command.timed : Command → Option Doing
  | .forceSet cell persist v => some (doForceSet cell persist v)
  | .forceRemove cell => some (doForceRemove cell)
  | .touchUp items => some (doTouchUp items)
  | .slotUpdate descs => some (doSlotUpdate descs)
  | .restart trip current sigValid => some (doRestart trip current sigValid)
  | _ => none

end Sys2Proof

namespace Sys2Proof.Machine

/-- COMMANDs a standby has acknowledged whose application epoch has come (R232). -/
def State.applyAgreed (s : State) (n : Nat) : State :=
  let due := s.pair.agreed.filter fun x => decide (x.2 ≤ n)
  due.foldl (fun (s : State) x => match x.1.timed with
      | some d => d.apply s
      | none => s)
    { s with pair := { s.pair with agreed := s.pair.agreed.filter fun x => decide (n < x.2) } }

/-! ### Meanings -/

/-- What a command of this family may change. -/
def State.upCmd (s t : State) : State :=
  { s with core := s.core.after t.core, img := t.img, trw := t.trw, flt := t.flt, cmd := t.cmd, svc := t.svc, hq := t.hq
           net := t.net, pair := t.pair, sec := t.sec }

/-- FORCE_SET (R107, R108). -/
def execForceSet (r : Req) (cell : Nat) (persist : Bool) (v : Word) (s : State) : Answer :=
  .next <| s.upCmd <| s.command r {} (some (.forceSet cell persist v)) (doForceSet cell persist v)

/-- FORCE_REMOVE (R108, R109). -/
def execForceRemove (r : Req) (cell : Nat) (s : State) : Answer :=
  .next <| s.upCmd <| s.command r {} (some (.forceRemove cell)) (doForceRemove cell)

/-- TOUCH_UP (R111, R112). -/
def execTouchUp (r : Req) (items : List TouchItem) (s : State) : Answer :=
  .next <| s.upCmd <| s.command r {} (some (.touchUp items)) (doTouchUp items)

/-- RECOAT_ARM (R117). -/
def execRecoatArm (r : Req) (swap : Nat) (s : State) : Answer :=
  .next <| s.upCmd <| s.command r {} (some (.recoatArm swap)) (doRecoatArm swap)

/-- RECOAT_CANCEL (R117). -/
def execRecoatCancel (r : Req) (s : State) : Answer :=
  .next <| s.upCmd <| s.command r {} (some .recoatCancel) doRecoatCancel

/-- REVERT_ARM (R118). -/
def execRevertArm (r : Req) (swap : Nat) (s : State) : Answer :=
  .next <| s.upCmd <| s.command r {} (some (.revertArm swap)) (doRevertArm swap)

/-- SLOT_UPDATE (R151). -/
def execSlotUpdate (r : Req) (descs : List SlotDesc) (s : State) : Answer :=
  .next <| s.upCmd <| s.command r {} (some (.slotUpdate descs)) (doSlotUpdate descs)

/-- STOP (R100). -/
def execStop (r : Req) (s : State) : Answer := .next <| s.upCmd <| s.command r {} none doStop

/-- RESTART (R105). -/
def execRestart (r : Req) (trip current : Nat) (sigValid : Bool) (s : State) : Answer :=
  .next <| s.upCmd <| s.command r {} (some (.restart trip current sigValid)) (doRestart trip current sigValid)

/-- LOOP_RESET (R141). -/
def execLoopReset (r : Req) (engine slot : Nat) (fault : Nat) (s : State) : Answer :=
  .next <| s.upCmd <| s.command r {} (some (.loopReset engine slot fault)) (doLoopReset engine slot fault)

/-- TRACE_SET_UP (R153). -/
def execTraceSetUp (r : Req) (engine : Nat) (t : TraceSetup) (s : State) : Answer :=
  .next <| s.upCmd <| s.command r {} (some (.traceSetUp engine t)) (doTraceSetUp engine t)

end Sys2Proof.Machine
end

