-- ==== Sys2Proof/Machine/Recoat.lean ====
section
/-! DEFINITION. The recoat swap: matching of items, installation of the new bank's tables, the masking-table rules, and the
recoat report (R110, R114 to R122). -/

namespace Sys2Proof.Machine

/-- Show the task table of the running bank (R124); a task that is not defined has STATE 0. -/
def State.showTasks (s : State) : State :=
  (List.finRange 16).foldl (fun (s : State) t =>
    match s.taskDef t with
    | none => s.onCore fun k =>
      let k := (k.setFlag Reg.TSK_CFG_VALID false t).setFlag Reg.TSK_CFG_GUARDED false t
      (k.setFlag Reg.TSK_CFG_ERROR_TASK false t).fput Reg.TSK_STAT_STATE 0 t
    | some d => s.onCore fun k =>
      let k := ((k.setFlag Reg.TSK_CFG_VALID true t).setFlag Reg.TSK_CFG_GUARDED d.guarded t).setFlag Reg.TSK_CFG_ERROR_TASK
        d.errorTask t
      let k := ((k.fput Reg.TSK_CFG_ENGINE d.engine t).fput Reg.TSK_CFG_PRIO d.prio t).fput Reg.TSK_CFG_PERIOD_K d.periodK t
      let k := (k.fput Reg.TSK_SCHED_OFFSET d.offset t).fput Reg.TSK_SCHED_NPRED d.preds.length t
      let k := (k.fput Reg.TSK_CODE_LO_START d.codeStart t).fput Reg.TSK_CODE_HI_END d.codeEnd t
      k.fput Reg.TSK_STAT_STATE (if d.guarded && k.flag Reg.SBD_STAT_TRIPPED then 4 else 1) t) s

/-- Records of two banks match: SYMID and type equal (R115, R120). Log entry 20 (DESIGN CHOICE, unsafe). -/
def recMatch (a b : RecordSym) : Bool := a.symid != 0 && a.symid == b.symid && a.type == b.type

/-- Edge bits match (R120). Log entry 20 (DESIGN CHOICE, unsafe). -/
def edgeMatch (a b : EdgeSym) : Bool := a.symid != 0 && a.symid == b.symid

/-- Retained symbols match: SYMID, type and size equal (R120). Log entry 20 (DESIGN CHOICE, unsafe). -/
def retMatch (a b : RetainedSym) : Bool :=
  a.symid != 0 && a.symid == b.symid && a.type == b.type && a.init.length == b.init.length

/-- The record store of the new bank: matched records copied, the rest at rest (R119, R120). Log entry 20 (DESIGN CHOICE,
unsafe). -/
def State.newRecs (s : State) (p : Program) : SMap TRec :=
  p.records.foldl (fun m n =>
    match s.trw.bank.records.find? (recMatch · n) with
    | some o => SMap.put m n.idx { s.trw.recs.atD o.idx {} with sym := n.symid, type := n.type }
    | none => m.put n.idx { sym := n.symid, type := n.type }) []

/-- The edge store of the new bank (R119, R120). Log entry 20 (DESIGN CHOICE, unsafe). -/
def State.newEdges (s : State) (p : Program) : SMap EdgeBit :=
  p.edges.foldl (fun m n =>
    match s.trw.bank.edges.find? (edgeMatch · n) with
    | some o => SMap.put m n.idx (s.trw.edges.atD o.idx {})
    | none => m.put n.idx {}) []

/-- The retained words of the new bank (R119, R120). Log entry 20 (DESIGN CHOICE, unsafe). -/
def State.newRet (s : State) (p : Program) : SMap Word :=
  p.retained.foldl (fun m n =>
    match s.trw.bank.retained.find? (retMatch · n) with
    | some o => (List.range n.init.length).foldl (fun m i => m.put (n.idx + i) (s.trw.ret.atD (o.idx + i) 0)) m
    | none => n.init.zipIdx.foldl (fun m q => SMap.put m (n.idx + q.2) q.1) m) []

/-- Items matched, new and discarded at a swap (R120, R124). Log entry 29 (DESIGN CHOICE, unsafe). -/
def State.swapCounts (s : State) (p : Program) : Nat × Nat × Nat :=
  let o := s.trw.bank
  let mr := (p.records.filter fun n => o.records.any (recMatch · n)).length
  let me := (p.edges.filter fun n => o.edges.any (edgeMatch · n)).length
  let mt := (p.retained.filter fun n => o.retained.any (retMatch · n)).length
  let all := p.records.length + p.edges.length + p.retained.length
  let old := o.records.length + o.edges.length + o.retained.length
  let m := mr + me + mt
  (m, all - m, old - m)

/-- A cell lies in the write set of one of a bank's tasks (R122). -/
def Program_writes (p : Program) (a : Nat) : Bool := p.tasks.any fun d => d.wCells.contains a

/-- A force that the masking-table rules take away: the cell goes or changes its KIND (R110). Log entry 29 (DESIGN CHOICE,
unsafe). -/
def State.forceLost (s : State) (p : Program) (a : Nat) : Bool :=
  match s.trw.bank.cells.find? (·.cell == a), p.cells.find? (·.cell == a) with
  | some _, none => true
  | some o, some n => o.kind != n.kind
  | none, _ => false

/-- The recoat report's entries (R122). Log entries 29 (DESIGN CHOICE, unsafe); 123 (DESIGN CHOICE, unsafe). -/
def State.report (s : State) (p : Program) : List ReportEntry :=
  let o := s.trw.bank
  (o.records.filter fun a => !p.records.any (recMatch a ·)).map (fun a => ⟨1, a.symid, a.idx, 0xFFFF⟩) ++
    (o.edges.filter fun a => !p.edges.any (edgeMatch a ·)).map (fun a => ⟨2, a.symid, a.idx, 0xFFFF⟩) ++
    (o.retained.filter fun a => !p.retained.any (retMatch a ·)).map (fun a => ⟨3, a.symid, a.idx, 0xFFFF⟩) ++
    (SMap.keys s.cmd.forces).filterMap fun a =>
      if s.forceLost p a then some ⟨0x12, a, a, 0xFFFF⟩
      else if Program_writes p a then some ⟨0x10, a, if Program_writes o a then a else 0xFFFF, a⟩
      else if Program_writes o a then some ⟨0x11, a, a, 0xFFFF⟩
      else none

/-- Define a cell that stands not ready (R28). -/
def State.freshCell (s : State) (d : CellDef) : State :=
  let cs := if d.oos then [Qual.notReady, Qual.oos] else [Qual.notReady]
  let s := { s with img := { s.img with defs := s.img.defs.put d.cell d } }
  s.store d.cell ({ value := 0, qual := BitVec.ofNat 8 (Qual.govern cs), kind := d.kind, flags := 0, domain := d.domain
                    src := d.src, epoch := ep32 (s.epoch - 1) : Cell }.sealed (s.pointId d.cell)) cs

/-- Install one cell definition of the new bank (R119): a new cell or a new KIND starts not ready; otherwise VALUE stays and
the cell, verified first, is remade under its definition. -/
def State.installCell (s : State) (d : CellDef) : State :=
  match s.readCell d.cell 2, s.img.defs.at? d.cell with
  | (some (c, _), s), some o =>
    if o.kind = d.kind then
      let cs := if d.oos then addCond Qual.oos (s.conds d.cell) else dropCond Qual.oos (s.conds d.cell)
      let s := { s with img := { s.img with defs := s.img.defs.put d.cell d } }
      s.store d.cell ({ c with domain := d.domain, qual := BitVec.ofNat 8 (Qual.govern cs), flags := Qual.flagsOf cs }.sealed
        (s.pointId d.cell)) cs
    else s.freshCell d
  | _, _ => s.freshCell d

/-- A cell no longer defined goes (R27). -/
def State.removeCell (s : State) (a : Nat) : State :=
  let img := { s.img with working := s.img.working.del a, defs := s.img.defs.del a, conds := s.img.conds.del a }
  { s with img := img }

/-- The banks are exchanged at T0(S) (R119 to R122). -/
def State.exchangeBanks (s : State) (p : Program) : State :=
  let n := s.epoch
  let old := s.trw.bank
  let counts := s.swapCounts p
  let report := s.report p
  let forced := (report.filter fun e => e.cls ≥ 0x10).length
  let lost := (SMap.keys s.cmd.forces).filter (s.forceLost p)
  let recs := s.newRecs p
  let edges := s.newEdges p
  let ret := s.newRet p
  let s : State := lost.foldl (fun (s : State) a => s.dropForce a 4) s
  let s : State := (old.cells.filter fun c => !p.cells.any (·.cell == c.cell)).foldl (fun (s : State) c => s.removeCell c.cell) s
  let s : State := p.cells.foldl (fun (s : State) c => s.installCell c) s
  let run := s.core.fget Reg.RCT_STAT_RUN_BANK
  let trw := { s.trw with bank := p, idle := some old, recs := recs, edges := edges, ret := ret, codeBad := [], constBad := [] }
  let cmd := { s.cmd with reports := (report :: s.cmd.reports).take 2, reportNo := s.cmd.reportNo + 1, recoat := none,
                          partnerVerified := s.pair.partner.any (·.bank0 == old.bankId) }
  let partner := s.pair.partner.map fun x => { x with bank0 := x.bank1, bank1 := x.bank0 }
  let s := { s with trw := trw, cmd := cmd, pair := { s.pair with partner := partner } }.showTasks
  let s := s.onCore fun k =>
    let k := ((k.fput Reg.RCT_STAT_STATE 4).fput Reg.RCT_STAT_RESULT 1).fput Reg.RCT_STAT_RUN_BANK (1 - run)
    let k := (k.setFlag Reg.RCT_STAT_IDLE_VALID true).putPair Reg.RCT_SWAP_LO_EPOCH_LO Reg.RCT_SWAP_HI_EPOCH_HI n
    let k := (k.fput Reg.RCT_COUNTS_DISCARDED (min counts.2.2 0xFFF)).fput Reg.RCT_COUNTS_NEW (min counts.2.1 0x3FF)
    k.fput Reg.RCT_COUNTS_MATCHED_K (counts.1 / 32)
  s.record 0x0207 0 (le run 1 ++ le (1 - run) 1 ++ le n 8 ++ le counts.1 4 ++ le counts.2.1 4 ++ le counts.2.2 4 ++
    le forced 2 ++ le s.cmd.reportNo 2)

/-- An armed recoat reaches its swap epoch (R48, R116, R119): the swap, or SWAP_LATE where the idle bank is not prepared. -/
def State.applyRecoat (s : State) : State :=
  if !(s.armed && s.swapEpoch ≤ s.epoch) then s
  else match s.trw.idle with
    | some p => s.exchangeBanks p
    | none => s.onCore fun k => (k.fput Reg.RCT_STAT_STATE 2).fput Reg.RCT_STAT_RESULT 7

end Sys2Proof.Machine
end

