-- ==== Sys2Proof/Machine/Merge.lean ====
section
/-! DEFINITION. The merge of remote sets into the mirror, GROUT and LEVEL handling, and error triggers (R96, R249, R255 to
R261), and what a duty tells its standby of it (R230). -/

namespace Sys2Proof.Machine

/-- What a cell holds now, as an input item of the partner link (R229). -/
def State.itemOf (s : State) (a : Nat) : Option InputItem := (s.img.working.at? a).map fun c =>
  ⟨a, c, if c.src = 1 ∨ c.src = 2 then s.net.stamps.at? a else none⟩

/-- Items as the input digest covers them (R233). -/
def itemBytes (items : List InputItem) : List Byte := items.flatMap fun i => le i.cell 4 ++ i.content.image

/-- A duty whose partner is in step, or joins (R229, R241): it gets every input. -/
def State.feeds (s : State) : Bool := !s.standby && (s.inStep || s.joins)

/-- A duty whose standby is in step sends what it has just written as inputs (R229). Log entry 54 (DESIGN CHOICE, unsafe). -/
def State.sendItems (s : State) (items : List InputItem) : State :=
  if s.feeds && !items.isEmpty then
    { s with pair := { s.pair with inputs := s.pair.inputs ++ items } }.sendFrame (.input s.epoch items)
  else s

/-- The same, of cells that have just been written (R229). Log entry 54 (DESIGN CHOICE, unsafe). -/
def State.sendInputs (s : State) (cells : List Nat) : State := s.sendItems (cells.filterMap s.itemOf)

/-- The writes accepted in the tick before are applied in acceptance order (R30); a standby in step gets each in that order
(R229). -/
def State.enterWrites (s : State) : State :=
  let ws := s.writesDue
  let s := { s with img := { s.img with writes := s.img.writes.filter (·.accepted == s.epoch) } }
  let r := ws.foldl (fun (x : State × List InputItem) w =>
    let s := x.1.writeCell w.cell w.value [] 0x07 s.epoch
    (s, x.2 ++ (s.itemOf w.cell).toList)) (s, [])
  r.1.sendItems r.2

/-- The error task of a subscription is triggered: it is due in this tick; a skip that is pending passes with it, and is counted
(R86, R96, R98). -/
def State.trigger (s : State) (t : Fin 16) : State :=
  match s.taskDef t with
  | none => s
  | some d =>
    let st := s.core.fget Reg.TSK_STAT_STATE t
    if !s.core.flag Reg.TRW_STAT_IN_SERVICE d.engine || s.cmd.stopAll then s
    else if st = 1 then { s with trw := { s.trw with stages := s.trw.stages.put t .due } }
    else if st = 2 then
      ({ s with trw := { s.trw with stages := s.trw.stages.put t .skipped } }.bookCycle t 0).onCore (·.bump Reg.TSK_SKIP_COUNT t)
    else s

/-- The publisher's PUB_ID differs from the one expected (R249). -/
def State.pubWrong (s : State) (sub : SubDef) : Bool := (s.xch.pubIds.at? sub.pubPos).any (· != sub.pubId)

/-- The conditions a slot carries beside its writer's: BAD_CONFIG while the PUB_ID differs (R249). -/
def State.slotConds (s : State) (sub : SubDef) (cs : List Nat) : List Nat :=
  if s.pubWrong sub then addCond Qual.config cs else cs

/-- Datagrams held of a publisher for an epoch. -/
def State.heldOf (s : State) (pos epoch : Nat) : List Datagram :=
  s.xch.held.filter fun d => d.senderPos == pos && d.epoch == epoch

/-- A set is complete: every DG_INDEX from 0 to DG_COUNT − 1 is held (R255). -/
def setComplete (ds : List Datagram) : Bool :=
  match ds with
  | [] => false
  | d :: _ => (List.range d.dgCount).all fun i => ds.any (·.dgIndex == i)

/-- The conditions of a received cell (R20, R21). -/
def condsIn (c : Cell) : List Nat := Qual.condsOf c.qual.toNat c.flags

/-- Store a received cell in its slot, bit-exact with the conditions its QUAL and FLAGS name (R20, R21, R256). Log entry 60
(DESIGN CHOICE, unsafe). -/
def State.storeSlot (s : State) (a : Nat) (c : Cell) : State := s.store a c (condsIn c)

/-- One entry of a datagram for a slot: verified, stored unless the slot already holds a newer received cell, the slot fresh
and confirmed (R256). -/
def State.takeEntry (s : State) (epoch : Nat) (a : Nat) (c : Cell) : State :=
  if c.check ≠ checkOf (s.pointId a) c then
    match s.img.working.at? a with
    | none => s
    | some w => (s.sealCell a w).checkFailed a 3 w.domain.toNat
  else
    let last := s.xch.received.at? a
    let older := last.any fun l => newer l.epoch c.epoch
    let keep := if older then last.getD c else c
    let s := if !older || s.xch.subbed.contains a then s.storeSlot a keep else s
    let x := { s.xch with received := s.xch.received.put a keep, fresh := s.xch.fresh.put a epoch }
    let conf := if x.confirmed.contains a then x.confirmed else a :: x.confirmed
    { s with xch := { x with confirmed := conf, subbed := x.subbed.filter (· != a) } }

/-- Slots of a subscription by the publisher's cell. -/
def State.slotFor (s : State) (sub : SubDef) (cell : Nat) : Option Nat :=
  (s.img.mirror.find? fun p => p.2.sub == sub.id && p.2.cell == cell).map (·.1)

/-- Every entry of a datagram that is bound to a slot (R256); `cut` lists the slots a merge did not come to (R44). -/
def State.takeDatagram (s : State) (sub : SubDef) (d : Datagram) (cut : List Nat := []) : State :=
  d.entries.foldl (fun (s : State) e =>
    match s.slotFor sub e.1 with
    | none => s
    | some a => if cut.contains a then s else s.takeEntry d.epoch a e.2) s

/-- A complete set of epoch `m` confirms slots (R257): those it carries, and, when the last complete set was of epoch
m − d − 1 or later, those that stood confirmed after it; a confirmed slot that held a substitute shows the last received cell
again (R256). -/
def State.confirm (s : State) (sub : SubDef) (m d : Nat) (cut : List Nat := []) : State :=
  let slots := s.subSlots sub.id
  let near := (s.xch.complete.at? sub.pubPos).any fun l => l + d + 1 ≥ m
  let again := if near then (s.xch.lastConf.atD sub.id []).filter fun a => !s.xch.confirmed.contains a else []
  let conf := (s.xch.confirmed ++ again).filter fun a => !cut.contains a
  let x := { s.xch with confirmed := conf, complete := s.xch.complete.put sub.pubPos m }
  let s := { s with xch := { x with lastConf := x.lastConf.put sub.id (slots.filter conf.contains) } }
  (slots.filter fun a => conf.contains a && s.xch.subbed.contains a).foldl (fun (s : State) a =>
    let s := match s.xch.received.at? a with
      | some c => s.storeSlot a c
      | none => s.markCell a (dropCond Qual.subst)
    { s with xch := { s.xch with subbed := s.xch.subbed.filter (· != a) } }) s

/-- Every slot of a publisher whose set is not complete is unconfirmed (R257). -/
def State.unconfirm (s : State) (sub : SubDef) : State :=
  let slots := s.subSlots sub.id
  { s with xch := { s.xch with confirmed := s.xch.confirmed.filter fun a => !slots.contains a } }

/-- Slots that are missing (R258). -/
def State.missing (s : State) (sub : SubDef) : List Nat := (s.subSlots sub.id).filter fun a => !s.xch.confirmed.contains a

/-- VALUE and whether the slot is substituted, as the table of R260 decides; `run` counts this tick too. Log entry 60 (DESIGN
CHOICE, unsafe). -/
def State.substitute (s : State) (sub : SubDef) (a run : Nat) : Option Word × Bool × State :=
  if sub.subMax > 0 ∧ run > sub.subMax then (none, false, s)
  else match sub.subst.val with
    | 0 => (some sub.substConst, true, s)
    | 1 => (none, (s.xch.received.at? a).isSome, s)
    | _ => match s.readCell sub.substCell 3 with
      | (some (c, true), s) => if Qual.bad c.qual.toNat then (none, false, s) else (some c.value, true, s)
      | (_, s) => (none, false, s)

/-- GROUT handling of one missing slot in tick N (R260). -/
def State.groutSlot (s : State) (sub : SubDef) (a : Nat) : State :=
  let run := s.xch.runs.atD a 0 + 1
  let s := { s with xch := { s.xch with runs := s.xch.runs.put a run } }
  let (v, subst, s) := s.substitute sub a run
  match s.img.working.at? a with
  | none => s
  | some c =>
    let q := if subst then Qual.subst else Qual.comm
    let base := if v.isSome then []
      else if (s.conds a).contains Qual.check then [Qual.check]
      else match s.xch.received.at? a with
        | some l => condsIn l
        | none => [Qual.notReady]
    let cs := s.slotConds sub (addCond q base)
    let s := s.store a (s.formCell a (v.getD c.value) cs 0x06 (s.epoch - 1)) cs
    let sb := if s.xch.subbed.contains a then s.xch.subbed else a :: s.xch.subbed
    let s := { s with xch := { s.xch with subbed := sb } }
    if subst then s.onCore (·.bump Reg.XCH_SUBST_COUNT) else s

/-- GROUT handling of a subscription's missing slots: runs counted, and the first tick of a run told apart (R260, R261). -/
def State.grout (s : State) (sub : SubDef) (slots : List Nat) : Bool × State :=
  let first := s.xch.subRuns.atD sub.id 0 = 0
  let s : State := (s.subSlots sub.id).foldl (fun (s : State) a =>
    if slots.contains a then s else { s with xch := { s.xch with runs := s.xch.runs.put a 0 } }) s
  let s := { s with xch := { s.xch with subRuns := s.xch.subRuns.alter sub.id 0 (· + 1) } }
  (sub.trigEvery || first, slots.foldl (fun (s : State) a => s.groutSlot sub a) s)

/-- A subscription with no missing slot ends its runs (R260, R261). -/
def State.settled (s : State) (sub : SubDef) : State :=
  let x := { s.xch with subRuns := s.xch.subRuns.put sub.id 0 }
  { s with xch := { x with runs := (s.subSlots sub.id).foldl (fun m a => m.put a 0) x.runs } }

/-- Handle a subscription's missing slots at the merge (R258, R259, R261). -/
def State.handleMissing (s : State) (sub : SubDef) : State :=
  let miss := s.missing sub
  if miss.isEmpty then s.settled sub
  else if sub.level then
    { s with xch := { s.xch with waits := s.xch.waits ++ [({ sub := sub.id, since := s.core.c } : LevelWait)] } }.onCore (·.bump Reg.XCH_LEVEL_WAITS)
  else
    let (fire, s) := s.grout sub miss
    match sub.errorTask with
    | some t => if fire then s.trigger t else s
    | none => s

/-- Merge one publisher's set of epoch N − 1 (R249, R255 to R258). -/
def State.mergeSub (s : State) (cut : List Nat) (sub : SubDef) : State :=
  let e := s.epoch - 1
  let ds := s.heldOf sub.pubPos e
  let s :=
    if s.pubWrong sub then
      (s.unconfirm sub).markCells (s.subSlots sub.id) Qual.config
    else if setComplete ds then
      let s : State := ds.foldl (fun (s : State) d => s.takeDatagram sub d cut) s
      s.confirm sub e ((ds.head?.map (·.repDepth)).getD 0) cut
    else
      let s := (s.unconfirm sub).onCore (·.bump Reg.XCH_INCOMPLETE_COUNT)
      if sub.level then
        let s : State := ds.foldl (fun (s : State) d => s.takeDatagram sub d cut) s
        s.unconfirm sub
      else s
  s.handleMissing sub

/-- Error tasks triggered since the last merge (R261). -/
def State.laterTriggers (s : State) : State :=
  let ts := s.xch.triggers
  ts.foldl (fun (s : State) t => s.trigger t) { s with xch := { s.xch with triggers := [] } }

/-- The merge of tick N (R256): every subscription, then what is held of older epochs is dropped, except for a LEVEL wait. -/
def State.mergeRemote (s : State) (cut : List Nat := []) : State :=
  let n := s.epoch
  let s := { s with xch := { s.xch with mergedEpoch := some n, waits := [] } }.laterTriggers
  let s : State := s.xch.subs.foldl (fun (s : State) sub => s.mergeSub cut sub) s
  let waiting := s.xch.waits.filterMap fun w => (s.xch.subs.find? (·.id == w.sub)).map (·.pubPos)
  { s with xch := { s.xch with held := s.xch.held.filter fun d => decide (d.epoch ≥ n) || waiting.contains d.senderPos } }

/-- A LEVEL wait ends after `us` µs (R259, R276). -/
def State.endWait (s : State) (w : LevelWait) : State :=
  let us := (s.core.c - w.since) * 4 / 1000
  let n := s.epoch
  let levels := (n, us) :: s.xch.levels.filter fun p => decide (p.1 + 1024 > n)
  let x := { s.xch with waits := s.xch.waits.filter (fun o => o.sub != w.sub), levels := levels }
  { s with xch := x }.onCore (·.fput Reg.XCH_LEVEL_MAX_US ((levels.map fun (p : Nat × Nat) => p.2).foldl max 0))

/-- A datagram of N − 1 that arrives in a LEVEL wait is merged at once; the wait ends when no slot is missing (R259). Log
entry 108 (DESIGN CHOICE, unsafe). -/
def State.lateMerge (s : State) (sub : SubDef) (w : LevelWait) (d : Datagram) : State :=
  let s := s.takeDatagram sub d
  let ds := s.heldOf sub.pubPos d.epoch
  if !setComplete ds then s.unconfirm sub
  else
    let s : State := ds.foldl (fun (s : State) d => s.takeDatagram sub d) s
    let s := s.confirm sub d.epoch d.repDepth
    if (s.missing sub).isEmpty then (s.settled sub).endWait w else s

/-- WAIT_US has passed (R259): GROUT handling, its trigger counting for the next merge (R261). -/
def State.levelTimeout (s : State) (id : Nat) : State :=
  match s.xch.waits.find? (·.sub == id), s.xch.subs.find? (·.id == id) with
  | some w, some sub =>
    let (fire, s) := s.grout sub (s.missing sub)
    let s := match sub.errorTask with
      | some t => if fire then { s with xch := { s.xch with triggers := s.xch.triggers ++ [t] } } else s
      | none => s
    (s.endWait w).onCore (·.bump Reg.XCH_LEVEL_TIMEOUTS)
  | _, _ => s

end Sys2Proof.Machine
end

