-- ==== Sys2Proof/Machine/SystemCells.lean ====
section
/-! DEFINITION. The system cells: their sources, in the table's order, and the writing of those whose source changed
(R483). -/

namespace Sys2Proof.Machine

/-- A register word of item `i`: its fields at their bits. -/
def wordOf (k : Core) (rs : List Row) (i : Nat) : Nat := (rs.map fun r => k.fget r i * 2 ^ r.lsb).sum

/-- A sum of a field over the first `n` items. -/
def sumOf (k : Core) (r : Row) (n : Nat) : Nat := ((List.range n).map fun i => k.fget r i).sum

/-- A sum of a field over `n` items from item `a`. -/
def sumFrom (k : Core) (r : Row) (a n : Nat) : Nat := ((List.range n).map fun i => k.fget r (a + i)).sum

/-- Set bits over the first `n` items of a bitmap. -/
def bitsOn (k : Core) (r : Row) (n : Nat) : Nat :=
  ((List.range n).map fun i => ((List.range 32).filter fun b => (k.fget r i).testBit b).length).sum

/-- A measurement cell's binary32: a number of units of 1/d. -/
def ratOf (n : Int) (d : Nat) : Nat := (F32.ofRat n d).toNat

/-- What the supply monitor last measured, through a field's width (R469). Log entry 11 (DESIGN CHOICE, safe). -/
def Core.measured (k : Core) (what : Nat) (r : Row) : Nat := Config.measured what (k.c / 250000) % 2 ^ r.width

/-- PWR_STAT with its measured fields (R469). -/
def powerWord (k : Core) : Nat :=
  wordOf k [Reg.PWR_STAT_WARN, Reg.PWR_STAT_HOLD, Reg.PWR_STAT_PFW_LEVEL, Reg.PWR_STAT_DETECTOR] 0 +
    Core.measured k 3 Reg.PWR_STAT_ILIMIT * 2 ^ Reg.PWR_STAT_ILIMIT.lsb + Core.measured k 0 Reg.PWR_STAT_VIN_MV

/-- System cells from 0xF00: cell, KIND, source (R483). -/
def sysCells0 (k : Core) : List (Nat × BitVec 4 × Nat) :=
  [(0xF00, 6, wordOf k [Reg.GLB_STATE_MAINT_CAUSE, Reg.GLB_STATE_STATE] 0),
   (0xF01, 6, wordOf k [Reg.TICK_STATUS_PINS, Reg.TICK_STATUS_PHASE, Reg.TICK_STATUS_NEAR_LIMIT, Reg.TICK_STATUS_SLEWING, Reg.TICK_STATUS_TIME_DEGRADED, Reg.TICK_STATUS_RUNNING] 0),
   (0xF02, 6, wordOf k [Reg.TICK_OVR_REENTRY, Reg.TICK_OVR_PUBLISH_ABANDON, Reg.TICK_OVR_OUT_ABORT, Reg.TICK_OVR_SCAN_OVR, Reg.TICK_OVR_MERGE_OVR, Reg.TICK_OVR_IN_SWEEP_OVR, Reg.TICK_OVR_IN_HARD_LIMIT] 0),
   (0xF03, 6, wordOf k [Reg.TICK_SCAN_MAX_MAX_US] 0),
   (0xF04, 5, k.fget Reg.TICK_CHECK_FAIL_COUNT 0),
   (0xF05, 6, wordOf k [Reg.TICK_SKIPPED_EPOCHS] 0),
   (0xF06, 3, ratOf (k.sget Reg.THM_STAT_TJ) 10),
   (0xF07, 6, k.fget Reg.THM_STAT_STAGE 0),
   (0xF08, 3, ratOf (Core.measured k 0 Reg.PWR_STAT_VIN_MV) 1000),
   (0xF09, 3, ratOf (Core.measured k 2 Reg.PWR_INPUT_PIN_MW) 1000),
   (0xF0A, 5, k.fget Reg.RST_COUNT_COLD 0),
   (0xF0B, 5, k.fget Reg.RST_COUNT_WARM 0),
   (0xF0C, 5, sumOf k Reg.TRW_CHK_RD_COUNT 8),
   (0xF0D, 5, sumOf k Reg.TRW_OVF_CNT_COUNT 8),
   (0xF0E, 5, k.fget Reg.SBD_RESTARTS_COUNT 0),
   (0xF0F, 5, k.fget Reg.TUP_STAT_APPLIED 0)]

/-- System cells from 0xF10: cell, KIND, source (R483). -/
def sysCells1 (k : Core) : List (Nat × BitVec 4 × Nat) :=
  [(0xF10, 5, k.fget Reg.TRW_MISM_TOTAL 0),
   (0xF11, 5, k.fget Reg.TRW_MISM_TOTAL 1),
   (0xF12, 5, k.fget Reg.TRW_MISM_TOTAL 2),
   (0xF13, 5, k.fget Reg.TRW_MISM_TOTAL 3),
   (0xF14, 5, k.fget Reg.TRW_MISM_TOTAL 4),
   (0xF15, 5, k.fget Reg.TRW_MISM_TOTAL 5),
   (0xF16, 5, k.fget Reg.TRW_MISM_TOTAL 6),
   (0xF17, 5, k.fget Reg.TRW_MISM_TOTAL 7),
   (0xF18, 5, k.fget Reg.TRW_FAULT_CNT_COUNT 0),
   (0xF19, 5, k.fget Reg.TRW_FAULT_CNT_COUNT 1),
   (0xF1A, 5, k.fget Reg.TRW_FAULT_CNT_COUNT 2),
   (0xF1B, 5, k.fget Reg.TRW_FAULT_CNT_COUNT 3),
   (0xF1C, 5, k.fget Reg.TRW_FAULT_CNT_COUNT 4),
   (0xF1D, 5, k.fget Reg.TRW_FAULT_CNT_COUNT 5),
   (0xF1E, 5, k.fget Reg.TRW_FAULT_CNT_COUNT 6),
   (0xF1F, 5, k.fget Reg.TRW_FAULT_CNT_COUNT 7)]

/-- System cells from 0xF20: cell, KIND, source (R483). -/
def sysCells2 (k : Core) : List (Nat × BitVec 4 × Nat) :=
  [(0xF20, 5, k.fget Reg.TSK_SKIP_COUNT 0),
   (0xF21, 5, k.fget Reg.TSK_SKIP_COUNT 1),
   (0xF22, 5, k.fget Reg.TSK_SKIP_COUNT 2),
   (0xF23, 5, k.fget Reg.TSK_SKIP_COUNT 3),
   (0xF24, 5, k.fget Reg.TSK_SKIP_COUNT 4),
   (0xF25, 5, k.fget Reg.TSK_SKIP_COUNT 5),
   (0xF26, 5, k.fget Reg.TSK_SKIP_COUNT 6),
   (0xF27, 5, k.fget Reg.TSK_SKIP_COUNT 7),
   (0xF28, 5, k.fget Reg.TSK_SKIP_COUNT 8),
   (0xF29, 5, k.fget Reg.TSK_SKIP_COUNT 9),
   (0xF2A, 5, k.fget Reg.TSK_SKIP_COUNT 10),
   (0xF2B, 5, k.fget Reg.TSK_SKIP_COUNT 11),
   (0xF2C, 5, k.fget Reg.TSK_SKIP_COUNT 12),
   (0xF2D, 5, k.fget Reg.TSK_SKIP_COUNT 13),
   (0xF2E, 5, k.fget Reg.TSK_SKIP_COUNT 14),
   (0xF2F, 5, k.fget Reg.TSK_SKIP_COUNT 15)]

/-- System cells from 0xF30: cell, KIND, source (R483). -/
def sysCells3 (k : Core) : List (Nat × BitVec 4 × Nat) :=
  [(0xF30, 5, k.fget Reg.TSK_OVR_COUNT 0),
   (0xF31, 5, k.fget Reg.TSK_OVR_COUNT 1),
   (0xF32, 5, k.fget Reg.TSK_OVR_COUNT 2),
   (0xF33, 5, k.fget Reg.TSK_OVR_COUNT 3),
   (0xF34, 5, k.fget Reg.TSK_OVR_COUNT 4),
   (0xF35, 5, k.fget Reg.TSK_OVR_COUNT 5),
   (0xF36, 5, k.fget Reg.TSK_OVR_COUNT 6),
   (0xF37, 5, k.fget Reg.TSK_OVR_COUNT 7),
   (0xF38, 5, k.fget Reg.TSK_OVR_COUNT 8),
   (0xF39, 5, k.fget Reg.TSK_OVR_COUNT 9),
   (0xF3A, 5, k.fget Reg.TSK_OVR_COUNT 10),
   (0xF3B, 5, k.fget Reg.TSK_OVR_COUNT 11),
   (0xF3C, 5, k.fget Reg.TSK_OVR_COUNT 12),
   (0xF3D, 5, k.fget Reg.TSK_OVR_COUNT 13),
   (0xF3E, 5, k.fget Reg.TSK_OVR_COUNT 14),
   (0xF3F, 5, k.fget Reg.TSK_OVR_COUNT 15)]

/-- System cells from 0xF40: cell, KIND, source (R483). -/
def sysCells4 (k : Core) : List (Nat × BitVec 4 × Nat) :=
  [(0xF40, 5, k.fget Reg.FLT_MISM_TOTAL 0),
   (0xF41, 5, k.fget Reg.FLT_NUM_CNT_COUNT 0),
   (0xF42, 5, sumFrom k Reg.LP_OVR_OVERRUNS 0 128),
   (0xF43, 5, sumFrom k Reg.LP_FALLBACK_ENTRIES 0 128),
   (0xF44, 5, k.fget Reg.FLT_MISM_TOTAL 1),
   (0xF45, 5, k.fget Reg.FLT_NUM_CNT_COUNT 1),
   (0xF46, 5, sumFrom k Reg.LP_OVR_OVERRUNS 128 128),
   (0xF47, 5, sumFrom k Reg.LP_FALLBACK_ENTRIES 128 128),
   (0xF48, 5, k.fget Reg.FLT_MISM_TOTAL 2),
   (0xF49, 5, k.fget Reg.FLT_NUM_CNT_COUNT 2),
   (0xF4A, 5, sumFrom k Reg.LP_OVR_OVERRUNS 256 128),
   (0xF4B, 5, sumFrom k Reg.LP_FALLBACK_ENTRIES 256 128),
   (0xF4C, 5, k.fget Reg.FLT_MISM_TOTAL 3),
   (0xF4D, 5, k.fget Reg.FLT_NUM_CNT_COUNT 3),
   (0xF4E, 5, sumFrom k Reg.LP_OVR_OVERRUNS 384 128),
   (0xF4F, 5, sumFrom k Reg.LP_FALLBACK_ENTRIES 384 128)]

/-- System cells from 0xF50: cell, KIND, source (R483). -/
def sysCells5 (k : Core) : List (Nat × BitVec 4 × Nat) :=
  [(0xF50, 3, ratOf (k.fget Reg.MET_FREQ_MHZ) 1000),
   (0xF51, 5, k.fget Reg.MET_CAL_ROUNDS 0),
   (0xF52, 5, k.fget Reg.MET_CAL_REJECTS 0),
   (0xF53, 5, k.fget Reg.MET_OVR_COUNT 0),
   (0xF54, 5, k.fget Reg.MET_OUTAGES_COUNT 0),
   (0xF55, 5, k.fget Reg.MET_PFW_WARNINGS 0),
   (0xF56, 6, wordOf k [Reg.MET_STAT_RUN, Reg.MET_STAT_REG_LOST, Reg.MET_STAT_FREQ_LOCK, Reg.MET_STAT_PFW_ACTIVE, Reg.MET_STAT_ROVE_PHASE, Reg.MET_STAT_ROVE_CH] 0),
   (0xF57, 6, wordOf k [Reg.MET_SNAP_STAT_NOT_READY, Reg.MET_SNAP_STAT_NUMBER] 0),
   (0xF58, 5, k.fget Reg.ALM_COUNT_COUNT 0),
   (0xF59, 5, k.fget Reg.ALM_COUNT_COUNT 1),
   (0xF5A, 6, wordOf k [Reg.ALM_STAT_REPEATED, Reg.ALM_STAT_SKIPPED_LOST, Reg.ALM_STAT_SKIPPED, Reg.ALM_STAT_FIRED] 0),
   (0xF5B, 6, wordOf k [Reg.ALM_STAT_REPEATED, Reg.ALM_STAT_SKIPPED_LOST, Reg.ALM_STAT_SKIPPED, Reg.ALM_STAT_FIRED] 1),
   (0xF5C, 6, wordOf k [Reg.TMP_STAT_FULL, Reg.TMP_STAT_SUPPLY, Reg.TMP_STAT_MESH, Reg.TMP_STAT_INPUTS] 0),
   (0xF5D, 5, k.fget Reg.BKP_PWR_SWITCHES 0),
   (0xF5E, 6, wordOf k [Reg.CAL_STATUS_BUSY, Reg.CAL_STATUS_RANGE_END, Reg.CAL_STATUS_OSF, Reg.CAL_STATUS_INVALID] 0),
   (0xF5F, 6, wordOf k [Reg.BKP_ERA_ERA] 0)]

/-- System cells from 0xF60: cell, KIND, source (R483). -/
def sysCells6 (k : Core) : List (Nat × BitVec 4 × Nat) :=
  [(0xF60, 5, k.fget Reg.LANE_RETRIES_COUNT 0),
   (0xF61, 5, k.fget Reg.LANE_CRC_FAIL_RD 0),
   (0xF62, 5, k.fget Reg.LANE_CRC_FAIL_WR 0),
   (0xF63, 5, k.fget Reg.LANE_HOLDS_COUNT 0),
   (0xF64, 5, k.fget Reg.LANE_NAN_COUNT 0),
   (0xF65, 6, wordOf k [Reg.LANE_PRESENT_CARRIERS] 0),
   (0xF66, 6, wordOf k [Reg.LANE_MISMATCH_CARRIERS] 0),
   (0xF67, 6, wordOf k [Reg.LANE_STAT_MASTER, Reg.LANE_STAT_SNOOP, Reg.LANE_STAT_HOLD_LINE, Reg.LANE_STAT_ERR_LINE] 0),
   (0xF68, 5, k.fget Reg.FP_RX_FILT_COUNT 0),
   (0xF69, 5, k.fget Reg.FP_RX_FILT_COUNT 1),
   (0xF6A, 5, k.fget Reg.FP_RX_FILT_COUNT 2),
   (0xF6B, 5, k.fget Reg.FP_RX_FILT_COUNT 3),
   (0xF6C, 5, k.fget Reg.FP_TX_STALE_COUNT 0),
   (0xF6D, 5, k.fget Reg.FP_TX_STALE_COUNT 1),
   (0xF6E, 5, k.fget Reg.FP_TX_STALE_COUNT 2),
   (0xF6F, 5, k.fget Reg.FP_TX_STALE_COUNT 3)]

/-- System cells from 0xF70: cell, KIND, source (R483). -/
def sysCells7 (k : Core) : List (Nat × BitVec 4 × Nat) :=
  [(0xF70, 6, wordOf k [Reg.PTR_STAT_PARTNER_OK, Reg.PTR_STAT_HOLD_AUTH, Reg.PTR_STAT_PAIR_SUSPECT, Reg.PTR_STAT_FENCED, Reg.PTR_STAT_LINK_LANES, Reg.PTR_STAT_PAIR_STATE, Reg.PTR_STAT_HOLDOFF_LEFT_S] 0),
   (0xF71, 5, k.fget Reg.PTR_CHANGES_TAKEOVERS 0),
   (0xF72, 5, k.fget Reg.PTR_CHANGES_TAKEBACKS 0),
   (0xF73, 5, k.fget Reg.PTR_DECLARE_COUNT 0),
   (0xF74, 5, k.fget Reg.PTR_DIGEST_MISM_COUNT 0),
   (0xF75, 5, k.fget Reg.PTR_LINK_ERR_CRC 0),
   (0xF76, 5, k.fget Reg.PTR_LINK_ERR_RESENT 0),
   (0xF77, 5, k.fget Reg.PTR_RESYNC_DONE 0),
   (0xF78, 5, k.fget Reg.PTR_LATE_COUNT 0),
   (0xF79, 6, wordOf k [Reg.PTR_RESOLVE_OUTCOME, Reg.PTR_RESOLVE_STEP, Reg.PTR_RESOLVE_ENGINE, Reg.PTR_RESOLVE_ITEM] 0),
   (0xF7A, 6, wordOf k [Reg.PTR_DECLARE_CAUSE, Reg.PTR_DECLARE_COUNT] 0),
   (0xF7B, 6, wordOf k [Reg.PTR_RESYNC_MS_MS] 0),
   (0xF7C, 5, k.fget Reg.FP_SEG_COUNT 0),
   (0xF7D, 5, k.fget Reg.FP_SEG_COUNT 1),
   (0xF7E, 5, k.fget Reg.FP_SEG_COUNT 2),
   (0xF7F, 5, k.fget Reg.FP_SEG_COUNT 3)]

/-- System cells from 0xF80: cell, KIND, source (R483). -/
def sysCells8 (k : Core) : List (Nat × BitVec 4 × Nat) :=
  [(0xF80, 5, k.fget Reg.XCH_TX_DG_COUNT 0),
   (0xF81, 5, k.fget Reg.XCH_RX_DG_COUNT 0),
   (0xF82, 5, k.fget Reg.XCH_RX_DROP_AUTH 0),
   (0xF83, 5, k.fget Reg.XCH_RX_DROP_REPLAY 0),
   (0xF84, 5, k.fget Reg.XCH_LATE_COUNT 0),
   (0xF85, 5, k.fget Reg.XCH_INCOMPLETE_COUNT 0),
   (0xF86, 5, k.fget Reg.XCH_SUBST_COUNT 0),
   (0xF87, 5, k.fget Reg.XCH_LEVEL_WAITS 0),
   (0xF88, 5, k.fget Reg.XCH_LEVEL_TIMEOUTS 0),
   (0xF89, 6, wordOf k [Reg.XCH_LEVEL_MAX_US] 0),
   (0xF8A, 6, wordOf k [Reg.PS_STAT_SESSIONS, Reg.PS_STAT_SUBS] 0),
   (0xF8B, 5, k.fget Reg.PS_HANDSHAKE_FAIL_COUNT 0),
   (0xF8C, 5, k.fget Reg.PS_REQ_COUNT 0),
   (0xF8D, 6, wordOf k [Reg.MSK_STAT_PERSIST, Reg.MSK_STAT_USED] 0),
   (0xF8E, 5, k.fget Reg.PLCA_COLL_COUNT 0),
   (0xF8F, 5, k.fget Reg.PLCA_COLL_COUNT 1)]

/-- System cells from 0xF90: cell, KIND, source (R483). -/
def sysCells9 (k : Core) : List (Nat × BitVec 4 × Nat) :=
  [(0xF90, 6, wordOf k [Reg.FP_STAT_LINK, Reg.FP_STAT_MS_MASTER, Reg.FP_STAT_PAUSED, Reg.FP_STAT_TX_STOPPED] 0),
   (0xF91, 5, k.fget Reg.FP_RX_OK_COUNT 0),
   (0xF92, 6, wordOf k [Reg.FP_RX_ERR_FCS, Reg.FP_RX_ERR_CSUM] 0),
   (0xF93, 6, wordOf k [Reg.FP_RX_OVF_PRIORITY, Reg.FP_RX_OVF_OTHER] 0),
   (0xF94, 5, k.fget Reg.FP_TX_OK_COUNT 0),
   (0xF95, 5, k.fget Reg.FP_LINK_DOWNS_COUNT 0),
   (0xF96, 5, k.fget Reg.FP_PAUSE_RX_COUNT 0),
   (0xF97, 6, wordOf k [Reg.MS_DROP_ICV, Reg.MS_DROP_REPLAY] 0),
   (0xF98, 6, wordOf k [Reg.FP_STAT_LINK, Reg.FP_STAT_MS_MASTER, Reg.FP_STAT_PAUSED, Reg.FP_STAT_TX_STOPPED] 1),
   (0xF99, 5, k.fget Reg.FP_RX_OK_COUNT 1),
   (0xF9A, 6, wordOf k [Reg.FP_RX_ERR_FCS, Reg.FP_RX_ERR_CSUM] 1),
   (0xF9B, 6, wordOf k [Reg.FP_RX_OVF_PRIORITY, Reg.FP_RX_OVF_OTHER] 1),
   (0xF9C, 5, k.fget Reg.FP_TX_OK_COUNT 1),
   (0xF9D, 5, k.fget Reg.FP_LINK_DOWNS_COUNT 1),
   (0xF9E, 5, k.fget Reg.FP_PAUSE_RX_COUNT 1),
   (0xF9F, 6, wordOf k [Reg.MS_DROP_ICV, Reg.MS_DROP_REPLAY] 1)]

/-- System cells from 0xFA0: cell, KIND, source (R483). -/
def sysCells10 (k : Core) : List (Nat × BitVec 4 × Nat) :=
  [(0xFA0, 6, wordOf k [Reg.FP_STAT_LINK, Reg.FP_STAT_MS_MASTER, Reg.FP_STAT_PAUSED, Reg.FP_STAT_TX_STOPPED] 2),
   (0xFA1, 5, k.fget Reg.FP_RX_OK_COUNT 2),
   (0xFA2, 6, wordOf k [Reg.FP_RX_ERR_FCS, Reg.FP_RX_ERR_CSUM] 2),
   (0xFA3, 6, wordOf k [Reg.FP_RX_OVF_PRIORITY, Reg.FP_RX_OVF_OTHER] 2),
   (0xFA4, 5, k.fget Reg.FP_TX_OK_COUNT 2),
   (0xFA5, 5, k.fget Reg.FP_LINK_DOWNS_COUNT 2),
   (0xFA6, 5, k.fget Reg.FP_PAUSE_RX_COUNT 2),
   (0xFA7, 5, k.fget Reg.PLCA_BEACON_LOSS_COUNT 0),
   (0xFA8, 6, wordOf k [Reg.FP_STAT_LINK, Reg.FP_STAT_MS_MASTER, Reg.FP_STAT_PAUSED, Reg.FP_STAT_TX_STOPPED] 3),
   (0xFA9, 5, k.fget Reg.FP_RX_OK_COUNT 3),
   (0xFAA, 6, wordOf k [Reg.FP_RX_ERR_FCS, Reg.FP_RX_ERR_CSUM] 3),
   (0xFAB, 6, wordOf k [Reg.FP_RX_OVF_PRIORITY, Reg.FP_RX_OVF_OTHER] 3),
   (0xFAC, 5, k.fget Reg.FP_TX_OK_COUNT 3),
   (0xFAD, 5, k.fget Reg.FP_LINK_DOWNS_COUNT 3),
   (0xFAE, 5, k.fget Reg.FP_PAUSE_RX_COUNT 3),
   (0xFAF, 5, k.fget Reg.PLCA_BEACON_LOSS_COUNT 1)]

/-- System cells from 0xFB0: cell, KIND, source (R483). -/
def sysCells11 (k : Core) : List (Nat × BitVec 4 × Nat) :=
  [(0xFB0, 6, wordOf k [Reg.CAN_BUS_RECOV, Reg.CAN_BUS_ACTIVITY, Reg.CAN_BUS_ERR_DATA, Reg.CAN_BUS_ERR_LAST, Reg.CAN_BUS_WARN, Reg.CAN_BUS_STATE] 0),
   (0xFB1, 6, wordOf k [Reg.CAN_BUSOFF_ENTRIES, Reg.CAN_BUSOFF_RECOVERIES] 0),
   (0xFB2, 5, k.fget Reg.CAN_RX_OK_COUNT 0),
   (0xFB3, 6, wordOf k [Reg.CAN_RX_LATE_SHORT, Reg.CAN_RX_LATE_LATE] 0),
   (0xFB4, 6, wordOf k [Reg.CAN_BUS_RECOV, Reg.CAN_BUS_ACTIVITY, Reg.CAN_BUS_ERR_DATA, Reg.CAN_BUS_ERR_LAST, Reg.CAN_BUS_WARN, Reg.CAN_BUS_STATE] 1),
   (0xFB5, 6, wordOf k [Reg.CAN_BUSOFF_ENTRIES, Reg.CAN_BUSOFF_RECOVERIES] 1),
   (0xFB6, 5, k.fget Reg.CAN_RX_OK_COUNT 1),
   (0xFB7, 6, wordOf k [Reg.CAN_RX_LATE_SHORT, Reg.CAN_RX_LATE_LATE] 1),
   (0xFB8, 6, wordOf k [Reg.CAN_BUS_RECOV, Reg.CAN_BUS_ACTIVITY, Reg.CAN_BUS_ERR_DATA, Reg.CAN_BUS_ERR_LAST, Reg.CAN_BUS_WARN, Reg.CAN_BUS_STATE] 2),
   (0xFB9, 6, wordOf k [Reg.CAN_BUSOFF_ENTRIES, Reg.CAN_BUSOFF_RECOVERIES] 2),
   (0xFBA, 5, k.fget Reg.CAN_RX_OK_COUNT 2),
   (0xFBB, 6, wordOf k [Reg.CAN_RX_LATE_SHORT, Reg.CAN_RX_LATE_LATE] 2),
   (0xFBC, 6, wordOf k [Reg.CAN_BUS_RECOV, Reg.CAN_BUS_ACTIVITY, Reg.CAN_BUS_ERR_DATA, Reg.CAN_BUS_ERR_LAST, Reg.CAN_BUS_WARN, Reg.CAN_BUS_STATE] 3),
   (0xFBD, 6, wordOf k [Reg.CAN_BUSOFF_ENTRIES, Reg.CAN_BUSOFF_RECOVERIES] 3),
   (0xFBE, 5, k.fget Reg.CAN_RX_OK_COUNT 3),
   (0xFBF, 6, wordOf k [Reg.CAN_RX_LATE_SHORT, Reg.CAN_RX_LATE_LATE] 3)]

/-- System cells from 0xFC0: cell, KIND, source (R483). -/
def sysCells12 (k : Core) : List (Nat × BitVec 4 × Nat) :=
  [(0xFC0, 6, wordOf k [Reg.NT_STAT_TIME_DEGRADED, Reg.NT_STAT_SEED_INVALID, Reg.NT_STAT_SLAVE, Reg.NT_STAT_PORT1, Reg.NT_STAT_PORT0, Reg.NT_STAT_STATE] 0),
   (0xFC1, 3, ratOf (k.sget Reg.NT_OFFSET_LAST_NS) 1),
   (0xFC2, 3, ratOf (k.fget Reg.NT_EST_ERR_NS) 1),
   (0xFC3, 5, k.fget Reg.NT_STEPS_COUNT 0),
   (0xFC4, 5, k.fget Reg.NT_SPIKES_COUNT 0),
   (0xFC5, 3, ratOf (k.sget Reg.NT_RTC_DIFF_US) 1),
   (0xFC6, 6, wordOf k [Reg.NT_RATE_RATE] 0),
   (0xFC7, 6, wordOf k [Reg.CAN_TT_STAT_REF_OK, Reg.CAN_TT_STAT_NCYC, Reg.CAN_TT_STAT_CYCLE, Reg.CAN_TT_STAT_COLUMN, Reg.CAN_TT_STAT_REF_LOSSES] 0),
   (0xFC8, 5, k.fget Reg.CAN_TX_OK_COUNT 0),
   (0xFC9, 5, k.fget Reg.CAN_TX_OK_COUNT 1),
   (0xFCA, 5, k.fget Reg.CAN_TX_OK_COUNT 2),
   (0xFCB, 5, k.fget Reg.CAN_TX_OK_COUNT 3),
   (0xFCC, 5, k.fget Reg.CAN_TX_SKIP_COUNT 0),
   (0xFCD, 5, k.fget Reg.CAN_TX_SKIP_COUNT 1),
   (0xFCE, 5, k.fget Reg.CAN_TX_SKIP_COUNT 2),
   (0xFCF, 5, k.fget Reg.CAN_TX_SKIP_COUNT 3)]

/-- System cells from 0xFD0: cell, KIND, source (R483). -/
def sysCells13 (k : Core) : List (Nat × BitVec 4 × Nat) :=
  [(0xFD0, 6, wordOf k [Reg.SEC_BOOT_KEYS_RELEASED, Reg.SEC_BOOT_STAGE, Reg.SEC_BOOT_FALLBACK, Reg.SEC_BOOT_FW_SLOT, Reg.SEC_BOOT_TRIAL, Reg.SEC_BOOT_CFG_SLOT] 0),
   (0xFD1, 5, k.fget Reg.SEC_OPS_COUNT 0),
   (0xFD2, 5, k.fget Reg.SEC_REFUSED_COUNT 0),
   (0xFD3, 5, k.fget Reg.SEC_TAMPER_ABORTS_COUNT 0),
   (0xFD4, 5, k.fget Reg.SEC_SLOTS_USED_COUNT 0),
   (0xFD5, 5, bitsOn k Reg.SEC_SLOT_BAD_SLOTS 8),
   (0xFD6, 5, bitsOn k Reg.SEC_SLOT_ORPH_SLOTS 8),
   (0xFD7, 6, wordOf k [Reg.SEC_MAINT_CAUSES] 0),
   (0xFD8, 6, wordOf k [Reg.EVR_STAT_READY, Reg.EVR_STAT_FIFO_MAX, Reg.EVR_STAT_FIFO] 0),
   (0xFD9, 6, k.fget Reg.EVR_NEXT_LO_SEQ_LO 0),
   (0xFDA, 5, k.fget Reg.EVR_DROPPED_COUNT 0),
   (0xFDB, 5, k.fget Reg.EVR_CORRUPT_COUNT 0),
   (0xFDC, 5, k.fget Reg.EVR_CLEARS_COUNT 0),
   (0xFDD, 5, k.fget Reg.MSK_REFUSED_COUNT 0),
   (0xFDE, 5, sumOf k Reg.FLT_CHK_RD_COUNT 4),
   (0xFDF, 6, wordOf k [Reg.RCT_STAT_RESULT, Reg.RCT_STAT_IDLE_VALID, Reg.RCT_STAT_RUN_BANK, Reg.RCT_STAT_STATE] 0)]

/-- System cells from 0xFE0: cell, KIND, source (R483). -/
def sysCells14 (k : Core) : List (Nat × BitVec 4 × Nat) :=
  [(0xFE0, 6, wordOf k [Reg.HQE_HALTED_LO_QUEUES] 0),
   (0xFE1, 6, wordOf k [Reg.HQE_HALTED_HI_QUEUES] 0),
   (0xFE2, 5, sumOf k Reg.HQ_DONE_COUNT 64),
   (0xFE3, 5, sumOf k Reg.HQ_FAULTS_COUNT 64),
   (0xFE4, 5, sumOf k Reg.HQ_PREEMPT_COUNT 64),
   (0xFE5, 5, k.fget Reg.ATC_HIT_COUNT 0),
   (0xFE6, 5, k.fget Reg.ATC_MISS_COUNT 0),
   (0xFE7, 5, sumOf k Reg.EQ_LOST_COUNT 16),
   (0xFE8, 5, k.fget Reg.SKIM_SRAM_CORR 0),
   (0xFE9, 5, k.fget Reg.SKIM_SRAM_UNCORR 0),
   (0xFEA, 5, k.fget Reg.SKIM_DRAM_CORR 0),
   (0xFEB, 5, k.fget Reg.SKIM_DRAM_UNCORR 0),
   (0xFEC, 5, k.fget Reg.SKIM_MRAM_CORR 0),
   (0xFED, 5, k.fget Reg.SKIM_MRAM_UNCORR 0),
   (0xFEE, 6, wordOf k [Reg.FLASH_STAT_WEAR_WARN, Reg.FLASH_STAT_SPARE] 0),
   (0xFEF, 6, wordOf k [Reg.FLASH_PE_MAX_PE] 0)]

/-- System cells from 0xFF0: cell, KIND, source (R483). -/
def sysCells15 (k : Core) : List (Nat × BitVec 4 × Nat) :=
  [(0xFF0, 6, wordOf k [Reg.TREND_STAT_KIB_S, Reg.TREND_STAT_ITEMS] 0),
   (0xFF1, 5, k.fget Reg.TREND_DROP_COUNT 0),
   (0xFF2, 6, wordOf k [Reg.SWEEP_KEYS_PASSES, Reg.SWEEP_KEYS_BAD] 0),
   (0xFF3, 6, wordOf k [Reg.SWEEP_EVR_PASSES, Reg.SWEEP_EVR_CORRUPT] 0),
   (0xFF4, 5, k.fget Reg.FP_BIND_RX_COUNT 0),
   (0xFF5, 5, k.fget Reg.FP_BIND_RX_COUNT 1),
   (0xFF6, 5, k.fget Reg.FP_BIND_RX_COUNT 2),
   (0xFF7, 5, k.fget Reg.FP_BIND_RX_COUNT 3),
   (0xFF8, 6, wordOf k [Reg.RST_BLOCK_STAT_BUSY, Reg.RST_BLOCK_STAT_HANDSHAKE, Reg.RST_BLOCK_STAT_COUNT, Reg.RST_BLOCK_STAT_LAST] 0),
   (0xFF9, 6, wordOf k [Reg.WDT_STAT_LEVEL, Reg.WDT_STAT_EXPIRED, Reg.WDT_STAT_ARMED, Reg.WDT_STAT_EXPIRIES] 0),
   (0xFFA, 6, powerWord k),
   (0xFFB, 3, ratOf (k.sget Reg.THM_MAX_TJ) 10),
   (0xFFC, 6, wordOf k [Reg.THM_STAGE_S_SECONDS] 0),
   (0xFFD, 6, wordOf k [Reg.CLK_STAT_BKP_OK, Reg.CLK_STAT_PTNR_OK, Reg.CLK_STAT_MET_OK, Reg.CLK_STAT_PCIE_REF_OK, Reg.CLK_STAT_PLL_LOCK] 0),
   (0xFFE, 6, wordOf k [Reg.CLK_LOSS_PLL0, Reg.CLK_LOSS_PLL123, Reg.CLK_LOSS_MET, Reg.CLK_LOSS_PCIE_REF] 0),
   (0xFFF, 5, k.fget Reg.BG_BADACC_COUNT 0)]

/-- Every system cell with its KIND and the value of its source (R483). -/
def sysCells (k : Core) : List (Nat × BitVec 4 × Nat) :=
  sysCells0 k ++ sysCells1 k ++ sysCells2 k ++ sysCells3 k ++ sysCells4 k ++ sysCells5 k ++ sysCells6 k ++
    sysCells7 k ++ sysCells8 k ++ sysCells9 k ++ sysCells10 k ++ sysCells11 k ++ sysCells12 k ++ sysCells13 k ++
    sysCells14 k ++ sysCells15 k

/-- Write the system cells whose source has changed since their last write (R483). -/
def State.writeSystem (s : State) : State :=
  (sysCells s.core).foldl (fun (s : State) c =>
    let v := c.2.2 % 2 ^ 32
    if s.bg.sys.at? c.1 == some v then s
    else
      { s.writeCell c.1 (BitVec.ofNat 32 v) [] 0x08 s.epoch with bg := { s.bg with sys := s.bg.sys.put c.1 v } }) s

/-- Definitions of the system cells (R28, R483); the image may give a cell DOMAIN 1. -/
def systemDefs (own : List CellDef) : List CellDef :=
  (sysCells {}).map fun c =>
    let d := (own.find? (·.cell == c.1)).any fun o => o.domain == 1
    { cell := c.1, kind := c.2.1, domain := if d then 1 else 0, src := 8 }

end Sys2Proof.Machine
end

