-- ==== Sys2Proof/Machine/Verify.lean ====
section
/-! DEFINITION. Image verification (R377, R378): the checks in their order, and the content checks of a configuration and of
a recoat image (R16, R63, R93, R115, R130, R170, R176, R193, R214, R218, R248, R280, R293, R299, R300, R307, R308, R310, R318,
R319, R499). -/

namespace Sys2Proof.Machine

/-! ### Cells and programs (R16, R63, R93, R115, R130, R137) -/

/-- KIND of every cell an image gives the module: owned cells, system cells, mirror slots. -/
def Image_kinds (i : Image) : SMap Kind :=
  (i.cells.filter (·.cell < 0xF00)).map (fun d => (d.cell, kindOf d.kind)) ++
    (systemDefs []).map (fun d => (d.cell, kindOf d.kind)) ++ i.mirror.map fun m => (0x1000 + m.slot, kindOf m.kind)

/-- Owned user cells of an image with a source (R18). -/
def Image_sourced (i : Image) (src : Nat) : List Nat :=
  (i.cells.filter fun d => d.cell < 0xF00 && d.src.toNat == src).map (·.cell)

/-- What the load check knows of an image. -/
def Image_names (i : Image) : Names :=
  { kinds := Image_kinds i, trowel := Image_sourced i 4, prog := i.program }

/-- Channel kind an image gives a channel (R212). -/
def Image_channel (i : Image) (carrier channel : Nat) : Nat :=
  ((i.carriers.find? (·.address.val == carrier)).bind fun d => (d.kinds.find? (·.1 == channel)).map (·.2)).getD 0

/-- Lane output cells of an image (R215). -/
def Image_laneOut (i : Image) : List Nat :=
  (i.laneBindings.filter fun b => outKind (Image_channel i b.carrier b.channel)).map (·.cell)

/-- Cells, program and loop slots. -/
def cellsOk (i : Image) : Bool :=
  let x := Image_names i
  i.cells.all (fun d => d.kind.toNat < 7 && d.cell < 0x1000) && i.mirror.all (fun m => m.kind.toNat < 7) &&
    noRepeat (i.cells.map (·.cell)) && x.bankOk && tableOk i.program i.loops (Image_laneOut i) && symbolsOk i.program &&
    x.loopsOk (Image_sourced i 5) i.loops

/-! ### Metrology (R159, R170, R176, R193) -/

/-- Points of an element: one for TYPE 1, else one a phase and one for the whole (R170). -/
def pointsOf (e : ElementDef) : Nat := if e.type = 1 then 1 else e.type + 1

/-- The element of each accumulation point, in order (R170, R181). -/
def pointElements (els : List ElementDef) : List ElementDef := els.flatMap fun e => List.replicate (pointsOf e) e

/-- Elements a channel serves. -/
def channelElements (els : List ElementDef) (ch : Nat) : List ElementDef :=
  els.filter fun e => e.phases.any fun p => p.1 == ch || p.2 == ch

/-- Elements a quantity belongs to. -/
def quantityElements (els : List ElementDef) : Quantity → List ElementDef
  | .vrms c => channelElements els c
  | .irms c => channelElements els c
  | .harm c _ => channelElements els c
  | .thd c => channelElements els c
  | .p n => ((pointElements els)[n]?).toList
  | .q n => ((pointElements els)[n]?).toList
  | .s n => ((pointElements els)[n]?).toList
  | .pf n => ((pointElements els)[n]?).toList
  | .energy n _ _ => ((pointElements els)[n]?).toList
  | .freq => []

/-- KIND an image gives a cell. -/
def kindAt (i : Image) (cell : Nat) : Option Kind := (Image_kinds i).at? cell

/-- A channel's settings within R159 to R161: sensors and gains as R159 pairs them, corners and PHASE in their ranges. -/
def channelOk (c : ChannelCfg) : Bool :=
  c.gain.val < 6 && c.phase != 0x8000 && decide (100 ≤ c.intFc ∧ c.intFc ≤ 5000 ∧ 100 ≤ c.dcbFc ∧ c.dcbFc ≤ 2000) &&
    (if c.ch.val < 4 then c.sensor == 0 && c.gain == 0
      else c.ch.val == 28 || (c.sensor != 0 && (c.sensor != 2 || c.gain.val ≤ 1)))

/-- A quantity's own limits (R167, R168): its channel, point and order exist, and an energy's unit is one of four. -/
def quantityOk (m : MeterCfg) : Quantity → Bool
  | .vrms c => c < 4
  | .irms c => 4 ≤ c && c < 28
  | .harm c o => c < 28 && 2 ≤ o && o ≤ (if m.nominalMhz = 60000 then 50 else 63)
  | .thd c => c < 28
  | .freq => true
  | .p n => n < (pointElements m.elements).length
  | .q n => n < (pointElements m.elements).length
  | .s n => n < (pointElements m.elements).length
  | .pf n => n < (pointElements m.elements).length
  | .energy n _ u => n < (pointElements m.elements).length && [1, 10, 100, 1000].contains u

/-- KIND of the cell of a quantity (R168). -/
def quantityKind : Quantity → Kind
  | .energy .. => .counter
  | _ => .binary32

/-- A binding (R168, R170): an owned user cell with source metrology, of the quantity's KIND, in the DOMAIN of its element. -/
def bindingOk (i : Image) (b : MetBinding) : Bool :=
  let es := quantityElements i.meter.elements b.quantity
  quantityOk i.meter b.quantity && (Image_sourced i 3).contains b.cell && kindAt i b.cell == some (quantityKind b.quantity) &&
    (es.isEmpty || (i.cells.any fun d => d.cell == b.cell && es.any fun e => e.domain == d.domain))

/-- A thermal channel within R193. -/
def thermalOk (i : Image) (t : ThermalDef) : Bool :=
  decide (1 ≤ t.volEdge ∧ t.volEdge ≤ 1000000) && t.ktab.length == 16 && kindAt i t.tSup == some .binary32 &&
    kindAt i t.tRet == some .binary32 && (t.mode != 1 || kindAt i t.dirCell == some .bool)

/-- An element within R170 and R176. -/
def meterElementOk (e : ElementDef) : Bool :=
  1 ≤ e.type && e.type ≤ 3 && e.phases.length == e.type && e.phases.all (fun p => p.1 < 4 && 4 ≤ p.2 && p.2 < 28) &&
    [1, 2, 3, 4, 5, 6, 10, 12, 15, 20, 30, 60].contains e.demMin

/-- The metering part of an image. -/
def meterOk (i : Image) : Bool :=
  let m := i.meter
  let used := m.elements.flatMap fun e => e.phases.map (·.2)
  m.elements.length ≤ 24 && (pointElements m.elements).length ≤ 32 && noRepeat used &&
    noRepeat (m.elements.map (·.elemId.toNat)) && m.elements.all meterElementOk && m.bindings.all (bindingOk i) &&
    noRepeat (m.bindings.map (·.cell)) && noRepeat (m.channels.map (·.ch.val)) && m.channels.all channelOk &&
    noRepeat (m.thermal.map (·.ch.val)) && m.thermal.all (thermalOk i) && m.daily.length ≤ 4 &&
    [50000, 60000].contains m.nominalMhz

/-! ### The lane (R214, R218) -/

/-- A sweep list within its limits (R218). -/
def sweepOk (bs : List BurstDef) : Bool :=
  bs.length ≤ 512 && (bs.map (·.words)).sum ≤ 4096 && (bs.map (·.words + 2)).sum ≤ 4224 &&
    bs.all fun b => 1 ≤ b.words && b.words ≤ 64 && b.channel + b.words ≤ 128

/-- The lane part of an image. -/
def laneOk (i : Image) : Bool :=
  decide (4 * periodMs i.periodCode ≤ i.silenceMs ∧ i.silenceMs ≤ 65535 ∧ i.laneRetry ≤ 3) && sweepOk i.inputSweep &&
    sweepOk i.outputSweep

/-! ### The exchange (R247, R248) -/

/-- KIND of a slot's designated cell is its own. -/
def substOk (i : Image) (u : SubDef) : Bool :=
  u.subst != 2 || (i.mirror.filter (·.sub == u.id)).all fun m => (Image_kinds i).at? u.substCell == some (kindOf m.kind)

/-- Rising indexes, no two alike. -/
def ascending : List Nat → Bool
  | [] => true
  | [_] => true
  | a :: b :: r => decide (a < b) && ascending (b :: r)

/-- The published set: at most 3,840 owned cells that exist, in ascending index (R247). -/
def publishedOk (i : Image) : Bool :=
  i.published.length ≤ 3840 && ascending i.published && i.published.all fun a => decide (a < 0x1000) && (kindAt i a).isSome

/-- The addresses, hop limit and DSCP of exchange datagrams, and the revocation list (R250, R262). -/
def sendingOk (i : Image) : Bool :=
  decide (i.xchPrefix < 2 ^ 112 ∧ 1 ≤ i.hopLimit ∧ i.hopLimit ≤ 255 ∧ i.dscp ≤ 63 ∧ i.keyGen ≤ 255 ∧ i.xchPort ≤ 65535 ∧
    i.svcPort ≤ 65535 ∧ i.revokedSerials.length ≤ 256) &&
    [i.posAddress, i.unitAddress, i.otherAddress].all fun a => decide (a < 2 ^ 128)

/-- The exchange part of an image. -/
def exchangeOk (i : Image) : Bool :=
  publishedOk i && sendingOk i &&
  i.subs.length ≤ 1023 && noRepeat (i.subs.map (·.pubPos)) && noRepeat (i.subs.map (·.id)) &&
    i.subs.all (fun u => u.pubPos ≤ 1023 && u.pubPos != i.position && u.subMax ≤ 65535 &&
      decide (1 ≤ u.waitUs ∧ u.waitUs ≤ 400 * periodMs i.periodCode) && substOk i u) &&
    noRepeat (i.mirror.map fun m => m.position * 4096 + m.cell) && noRepeat (i.mirror.map (·.slot)) &&
    i.mirror.all (fun m => m.slot < 16384 && (match i.subs.find? (·.id == m.sub) with
      | some u => u.pubPos == m.position && u.pubCells.contains m.cell
      | none => false)) &&
    decide (1280 ≤ i.mtu ∧ i.mtu ≤ 1500 ∧ i.xchRepeat ≤ 3)

/-! ### Frame ports (R280, R293) -/

/-- A segment's PLCA parameters (R280). -/
def plcaOk (p : PlcaCfg) : Bool :=
  decide (p.localId ≤ 31 ∧ 2 ≤ p.nodeCount ∧ p.nodeCount ≤ 32 ∧ 1 ≤ p.toTmr ∧ p.toTmr ≤ 255 ∧ p.maxBc ≤ 255 ∧
    1 ≤ p.burstTmr ∧ p.burstTmr ≤ 255)

/-- An extraction's conversion is one R293 allows. -/
def formOk (f : Fin 6) (k : Kind) : Bool :=
  match f.val, k with
  | 0, .bool => true
  | 5, .binary32 => true
  | 0, _ => false
  | 5, _ => false
  | _, .int32 => true
  | _, .uint32 => true
  | _, .binary32 => true
  | _, _ => false

/-- An extraction into an owned user cell of a source (R293, R310). -/
def extractOk (i : Image) (src maxOff : Nat) (e : Extraction) : Bool :=
  e.offset ≤ maxOff && (Image_sourced i src).contains e.cell && (match (Image_kinds i).at? e.cell with
    | some k => formOk e.form k
    | none => false)

/-- The frame bindings of an image (R293). -/
def framesOk (i : Image) : Bool :=
  let es := i.frameBindings.flatMap (·.extractions)
  i.frameBindings.length ≤ 256 && es.length ≤ 1024 && noRepeat (es.map (·.cell)) && es.all (extractOk i 1 1499) &&
    i.frameBindings.all (fun b => b.extractions.length ≤ 16 && b.tagOff ≤ 1496 && b.staleTicks ≤ 65535) &&
    i.plca.all plcaOk && i.replayWindows.all fun w => decide (w.1 < 2 ∧ w.2 ≤ 65535)

/-! ### CAN (R297, R299, R300, R307, R308, R310, R314, R318, R319) -/

/-- Clocks of 12.5 ns in a nominal and in a data bit (R299). -/
def nomClocks (c : CanCfg) : Nat := c.nomBrp * (1 + c.nomSeg1 + c.nomSeg2)

/-- Clocks in a data bit (R299). -/
def datClocks (c : CanCfg) : Nat := c.datBrp * (1 + c.datSeg1 + c.datSeg2)

/-- Bit timing (R297, R299, R300). -/
def timingOk (c : CanCfg) : Bool :=
  decide (1 ≤ c.nomBrp ∧ c.nomBrp ≤ 256 ∧ 2 ≤ c.nomSeg1 ∧ c.nomSeg1 ≤ 256 ∧ 1 ≤ c.nomSeg2 ∧ c.nomSeg2 ≤ 128 ∧
      1 ≤ c.nomSjw ∧ c.nomSjw ≤ c.nomSeg2) &&
    decide (1 ≤ c.datBrp ∧ c.datBrp ≤ 32 ∧ 1 ≤ c.datSeg1 ∧ c.datSeg1 ≤ 32 ∧ 1 ≤ c.datSeg2 ∧ c.datSeg2 ≤ 16 ∧
      1 ≤ c.datSjw ∧ c.datSjw ≤ c.datSeg2) &&
    decide (8 ≤ 1 + c.nomSeg1 + c.nomSeg2 ∧ 5 ≤ 1 + c.datSeg1 + c.datSeg2) &&
    decide (80 ≤ nomClocks c ∧ nomClocks c ≤ 8000 ∧ 10 ≤ datClocks c ∧ datClocks c ≤ nomClocks c) &&
    !(c.usesBrs && decide (datClocks c < 80) && !c.sspEn) &&
    !(c.triple && (decide (nomClocks c < 640) || decide (c.nomSeg1 < 3)))

/-- A stencil entry (R307). -/
def stencilOk (c : CanCfg) (e : Stencil) : Bool :=
  (e.test != 1 || decide (e.a.toNat ≤ e.b.toNat)) && (e.ext || (e.a.toNat ≤ 0x7FF && e.b.toNat ≤ 0x7FF)) &&
    (e.dest != 3 || e.bindEn) && (!e.bindEn || c.rxBindings.any (·.id == e.bind))

/-- Columns ascend, do not overlap and end before the cycle does (R318); each is a START and a LEN. -/
def columnsOk (cyc : Nat) : List (Nat × Nat) → Bool
  | [] => true
  | [x] => x.1 + x.2 < cyc
  | x :: y :: r => decide (x.1 + x.2 ≤ y.1) && columnsOk cyc (y :: r)

/-- A transmit binding (R314): its buffer is a transmit buffer or a time-triggered one, k is 1 to 1,000. -/
def txBindingOk (b : CanTxBinding) : Bool :=
  (b.buffer < 3 || (0x80 ≤ b.buffer && b.buffer < 0xA0)) && b.insertions.length ≤ 16 && b.insertions.all (fun e => e.offset ≤ 63) &&
    (match b.period with
      | some k => decide (1 ≤ k ∧ k ≤ 1000)
      | none => true)

/-- The time-triggered part of a controller in MODE 3 (R318, R319). -/
def ttOk (c : CanCfg) : Bool :=
  decide (250 ≤ c.cycUs ∧ c.cycUs ≤ 65535 ∧ 1 ≤ c.ncyc ∧ c.ncyc ≤ 32 ∧ c.columns.length ≤ 64) && columnsOk c.cycUs c.columns &&
    c.columns.all (fun x => decide (x.1 < 65536 ∧ x.2 < 65536)) &&
    c.slots.all fun t => t.type != 3 && t.column < 64 && t.base < 2 ^ t.rep.val

/-- One controller's part (R297 to R320). -/
def canOk (i : Image) (c : CanCfg) : Bool :=
  let es := c.rxBindings.flatMap (·.extractions)
  timingOk c && c.stencils.length ≤ 192 && c.stencils.all (stencilOk c) && c.missBase != 3 && c.missExt != 3 &&
    c.rxBindings.length ≤ 32 && es.length ≤ 256 && es.all (extractOk i 2 63) &&
    c.rxBindings.all (fun b => b.extractions.length ≤ 16 && b.dlcMin ≤ 64 && b.staleTicks ≤ 65535) &&
    c.sspo ≤ 127 && c.txBindings.length ≤ 32 && c.txBindings.all txBindingOk &&
    (c.mode != 3 || ttOk c)

/-- Every controller; a cell stands in one extraction of the module only (R310). -/
def cansOk (i : Image) : Bool :=
  noRepeat (i.can.map (·.ctl.val)) && i.can.all (canOk i) &&
    noRepeat (i.can.flatMap fun c => c.rxBindings.flatMap fun b => b.extractions.map (·.cell))

/-! ### Fields with a range (R499) -/

/-- A servo gain: finite, 0 to 64.0 (R344). Log entry 111 (DEDUCED, unsafe). -/
def gainOk (w : Word) : Bool := w.toNat ≤ 0x42800000 || w == 0x80000000#32

/-- Fields of the image whose registers have a range, and tables with one (R52, R53, R246, R329, R344, R357, R477). -/
def fieldsOk (i : Image) : Bool :=
  let t := i.time
  decide (i.position ≤ 1023 ∧ i.periodCode ≤ 9) && gainOk t.kp && gainOk t.ki && t.role != 3 && t.profile != 3 &&
    t.ppsOutMode != 3 && decide (-7 ≤ t.logInterval ∧ t.logInterval ≤ if t.profile = 2 then 0 else 1) &&
    (t.profile != 2 || t.transport) && decide (t.lockedClass ≤ 255 ∧ -32768 ≤ t.utcOffset ∧ t.utcOffset ≤ 32767) &&
    [i.alarmTable0, i.alarmTable1].all (fun x => x.length ≤ 366 && x.all (decide <| · < 86400)) &&
    decide (t.domain ≤ 127 ∧ 1000 ≤ t.stepNs ∧ t.stepNs ≤ 1000000000 ∧ 10 ≤ t.lockNs ∧ t.lockNs ≤ 10000 ∧
      1000 ≤ t.maxPpb ∧ t.maxPpb ≤ 500000 ∧ 1 ≤ t.ppsWidthMs ∧ t.ppsWidthMs ≤ 500 ∧ 10 ≤ t.rtcStepMs ∧
      t.rtcStepMs ≤ 60000 ∧ 1 ≤ t.pinMaxS ∧ t.pinMaxS ≤ 600 ∧ t.lockWaitS ≤ 255) &&
    decide (10 ≤ i.holdoffS ∧ i.holdoffS ≤ 3600 ∧ i.startWaitS ≤ 255) &&
    decide (1 ≤ i.trendFlushS ∧ i.trendFlushS ≤ 3600) &&
    i.trend.length ≤ 4096 && i.trend.all fun x => decide (1 ≤ x.k ∧ x.k ≤ 65535) && F32.le 0 x.deadband

/-- Step 7 of R378 for a configuration image. Log entry 35 (DESIGN CHOICE, unsafe). -/
def contentOk (i : Image) : Bool :=
  cellsOk i && meterOk i && laneOk i && exchangeOk i && framesOk i && cansOk i && fieldsOk i

/-! ### Recoat images (R114, R378) -/

/-- Trowel cells after a recoat: the running bank's without those removed, with those the image defines (R114). -/
def State.recoatCells (s : State) (r : RecoatImage) : List CellDef :=
  (s.trw.bank.cells.filter fun c => !r.removeCells.contains c.cell && !r.program.cells.any (·.cell == c.cell)) ++
    r.program.cells

/-- The bank a recoat image would make of the running one. -/
def State.recoatBank (s : State) (r : RecoatImage) : Program := { r.program with cells := s.recoatCells r }

/-- What the load check knows of the module once the recoat has swapped. -/
def State.recoatNames (s : State) (r : RecoatImage) : Names :=
  let cells := s.recoatCells r
  { kinds := (s.names.kinds.filter fun p => !(s.trw.bank.cells.any (·.cell == p.1))) ++
      cells.map fun d => (d.cell, kindOf d.kind)
    trowel := cells.map (·.cell), prog := s.recoatBank r }

/-- Step 7 for a recoat image: RCT_STAT.RESULT of the first failure, if there is one (R378). Log entry 35 (DESIGN CHOICE,
unsafe). -/
def State.recoatContent (s : State) (r : RecoatImage) : Option Nat :=
  let p := s.recoatBank r
  let own (a : Nat) : Bool := match s.img.defs.at? a with
    | some d => d.src.toNat == 4
    | none => true
  if !symbolsOk p then some 4
  else if !tableOk p s.slotDescs s.laneOutputs then some 5
  else if (s.recoatNames r).bankOk && p.cells.all (fun d => d.kind.toNat < 7 && d.cell < 0xF00 && d.src.toNat == 4 && own d.cell)
      && r.removeCells.all own && s.slotDescs.all (fun l => !l.desc.valid || l.desc.uCell.all fun c =>
        p.tasks.all fun d => !d.wCells.contains c) then none
  else some 3

/-! ### An image's header (R377) -/

/-- The header that the first 512 bytes of an image spell (R377), without BODY_HASH, PAGES and SIGNATURE, which an `ImageFile`
holds as what the security core's arithmetic finds of them. A KEY_INDEX above 3 names no hash and is taken as a format error.
Log entry 35 (DESIGN CHOICE, unsafe). -/
def headerOf (b : List Byte) : Header :=
  let n (off len : Nat) : Nat := ofLe (cut b off len)
  let flags := n 5 1
  { magic := BitVec.ofNat 32 (n 0 4), kind := n 4 1, advance := flags.testBit 0, revoke := flags.testBit 1
    flagsReserved := decide (4 ≤ flags), reservedZero := decide (n 14 2 = 0 ∧ n 280 232 = 0 ∧ n 7 1 < 4), svn := n 6 1
    keyIndex := Fin.ofNat 4 (n 7 1), estateId := BitVec.ofNat 32 (n 8 4), position := n 12 2, seq := n 16 8
    bodyLength := n 24 8, signerHash := Config.sha384 (cut b 88 96) }

/-! ### The steps of R378 -/

/-- Step 1: MAGIC, KIND, reserved bytes and flags. -/
def formatOk (kind : Nat) (h : Header) : Bool :=
  h.magic == 0x43594F49#32 && h.kind == kind && h.reservedZero && !h.flagsReserved && !(kind ≥ 3 && h.revoke)

/-- The hash a KEY_INDEX names, where it is written and not revoked (R374, R376). -/
def State.signerOk (s : State) (kind : Nat) (h : Header) : Bool :=
  let o := s.sec.otp
  if kind ≤ 2 then (o.fwHash.getD h.keyIndex none) == some h.signerHash && !o.fwRevoked.contains h.keyIndex
  else o.ownerHash[h.keyIndex.val]? == some h.signerHash && !o.ownerRevoked.contains h.keyIndex

/-- The anti-rollback counter a kind is held against (R378). -/
def State.svnOf (s : State) (kind : Nat) : Nat :=
  match kind with
  | 1 => svnValue s.sec.otp.svnBl | 2 => svnValue s.sec.otp.svnFw | _ => svnValue s.sec.otp.svnCfg

/-- Verification of one image of a header KIND (R378): the result code. `received` is the body's length as it came, `slot` the
SEQ that MRAM records of a configuration slot read at start-up; GLB_ESTATE counts once an accepted image has set it. Log entry
34 (DESIGN CHOICE, unsafe). -/
def State.verify (s : State) (kind received : Nat) (slot : Option Nat) (f : ImageFile) : Nat :=
  let h := f.header
  if !formatOk kind h then 1
  else if !s.signerOk kind h then 2
  else if !f.sigValid then 3
  else if h.svn > 64 || h.svn < s.svnOf kind then 4
  else if h.bodyLength != received || !f.bodyHashOk then 5
  else if kind ≥ 3 && s.core.flag Reg.GLB_UNIT_VALID && h.estateId != BitVec.ofNat 32 (s.core.fget Reg.GLB_ESTATE_ESTATE_ID) then 6
  else if kind ≥ 3 && (match slot with
    | none => decide (h.seq ≤ s.sec.seqMax)
    | some q => h.seq != q) then 7
  else
    let ok := match kind, f.body with
      | 3, .configuration i => contentOk i
      | 4, .recoat r => (s.recoatContent r).isNone
      | 1, .firmware => true
      | 2, .firmware => true
      | _, _ => false
    if ok then 0 else 8

/-- RCT_STAT.RESULT of a verification result (R124, R378). -/
def State.recoatResult (s : State) (f : ImageFile) (code : Nat) : Nat :=
  match code with
  | 0 => 0
  | 2 => 2
  | 3 => 2
  | 5 => 2
  | 8 => match f.body with
    | .recoat r => (s.recoatContent r).getD 3
    | _ => 3
  | _ => 3

end Sys2Proof.Machine
end

