-- ==== Sys2Proof/Machine/MeterBytes.lean ====
section
/-! DEFINITION. Commit images, their blocks and seal records as bytes, and the points a requester may see (R174, R180, R181,
R190, R191, R194). -/

namespace Sys2Proof.Machine

/-- A register in the block's format (R181). -/
def accBytes (a : AccReg) : List Byte := le a.count 8 ++ le a.rest 4 ++ le 0 4

/-- An accumulation-point block: 192 bytes (R181). -/
def pointBytes (b : PointBlock) : List Byte :=
  (List.range 8).flatMap (fun i => accBytes (b.regs.getD i {})) ++ le b.impStart 8 ++ le b.expStart 8 ++ le b.impMax 8 ++
    le b.impEnd 8 ++ le b.expMax 8 ++ le b.expEnd 8 ++ le b.dirChanges 4 ++ le b.dir 1 ++ le b.status 1 ++
    le (b.elemId * 4 + b.phase) 2 ++ le 0 8

/-- A thermal block: 64 bytes (R194). -/
def thermalBytes (b : ThermalBlock) : List Byte :=
  accBytes b.fwd ++ accBytes b.rev ++ le b.fwdVol 8 ++ le b.revVol 8 ++ le b.dirChanges 4 ++ le b.errMs 4 ++ le 0 8

/-- The 64-byte head of a commit image (R180). -/
def commitHead (c : CommitImage) (points thermal : Nat) : List Byte :=
  le 0x4D455452 4 ++ le 1 2 ++ le c.flags 1 ++ le 0 1 ++ le c.seq 8 ++ le c.samples 8 ++ le c.counter 8 ++ le c.wall 8 ++
    le c.epoch 8 ++ le c.cfgId.toNat 4 ++ le points 1 ++ le thermal 1 ++ le 0 10

/-- A commit image as it stands in its slot (R180). -/
def commitBytes (c : CommitImage) : List Byte :=
  let b := commitHead c c.points.length c.thermal.length ++
    (List.range 32).flatMap (fun i => pointBytes (c.points.getD i { regs := [] })) ++
    (List.range 8).flatMap fun i => thermalBytes (c.thermal.getD i {})
  b ++ le (crc32c b).toNat 4

/-- DOMAIN of each accumulation point, in order (R170). -/
def pointDomains (m : MeterCfg) : List Nat := (pointElements m.elements).map (·.domain.toNat)

/-- DOMAIN of each thermal channel in use, in order (R193). -/
def thermalDomains (m : MeterCfg) : List Nat := m.thermal.map (·.domain.toNat)

/-- Domains that own an accumulation point or a thermal channel of an image (R190). -/
def imageDomains (c : CommitImage) : List Nat :=
  (List.range 1024).filter fun d => c.domains.contains d || c.thermalDomains.contains d

/-- Elements of a list whose DOMAIN a test admits. -/
def pick {α : Type} (xs : List α) (doms : List Nat) (may : Nat → Bool) : List α :=
  ((xs.zip doms).filter fun p => may p.2).map (·.1)

/-- A requester of a domain sees a point of a DOMAIN (R191). -/
def seesPoint (d c : Nat) : Bool := d == 0 || c == 1 || d == c

/-- The commit image a requester sees (R191, R266): its own blocks only, the CRC made over what is sent. -/
def filteredCommit (d : Nat) (c : CommitImage) : List Byte :=
  let ps := pick c.points c.domains (seesPoint d)
  let ts := pick c.thermal c.thermalDomains (seesPoint d)
  let b := commitHead c ps.length ts.length ++ ps.flatMap pointBytes ++ ts.flatMap thermalBytes
  b ++ le (crc32c b).toNat 4

/-- The bytes of a seal record that its signature covers (R190). -/
def State.sealBody (s : State) (n : MeterSnap) (d : Nat) : List Byte :=
  let c := n.image
  let ps := pick c.points c.domains (· == d)
  let ts := pick c.thermal c.thermalDomains (· == d)
  le n.number 8 ++ le (s.core.fget Reg.GLB_ESTATE_ESTATE_ID) 4 ++ le (s.core.fget Reg.GLB_UNIT_POSITION) 2 ++ le d 2 ++
    le c.seq 8 ++ le c.wall 8 ++ le c.epoch 8 ++ le c.cfgId.toNat 4 ++ le ps.length 1 ++ le ts.length 1 ++
    le (n.trigger + if n.regLost then 128 else 0) 1 ++ le 0 1 ++ ps.flatMap pointBytes ++ ts.flatMap thermalBytes

/-- A point as the configuration lays it out: element, its index, and the phase, 3 for the element as a whole. -/
structure PointPlace where
  element : Nat
  phase : Nat
  deriving DecidableEq, Repr, Inhabited

/-- The accumulation points in order (R170): an element's phases, then the element; one for TYPE 1. -/
def places (els : List ElementDef) : List PointPlace :=
  (els.zipIdx).flatMap fun p =>
    if p.1.type = 1 then [⟨p.2, 0⟩] else (List.range p.1.type).map (fun i => ⟨p.2, i⟩) ++ [⟨p.2, 3⟩]

/-- The accumulation points of the running configuration. -/
def State.places (s : State) : List PointPlace := Machine.places s.met.cfg.elements

/-- Bring the per-point lists to the length the configuration asks for. -/
def State.sizedPoints (s : State) : List (PointPlace × PointBlock × PointExtra) :=
  s.places.zipIdx.map fun p =>
    let id := ((s.met.cfg.elements[p.1.element]?).map (·.elemId.toNat)).getD 0
    let b := s.met.points.getD p.2 {}
    (p.1, { b with elemId := id, phase := p.1.phase }, s.met.extra.getD p.2 {})

/-- The image of the registers as they stand (R180). -/
def State.commitImage (s : State) (flags : Nat) : CommitImage :=
  { flags := flags, seq := s.met.seq + 1, samples := s.met.samples, counter := s.met.lastC, wall := s.met.lastWall
    epoch := s.epoch, cfgId := s.met.cfg.cfgId, points := s.sizedPoints.map (·.2.1)
    thermal := (List.range s.met.cfg.thermal.length).map fun i => s.met.thermal.getD i {}
    domains := pointDomains s.met.cfg, thermalDomains := thermalDomains s.met.cfg }

/-- An outage record: 64 bytes (R188). -/
def outageBytes (o : Outage) : List Byte :=
  let b := le o.number 8 ++ le o.start 8 ++ le o.fin 8 ++ le o.warned 8 ++ le o.seq 8 ++ le o.flags 4 ++ le o.unmeteredMs 4 ++ le 0 12
  b ++ le (crc32c b).toNat 4

/-- A seal record, signed with slot 8 (R190). -/
def State.sealRecord (s : State) (n : MeterSnap) (d : Nat) : List Byte :=
  let b := s.sealBody n d
  b ++ fixLen 96 (Config.ecdsaSign (s.keyScalar 8) b)

end Sys2Proof.Machine
end

