-- ==== Sys2Proof/Machine/LinkFrame.lean ====
section
/-! DEFINITION. Partner-link frames as bytes: their type codes, the payloads whose layout the spec gives, the header and the
CRC (R228, R229, R233). -/

namespace Sys2Proof

/-- The TYPE of a frame (R229). -/
def PFrame.type : PFrame → Nat
  | .input .. => 1 | .close .. => 2 | .command .. => 3 | .ack .. => 4 | .digest .. => 5 | .meter .. => 6
  | .query .. => 7 | .reply .. => 8 | .state .. => 9 | .role .. => 10

end Sys2Proof

namespace Sys2Proof.Machine

/-- The 68 bytes of a tick digest (R233). -/
def digestBytes (d : Digest) : List Byte :=
  le d.input.toNat 4 ++ (List.range 12).flatMap (fun i => le (d.commits.getD i 0).toNat 4) ++ le d.out.toNat 4 ++
    le d.maskGen 4 ++ le d.lastCmd 4 ++ le d.evidence.toNat 2 ++ le 0 2

/-- One of the two frames a commit image crosses in (R229). Log entry 54 (DESIGN CHOICE, unsafe). -/
def meterHalf (half : Fin 2) (c : CommitImage) : List Byte :=
  if half = 0 then (commitBytes c).take 4096 else (commitBytes c).drop 4096

/-- The payload of a frame: at most 8,192 bytes (R228). Log entry 54 (DESIGN CHOICE, unsafe). -/
def linkPayload (f : PSent) : List Byte :=
  match f.frame with
  | .digest _ d => digestBytes d
  | .meter h c => meterHalf h c
  | x => (Config.linkPayload x.type f.seq).take 8192

/-- A frame's layout (R228): header, payload and CRC-32C, little-endian. -/
def linkBytes (type : Nat) (again : Bool) (seq epoch : Nat) (payload : List Byte) : List Byte :=
  let b := le type 1 ++ le (if again then 1 else 0) 1 ++ le payload.length 2 ++ le seq 4 ++ le epoch 8 ++ payload
  b ++ le (crc32c b).toNat 4

/-- A sent frame as it stands on the link (R228). -/
def PSent.bytes (f : PSent) : List Byte := linkBytes f.frame.type f.again f.seq f.epoch (linkPayload f)

end Sys2Proof.Machine
end

