-- ==== Sys2Proof/Machine/PairOps.lean ====
section
/-! DEFINITION. What a pair's unit does beside its frames' meanings: sending on the partner link, going out of step,
digests, divergence and its outcome, and declaring a duty failure (R228, R231 to R241). -/

namespace Sys2Proof.Machine

/-- PTR_STAT.PAIR_STATE (R246). -/
def State.pairState (s : State) : Nat := s.core.fget Reg.PTR_STAT_PAIR_STATE

/-- Set PAIR_STATE. -/
def State.setPair (s : State) (v : Nat) : State := s.onCore (·.fput Reg.PTR_STAT_PAIR_STATE v)

/-- A takeback agreed or proposed is cancelled (R243). -/
def State.cancelTakeback (s : State) : State :=
  if s.pair.takeback.isNone && s.pair.proposed.isNone then s
  else { s with pair := { s.pair with takeback := none, proposed := none } }.sendFrame (.role .takebackCancel)

/-- The hold-off starts again (R242). -/
def State.restartHoldoff (s : State) : State :=
  { s with pair := { s.pair with holdFrom := if s.pairState = 3 then some s.core.c else none } }.onCore
    (·.fput Reg.PTR_STAT_HOLDOFF_LEFT_S (s.core.fget Reg.PTR_CFG_HOLDOFF_S))

/-- A unit without a partner in step answers its waiting commands alone (R224, R232): they take effect at once. -/
def State.detach (s : State) (reason : Nat) : State :=
  ((s.setPair 5).onCore fun k => k.setFlag Reg.PTR_STAT_HOLD_AUTH false).record 0x0603 0 (le (Config.eventByte 0x0603 reason) 1 ++ le s.epoch 8)

/-- What this unit's static check compares (R241). -/
def State.staticId (s : State) : StaticId :=
  { imageSeq := s.sec.runSeq, bank0 := s.trw.bank.bankId, bank1 := (s.trw.idle.map (·.bankId)).getD 0
    touchUps := s.core.fget Reg.TUP_STAT_APPLIED, slotSeq := s.cmd.slotSeq, maskGen := s.cmd.forceGen }

/-- Whether the partner has verified what stands in the idle bank (R117). -/
def State.checkPartner (s : State) : State :=
  { s with cmd := { s.cmd with partnerVerified := s.trw.idle.isSome && s.pair.partner.any (·.bank1 == s.staticId.bank1) } }

/-- Resynchronisation starts at a stage (R241): no hold authority, the buffer empty, and the static check is sent. Log entry
56 (DESIGN CHOICE, unsafe). -/
def State.startResync (s : State) (stage : Nat) : State :=
  let s := s.cancelTakeback
  let p := { s.pair with stage := stage, backlog := [], target := none,
                         startC := if stage = 1 then s.core.c else s.pair.startC, holdFrom := none, resolve := none,
                         own := none, peer := none }
  (({ s with pair := p }.setPair 2).onCore fun k =>
    ((k.setFlag Reg.PTR_STAT_HOLD_AUTH false).fput Reg.PTR_RESYNC_BACKLOG 0).fput Reg.PTR_STAT_HOLDOFF_LEFT_S
      (k.fget Reg.PTR_CFG_HOLDOFF_S)).sendFrame (.role (.resync s.staticId))

/-- The standby goes out of step (R231). -/
def State.outOfStep (s : State) : State :=
  if s.standby && s.inStep then s.startResync 1 else s

/-- A failed attempt (R241): again from stage 2, or detached after three in a row. Log entry 56 (DESIGN CHOICE, unsafe). -/
def State.resyncFailed (s : State) : State :=
  let s := s.onCore (·.bump Reg.PTR_RESYNC_FAILS)
  if s.core.fget Reg.PTR_RESYNC_FAILS ≥ 3 then
    { s with pair := { s.pair with stage := 0, backlog := [] } }.detach 1
  else s.startResync 2

/-- The unit joins in step (R241). -/
def State.join (s : State) : State :=
  let ms := (s.core.c - s.pair.startC) * 4 / 1000000
  let p := { s.pair with stage := 0, backlog := [], holdFrom := some s.core.c, partner := s.pair.target }
  let s := ({ s with pair := p }.checkPartner).setPair 3
  s.onCore fun k =>
    ((k.bump Reg.PTR_RESYNC_DONE).fput Reg.PTR_RESYNC_FAILS 0).fput Reg.PTR_RESYNC_MS_MS ms

/-- The standby declares a duty failure (R237, R238): takeover at the first screed instant at least 20 µs away, or, out of
step, only a record; `least` is the earliest epoch the outcome of a resolution allows (R236). A unit in warning hold declares
nothing (R465). -/
def State.declare (s : State) (cause : Nat) (least : Nat := 0) : State :=
  if !s.standby || s.pair.declared.isSome || s.plat.hold then s
  else if !s.inStep then s.record 0x0603 0 (le (Config.eventByte 0x0603 (16 + cause)) 1 ++ le s.epoch 8)
  else
    let k := max least (max (s.epoch + 1) (s.epochFrom (s.ntNs + 20000)))
    ({ s with pair := { s.pair with declared := some k } }.onCore fun c =>
      (c.fput Reg.PTR_DECLARE_CAUSE cause).bump Reg.PTR_DECLARE_COUNT).sendFrame (.role (.takeover k))

/-! ### Divergence (R234 to R236) -/

/-- The outcome of a resolution takes effect (R236): 1 standby divergent, 2 duty divergent, 3 undecided. -/
def State.outcome (s : State) (r : Resolve) (out : Nat) : State :=
  let s := { s with pair := { s.pair with resolve := none } }
  let s := s.onCore fun k =>
    let k := (k.fput Reg.PTR_RESOLVE_OUTCOME out).fput Reg.PTR_RESOLVE_STEP r.step
    (k.fput Reg.PTR_RESOLVE_ENGINE r.engine).fput Reg.PTR_RESOLVE_ITEM r.item
  let s := s.record 0x0601 0 (le r.epoch 8 ++ le out 1 ++ le r.step 1 ++ le r.engine 1 ++ le r.item 1)
  let s := if out = 3 then
      let again := s.pair.undecided.any fun c => (s.core.c - c) * 4 < 3600000000000
      let s := { s with pair := { s.pair with undecided := some s.core.c } }
      if again then s.onCore (·.setFlag Reg.PTR_STAT_PAIR_SUSPECT true) else s
    else s
  if out = 2 then (if s.standby then (s.setPair 3).declare 1 (r.epoch + 2) else s)
  else if s.standby then s.startResync 1
  else (s.setPair 2).onCore (·.fput Reg.PTR_STAT_HOLDOFF_LEFT_S (s.core.fget Reg.PTR_CFG_HOLDOFF_S))

/-- Which outcome it is when this unit, or its partner, is the divergent one. -/
def State.outcomeFor (s : State) (self : Bool) : Nat := if self == s.standby then 1 else 2

/-- This unit's own replay and page check, which the module makes of its own state: outside the model (R235). Log entry 55
(DESIGN CHOICE, safe). -/
def State.ownReplay (s : State) (r : Resolve) : Bool × Resolve × State :=
  match r.replay with
  | some b => (b, r, s)
  | none =>
    let b := Config.freeBool s.core.fresh
    (b, { r with replay := some b }, s.onCore fun k => { k with fresh := k.fresh + 1 })

/-- Step 4's verdict on this unit's pages (R235). Log entry 55 (DESIGN CHOICE, safe). -/
def State.ownPage (s : State) (r : Resolve) : Bool × Resolve × State :=
  match r.page with
  | some b => (b, r, s)
  | none =>
    let b := Config.freeBool s.core.fresh
    (b, { r with page := some b }, s.onCore fun k => { k with fresh := k.fresh + 1 })

/-- Engines whose commit digests differ. -/
def diffEngines (a b : Digest) : List Nat := (List.range 12).filter fun i => a.commits.getD i 0 != b.commits.getD i 0

/-- The task or slot of an engine that writes a cell of the held word last shown. -/
def State.heldWriter (s : State) (e : Nat) : Nat :=
  let cells := (s.bindings (s.core.fget Reg.LANE_HOLD_LAST_CARRIER) (s.core.fget Reg.LANE_HOLD_LAST_CHANNEL)).map (·.cell)
  let task := (s.trw.bank.tasks.find? fun d => d.engine.val == e && d.wCells.any cells.contains).map (·.id.val)
  let slot := (s.flt.slots.find? fun p => p.1 / 128 + 8 == e && p.2.desc.uCell.any cells.contains).map (·.1 % 128)
  (if e < 8 then task else slot).getD 0

/-- Engine and item of the unit that reports evidence (R235): the lowest engine its EVIDENCE names, with the item that unit's
own fault register shows, or, on the other unit, the writer of a held word. Log entry 55 (DESIGN CHOICE, safe). -/
def State.evidenceItem (s : State) (r : Resolve) (ev : BitVec 16) (self : Bool) : Resolve :=
  match (List.range 12).find? ev.getLsbD with
  | none => r
  | some e =>
    let own := if e < 8 then s.core.fget Reg.TRW_FAULT_TASK e else s.core.fget Reg.FLT_FAULT_SLOT (e - 8)
    { r with engine := e, item := if self then own else if s.pair.resolve.isSome then s.heldWriter e else 0 }

/-- A divergence in the tick of two digests: step 1, then the query of step 2 (R234, R235). Log entry 55 (DESIGN CHOICE,
safe). -/
def State.diverge (s : State) (n : Nat) (own peer : Digest) : State :=
  let s := { s.cancelTakeback with pair := { s.cancelTakeback.pair with holdFrom := none } }.setPair 4
  let r : Resolve := { epoch := n, step := 1 }
  let mine := own.evidence != 0
  let theirs := peer.evidence != 0
  if mine && theirs then s.outcome r 3
  else if mine then s.outcome (s.evidenceItem r own.evidence true) (s.outcomeFor true)
  else if theirs then s.outcome (s.evidenceItem r peer.evidence false) (s.outcomeFor false)
  else
    let es := diffEngines own peer
    let r : Resolve := { r with step := 2, engine := es.headD 0, asked := es }
    es.foldl (fun (s : State) e => s.sendFrame (.query 2 e)) { s with pair := { s.pair with resolve := some r } }

/-- Two digests of one epoch are compared (R233, R234, R241). -/
def State.compare (s : State) (n : Nat) (own peer : Digest) : State :=
  let s := { s with pair := { s.pair with own := none, peer := none } }
  let held := s.pair.resolve.any (·.epoch == n)
  let same := own.commits == peer.commits && own.out == peer.out && own.maskGen == peer.maskGen && own.lastCmd == peer.lastCmd
  let s := if own = peer then s else s.onCore (·.bump Reg.PTR_DIGEST_MISM_COUNT)
  if s.pairState = 2 then
    if !s.standby then
      (if same then ({ s with pair := { s.pair with partner := some s.staticId } }.checkPartner).setPair 3 else s)
    else if s.pair.stage = 4 then (if same then s.join else s.resyncFailed)
    else if s.pair.stage = 3 then (if same then s else s.resyncFailed)
    else s
  else if s.inStep then (if same && !held then s else s.diverge n own peer)
  else s

/-- This unit's digest of the tick (R233). Log entry 54 (DESIGN CHOICE, unsafe). -/
def State.digest (s : State) : Digest :=
  { input := crc32c s.pair.inBytes, commits := (List.range 12).map fun i => crc32c (s.pair.commits.atD i [])
    out := crc32c s.pair.outBytes, maskGen := s.cmd.forceGen, lastCmd := s.pair.lastApplied
    evidence := BitVec.ofNat 16 ((List.range 16).map fun i => if s.pair.evidence.contains i then 2 ^ i else 0).sum }

/-- A unit's digest of its epoch meets the partner's of the same epoch, when that has come. -/
def State.meetDigest (s : State) (n : Nat) (d : Digest) : State :=
  match s.pair.peer with
  | some (m, p) => if m = n then s.compare n d p else s
  | none => s

/-- After its swap a unit of a pair sends its digest and compares it with the partner's (R233); a unit that catches up compares
each epoch with the digest it has buffered (R241). -/
def State.sendDigest (s : State) : State :=
  if !s.paired || s.pairState < 2 || s.pairState > 4 then s
  else
    let d := s.digest
    let n := s.epoch
    let s := { s with pair := { s.pair with own := some (n, d), items := s.pair.itemsNow, prior := s.pair.priorNow } }
    if s.standby && s.pairState = 2 && s.pair.stage ≠ 4 then
      if s.pair.stage = 3 then
        let peer := (s.pair.backlog.find? (·.epoch == n)).bind (·.digest)
        let left := s.pair.backlog.filter (·.epoch != n)
        ({ s with pair := { s.pair with backlog := left, peer := peer.map fun p => (n, p) } }.onCore
          (·.fput Reg.PTR_RESYNC_BACKLOG left.length)).meetDigest n d
      else s
    else (s.sendFrame (.digest n d)).meetDigest n d

/-! ### The snapshot a duty sends (R241) -/

/-- A record as its four words (R75). -/
def recWords (r : TRec) : List Word :=
  (List.range 4).map fun i => BitVec.ofNat 32 (ofLe (((recImage r).drop (4 * i)).take 4))

/-- A record from its four words (R75). -/
def recOfWords (ws : List Word) : TRec :=
  let w := ws.getD 0 0
  { sym := w.toNat / 65536, type := w.toNat / 4096 % 16, memB := w.getLsbD 6, memA := w.getLsbD 5, initB := w.getLsbD 4
    initA := w.getLsbD 3, run := w.getLsbD 2, qd := w.getLsbD 1, q := w.getLsbD 0, et := ws.getD 1 0, pt := ws.getD 2 0
    last := ws.getD 3 0 }

/-- Register fields that show a loop slot's runtime words (R129, R157). -/
def loopRows : List Row :=
  [Reg.LP_STAT_STATE, Reg.LP_STAT_MODE, Reg.LP_STAT_FB, Reg.LP_STAT_REF_HELD, Reg.LP_STAT_AT_LIMIT, Reg.LP_FB_AGE,
   Reg.LP_FB_LOST, Reg.LP_FB_SWITCHED]

/-- The parts of the snapshot of the epoch just published (R241), with the duty's metering registers (R245). Log entry 56
(DESIGN CHOICE, unsafe). -/
def State.snapshotParts (s : State) : List StatePart :=
  [.cells s.img.published, .records (s.trw.recs.map fun p => (p.1, recWords p.2)),
   .edges (s.trw.edges.map fun p => (p.1, p.2.m, p.2.init)), .retained s.trw.ret] ++
  s.flt.slots.map (fun p => .loop p.1 p.2 (loopRows.map fun r => s.core.fget r p.1)) ++
  [.forces (s.cmd.forces.map fun p => (p.1, p.2.persist, p.2.value, p.2.epoch)) s.cmd.forceGen,
   .tasks (s.trw.bank.tasks.map fun d => (d.id.val, s.core.fget Reg.TSK_STAT_STATE d.id)),
   .recoat (s.core.fget Reg.RCT_STAT_STATE) s.swapEpoch, .meter (s.commitImage 0),
   .done s.epoch s.pair.lastApplied s.pair.accepted]

/-- At the swap of epoch J a duty whose partner waits for it sends the snapshot (R241). -/
def State.sendSnapshot (s : State) : State :=
  if s.joins && !s.standby && s.pair.stage == 2 then
    s.snapshotParts.foldl (fun (s : State) p => s.sendFrame (.state p)) { s with pair := { s.pair with stage := 3 } }
  else s

/-- A resolution not finished by the output sweep window of the next tick is undecided (R235). Log entry 55 (DESIGN CHOICE,
safe). -/
def State.resolveLimit (s : State) : State :=
  match s.pair.resolve with
  | some r => if r.epoch < s.epoch then s.outcome r 3 else s
  | none => s

/-- A held word (R208, R209): counted, the first of the tick shown, and a divergence opened. -/
def State.heldWord (s : State) (carrier channel : Nat) : State :=
  let first := !s.lane.heldSeen
  let s := { s with lane := { s.lane with heldSeen := true } }.onCore fun k =>
    let k := k.bump Reg.LANE_HOLDS_COUNT
    if first then ((k.fput Reg.LANE_HOLD_LAST_EPOCH k.epoch).fput Reg.LANE_HOLD_LAST_CARRIER carrier).fput
      Reg.LANE_HOLD_LAST_CHANNEL channel
    else k
  if s.inStep && s.pair.resolve.isNone then
    let s := s.cancelTakeback
    { s with pair := { s.pair with resolve := some { epoch := s.epoch, step := 0 } } }.setPair 4
  else s

end Sys2Proof.Machine
end

