-- ==== Sys2Proof/Machine/Feather.lean ====
section
/-! DEFINITION. Feathering after a stop-bead trip (R101 to R104, R147, R468). -/

namespace Sys2Proof.Machine

/-- A step of `slew` units per second over `ms` milliseconds, in binary32 (R103, R139, R140, R144). Log entry 23 (DESIGN
CHOICE, unsafe). -/
def slewStep (slew : Word) (ms : Nat) : Word := (F32.div (F32.mul slew (F32.ofInt ms)).1 (F32.ofInt 1000)).1

/-- Move `v` toward `goal` by at most `d` (R103, R139, R144). -/
def toward (v goal d : Word) : Word :=
  let diff := (F32.sub goal v).1
  if F32.le (F32.abs diff) d || F32.isNan v then goal
  else if F32.sign diff then (F32.sub v d).1 else (F32.add v d).1

/-- What a cell is feathered to: its SAFE, SLEW and HOLD_MS (R102, R147). -/
structure FeatherGoal where
  cell : Nat
  safe : Word
  slew : Word
  holdMs : Nat
  deriving DecidableEq, Repr, Inhabited

/-- Outputs of a loop slot as feather goals (R147). -/
def loopGoals (d : LoopDesc) : List FeatherGoal :=
  d.uCell.zipIdx.map fun p => ⟨p.1, d.safe.getD p.2 0, d.slew.getD p.2 0, 0⟩

/-- Cells the sequencer feathers: the feather table and the guarded slots' outputs (R103, R147), or, after the thermal trip,
the lane outputs among the table's entries and among the outputs of every slot (R468). -/
def State.goals (s : State) : List FeatherGoal :=
  let table : List FeatherGoal := s.trw.bank.feather.map fun f => ⟨f.cell, f.safe, f.slew, f.holdMs⟩
  let loops := s.flt.slots.flatMap fun p => if p.2.desc.guarded || s.cmd.stopAll then loopGoals p.2.desc else []
  let lane := s.laneOutputs
  if s.cmd.stopAll then (table ++ loops).filter fun g => lane.contains g.cell else table ++ loops

/-- Cells that keep their value as UNCERTAIN_LAST_USABLE while the module is stopped (R104, R468). -/
def State.keptCells (s : State) : List Nat :=
  let goals := s.goals.map (·.cell)
  let tasks := (s.trw.bank.tasks.filter fun d => d.guarded || s.cmd.stopAll).flatMap (·.wCells)
  let loops := if s.cmd.stopAll then s.flt.slots.flatMap fun p => p.2.desc.uCell else []
  (tasks ++ loops).filter fun a => !goals.contains a

/-- Is the distance of two integers at most a binary32 step? -/
def within (dist : Int) (d : Word) : Bool := F32.isInf d || decide (dist.natAbs * 2 ^ 149 ≤ (exact149 d).natAbs)

/-- Move an integer toward another by a binary32 step, to the nearest integer (R103). Log entry 25 (DESIGN CHOICE, unsafe). -/
def towardInt (v goal : Int) (d : Word) : Int :=
  if within (goal - v) d then goal
  else rneDiv (v * 2 ^ 149 + (if goal < v then -(exact149 d) else exact149 d)) (2 ^ 149)

/-- The next VALUE of a feathered cell (R103); `data` tells that its present VALUE may be used. Log entry 25 (DESIGN CHOICE,
unsafe). -/
def featherValue (k : Kind) (v : Word) (g : FeatherGoal) (data : Bool) (p : Nat) : Word :=
  let d := if F32.isZero g.slew then F32.inf else slewStep g.slew p
  if !data then g.safe
  else match k with
    | .binary32 => toward v g.safe d
    | .int32 => BitVec.ofInt 32 (towardInt v.toInt g.safe.toInt d)
    | .uint32 => BitVec.ofInt 32 (towardInt v.toNat g.safe.toNat d)
    | _ => g.safe

/-- Feather one cell for this tick; the flag tells that it is not yet at SAFE (R103). -/
def State.featherCell (s : State) (g : FeatherGoal) : Bool × State :=
  if s.isForced g.cell then (false, s)
  else match s.readCell g.cell 2 with
    | (none, s) => (false, s)
    | (some (c, ok), s) =>
      let k := kindOf c.kind
      let data := ok && c.qual.toNat != Qual.check
      let numeric := k == .int32 || k == .uint32 || k == .binary32
      let spent := decide ((s.core.c - s.cmd.tripC) * 4 ≥ g.holdMs * 1000000)
      if !numeric && !spent && !data then (true, s)
      else
        let v := if numeric then featherValue k c.value g data s.period else if spent then g.safe else c.value
        let cs := s.writeConds g.cell [Qual.subst]
        let n := s.formCell g.cell v cs 0x08 s.epoch
        (n.value != (s.formCell g.cell g.safe cs 0x08 s.epoch).value, s.store g.cell n cs)

/-- The cells of the stopped module in this tick (R103, R104): feathered from the tick after the trip, the others marked once
when feathering starts; SBD_FEATHER.ACTIVE counts the cells not yet at SAFE. Log entries 25 (DESIGN CHOICE, unsafe); 124
(DESIGN CHOICE, unsafe). -/
def State.feather (s : State) : State :=
  if !s.core.flag Reg.SBD_STAT_TRIPPED ||
      s.epoch ≤ s.core.pair Reg.SBD_TRIP_EPOCH_LO_EPOCH_LO Reg.SBD_TRIP_EPOCH_HI_EPOCH_HI then s
  else
    let s := if s.cmd.feathering then s
      else { s.markCells s.keptCells Qual.lastUsable with cmd := { s.cmd with feathering := true } }
    let r := s.goals.foldl (fun (acc : Nat × State) g =>
      let (busy, s) := acc.2.featherCell g
      (if busy then acc.1 + 1 else acc.1, s)) (0, s)
    r.2.onCore (·.fput Reg.SBD_FEATHER_ACTIVE r.1)

end Sys2Proof.Machine
end

