-- ==== Sys2Proof/Machine/Inbox.lean ====
section
/-! DEFINITION. Values that frame and CAN payloads bring to cells: their conversion, the tick at whose entry point they enter,
their entry, and staleness (R38, R293, R294, R310, R311). -/

namespace Sys2Proof.Machine

/-- The port runs MACsec (R289). -/
def State.isMacsec (s : State) (p : Nat) : Bool := s.core.flag Reg.FP_CFG_MACSEC p

/-- The MAC address of a port (R295). Log entry 3 (DESIGN CHOICE, unsafe). -/
def State.mac (s : State) (p : Nat) : Nat := s.sec.otp.macs.getD p 0

/-- INGRESS_NS of a port (R292). -/
def State.ingressNs (s : State) (p : Nat) : Int :=
  if p < 2 then (if s.core.flag Reg.FP_STAT_MS_MASTER p then 288 else 296) else 1240

/-- The receive stamp of a frame whose SFD was detected `age` counts ago, in ns of network time (R291). -/
def State.rxStamp (s : State) (p age : Nat) : Int :=
  s.stampNs age - s.ingressNs p - s.core.sget Reg.FP_TS_TRIM_ING_TRIM p

/-- Values of extractions from a payload: none where it is too short for one of them (R294). -/
def State.extractAll (s : State) (es : List Extraction) (xs : List Byte) : Option (List (Nat × Word)) :=
  es.mapM fun e => (extractValue e (kindOf (s.kindDomain e.cell).1) xs).map fun v => (e.cell, v)

/-- The tick at whose entry point a payload of epoch `n` that is complete now enters: its own, up to 160 µs after T0, or a
later one (R294, R311). Log entry 69 (DESIGN CHOICE, unsafe). -/
def State.entryTick (s : State) (n : Nat) : Nat := max n (s.epochFrom (s.ntNs - 160000))

/-- Values wait for their entry point (R38, R294, R311); and whether that is later than their epoch's own. Log entry 69
(DESIGN CHOICE, unsafe). -/
def State.inboxValues (s : State) (vs : List (Nat × Word)) (src : Nat) (stamp : Int) : State × Bool :=
  let n := s.stampEpoch stamp
  let m := s.entryTick n
  ({ s with net := { s.net with inbox := s.net.inbox ++ vs.map fun v => ⟨v.1, v.2, src, n, stamp, m⟩ } }, decide (n < m))

/-- The values whose entry point this is enter the image, before the merge; of several for one cell the latest stamp is the
value (R38, R294, R311). Log entry 69 (DESIGN CHOICE, unsafe). -/
def State.enterInbox (s : State) : State :=
  if s.standby then s
  else
    let n := s.epoch
    let due := s.net.inbox.filter (·.entry ≤ n)
    let s := { s with net := { s.net with inbox := s.net.inbox.filter fun i => !(i.entry ≤ n) } }
    let s : State := due.foldl (fun (s : State) i =>
      if (s.net.stamps.at? i.cell).any (fun t => decide (i.stamp < t)) then s
      else { s.writeCell i.cell i.value [] i.src i.epoch with net := { s.net with stamps := s.net.stamps.put i.cell i.stamp } }) s
    s.sendInputs (due.map (·.cell))

/-- Cells of a binding whose frames stay away turn stale (R294, R311). -/
def State.staleCells (s : State) (cells : List Nat) : State := (s.markCells cells Qual.stale).sendInputs cells

/-- Cells of a binding whose frames come again are stale no more (R294, R311). -/
def State.freshCells (s : State) (cells : List Nat) : State :=
  let s : State := cells.foldl (fun (s : State) a => s.markCell a (dropCond Qual.stale)) s
  s.sendInputs cells

end Sys2Proof.Machine
end

