-- ==== Sys2Proof/Machine/Servo.lean ====
section
/-! DEFINITION. The plumb servo's states, the mapping it changes, the seed, and the PTP ports that leave and join (R327, R330,
R332 to R337, R341). -/

namespace Sys2Proof.Machine

/-- The unit acts as grandmaster: a standby never does (R222, R330). -/
def State.grandmaster (s : State) : Bool := s.core.fget Reg.NT_CFG_ROLE == 2 && !s.core.isStandby

/-- Change the mapping at the present C: the base, in 2^-16 ns, and the rate; the three generations before it are kept (R327). -/
def State.remap (s : State) (base rate : Int) : State :=
  let m : Mapping := { base := base, baseC := s.core.c, rate := rate, gen := s.nt.map.gen + 1 }
  { s with nt := { s.nt with map := m, old := (s.nt.map :: s.nt.old).take 3 } }

/-- The servo writes a new RATE: network time goes on from where it stands (R327). Log entry 77 (DESIGN CHOICE, unsafe). -/
def State.setRate (s : State) (rate : Int) : State :=
  if rate = s.nt.map.rate then s else (s.remap s.nt16 rate).onCore (·.sput Reg.NT_RATE_RATE rate)

/-- A correction in 2^-176 ppb, kept within ±PLB_MAX_PPB (R334). -/
def State.clampPpb (s : State) (y : Int) : Int :=
  let m : Int := (s.core.fget Reg.PLB_MAX_PPB_PPB : Int) * 2 ^ 176
  if y < -m then -m else if m < y then m else y

/-- RATE of a correction of `y` in 2^-176 ppb: −y × 10^−9 × 2^32, rounded to nearest (R333). Log entry 77 (DESIGN CHOICE,
unsafe). -/
def rateOf (y : Int) : Int := rneDiv (-y * 2 ^ 32) (1000000000 * 2 ^ 176)

/-- The holdover bound in ns: e + 100 ns/s × t + 0.1 ns/s² × t² (R337). Log entry 79 (DESIGN CHOICE, unsafe). -/
def State.holdBound (s : State) : Nat :=
  let n := (s.core.c - s.nt.holdC) * 4
  (s.nt.holdErr * 10 ^ 19 + 65536 * (n * 10 ^ 12 + n * n)) / (65536 * 10 ^ 19)

/-- Show NT_EST_ERR (R337, R344). Log entry 79 (DESIGN CHOICE, unsafe). -/
def State.showErr (s : State) : State :=
  s.onCore fun k => k.fput Reg.NT_EST_ERR_NS <| match k.fget Reg.NT_STAT_STATE with
    | 2 => 0
    | 3 => min s.holdBound (2 ^ 32 - 1)
    | _ => 2 ^ 32 - 1

/-- The servo takes a state (R335, R337); a ticking sequencer shows TIME_DEGRADED with it (R46). A module that waits for its
time base has it at lock (R49). -/
def State.setServo (s : State) (st : Nat) : State :=
  let s := s.onCore fun k =>
    let k := (k.fput Reg.NT_STAT_STATE st).setFlag Reg.NT_STAT_TIME_DEGRADED (st != 2)
    if k.flag Reg.TICK_STATUS_RUNNING then k.setFlag Reg.TICK_STATUS_TIME_DEGRADED (st != 2) else k
  let s := if st = 2 && s.seq.waitFrom.isSome && s.seq.base.isNone then
      { s with seq := { s.seq with base := some s.ntNs, waitFrom := none } }
    else s
  s.showErr

/-- HOLDOVER (R335, R337): from ACQUIRING or LOCKED, the rate is held at what I alone gives. Log entry 79 (DESIGN CHOICE,
unsafe). -/
def State.enterHoldover (s : State) : State :=
  let st := s.core.fget Reg.NT_STAT_STATE
  if st = 1 ∨ st = 2 then
    let s := { s with nt := { s.nt with holdC := s.core.c, holdErr := s.nt.lastX.natAbs, good := 0, poor := 0 } }
    (s.setServo 3).setRate (rateOf (s.clampPpb s.nt.integ))
  else s

/-- Seed NT from B (R341, R353): FREE, and the seed is invalid while OSF is set. Log entry 87 (DESIGN CHOICE, unsafe). -/
def State.seedNt (s : State) : State :=
  let s := s.remap s.backup16 s.nt.map.rate
  let s := { s with nt := { s.nt with good := 0, poor := 0, spikes := 0, prev := none } }
  (s.onCore fun k => k.setFlag Reg.NT_STAT_SEED_INVALID (k.flag Reg.CAL_STATUS_OSF)).setServo 0

/-- The PTP port state of an uplink (R344). Log entry 80 (PRESUMED, unsafe). -/
def portRow (p : Nat) : Row := if p = 0 then Reg.NT_STAT_PORT0 else Reg.NT_STAT_PORT1

/-- The slave role has gone (R335). Log entry 80 (PRESUMED, unsafe). -/
def State.loseSlave (s : State) : State := (s.onCore (·.fput Reg.NT_STAT_SLAVE 0)).enterHoldover

/-- An uplink whose link goes down leaves the BMCA at once (R332). -/
def State.ptpLeave (s : State) (p : Nat) : State :=
  let s := s.onCore (·.fput (portRow p) 3)
  if s.core.fget Reg.NT_STAT_SLAVE = p + 1 then s.loseSlave else s

/-- An uplink with a link takes part: as master of a grandmaster, else listening (R330). Log entry 80 (PRESUMED, unsafe). -/
def State.ptpJoin (s : State) (p : Nat) : State :=
  if s.core.flag Reg.NT_CFG_VALID && s.core.flag Reg.FP_STAT_LINK p then
    s.onCore (·.fput (portRow p) (if s.grandmaster then 6 else 4))
  else s

/-- A change of role (R222, R240, R330): a unit that becomes duty takes the position's PTP roles, and a standby is slave-only. -/
def State.ptpRole (s : State) : State :=
  let s : State := [0, 1].foldl (fun (s : State) p =>
    if s.core.fget (portRow p) = 6 ∨ s.grandmaster = true then s.ptpJoin p else s) s
  if s.grandmaster then s.onCore (·.fput Reg.NT_STAT_SLAVE 0) else s

/-- A grandmaster whose PPS input does not steer it defines estate time (R338, R353): LOCKED from its first screed instant. -/
def State.ownTime (s : State) : State :=
  if s.grandmaster && !s.core.flag Reg.NT_PPS_CFG_IN_EN && s.core.fget Reg.NT_STAT_STATE != 2 then s.setServo 2 else s.showErr

end Sys2Proof.Machine
end

