-- ==== Sys2Proof/Machine/Tick.lean ====
section
/-! DEFINITION. The screed tick: its start at a screed instant, the entry of inputs, the merge and the start of scan and
control, the output sweep, and what is given up at each limit (R28 to R51, R94, R97 to R99, R146, R147). -/

namespace Sys2Proof.Machine

/-! ### The output sweep (R41, R218, R233) -/

/-- Bursts of the output list as they are sent: joined carriers only, channels that are not written left out (R25, R213). -/
def State.outBursts (s : State) : List BurstDef × State :=
  (s.sweepOf s.cfg.outputSweep).foldl (fun (acc : List BurstDef × State) b =>
    let (ws, s) := acc.2.laneWords b.carrier b.channel b.words
    (acc.1 ++ splitRuns b.carrier ws, s)) ([], s)

/-- Close the scan and control phase: engines' busy clocks of the tick are booked (R42, R91, R157). -/
def State.closeScan (s : State) : State := { s with trw := { s.trw with scanning := false } }

/-- The output sweep has sent its last burst (R45, R233). -/
def State.finishSweep (s : State) : State := s.sweepEnd.sendDigest.sendSnapshot

/-- Own address and data words of bursts, as the output digest covers them (R233). -/
def State.noteBursts (s : State) (bs : List BurstDef) : State :=
  bs.foldl (fun (s : State) b =>
    let (ws, s) := s.laneWords b.carrier b.channel b.words
    let own := laneAddr b.carrier b.channel 1 :: ws.filterMap (·.2)
    { s with pair := { s.pair with outBytes := s.pair.outBytes ++ own.flatMap fun x => le x.toNat 2 } }) s

/-- A joining standby executes a buffered epoch (R241): its sweeps have passed on the lane. -/
def State.catchingUp (s : State) : Bool := s.standby && s.pairState == 2 && s.pair.stage == 3

/-- The output sweep starts (R41); a list without bursts ends at once, and so does one a joining unit catches up with. Log
entry 108 (DESIGN CHOICE, unsafe). -/
def State.startOutput (s : State) : State :=
  if s.seq.outStarted then s
  else
    let s := s.closeScan
    let (bs, s) := s.outBursts
    let s := { s with seq := { s.seq with outLeft := bs, outCycles := 0, outStarted := true } }.onCore
      (·.fput Reg.TICK_STATUS_PHASE 4)
    let s := if s.standby && s.pairState = 3 then s.onCore (·.setFlag Reg.PTR_STAT_HOLD_AUTH true) else s
    if s.catchingUp then { s.noteBursts bs with seq := { s.seq with outLeft := [] } }.finishSweep
    else if bs.isEmpty then s.finishSweep else s

/-- A task or loop has finished (R41, R233): the output sweep starts when it was the last one due, in a pair when the standby
in step is ready too; and the sleep cell is looked at (R369). Log entry 108 (DESIGN CHOICE, unsafe). -/
def State.itemDone (s : State) : State :=
  let s := s.showEngines.sleepCell
  if s.trw.scanning && s.allDone && !s.seq.outStarted then
    let s := if s.paired then s.onCore (·.drive .ptrRdy true) else s
    if s.inStep && !s.standby && !s.pair.rdyIn then s
    else { s with pair := { s.pair with lateRun := 0, notReady := false } }.startOutput
  else s

/-! ### The start of a tick -/

/-- The sequencer may start a tick now: a configured unit, not fenced, held, asleep, in maintenance or stopped by a clock
loss, that has its time base; a tick after the one that follows an accepted sleep request is not executed (R49, R227, R370,
R396, R464). -/
def State.canTick (s : State) : Bool :=
  s.core.flag Reg.TICK_CFG_VALID && !s.core.flag Reg.PTR_STAT_FENCED && !s.plat.hold && !s.plat.frozen && !s.plat.asleep && s.core.pllOk 3 &&
    !s.plat.por && !s.plat.rstLow && s.core.state != 3 && s.plat.step.isNone && !s.pair.waiting &&
    (s.core.flag Reg.TICK_STATUS_RUNNING || s.seq.base.isSome) &&
    (match s.plat.sleepReq with
      | some n => decide (s.epoch ≤ n)
      | none => true)

/-- The epoch the next screed instant executes (R48, R49, R240). Log entry 109 (DESIGN CHOICE, unsafe). -/
def State.nextEpoch (s : State) : Nat :=
  match s.seq.next with
  | some x => x
  | none =>
    if s.core.flag Reg.TICK_STATUS_RUNNING then s.epoch + 1
    else
      let x := s.epochFrom (s.seq.base.getD 0 + 2 * s.periodNs)
      if s.seq.started then max x (s.epoch + 1) else x

/-- Skipped epochs are counted, and a re-entry is recorded (R48, R240). -/
def State.enterEpoch (s : State) (n : Nat) : State :=
  let e := s.epoch
  let s := if s.seq.next.isSome && s.seq.started then
      s.onCore (·.bump Reg.TICK_SKIPPED_EPOCHS 0 (n - e - 1)) else s
  match s.seq.stepM with
  | some m => (s.onCore (·.setFlag Reg.TICK_OVR_REENTRY true)).record 0x0104 0 (le e 8 ++ le m 8 ++ le n 8)
  | none => s

/-- The cells that nothing has written yet take the epoch of the tick before the first executed one (R28). -/
def State.stampFirst (s : State) (n : Nat) : State :=
  if s.seq.started then s
  else
    let working := s.img.working.map fun p => (p.1, ({ p.2 with epoch := ep32 (n - 1) }.sealed (s.pointId p.1)))
    { s with img := { s.img with working := working } }

/-- One step of a realignment: at most 1 % of P, until the instants are within 4 ns of T0 (R47). Log entry 81 (DESIGN CHOICE,
unsafe). -/
def State.realignStep (s : State) : State :=
  let lim := s.periodNs / 100
  let r := s.seq.realign
  let r' := if r.natAbs ≤ 4 then r else if r.natAbs ≤ lim.natAbs then 0 else if r < 0 then r + lim else r - lim
  { s with seq := { s.seq with realign := r' } }.onCore (·.setFlag Reg.TICK_STATUS_SLEWING (decide (4 < r'.natAbs)))

/-- A task is due in tick `n` (R94). -/
def TaskDue (d : TaskDef) (n : Nat) : Bool :=
  !d.errorTask && d.periodK != 0 && (n + d.periodK - d.offset % max d.periodK 1) % max d.periodK 1 == 0

/-- A loop slot is due in tick `n` (R133). -/
def LoopDue (d : LoopDesc) (n : Nat) : Bool :=
  d.valid && (n + max d.periodK 1 - d.offset % max d.periodK 1) % max d.periodK 1 == 0

/-- The stage a task starts the tick with: due, or skipped after an overrun, or absent (R94, R98, R101). -/
def State.taskStage (s : State) (n : Nat) (d : TaskDef) : State :=
  if !TaskDue d n || !s.core.flag Reg.TRW_STAT_IN_SERVICE d.engine || s.cmd.stopAll then s
  else match s.core.fget Reg.TSK_STAT_STATE d.id with
    | 1 => { s with trw := { s.trw with stages := s.trw.stages.put d.id .due } }
    | 2 => ({ s with trw := { s.trw with stages := s.trw.stages.put d.id .skipped } }.bookCycle d.id 0).onCore
      (·.bump Reg.TSK_SKIP_COUNT d.id)
    | _ => s

/-- The stage a loop slot starts the tick with (R133, R146). -/
def State.slotStage (s : State) (n : Nat) (p : Nat × Loop) : State :=
  if !LoopDue p.2.desc n || !s.core.flag Reg.FLT_STAT_IN_SERVICE (p.1 / 128) || s.cmd.stopAll then s
  else if s.core.fget Reg.LP_STAT_STATE p.1 = 2 || p.2.skip then
    let slots := s.flt.slots.put p.1 { p.2 with skip := false }
    { s with flt := { s.flt with stages := s.flt.stages.put p.1 .skipped, slots := slots } }.onCore (·.bump Reg.LP_OVR_SKIPS p.1)
  else { s with flt := { s.flt with stages := s.flt.stages.put p.1 .due } }

/-- Skips that the last tick consumed are over (R98, R146). -/
def State.endSkips (s : State) : State :=
  let s : State := s.trw.stages.foldl (fun (s : State) p =>
    if p.2 == .skipped && s.core.fget Reg.TSK_STAT_STATE p.1 == 2 then s.onCore (·.fput Reg.TSK_STAT_STATE 1 p.1) else s) s
  s.flt.stages.foldl (fun (s : State) p =>
    if p.2 == .skipped && s.core.fget Reg.LP_STAT_STATE p.1 == 2 then
      s.onCore fun k => k.fput Reg.LP_STAT_STATE
        (if (s.flt.slots.at? p.1).any (·.desc.guarded) && k.flag Reg.SBD_STAT_TRIPPED then 4 else 1) p.1
    else s) s

/-- The recorder's highest fill of the tick that ends is shown (EVR_STAT.FIFO_MAX, R413). -/
def State.bookFills (s : State) : State :=
  s.onCore fun k =>
    let h := (k.evr.fifo.length :: k.evr.fills).take 1024
    { k with evr := { k.evr with fills := h } }.fput Reg.EVR_STAT_FIFO_MAX (h.foldl max 0)

/-- PLCA cycles leave the window of 1,024 ticks (PLCA_CYCLE_MAX, R281). -/
def State.bookCycles (s : State) (n : Nat) : State :=
  s.net.cycles.foldl (fun (s : State) p =>
    let xs := p.2.filter fun (x : Nat × Nat) => decide (n < x.1 + 1024)
    { s with net := { s.net with cycles := s.net.cycles.put p.1 xs } }.onCore
      (·.fput Reg.PLCA_CYCLE_MAX_US (xs.foldl (fun m (x : Nat × Nat) => max m x.2) 0) p.1)) s

/-- LEVEL waits leave the window of 1,024 ticks (XCH_LEVEL_MAX, R276). -/
def State.bookLevels (s : State) (n : Nat) : State :=
  let xs := s.xch.levels.filter fun p => decide (n < p.1 + 1024)
  { s with xch := { s.xch with levels := xs } }.onCore
    (·.fput Reg.XCH_LEVEL_MAX_US (xs.foldl (fun m (x : Nat × Nat) => max m x.2) 0))

/-- Busy clocks of the tick that ends are shown (R91, R157). -/
def State.bookClocks (s : State) : State :=
  let s : State := (List.finRange 8).foldl (fun (s : State) e =>
    let g := s.engine e
    let h := (g.tickClocks :: g.hist).take 1024
    (s.putEngine e { g with tickClocks := 0, hist := h }).onCore (·.fput Reg.TRW_CLK_MAX_CLOCKS (h.foldl max 0) e)) s
  (List.range 4).foldl (fun (s : State) f =>
    let h := (s.flt.clocks.atD f 0 :: s.flt.hist.atD f []).take 1024
    { s with flt := { s.flt with clocks := s.flt.clocks.put f 0, hist := s.flt.hist.put f h } }.onCore
      (·.fput Reg.FLT_CLK_MAX_CLOCKS (h.foldl max 0) f)) s

/-- What is due in tick `n` (R94, R133). -/
def State.dueSets (s : State) (n : Nat) : State :=
  let s := s.endSkips
  let s := { s with trw := { s.trw with stages := [] }, flt := { s.flt with stages := [] } }
  let s : State := s.trw.bank.tasks.foldl (fun (s : State) d => s.taskStage n d) s
  s.flt.slots.foldl (fun (s : State) p => s.slotStage n p) s

/-- Cells of the image, in the order the age visit takes them: one place a tick covers all within 65,536 ticks (R51). -/
def imagePlaces : Nat := 0x5000

/-- The age visit of this tick (R51). Log entry 108 (DESIGN CHOICE, unsafe). -/
def State.ageVisit (s : State) : State :=
  let a := s.seq.visit
  let s := { s with seq := { s.seq with visit := (a + 1) % imagePlaces } }
  match s.img.working.at? a with
  | none => s
  | some c =>
    let n := ep32 s.epoch
    if (n - c.epoch).toNat > 2 ^ 30 then s.restamp a (n - BitVec.ofNat 32 (2 ^ 30)) else s

/-- Carriers whose probe matched join now, and input cells of faulty carriers turn BAD_SENSOR (R213, R220). -/
def State.laneStart (s : State) : State :=
  let s : State := s.lane.joinNext.foldl (fun (s : State) c =>
    s.onCore fun k => (k.setBit Reg.LANE_PRESENT_CARRIERS c true).setBit Reg.LANE_MISMATCH_CARRIERS c false) s
  let s := { s with lane := { s.lane with joinNext := [] } }
  s.lane.faulty.foldl (fun (s : State) c => s.markCells (s.laneInputs c) Qual.sensor) s

/-- A key-generation switch whose epoch has come (R253, R391). -/
def State.applyKeySwitch (s : State) : State :=
  match s.xch.keySwitch with
  | none => s
  | some (g, e) =>
    if s.epoch < e then s
    else
      let old := s.core.fget Reg.XCH_CFG_KEYGEN_TX
      let s := { s with xch := { s.xch with keyNow := some g, keyPrev := some old, keySwitch := none } }
      let slots := s.sec.slots.filter fun p =>
        !(p.2.active && p.2.coat == 3 && p.2.parent == 2 && p.2.tag != g && p.2.tag != old && p.2.alg == 2)
      { s with sec := { s.sec with slots := slots } }.onCore (·.fput Reg.XCH_CFG_KEYGEN_TX g)

/-- The input sweep has ended (R41): the thermal channels take over their temperatures and directions (R194). -/
def State.endInput (s : State) : State :=
  let read (a : Nat) : Option Cell := s.img.working.at? a
  let th := s.met.thermalExtra.zipIdx.map fun p => match s.met.cfg.thermal[p.2]? with
    | some d => { p.1 with supply := read d.tSup, ret := read d.tRet, dirCell := read d.dirCell }
    | none => p.1
  { s with met := { s.met with thermalExtra := th }, seq := { s.seq with inLeft := [], inDone := true } }.onCore
    (·.fput Reg.TICK_SWEEP_IN_CYC s.seq.inCycles)

/-- Tick N begins (R39, R41): the commands that wait for a screed instant take effect, what is due is fixed, and the input
sweep starts. -/
def State.beginTick (s : State) (n : Nat) : State :=
  let s := (((((s.enterEpoch n).stampFirst n).bookClocks.bookFills).bookCycles n).bookLevels n).ownTime
  let s := s.onCore fun k =>
    let k := (k.putPair Reg.TICK_EPOCH_LO_EPOCH_LO Reg.TICK_EPOCH_HI_EPOCH_HI n).fput Reg.TICK_STATUS_PHASE 1
    let k := (k.setFlag Reg.TICK_STATUS_RUNNING true).setFlag Reg.TICK_STATUS_TIME_DEGRADED
      (k.flag Reg.NT_STAT_TIME_DEGRADED)
    if k.state = 0 || (k.state == 4 && s.plat.sleepReq.isNone) then k.setState (if k.flag Reg.SBD_STAT_TRIPPED then 2 else 1) 0 else k
  let s := if s.paired then
      s.onCore fun k => (k.drive .ptrHb (!k.landLevel .ptrHb)).drive .ptrRdy false
    else s
  let seq := { s.seq with started := true, base := none, waitFrom := none, next := none, stepM := none, syncC := s.core.c,
                          inCycles := 0, outLeft := [], outCycles := 0, metDone := false, outStarted := false,
                          swapped := false }
  let pair := { s.pair with inputs := [], inBytes := [], outBytes := [], commits := [], itemsNow := [], priorNow := [], evidence := [],
                            rdyIn := false, lastApplied := s.pair.accepted }
  let s := { s with seq := seq, pair := pair, trw := { s.trw with scanning := false } }
  let s := (s.realignStep.applyAgreed n).applyForces.applyTouch.applyRecoat.applySlots.applyRestart.applyKeySwitch
  let s := s.laneStart.ageVisit.stampForced
  let s := s.dueSets n
  let bs := s.sweepOf s.cfg.inputSweep
  let s := { s with seq := { s.seq with inLeft := bs, inDone := false }, met := { s.met with due := s.met.ready, ready := [] } }
  if bs.isEmpty then s.endInput else s

/-! ### The merge and the start of scan and control -/

/-- Scan and control starts (R41): feathering and system cells first (R103, R483). -/
def State.startScan (s : State) : State :=
  let s := s.feather.writeSystem
  let s := { s with trw := { s.trw with scanning := true } }.onCore (·.fput Reg.TICK_STATUS_PHASE 3)
  s.itemDone

/-- Slots of the mirror that a merge has changed or renewed. -/
def mirrorChanged (before after : State) : List Nat :=
  (after.img.working.filter fun p => decide (p.1 ≥ 0x1000) &&
    (before.img.working.at? p.1 != some p.2 || before.xch.fresh.at? p.1 != after.xch.fresh.at? p.1)).map (·.1)

/-- The duty closes the inputs of the epoch at its merge (R229, R230). Log entry 54 (DESIGN CHOICE, unsafe). -/
def State.sendClose (s : State) (cells fallbacks : List Nat) : State :=
  if s.feeds then
    let items := cells.filterMap s.itemOf
    let bytes := s.pair.inBytes ++ itemBytes (s.pair.inputs ++ items)
    ({ s with pair := { s.pair with inputs := [], inBytes := bytes } }).sendFrame
      (.close s.epoch items fallbacks (crc32c bytes))
  else s

/-- The tick in progress has not merged yet and its input sweep has ended (R41). -/
def State.canMerge (s : State) : Bool :=
  s.core.flag Reg.TICK_STATUS_RUNNING && s.core.fget Reg.TICK_STATUS_PHASE == 1 && s.seq.inDone && s.core.state != 3 &&
    !s.plat.hold && !s.plat.frozen

/-- The merge (R256), `cut` listing the slots it did not come to (R44), the host writes of the tick before (R30), and the
start of scan and control. A duty closes the epoch's inputs with it (R230). Log entry 108 (DESIGN CHOICE, unsafe). -/
def State.mergeTick (s : State) (cut : List Nat := []) : State :=
  let s := s.enterInbox
  let s0 := s
  let s := (s.onCore (·.fput Reg.TICK_STATUS_PHASE 2)).mergeRemote cut
  let changed := mirrorChanged s0 s
  let s := s.enterWrites
  (s.sendClose changed (s.xch.waits.map (·.sub))).startScan

/-! ### Limits (R44, R97) -/

/-- A task's overrun (R97 to R99); `trips` tells that a guarded one trips the bead. -/
def State.taskOverrun (s : State) (d : TaskDef) : State :=
  let n := s.epoch
  let s := if (s.engine d.engine).task = some d.id then s.dropCycle d.engine 0
    else { s with trw := { s.trw with stages := s.trw.stages.put d.id .discarded } }.bookCycle d.id 0
  let s := s.onCore fun k => ((k.setFlag Reg.TSK_STAT_OVR_SEEN true d.id).setFlag Reg.TICK_OVR_SCAN_OVR true).bump
    Reg.TSK_OVR_COUNT d.id
  if d.guarded then s.trip 1 d.id
  else
    let s := s.setTask d.id 2
    if (s.trw.ovrSeen.at? d.id).all (fun e => n ≥ e + 1024) then
      { s with trw := { s.trw with ovrSeen := s.trw.ovrSeen.put d.id n } }.record 0x0202 0 (le d.id 1 ++ le n 8)
    else s

/-- A loop slot's overrun (R146, R147). -/
def State.loopOverrun (s : State) (i : Nat) (l : Loop) : State :=
  let n := s.epoch
  let s := { s with flt := { s.flt with stages := s.flt.stages.put i .discarded } }.onCore fun k =>
    ((k.setFlag Reg.LP_STAT_OVR_SEEN true i).setFlag Reg.TICK_OVR_SCAN_OVR true).bump Reg.LP_OVR_OVERRUNS i
  if l.desc.guarded then s.trip 2 i
  else
    let s := if s.core.fget Reg.LP_STAT_STATE i = 3 then { s with flt := { s.flt with slots := s.flt.slots.put i { l with skip := true } } }
      else s.onCore (·.fput Reg.LP_STAT_STATE 2 i)
    if (s.flt.ovrSeen.at? i).all (fun e => n ≥ e + 1024) then
      { s with flt := { s.flt with ovrSeen := s.flt.ovrSeen.put i n } }.record 0x0302 0
        (le (i / 128) 1 ++ le (i % 128) 1 ++ le n 8)
    else s

/-- A standby not ready at the window start (R233): counted, and out of step after three ticks in a row. -/
def State.lateStandby (s : State) : State :=
  if !(s.standby && s.inStep) then s
  else if s.allDone then s
  else
    let s := { s with pair := { s.pair with lateRun := s.pair.lateRun + 1, notReady := true } }.onCore
      (·.bump Reg.PTR_LATE_COUNT)
    if s.pair.lateRun ≥ 3 then { s with pair := { s.pair with lateRun := 0 } }.outOfStep else s

/-- The output sweep window starts (R97 to R99, R146, R147, R235): what is unfinished is in overrun, an open resolution is
undecided, and the sweep starts. Log entry 108 (DESIGN CHOICE, unsafe). -/
def State.windowStart (s : State) : State :=
  if !(s.core.flag Reg.TICK_STATUS_RUNNING && s.core.fget Reg.TICK_STATUS_PHASE == 3 && !s.seq.outStarted && !s.plat.hold) then s
  else
    let s := s.lateStandby
    let late := s.trw.bank.tasks.filter fun d => match s.trw.stages.at? d.id with
      | some .due => true
      | some .running => true
      | _ => false
    let slots := s.flt.slots.filter fun p => s.flt.stages.at? p.1 == some .due
    let s : State := late.foldl (fun (s : State) d => s.taskOverrun d) s
    let s : State := slots.foldl (fun (s : State) p => s.loopOverrun p.1 p.2) s
    let s := s.resolveLimit
    s.showEngines.sleepCell.startOutput

/-- The input sweep's hard limit (R44): unread lane input cells turn stale. -/
def State.hardLimit (s : State) : State :=
  if s.seq.inDone || s.seq.inLeft.isEmpty then s
  else
    let cells := s.seq.inLeft.flatMap fun b =>
      (List.range b.words).flatMap fun i =>
        ((s.bindings b.carrier (b.channel + i)).filter fun _ => !outKind (s.channelKind b.carrier (b.channel + i))).map (·.cell)
    let s := (s.markCells cells Qual.stale).onCore (·.setFlag Reg.TICK_OVR_IN_HARD_LIMIT true)
    s.endInput.record 0x0102 0 (le s.epoch 8 ++ le cells.length 2)

/-- The output sweep is cut off (R44, R45). -/
def State.abortSweep (s : State) : State :=
  if !(s.seq.outStarted && !s.seq.swapped && !s.seq.outLeft.isEmpty) then s
  else
    let left := s.seq.outLeft.length
    let s := { s with seq := { s.seq with outLeft := [] } }.onCore (·.setFlag Reg.TICK_OVR_OUT_ABORT true)
    (s.record 0x0103 0 (le s.epoch 8 ++ le left 2)).finishSweep

/-- An exchange datagram of an epoch before the tick in progress. -/
def staleItem (n : Nat) : TxItem → Bool
  | .exchange d => decide (d.epoch < n)
  | _ => false

/-- An unfinished publish is abandoned (R44): its datagrams are never sent, and their cells count as changed next time. -/
def State.abandonPublish (s : State) : State :=
  let n := s.epoch
  let lost := s.net.txq.flatMap fun p => p.2.filter (staleItem n)
  if lost.isEmpty then s
  else
    let cells := lost.flatMap fun i => match i with
      | .exchange d => d.entries.map (·.1)
      | _ => []
    let txq := s.net.txq.map fun (p : Nat × List TxItem) => (p.1, p.2.filter fun i => !staleItem n i)
    { s with net := { s.net with txq := txq }, xch := { s.xch with unsent := cells } }.onCore
      (·.setFlag Reg.TICK_OVR_PUBLISH_ABANDON true)

/-- The measured scan and control time of the tick (R43): the longest of 1,024 ticks, and NEAR_LIMIT. -/
def State.scanTime (s : State) (us : Nat) : State :=
  let win := s.core.fget Reg.TICK_SCAN_WIN_WIN_US
  let scans := (us :: s.seq.scans).take 1024
  let near := if us * 10 > win * 9 then s.seq.near + 1 else 0
  let far := if us * 4 < win * 3 then s.seq.far + 1 else 0
  let s := { s with seq := { s.seq with scans := scans, near := near, far := far } }.onCore
    (·.fput Reg.TICK_SCAN_MAX_MAX_US (scans.foldl max 0))
  if near ≥ 64 && !s.core.flag Reg.TICK_STATUS_NEAR_LIMIT then
    (s.onCore (·.setFlag Reg.TICK_STATUS_NEAR_LIMIT true)).record 0x0105 0 (le s.epoch 8 ++ le us 4)
  else if far ≥ 1024 then s.onCore (·.setFlag Reg.TICK_STATUS_NEAR_LIMIT false)
  else s

/-- A holder's hold on a pin expires (R31): its transfer still reading the pin fails with EPOCH_GONE. -/
def State.expirePin (s : State) (who : ReqSrc) (epoch : Nat) : State :=
  if !s.holds who epoch then s
  else
    let s := s.unpinIf fun e h => e == epoch && h.who == who
    let d := (s.domainOf who).getD 0
    let source := match who with
      | .session _ => 0
      | .queue q => q.val
    let s := s.onCore (·.postEvent 3 source 0 epoch (· == d))
    match who with
    | .session _ => s
    | .queue q => match (s.queue q).cur with
      | some p =>
        if p.epoch = some epoch ∧ (p.answer.any fun a => p.sent < a.2.length) then
          s.putQueue q { s.queue q with cur := some { p with answer := some (.epochGone, []), sent := 0 } }
        else s
      | none => s

end Sys2Proof.Machine
end

