-- ==== Sys2Proof/Machine/Sessions.lean ====
section
/-! DEFINITION. Ends of things other units cause: sessions that close, transfers that abort, maintenance entered and left, and
the key slots' bitmaps (R264, R274, R387, R388, R396, R397). -/

namespace Sys2Proof.Machine

/-- Show the open sessions and their subscriptions (PS_STAT, R276). -/
def State.showSessions (s : State) : State :=
  s.onCore fun k => (k.fput Reg.PS_STAT_SESSIONS s.svc.sessions.length).fput Reg.PS_STAT_SUBS
    ((s.svc.sessions.map fun p => p.2.subs.length).sum)

/-- The open transfer ends without an image (R116, R274): a recoat that was loading leaves the idle bank empty. -/
def State.abortTransfer (s : State) : State :=
  match s.svc.transfer with
  | none => s
  | some t =>
    let s := { s with svc := { s.svc with transfer := none } }
    if t.kind = 2 ∧ s.core.fget Reg.RCT_STAT_STATE = 1 then s.onCore (·.fput Reg.RCT_STAT_STATE 0) else s

/-- Items of a session in a transmit queue. -/
def ofSession (n : Nat) : TxItem → Bool
  | .service i _ _ _ => i == n
  | .bulk i _ _ => i == n
  | _ => false

/-- A session closes (R31, R264, R270, R274): its holds, its held snapshots, its transfer and its sends go. -/
def State.closeSession (s : State) (n : Fin 32) : State :=
  if (s.svc.sessions.at? n).isNone then s
  else
    let s := s.unpinIf fun _ h => h.who == .session n
    let s := if s.svc.transfer.any (·.src == .session n) then s.abortTransfer else s
    let svc := { s.svc with sessions := s.svc.sessions.del n, held := s.svc.held.filter (·.r.src != .session n) }
    let txq := s.net.txq.map fun (p : Nat × List TxItem) => (p.1, p.2.filter fun i => !ofSession n i)
    ({ s with svc := svc, net := { s.net with txq := txq } }.onCore (·.emit (.sessionClosed n))).showSessions

/-- Every session closes. -/
def State.closeSessions (s : State) : State :=
  (List.finRange 32).foldl (fun (s : State) n => s.closeSession n) s

/-! ### Key slots (R387, R388) -/

/-- Put a key slot. -/
def State.putSlotKey (s : State) (i : Nat) (k : KeySlot) : State :=
  { s with sec := { s.sec with slots := s.sec.slots.put i k } }

/-- Zeroise a key slot (R391). Log entry 32 (DESIGN CHOICE, unsafe). -/
def State.clearSlot (s : State) (i : Nat) : State := { s with sec := { s.sec with slots := s.sec.slots.del i } }

/-- A slot's state in a 0x0C01 record: unusable, orphaned, or neither any more; the spec gives no coding. -/
def slotCode (bad orph : Bool) : Nat := Config.eventByte 0x0C01 (if bad then 1 else if orph then 2 else 0)

/-- One slot's bits, with a record where they change (R387). -/
def State.refreshSlot (s : State) (i : Nat) : State :=
  let bad := KeySlotBad (s.slot i)
  let orph := !bad && s.orphan i
  let was := (s.core.fget Reg.SEC_SLOT_BAD_SLOTS (i / 32)).testBit (i % 32)
  let waso := (s.core.fget Reg.SEC_SLOT_ORPH_SLOTS (i / 32)).testBit (i % 32)
  if bad = was ∧ orph = waso then s
  else (s.onCore fun k => (k.setBit Reg.SEC_SLOT_BAD_SLOTS (i % 32) bad (i / 32)).setBit Reg.SEC_SLOT_ORPH_SLOTS (i % 32) orph
    (i / 32)).record 0x0C01 0 (le i 2 ++ le (slotCode bad orph) 1)

/-- A port's CAK is usable: some active CAK slot that is (R289, R388). -/
def State.hasCak (s : State) : Bool := s.sec.slots.any fun p => p.2.active && p.2.alg == 5 && s.usable p.1

/-- Keys held outside the security core go when their slot stops being usable (R388): sessions under slot 9 close, and a port
without a CAK is no longer secured. -/
def State.dropKeys (s : State) (had9 hadCak : Bool) : State :=
  let s := if had9 && !s.usable 9 then s.closeSessions else s
  if hadCak && !s.hasCak then
    s.cfg.macsec.foldl (fun (s : State) p => s.onCore (·.setFlag Reg.MS_STAT_SECURED false p)) s
  else s

/-- A sealing operation. -/
def isSealing : KeyOp → Bool
  | .sealing .. => true
  | _ => false

/-- Every domain of a snapshot has its seal record. -/
def fullySealed (n : MeterSnap) : Bool := n.domains.all fun d => n.seals.any (·.1 == d)

/-- Show MET_SNAP_STAT (R192, R388): not ready from a TAKE until all its seal records exist, and while records wait for slot 8. -/
def State.showSnapshot (s : State) : State :=
  let waits := s.met.snapsDue.any (·.trigger == 4) || s.met.snaps.any fun n => n.trigger == 4 && !fullySealed n
  let stuck := s.sec.ops.any isSealing && !s.usable 8
  let taken := (s.met.snaps.filter fun n => n.trigger == 4 && fullySealed n).getLast?
  s.onCore fun k =>
    let k := k.setFlag Reg.MET_SNAP_STAT_NOT_READY (waits || stuck)
    match taken with
    | some n => if waits then k else k.fput Reg.MET_SNAP_STAT_NUMBER n.number
    | none => k

/-- Bring the bitmaps and counts up to date after a change of the slots, of TMP_GEN or of TMP_STAT.FULL (R387, R398). `had9`
and `hadCak` tell what was usable before. Log entry 32 (DESIGN CHOICE, unsafe). -/
def State.refreshSlots (s : State) (had9 hadCak : Bool) : State :=
  let s : State := (List.range 256).foldl (fun (s : State) i => s.refreshSlot i) s
  let s := s.onCore (·.fput Reg.SEC_SLOTS_USED_COUNT (s.sec.slots.filter (·.2.active)).length)
  let s : State := (List.range 5).foldl (fun (s : State) i => s.onCore (·.fput Reg.SEC_BROWN_GEN_GEN (s.slot (i + 1)).gen i)) s
  (s.dropKeys had9 hadCak).showSnapshot

/-- Change the slots and bring everything that shows them up to date. -/
def State.withSlots (s : State) (f : State → State) : State := (f s).refreshSlots (s.usable 9) s.hasCak

/-! ### Maintenance (R396, R397) -/

/-- A cause is outstanding (SEC_MAINT, R397). -/
def State.hasCause (s : State) (c : Nat) : Bool := (s.core.fget Reg.SEC_MAINT_CAUSES).testBit (c - 1)

/-- The lowest outstanding cause; 0 for none (R397). -/
def State.lowestCause (s : State) : Nat := ((List.range 5).map (· + 1)).find? s.hasCause |>.getD 0

/-- Everything the sequencer drives stops: no task, no loop, no sweep (R396). -/
def State.stopTicks (s : State) : State :=
  let s : State := (List.finRange 8).foldl (fun (s : State) (e : Fin 8) =>
    let st := s.core.fget Reg.TRW_STAT_STATE e
    s.dropCycle e (if st = 3 ∨ st = 4 then st else 0)) s
  let seq := { s.seq with inLeft := [], outLeft := [], base := none, waitFrom := none, inDone := false, outStarted := false,
                          swapped := false }
  { s with seq := seq, trw := { s.trw with stages := [], scanning := false }, flt := { s.flt with stages := [] } }.onCore
    fun k => (k.setFlag Reg.TICK_STATUS_RUNNING false).fput Reg.TICK_STATUS_PHASE 0

/-- A maintenance cause arises (R396, R397). -/
def State.enterMaintenance (s : State) (c : Nat) : State :=
  let s := s.onCore (·.setBit Reg.SEC_MAINT_CAUSES (c - 1) true)
  let s := if s.core.state = 3 then s else s.stopTicks
  s.onCore (·.setState 3 s.lowestCause)

/-- A maintenance cause ends (R397): with none left, start-up runs on from step 6 of R380, without a reset. -/
def State.endCause (s : State) (c : Nat) : State :=
  if !s.hasCause c then s
  else
    let s := s.onCore (·.setBit Reg.SEC_MAINT_CAUSES (c - 1) false)
    if s.core.state != 3 then s
    else if s.core.fget Reg.SEC_MAINT_CAUSES = 0 then
      { s.onCore (·.setState 0 0) with plat := { s.plat with step := some 8 } }
    else s.onCore (·.setState 3 s.lowestCause)

end Sys2Proof.Machine
end

