-- ==== Sys2Proof/Machine/Security.lean ====
section
/-! DEFINITION. The security commands (R382, R383, R391 to R393, R397, R410, R411): checks and effects, and their meanings. -/

namespace Sys2Proof.Machine

/-! ### The owner keys (R374, R376) -/

/-- Index of the current owner key: the highest written and not revoked (R376). -/
def State.ownerIndex (s : State) : Option Nat :=
  ((List.range s.sec.otp.ownerHash.length).reverse).find? fun i => !s.sec.otp.ownerRevoked.contains i

/-- A bitmap of the numbers below `n` that a test picks. -/
def bitmap (n : Nat) (f : Nat → Bool) : Nat := ((List.range n).map fun i => if f i then 2 ^ i else 0).sum

/-- Show the OTP fields (SEC_SVN, SEC_OWNER, R398). -/
def State.showOtp (s : State) : State :=
  let o := s.sec.otp
  s.onCore fun k =>
    let k := ((k.fput Reg.SEC_SVN_BL (svnValue o.svnBl)).fput Reg.SEC_SVN_FW (svnValue o.svnFw)).fput Reg.SEC_SVN_CFG
      (svnValue o.svnCfg)
    let k := (k.setFlag Reg.SEC_OWNER_CLAIMED (!o.ownerHash.isEmpty)).fput Reg.SEC_OWNER_REVOKED
      (bitmap 4 o.ownerRevoked.contains)
    (k.fput Reg.SEC_OWNER_FW_REVOKED (bitmap 4 fun i => o.fwRevoked.any (·.val == i))).fput Reg.SEC_OWNER_CURRENT
      (s.ownerIndex.getD 0)

/-- Change the OTP fields. -/
def State.withOtp (s : State) (f : Otp → Otp) : State := { s with sec := { s.sec with otp := f s.sec.otp } }.showOtp

/-! ### What the commands share (R269, R391) -/

/-- What stands in a 0x0C03 record's slot field when the command names none: the spec does not say. Log entry 32 (DESIGN
CHOICE, unsafe). -/
def noSlot : Nat := Config.eventByte 0x0C03 0

/-- Event record of a security command (R391, R412). Log entry 8 (DESIGN CHOICE, safe). -/
def State.securityRecord (s : State) (code result slot : Nat) : State :=
  s.record 0x0C03 0 (le code 1 ++ le result 1 ++ le slot 2)

/-- The checks every signed security command begins with (R269, R391). -/
def State.signedCheck (s : State) (code : Nat) (sg : Signed) : Option (Status × Cause) :=
  if sg.serial ≠ s.sec.otp.serial then some (.refused, .wrongUnit)
  else if !sg.sigValid then some (.signature, .none)
  else if !s.epochOk code sg.epoch then some (.staleEpoch, .none)
  else none

/-- The result byte of a refused command: the low byte of its cause (R268); without a cause the spec gives no coding. -/
def resultByte : Status × Cause → Nat
  | (st, .none) => Config.eventByte 0x0C03 st.code
  | (_, c) => c.code

/-- A signed security command: its own check after the common ones, its effect, and a record either way. -/
def signedDoing (code : Nat) (sg : Signed) (slot : Nat) (check : State → Option (Status × Cause)) (apply : State → State) :
    Doing :=
  let all (s : State) : Option (Status × Cause) := match s.signedCheck code sg with
    | some x => some x
    | none => check s
  { check := all
    refuse := fun s => (s.onCore (·.bump Reg.SEC_REFUSED_COUNT)).securityRecord code (((all s).map resultByte).getD 0) slot
    apply := fun s => (apply ((s.epochTaken code sg.epoch).onCore (·.opDone))).securityRecord code 0 slot }

/-- Why a slot's key cannot be used, if it cannot (R387, R394). -/
def State.keyCause (s : State) (i : Nat) : Option Cause :=
  let k := s.slot i
  if KeySlotBad k then some .unusable
  else if !k.active then some .noKey
  else if s.orphan i then some .orphaned
  else none

/-- A refusal for a cause, where there is one. -/
def refusedFor : Option Cause → Option (Status × Cause)
  | some c => some (.refused, c)
  | none => none

/-! ### The commands of R391 -/

/-- Claim (0x10): an unclaimed module takes OWNER_HASH[0], the hash of the owner's public key (R376). Log entry 31 (DESIGN
CHOICE, unsafe). -/
def doClaim (serial : Nat) (owner : List Byte) : Doing :=
  let check (s : State) : Option (Status × Cause) :=
    if serial ≠ s.sec.otp.serial then some (.refused, .wrongUnit)
    else if !s.unclaimed then some (.refused, .ownerFull)
    else none
  { check := check
    refuse := fun s => (s.onCore (·.bump Reg.SEC_REFUSED_COUNT)).securityRecord 0x10 (((check s).map resultByte).getD 0) noSlot
    apply := fun s => (s.withOtp fun o => { o with ownerHash := [Config.sha384 owner] }).securityRecord 0x10 0 noSlot }

/-- Owner transfer (0x11). Log entry 31 (DESIGN CHOICE, unsafe). -/
def doOwnerTransfer (sg : Signed) (owner : List Byte) : Doing :=
  signedDoing 0x11 sg noSlot
    (fun s => if s.sec.otp.ownerHash.length ≥ 4 then some (.refused, .ownerFull) else none)
    (fun s => s.withOtp fun o =>
      { o with ownerHash := o.ownerHash ++ [Config.sha384 owner], ownerRevoked := o.ownerRevoked ++ s.ownerIndex.toList })

/-- Key import (0x12, R392). Log entry 31 (DESIGN CHOICE, unsafe). -/
def doKeyImport (sg : Signed) (slot alg parent use tag : Nat) (key : WrappedKey) (unwraps : Bool) : Doing :=
  signedDoing 0x12 sg slot
    (fun s =>
      if !(10 ≤ slot && slot ≤ 255 && 1 ≤ parent && parent ≤ 5 && 1 ≤ alg && alg ≤ 5) then some (.refused, .purpose)
      else match s.keyCause 6, s.keyCause parent with
        | some c, _ => some (.refused, c)
        | none, some c => some (.refused, c)
        | none, none => if unwraps then none else some (.refused, .unwrap))
    (fun s => s.withSlots fun s => s.putSlotKey slot
      { active := true, coat := 3, purpose := parent - 1, alg := alg, parent := parent, use := use
        gen := (s.slot slot).gen + 1, parentGen := (s.slot parent).gen, tag := tag, imported := true
        material := s.importMaterial sg.epoch slot alg parent key.ephemeral key.wrapped } |>.onCore (·.opDone))

/-- Key destroy (0x13). -/
def doKeyDestroy (sg : Signed) (slot : Nat) : Doing :=
  signedDoing 0x13 sg slot
    (fun _ => if slot ≤ 9 then some (.refused, .purpose) else if slot > 255 then some (.badRequest, .none) else none)
    (fun s => s.withSlots fun s => (s.clearSlot slot).onCore (·.opDone))

/-- Fixed finish slots of a brown slot (R384). -/
def fixedSlots (brown : Nat) : List Nat :=
  match brown with
  | 1 => [6, 7] | 3 => [9] | 4 => [8] | _ => []

/-- Parent, ALG and USE of a fixed finish slot (R384, R386). -/
def fixedShape (i : Nat) : Nat × Nat × Nat :=
  match i with
  | 6 => (1, 4, 8) | 7 => (1, 2, 4) | 8 => (4, 3, 1) | _ => (3, 3, 1)

/-- Derive a fixed finish slot at the GEN held + 1 under its parent's present GEN (R385, R393). -/
def State.deriveFixed (s : State) (i : Nat) : State :=
  let f := fixedShape i
  s.putSlotKey i { active := true, coat := 3, purpose := f.1 - 1, alg := f.2.1, parent := f.1, use := f.2.2
                   gen := (s.slot i).gen + 1, parentGen := (s.slot f.1).gen }

/-- Derive a brown slot at the GEN held + 1 under the scratch coat's present GEN (R384, R385). -/
def State.deriveBrown (s : State) (i : Nat) : State :=
  s.putSlotKey i { active := true, coat := 2, purpose := i - 1, alg := 1, parent := 0, use := 16
                   gen := (s.slot i).gen + 1, parentGen := (s.slot 0).gen }

/-- Derive the scratch coat at the present TMP_GEN (R384, R385). -/
def State.deriveScratch (s : State) : State :=
  s.putSlotKey 0 { active := true, coat := 1, purpose := 0xFF, alg := 1, parent := 0xFFFF, use := 16
                   gen := s.core.fget Reg.TMP_GEN_GEN }

/-- Coat renew (0x14, R387). Log entry 31 (DESIGN CHOICE, unsafe). -/
def doCoatRenew (sg : Signed) (brown : Nat) : Doing :=
  signedDoing 0x14 sg brown
    (fun s =>
      if !(1 ≤ brown && brown ≤ 5) then some (.refused, .purpose)
      else match s.keyCause 0, s.keyCause brown with
        | some c, _ => some (.refused, c)
        | none, some .orphaned => none
        | none, c => refusedFor c)
    (fun s => s.withSlots fun s => (fixedSlots brown).foldl (fun (s : State) i => s.deriveFixed i) (s.deriveBrown brown))

/-- Exchange key roll (0x15, R253): a slot of that generation that holds no exchange key does not fit. -/
def doExchangeKeyRoll (sg : Signed) (keyGen swap : Nat) : Doing :=
  signedDoing 0x15 sg noSlot
    (fun s => match s.exchangeSlot keyGen with
      | none => some (.refused, if s.sec.slots.any fun p => p.2.active && p.2.coat == 3 && p.2.parent == 2 && p.2.tag == keyGen
          then .purpose else .noKey)
      | some i => refusedFor (s.keyCause i))
    (fun s => { s with xch := { s.xch with keySwitch := some (keyGen, swap) } })

/-- Tamper clear (0x16, R365). Log entry 31 (DESIGN CHOICE, unsafe). -/
def doTamperClear (sg : Signed) (timeSec gen : Word) : Doing :=
  signedDoing 0x16 sg noSlot
    (fun s =>
      if s.core.fget Reg.TMP_TIME_SEC_SEC = timeSec.toNat ∧ s.core.fget Reg.TMP_GEN_GEN = gen.toNat then none
      else some (.refused, .fullSet))
    (fun s => s.withSlots fun s => s.onCore fun k =>
      let k := (k.setFlag Reg.TMP_STAT_FULL false).setFlag Reg.TMP_STAT_SUPPLY false
      let k := (k.setFlag Reg.TMP_STAT_MESH false).fput Reg.TMP_STAT_INPUTS 0
      ((k.fput Reg.TMP_TIME_SEC_SEC 0).fput Reg.TMP_TIME_SUB_FRAC 0).fput Reg.TMP_TIME_SUB_ERA 0)

/-- Imported slots (R386). -/
def State.importedSlots (s : State) : List Nat := (s.sec.slots.filter fun p => p.2.imported).map (·.1)

/-- Records that list the slots a recommission has emptied, as many in each as its payload holds (R393). Log entry 32 (DESIGN
CHOICE, unsafe). -/
def State.listSlots (s : State) (xs : List Nat) : State :=
  (pieces 14 256 xs).foldl (fun (s : State) p => s.record 0x0C03 0 (le 0x17 1 ++ le 0 1 ++ p.flatMap fun i => le i 2)) s

/-- Recommission (0x17, R393). -/
def doRecommission (sg : Signed) : Doing :=
  signedDoing 0x17 sg noSlot
    (fun s => if s.core.flag Reg.TMP_STAT_FULL then some (.refused, .fullSet) else none)
    (fun s =>
      let gone := s.importedSlots
      (s.withSlots fun s =>
        let s := s.deriveScratch
        let s : State := [1, 2, 3, 4, 5].foldl (fun (s : State) i => s.deriveBrown i) s
        let s : State := [6, 7, 8, 9].foldl (fun (s : State) i => s.deriveFixed i) s
        gone.foldl (fun (s : State) i => s.clearSlot i) s).listSlots gone)

/-- The module has come to GLB_STATE.STATE 1 since start-up (R382, R383). -/
def State.cameUp (s : State) : Bool := s.seq.started && s.core.state != 3

/-- Firmware commit (0x18, R382): of the TRIAL slot that runs. Log entry 31 (DESIGN CHOICE, unsafe). -/
def doFirmwareCommit (sg : Signed) (slot : Nat) : Doing :=
  signedDoing 0x18 sg slot
    (fun s =>
      if s.core.flag Reg.SEC_BOOT_TRIAL && s.core.fget Reg.SEC_BOOT_FW_SLOT == slot && s.sec.trial.any (·.1 == slot) &&
        s.cameUp then none
      else some (.badRequest, .none))
    (fun s =>
      let s := match s.sec.fw.getD slot none with
        | none => s
        | some w => s.withOtp fun o =>
          let a := w.stage1.header
          let b := w.firmware.header
          let revoked := (List.finRange 4).filter fun i =>
            o.fwRevoked.contains i || (a.revoke && decide (i < a.keyIndex)) || (b.revoke && decide (i < b.keyIndex))
          { o with svnBl := if a.advance then burnTo o.svnBl a.svn else o.svnBl
                   svnFw := if b.advance then burnTo o.svnFw b.svn else o.svnFw
                   fwRevoked := revoked }
      { s with sec := { s.sec with fwPref := slot, trial := none } }.onCore (·.setFlag Reg.SEC_BOOT_TRIAL false))

/-- Configuration commit (0x19, R383): of the image that runs. Log entry 31 (DESIGN CHOICE, unsafe). -/
def doConfigurationCommit (sg : Signed) (seq : Nat) : Doing :=
  signedDoing 0x19 sg noSlot
    (fun s => if s.sec.runSeq = seq ∧ s.cameUp then none else some (.badRequest, .none))
    (fun s => if s.sec.runAdvance then s.withOtp fun o => { o with svnCfg := burnTo o.svnCfg s.sec.runSvn } else s)

/-! ### Recorder clear (R410, R411) -/

/-- Clear records that wait in the FIFO. -/
def State.clearsWaiting (s : State) : List Rec := s.core.evr.fifo.filter (·.code == 0x0D01)

/-- The clear record's payload (R411). -/
def State.clearPayload (s : State) (cause upto hash : Nat) : List Byte :=
  let f0 := ((s.clearsWaiting.getLast?).map (·.seq)).getD s.core.evr.f0
  le cause 1 ++ le f0 8 ++ le upto 8 ++ (le hash 8).reverse ++ le (s.core.evr.clears + s.clearsWaiting.length + 1) 4

/-- The first 8 bytes of the hash of the current owner's public key, as a number. Log entry 32 (DESIGN CHOICE, unsafe). -/
def State.ownerKeyHead (s : State) : Nat := ((s.ownerIndex.bind fun i => s.sec.otp.ownerHash[i]?).getD 0) / 2 ^ 320

/-- Recorder clear (0x0E, R410): admitted as the clear record, which takes effect when it is written. Log entry 30 (DEDUCED,
unsafe). -/
def doRecorderClear (sg : Signed) (upto : Nat) : Doing :=
  { check := fun s => match s.signedCheck 0x0E sg with
      | some x => some x
      | none =>
        if s.core.evr.next > upto then some (.refused, .unread)
        else if !s.core.evr.scanned || !s.core.evrRoom 0x0D01 then some (.busy, .none)
        else none
    refuse := fun s => s.onCore (·.bump Reg.SEC_REFUSED_COUNT)
    apply := fun s => ((s.epochTaken 0x0E sg.epoch).onCore (·.opDone)).record 0x0D01 0 (s.clearPayload 2 upto s.ownerKeyHead) }

/-! ### Maintenance (R397) -/

/-- Maintenance, enter (0x0F with 1). -/
def doMaintenanceEnter : Doing := { check := fun _ => none, apply := fun s => s.enterMaintenance 5 }

/-- Maintenance, leave (0x0F with 0): cause 0x05, and cause 0x02 once the tamper is cleared and the keys are made again. -/
def doMaintenanceLeave : Doing :=
  { check := fun _ => none
    apply := fun s =>
      let s := s.endCause 5
      if !s.core.flag Reg.TMP_STAT_FULL && s.usable 0 then s.endCause 2 else s }

/-! ### Meanings -/

/-- What a security command may change. -/
def State.upSec (s t : State) : State :=
  { s with core := s.core.after t.core, img := t.img, seq := t.seq, trw := t.trw, flt := t.flt, svc := t.svc, hq := t.hq, net := t.net
           pair := t.pair, xch := t.xch, sec := t.sec, plat := runPlat s.plat t.plat }

/-- Served in maintenance (R396). -/
def maintGate : Gate := { maint := true }

/-- Served in maintenance and by a standby that it names (R391, R396). -/
def unitGate : Gate := { maint := true, unit := true }

/-- RECORDER_CLEAR (R410). -/
def execRecorderClear (r : Req) (sg : Signed) (upto : Nat) (s : State) : Answer :=
  .next <| s.upSec <| s.command r unitGate none (doRecorderClear sg upto)

/-- MAINTENANCE_ENTER (R397). -/
def execMaintenanceEnter (r : Req) (s : State) : Answer :=
  .next <| s.upSec <| s.command r maintGate none doMaintenanceEnter

/-- MAINTENANCE_LEAVE (R397). -/
def execMaintenanceLeave (r : Req) (s : State) : Answer :=
  .next <| s.upSec <| s.command r maintGate none doMaintenanceLeave

/-- CLAIM (R391, R396). -/
def execClaim (r : Req) (serial : Nat) (owner : List Byte) (s : State) : Answer :=
  .next <| s.upSec <| s.command r { unitGate with unclaimed := true } none (doClaim serial owner)

/-- OWNER_TRANSFER (R391). -/
def execOwnerTransfer (r : Req) (sg : Signed) (owner : List Byte) (s : State) : Answer :=
  .next <| s.upSec <| s.command r unitGate none (doOwnerTransfer sg owner)

/-- KEY_IMPORT (R392). -/
def execKeyImport (r : Req) (sg : Signed) (slot alg parent use tag : Nat) (key : WrappedKey) (unwraps : Bool) (s : State) : Answer :=
  .next <| s.upSec <| s.command r unitGate none (doKeyImport sg slot alg parent use tag key unwraps)

/-- KEY_DESTROY (R391). -/
def execKeyDestroy (r : Req) (sg : Signed) (slot : Nat) (s : State) : Answer :=
  .next <| s.upSec <| s.command r unitGate none (doKeyDestroy sg slot)

/-- COAT_RENEW (R391). -/
def execCoatRenew (r : Req) (sg : Signed) (brown : Nat) (s : State) : Answer :=
  .next <| s.upSec <| s.command r unitGate none (doCoatRenew sg brown)

/-- EXCHANGE_KEY_ROLL (R391). -/
def execExchangeKeyRoll (r : Req) (sg : Signed) (keyGen swap : Nat) (s : State) : Answer :=
  .next <| s.upSec <| s.command r unitGate none (doExchangeKeyRoll sg keyGen swap)

/-- TAMPER_CLEAR (R391). -/
def execTamperClear (r : Req) (sg : Signed) (timeSec gen : Word) (s : State) : Answer :=
  .next <| s.upSec <| s.command r unitGate none (doTamperClear sg timeSec gen)

/-- RECOMMISSION (R393). -/
def execRecommission (r : Req) (sg : Signed) (s : State) : Answer :=
  .next <| s.upSec <| s.command r unitGate none (doRecommission sg)

/-- FIRMWARE_COMMIT (R382). -/
def execFirmwareCommit (r : Req) (sg : Signed) (slot : Nat) (s : State) : Answer :=
  .next <| s.upSec <| s.command r unitGate none (doFirmwareCommit sg slot)

/-- CONFIGURATION_COMMIT (R383). -/
def execConfigurationCommit (r : Req) (sg : Signed) (seq : Nat) (s : State) : Answer :=
  .next <| s.upSec <| s.command r unitGate none (doConfigurationCommit sg seq)

end Sys2Proof.Machine
end

