-- ==== Sys2Proof/Machine/KeyOps.lean ====
section
/-! DEFINITION. Key operations and the images: seal records, attestation, challenges, tamper aborts, image transfers and what
their verification leads to (R190, R192, R274, R378 to R382, R389, R390, R394, R395). -/

namespace Sys2Proof.Machine

/-! ### Seals (R190, R192) -/

/-- Make one seal record (R190). -/
def State.makeSeal (s : State) (number d : Nat) : State :=
  let snaps := s.met.snaps.map fun n => if n.number = number then { n with seals := n.seals ++ [(d, s.sealRecord n d)] } else n
  let s := { s with met := { s.met with snaps := snaps } }.showSnapshot
  match s.met.snaps.find? (·.number == number) with
  | some n => if fullySealed n then s.onCore (·.postEvent 5 0 0 number fun c => c == 0 || n.domains.contains c) else s
  | none => s

/-! ### Attestation and challenge (R394, R395) -/

/-- SHA-384 of a byte string as 48 bytes. -/
def hash48 (xs : List Byte) : List Byte := (le (Config.sha384 xs) 48).reverse

/-- Hash of an image that stands in a slot; zeros where none does. -/
def imageHash48 (f : Option ImageFile) : List Byte := fixLen 48 ((f.map Config.imageHash).getD [])

/-- The running bank's code and constant pool as bytes (R395). -/
def bankBytes (p : Program) : List Byte :=
  (List.range 0x40000).flatMap (fun a => le (p.code.atD a 0).toNat 4) ++
    (List.range 0x4000).flatMap fun a => le (p.consts.atD a 0).toNat 4

/-- A public-key field: zeros where its slot is not usable (R395). -/
def State.publicField (s : State) (i : Nat) : List Byte :=
  if s.usable i then fixLen 96 (Config.publicKey (s.keyScalar i)) else List.replicate 96 0

/-- Byte 73 of the report. -/
def State.tamperByte (s : State) : Nat :=
  let b (r : Row) (i : Nat) : Nat := if s.core.flag r then 2 ^ i else 0
  b Reg.TMP_STAT_FULL 0 + b Reg.TMP_STAT_SUPPLY 1 + b Reg.TMP_STAT_MESH 2 + s.core.fget Reg.TMP_STAT_INPUTS % 16 * 8 +
    b Reg.CAL_STATUS_OSF 7

/-- Bytes 0 to 651 of the attestation report (R395). -/
def State.reportBody (s : State) (nonce : List Byte) : List Byte :=
  let k := s.core
  let valid := k.flag Reg.GLB_UNIT_VALID
  let fw := s.sec.fw.getD (k.fget Reg.SEC_BOOT_FW_SLOT) none
  let cfg := s.sec.cfg.getD (k.fget Reg.SEC_BOOT_CFG_SLOT) none
  let slots := (List.range 256).flatMap fun i => if s.usable i then le i 2 ++ slotHead (s.slot i) else []
  le 0x54535441 4 ++ le 1 2 ++ le 0x02EC 2 ++ fixLen 48 nonce ++ le s.sec.otp.serial 8 ++ le (k.fget Reg.GLB_ESTATE_ESTATE_ID) 4 ++
    le (if valid then k.fget Reg.GLB_UNIT_POSITION else 0xFFFF) 2 ++ le (k.fget Reg.GLB_UNIT_ROLE) 1 ++ le k.state 1 ++
    le (k.fget Reg.GLB_STATE_MAINT_CAUSE) 1 ++ le s.tamperByte 1 ++ le (svnValue s.sec.otp.svnBl) 1 ++ le (svnValue s.sec.otp.svnFw) 1 ++
    le (svnValue s.sec.otp.svnCfg) 1 ++ le ((if s.unclaimed then 0 else 128) + s.ownerIndex.getD 0) 1 ++ le 0 2 ++
    le (k.fget Reg.TMP_GEN_GEN) 4 ++ le 0 4 ++ le s.epoch 8 ++ le (s.ntNs / 1000000000).toNat 8 ++
    imageHash48 (fw.map (·.stage1)) ++ imageHash48 (fw.map (·.firmware)) ++ imageHash48 (if valid then cfg else none) ++
    hash48 (bankBytes s.trw.bank) ++ hash48 slots ++ [1, 2, 3, 4, 5].flatMap (fun i => le (s.slot i).gen 4) ++
    s.publicField 6 ++ s.publicField 8 ++ s.publicField 9

/-- The body of an ATTEST response (R395). -/
def State.attestation (s : State) (nonce : List Byte) : List Byte :=
  let b := s.reportBody nonce
  let chain := Config.identityChain.take 2048
  b ++ fixLen 96 (Config.ecdsaSign s.identityScalar b) ++ le chain.length 2 ++ chain

/-- The challenge secret of a domain (R394). -/
def State.challengeSlot (s : State) (d : Nat) : Option Nat :=
  (s.sec.slots.find? fun p => p.2.active && p.2.coat == 3 && p.2.parent == 5 && p.2.tag == d && p.2.alg == 1).map (·.1)

/-- Why a CHALLENGE of a domain is refused, if it is (R394). Log entry 33 (DEDUCED, unsafe). -/
def State.challengeCause (s : State) (d : Nat) : Option Cause :=
  match s.challengeSlot d with
  | none => some .noKey
  | some i => s.keyCause i

/-- The body of a CHALLENGE response (R394). -/
def State.challengeBody (s : State) (d : Nat) (bytes : List Byte) : List Byte :=
  let head := le s.sec.otp.serial 8 ++ le (s.core.fget Reg.GLB_ESTATE_ESTATE_ID) 4 ++
    le (s.core.fget Reg.GLB_UNIT_POSITION) 2 ++ le d 2 ++ le s.epoch 8
  let i := (s.challengeSlot d).getD 0
  head ++ fixLen 48 (Config.hmac384 (s.finishKey i) ([0x43, 0x52, 1, 0] ++ bytes ++ head))

/-- Refuse a key operation's request. -/
def State.refuseOp (s : State) (r : Req) (c : Cause) : State :=
  (s.onCore (·.bump Reg.SEC_REFUSED_COUNT)).answer r .refused (causeBody c)

/-! ### One operation at a time (R389, R390) -/

/-- The operation in progress: a seal record while slot 8 is usable, else the first of the others (R389). Log entry 33
(DEDUCED, unsafe). -/
def State.opNow (s : State) : Option KeyOp :=
  match (if s.usable 8 then s.sec.ops.find? isSealing else none) with
  | some o => some o
  | none => s.sec.ops.find? fun o => !isSealing o

/-- Take an operation off the queue. -/
def State.dropOp (s : State) (o : KeyOp) : State := { s with sec := { s.sec with ops := s.sec.ops.erase o } }

/-- Complete the operation in progress under R387. Log entry 33 (DEDUCED, unsafe). -/
def State.finishOp (s : State) : State :=
  match s.opNow with
  | none => s
  | some o =>
    let s := s.dropOp o
    match o with
    | .sealing n d => (s.onCore (·.opDone)).makeSeal n d
    | .attest r nonce => (s.onCore (·.opDone)).answer r .ok (s.attestation nonce)
    | .challenge r bytes =>
      let d := (s.domainOf r.src).getD 0
      match s.challengeCause d with
      | some c => s.refuseOp r c
      | none => (s.onCore (·.opDone)).answer r .ok (s.challengeBody d bytes)

/-- The backup domain signals a full tamper (R390): the operation in progress, which is an image's verification where nothing
else is queued, is aborted with TAMPERED; a seal record waits to be made again. Log entry 33 (DEDUCED, unsafe). -/
def State.tamperSignal (s : State) : State :=
  match s.opNow with
  | none => match s.svc.transfer.bind (·.ended) with
    | some r => ((s.onCore fun k => (k.bump Reg.SEC_TAMPER_ABORTS_COUNT).bump Reg.SEC_REFUSED_COUNT).abortTransfer).answerKept r
      .refused (causeBody .tampered)
    | none => s
  | some o =>
    let s := s.onCore (·.bump Reg.SEC_TAMPER_ABORTS_COUNT)
    match o with
    | .sealing .. => s
    | .attest r _ => (s.dropOp o).refuseOp r .tampered
    | .challenge r _ => (s.dropOp o).refuseOp r .tampered

/-! ### Image transfers (R274, R379) -/

/-- Image requests: domain 0, in maintenance too, remembered. -/
def imageGate : Gate := { maint := true, kept := true, rom := true, type := 0x90 }

/-- Serve an image request of domain 0. -/
def State.image (s : State) (r : Req) (f : State → State) : State :=
  s.serve r imageGate fun d s => if d != 0 then s.answerKept r .domain [] else f s

/-- A recoat image begins to arrive: the idle bank is given up (R116). -/
def State.beginRecoat (s : State) : State :=
  { s with trw := { s.trw with idle := none }, cmd := { s.cmd with recoat := none, partnerVerified := false } }.onCore
    fun k => (k.fput Reg.RCT_STAT_STATE 1).setFlag Reg.RCT_STAT_IDLE_VALID false

/-- BEGIN (R116, R274). -/
def State.beginImage (s : State) (r : Req) (kind total : Nat) : State :=
  if !(1 ≤ kind && kind ≤ 3) || (s.core.fget Reg.SEC_BOOT_STAGE == 3 && kind != 3) then s.answerKept r .badRequest []
  else if s.svc.transfer.isSome then s.answerKept r .busy []
  else if kind = 2 ∧ s.armed then s.answerKept r .recoatArmed []
  else
    let s := { s with svc := { s.svc with transfer := some { src := r.src, kind := kind, total := total } } }
    let s := if kind = 2 then s.beginRecoat else s
    s.answerKept r .ok []

/-- The requester's own transfer, still open for data. -/
def State.ownTransfer (s : State) (r : Req) : Option Transfer :=
  match s.svc.transfer with
  | some t => if t.src = r.src ∧ t.ended.isNone then some t else none
  | none => none

/-- A CHUNK is in order (R274). -/
def chunkOk (t : Transfer) (offset length : Nat) : Bool :=
  decide (offset = t.received ∧ 1 ≤ length ∧ length ≤ 65536 ∧ offset + length ≤ t.total)

/-- A CHUNK is taken (R274). -/
def State.takeChunk (s : State) (r : Req) (offset length : Nat) : State :=
  match s.ownTransfer r with
  | some t =>
    if chunkOk t offset length then
      { s with svc := { s.svc with transfer := some { t with received := offset + length } } }.answerKept r .ok []
    else s.answerKept r .badRequest []
  | none => s.answerKept r .badRequest []

/-- CHUNK (R274): one of a recoat image passes to a standby in step by COMMAND, and is taken when that acknowledges it (R232,
R244). -/
def State.chunkImage (s : State) (r : Req) (offset length : Nat) : State :=
  match s.ownTransfer r with
  | some t =>
    if t.kind = 2 && s.inStep && !s.standby && chunkOk t offset length then s.passCommand r (.chunk t.total offset length) s.epoch
    else s.takeChunk r offset length
  | none => s.answerKept r .badRequest []

/-- Replacement blocks of the flash (R475). -/
def spareBlocks : Nat := 1280

/-- A block of the flash is retired (R476, R484): recorded, SPARE one less, and WEAR_WARN once fewer than 128 are left. -/
def State.retireBlock (s : State) (block : Nat) : State :=
  let n := s.bg.retired + 1
  let s := { s with bg := { s.bg with retired := n } }.onCore fun k =>
    let k := k.fput Reg.FLASH_STAT_SPARE (spareBlocks - n)
    if spareBlocks - n < 128 then k.setFlag Reg.FLASH_STAT_WEAR_WARN true else k
  s.record 0x1001 0 (le 4 1 ++ le block 8)

/-- Blocks are retired (R476). -/
def State.retireBlocks (s : State) (blocks : List Nat) : State := blocks.foldl (fun (s : State) b => s.retireBlock b) s

/-- A write of the flash: the blocks whose erase or program fails in it, which are free, are retired (R476). Log entry 6
(DESIGN CHOICE, safe). -/
def State.retireFailed (s : State) : State :=
  ({ s with core := { s.core with fresh := s.core.fresh + 1 } }).retireBlocks (Config.failedBlocks s.core.fresh)

/-- END (R274): answered when the image has been verified; writing it into its flash slot may retire blocks (R476). -/
def State.endImage (s : State) (r : Req) : State :=
  match s.ownTransfer r with
  | some t =>
    if t.received = t.total then
      let s := { s with svc := { s.svc with transfer := some { t with ended := some r } } }
      if t.kind = 2 then s else s.retireFailed
    else s.answerKept r .badRequest []
  | none => s.answerKept r .badRequest []

/-- ABORT (R274). Log entry 34 (DESIGN CHOICE, unsafe). -/
def State.abortImage (s : State) (r : Req) : State :=
  match s.ownTransfer r with
  | some _ => s.abortTransfer.answerKept r .ok []
  | none => s.answerKept r .badRequest []

/-! ### Verification (R378 to R381) -/

/-- Record a verification and show its result (R398, R412). -/
def State.noteVerify (s : State) (kind code : Nat) (h : Header) : State :=
  (s.onCore fun k => (k.fput Reg.SEC_IMG_RESULT_RESULT code).opDone).record 0x0C02 0 (le kind 1 ++ le code 1 ++ le h.seq 8 ++ le h.svn 1)

/-- SEQ of a configuration slot; an empty one counts lowest. -/
def cfgSeq (x : Option ImageFile) : Int :=
  match x with
  | some f => f.header.seq
  | none => -1

/-- A configuration image is accepted (R379, R397): it takes the slot with the lower SEQ. Log entry 34 (DESIGN CHOICE,
unsafe). -/
def State.acceptConfig (s : State) (f : ImageFile) : State :=
  let i := if cfgSeq (s.sec.cfg.getD 0 none) ≤ cfgSeq (s.sec.cfg.getD 1 none) then 0 else 1
  ({ s with sec := { s.sec with cfg := s.sec.cfg.set i (some f), seqMax := max s.sec.seqMax f.header.seq } }).endCause 4

/-- A recoat image is accepted (R114, R116): it is loaded into the idle bank. -/
def State.acceptRecoat (s : State) (f : ImageFile) : State :=
  match f.body with
  | .recoat r =>
    let trw := { s.trw with idle := some (s.recoatBank r) }
    let sec := { s.sec with seqMax := max s.sec.seqMax f.header.seq }
    ({ s with trw := trw, sec := sec, cmd := { s.cmd with recoat := some r } }.onCore fun k =>
      (k.fput Reg.RCT_STAT_STATE 2).setFlag Reg.RCT_STAT_IDLE_VALID true).checkPartner
  | _ => s

/-- A recoat image fails (R116, R378). -/
def State.rejectRecoat (s : State) (f : ImageFile) (code : Nat) : State :=
  { s with trw := { s.trw with idle := none } }.onCore fun k =>
    ((k.fput Reg.RCT_STAT_STATE 0).fput Reg.RCT_STAT_RESULT (s.recoatResult f code)).setFlag Reg.RCT_STAT_IDLE_VALID false

/-- Tell the partner what this unit has verified (R117, R229). -/
def State.reportStatic (s : State) : State := s.sendFrame (.role (.static s.staticId))

/-- Verify a received recoat image and load it or reject it. -/
def State.verifyRecoat (s : State) (received : Nat) (f : ImageFile) : Nat × State :=
  let code := s.verify 4 received none f
  let s := s.noteVerify 4 code f.header
  (code, if code = 0 then (s.acceptRecoat f).reportStatic else s.rejectRecoat f code)

/-- Bytes of the first image of a bundle with its padding (R379). -/
def padded (len : Nat) : Nat := (512 + len + 511) / 512 * 512

/-- Verify a received firmware bundle and store it (R379, R381): the boot ROM in recovery takes slot A and starts again. Log
entry 34 (DESIGN CHOICE, unsafe). -/
def State.verifyBundle (s : State) (total : Nat) (a b : ImageFile) : Nat × State :=
  let first := padded a.header.bodyLength
  let fits := first + 512 ≤ total
  let ca := s.verify 1 (if fits then a.header.bodyLength else a.header.bodyLength + 1) none a
  let cb := s.verify 2 (if fits then total - first - 512 else b.header.bodyLength + 1) none b
  let s := (s.noteVerify 1 ca a.header).noteVerify 2 cb b.header
  let code := if ca ≠ 0 then ca else cb
  if code ≠ 0 then (code, s)
  else if s.core.fget Reg.SEC_BOOT_STAGE == 3 then
    (code, { s with sec := { s.sec with fw := s.sec.fw.set 0 (some ⟨a, b⟩), fwPref := 0 }
                    plat := { s.plat with step := some 4 } }.onCore (·.fput Reg.SEC_BOOT_STAGE 0))
  else
    let i := 1 - s.sec.fwPref
    (code, { s with sec := { s.sec with fw := s.sec.fw.set i (some ⟨a, b⟩), trial := some (i, false) } })

/-- The verification of the transfer that has ended is done: END is answered (R274, R378). A transfer whose bytes are no image
fails step 1. A standby verifies a recoat image that came to it whole by COMMAND chunks (R117, R244). Log entry 34 (DESIGN
CHOICE, unsafe). -/
def State.verifyDone (s : State) (files : List ImageFile) : State :=
  match s.svc.transfer with
  | none => match s.pair.load, files with
    | some (total, received), [f] =>
      if received = total ∧ s.core.fget Reg.RCT_STAT_STATE = 1 then
        { s with pair := { s.pair with load := none } }.verifyRecoat (total - 512) f |>.2
      else s
    | _, _ => s
  | some t => match t.ended with
    | none => s
    | some r =>
      let (code, s) : Nat × State := match t.kind, files with
        | 1, [f] =>
          let code := s.verify 3 (t.total - 512) none f
          let s := s.noteVerify 3 code f.header
          (code, if code = 0 then s.acceptConfig f else s)
        | 2, [f] => s.verifyRecoat (t.total - 512) f
        | 3, [a, b] => s.verifyBundle t.total a b
        | 2, _ => (1, s.onCore fun k => (k.fput Reg.RCT_STAT_STATE 0).fput Reg.RCT_STAT_RESULT 3)
        | _, _ => (1, s)
      let s := s.onCore (·.fput Reg.SEC_IMG_RESULT_RESULT code)
      { s with svc := { s.svc with transfer := none } }.answerKept r .ok (le code 1)

/-! ### Serving the messages -/

/-- ATTEST (R395): served in every state. -/
def State.askAttest (s : State) (r : Req) (nonce : List Byte) : State :=
  s.serve r { maint := true, unclaimed := true, type := 0x70 } fun _ s =>
    if nonce.length = 48 then { s with sec := { s.sec with ops := s.sec.ops ++ [.attest r nonce] } }
    else s.answer r .badRequest []

/-- CHALLENGE (R394). -/
def State.askChallenge (s : State) (r : Req) (bytes : List Byte) : State :=
  s.serve r { maint := true, type := 0x71 } fun d s =>
    if bytes.length ≠ 48 then s.answer r .badRequest []
    else match s.challengeCause d with
      | some c => s.refuseOp r c
      | none => { s with sec := { s.sec with ops := s.sec.ops ++ [.challenge r bytes] } }

/-! ### Meanings -/

/-- What a key operation or an image row may change. -/
def State.upKey (s t : State) : State :=
  { s with core := s.core.after t.core, svc := t.svc, hq := t.hq, net := t.net, sec := t.sec, met := t.met, trw := t.trw, cmd := t.cmd
           plat := runPlat s.plat t.plat, pair := t.pair, bg := t.bg }

/-- KEY_OPERATION_DONE (R389). -/
def execKeyOperationDone (s : State) : Answer := .next <| s.upKey s.finishOp

/-- ATTEST (R395). -/
def execAttest (r : Req) (nonce : List Byte) (s : State) : Answer := .next <| s.upKey <| s.askAttest r nonce

/-- CHALLENGE (R394). -/
def execChallenge (r : Req) (bytes : List Byte) (s : State) : Answer := .next <| s.upKey <| s.askChallenge r bytes

/-- IMAGE_BEGIN (R274). -/
def execImageBegin (r : Req) (kind total : Nat) (s : State) : Answer :=
  .next <| s.upKey <| s.image r fun s => s.beginImage r kind total

/-- IMAGE_CHUNK (R274). -/
def execImageChunk (r : Req) (offset length : Nat) (s : State) : Answer :=
  .next <| s.upKey <| s.image r fun s => s.chunkImage r offset length

/-- IMAGE_END (R274). -/
def execImageEnd (r : Req) (s : State) : Answer :=
  .next <| s.upKey <| s.image r fun s => s.endImage r

/-- IMAGE_ABORT (R274). -/
def execImageAbort (r : Req) (s : State) : Answer := .next <| s.upKey <| s.image r fun s => s.abortImage r

/-- IMAGE_VERIFY_DONE (R378). -/
def execImageVerifyDone (files : List ImageFile) (s : State) : Answer := .next <| s.upKey <| s.verifyDone files

end Sys2Proof.Machine
end

