-- ==== Sys2Proof/Machine/Waves.lean ====
section
/-! DEFINITION. From the converters' samples to cycle results: the channels' conditioning (R158 to R163), the products (R165), the
cycle and its frequency (R166), and the quantities of a cycle and of a harmonic window (R167, R169). -/

namespace Sys2Proof.Machine

/-! ### Channels (R158 to R163) -/

/-- The products' unit, a product of nV and nA: this many in 1 µW. -/
abbrev powerUnit : Nat := 1000000000000

/-- Samples of a channel that are kept: the longest harmonic window. -/
def keptSamples : Nat := 2200

/-- Full scale of a gain code, in nV (R159). -/
def fullScale (gain : Nat) : Nat := 500000000 / 2 ^ gain

/-- The converter that is the source of a channel (R163). -/
def State.converter (s : State) (ch : Nat) : Nat := if s.core.flag Reg.MET_CH_STAT_SUBSTITUTED ch then 28 else ch

/-- The latest samples of a converter. -/
def State.rawOf (s : State) (conv : Nat) : List Int := s.met.wave.raw.atD conv []

/-- The latest samples in use of a channel. -/
def State.usedOf (s : State) (ch : Nat) : List Int := s.met.wave.used.atD ch []

/-- The latest samples under a fractional delay in units of 10 ns (R161). -/
def delayed (units : Int) (xs : List Int) : Int := if units = 0 then xs.headD 0 else Config.fractionalDelay units xs

/-- What a sample of the input means in nV or nA of what is measured: Un gives 200 mV (R159), a current sensor its configured
ratio; times the coefficient in use, or the spare's transfer. Log entry 116 (PRESUMED, unsafe). -/
def State.scaled (s : State) (c : ChannelCfg) (x : Int) : Int :=
  let gain := if s.core.flag Reg.MET_CH_STAT_SUBSTITUTED c.ch then s.met.wave.ratio
    else BitVec.ofNat 32 (s.core.fget Reg.MET_CH_GAIN_GAIN c.ch)
  let unit : Nat × Nat := if c.ch.val < 4 then (s.met.cfg.unMv, 200) else (c.ratio, 1000000)
  rneDiv (x * exact149 gain * unit.1) (2 ^ 149 * unit.2)

/-- The frequency in use (R166): the tracked one while locked, else the nominal. -/
def State.meterMhz (s : State) : Nat :=
  max 1 (if s.core.flag Reg.MET_STAT_FREQ_LOCK then s.met.mhz else s.met.cfg.nominalMhz)

/-- A channel's sample in use (R160, R161, R163): delayed, integrated on a Rogowski channel, scaled. Log entry 116 (PRESUMED,
unsafe). -/
def State.condition (s : State) (c : ChannelCfg) : State :=
  let units := c.phase.toInt + if s.core.flag Reg.MET_CH_STAT_SUBSTITUTED c.ch then s.met.wave.delay else 0
  let x := delayed units (s.rawOf (s.converter c.ch))
  let w := s.met.wave
  let y := if c.sensor = 3 then Config.integrator c.intFc c.dcbFc s.meterMhz (w.integ.atD c.ch 0) x else (x, w.integ.atD c.ch 0)
  let used := w.used.alter c.ch [] fun xs => (s.scaled c y.1 :: xs).take keptSamples
  { s with met := { s.met with wave := { w with integ := w.integ.put c.ch y.2, used := used } } }

/-- The channels in use. -/
def State.channelsOn (s : State) : List ChannelCfg := s.met.cfg.channels.filter fun c => c.enable && decide (c.ch.val < 28)

/-- The converters' outputs with their indices: V0–V3, I0–I23 and the spare (R158). -/
def converters (volts amps : List Int) (spare : Int) : List (Int × Nat) :=
  (volts.take 4).zipIdx ++ (amps.take 24).zipIdx 4 ++ [(spare, 28)]

/-- The decimators' outputs of one instant, by converter (R158, R162). -/
def State.noteRaw (s : State) (raw : List (Int × Nat)) : State :=
  let m := raw.foldl (fun (m : SMap (List Int)) p => m.alter p.2 [] fun xs => (p.1 :: xs).take 128) s.met.wave.raw
  let s := { s with met := { s.met with wave := { s.met.wave with raw := m } } }
  s.channelsOn.foldl (fun (s : State) c => s.condition c) s

/-- The channels whose source reached full scale in this sample (R159, R169). -/
def State.clippedNow (s : State) : List (Fin 29) :=
  (s.channelsOn.filter fun c => decide (fullScale c.gain.val ≤ ((s.rawOf (s.converter c.ch)).headD 0).natAbs)).map (·.ch)

/-! ### Points and quantities (R167, R169, R170) -/

/-- A phase's key. -/
def phaseKey (element phase : Nat) : Nat := element * 4 + phase

/-- The channels a point uses. -/
def State.pointChannels (s : State) (x : PointPlace) : List Nat :=
  match s.met.cfg.elements[x.element]? with
  | none => []
  | some e =>
    let ps := if x.phase = 3 then e.phases else (e.phases.drop x.phase).take 1
    ps.flatMap fun p => [p.1, p.2]

/-- The phases a point sums. -/
def State.pointPhases (s : State) (x : PointPlace) : List Nat :=
  match s.met.cfg.elements[x.element]? with
  | none => []
  | some e => if x.phase = 3 then List.range e.phases.length else [x.phase]

/-- The place of a point; of one outside the configuration, a place in no element. -/
def State.placeOf (s : State) (n : Nat) : PointPlace := s.places.getD n ⟨24, 0⟩

/-- A quantity of a window (R167). -/
def windowQuantity : Quantity → Bool
  | .harm .. => true
  | .thd _ => true
  | _ => false

/-- A quantity that is BAD_NOT_READY while frequency is unlocked (R169). -/
def needsLock : Quantity → Bool
  | .freq => true
  | .harm .. => true
  | .thd _ => true
  | .pf _ => true
  | _ => false

/-- The channels a quantity is computed from (R169); energy takes no condition from them. -/
def State.quantityChannels (s : State) : Quantity → List Nat
  | .vrms c => [c]
  | .irms c => [c]
  | .harm c _ => [c]
  | .thd c => [c]
  | .p n => s.pointChannels (s.placeOf n)
  | .q n => s.pointChannels (s.placeOf n)
  | .s n => s.pointChannels (s.placeOf n)
  | .pf n => s.pointChannels (s.placeOf n)
  | .freq => [s.met.cfg.refCh.val]
  | .energy .. => []

/-- The conditions of a result (R169). -/
def State.resultConds (s : State) (b : MetBinding) : List Nat :=
  let clipped := if windowQuantity b.quantity then s.met.clipWindow else s.met.clipCycle
  (if (s.quantityChannels b.quantity).any clipped.contains then [Qual.sensor] else []) ++
    if needsLock b.quantity && !s.core.flag Reg.MET_STAT_FREQ_LOCK then [Qual.notReady] else []

/-! ### Cycle values (R167) -/

/-- The integer square root of a number below 2^512. -/
def isqrt (n : Nat) : Nat := F32.isqrtFrom n 256 0

/-- Root mean square of the cycle in nV or nA. -/
def State.rmsOf (s : State) (ch : Nat) : Nat := isqrt (s.met.wave.squares.atD ch 0 / max 1 s.met.wave.n)

/-- Root mean square of the cycle as binary32, in V or A. -/
def State.rmsWord (s : State) (ch : Nat) : Word :=
  F32.ofRat (isqrt (s.met.wave.squares.atD ch 0 * 2 ^ 64 / max 1 s.met.wave.n)) (10 ^ 9 * 2 ^ 32)

/-- Vrms × Irms of a phase, in 10^-12 µVA. -/
def State.apparentOf (s : State) (e i : Nat) : Nat :=
  let ch := ((s.met.cfg.elements[e]?).bind fun d => d.phases[i]?).getD (0, 0)
  isqrt (s.met.wave.squares.atD ch.1 0 * s.met.wave.squares.atD ch.2 0) / max 1 s.met.wave.n

/-- P or Q of a point over the cycle, times its samples. -/
def State.cycleSum (s : State) (x : PointPlace) (f : Int × Int → Int) : Int :=
  ((s.pointPhases x).map fun i => f (s.met.wave.sums.atD (phaseKey x.element i) (0, 0))).sum

/-- S of a point in 10^-12 µVA: an element's is the sum of its phases' (R167). -/
def State.cycleApparent (s : State) (x : PointPlace) : Nat := ((s.pointPhases x).map (s.apparentOf x.element)).sum

/-- 10^-12 µW in 1 W. -/
def wattUnit : Nat := 1000000 * powerUnit

/-- A cycle quantity at the end of its cycle, in V, A, W, var, VA and Hz (R167). Log entry 116 (PRESUMED, unsafe). -/
def State.cycleResult (s : State) : Quantity → Option Word
  | .vrms c => some (s.rmsWord c)
  | .irms c => some (s.rmsWord c)
  | .p n => some (F32.ofRat (s.cycleSum (s.placeOf n) (·.1)) (max 1 s.met.wave.n * wattUnit))
  | .q n => some (F32.ofRat (s.cycleSum (s.placeOf n) (·.2)) (max 1 s.met.wave.n * wattUnit))
  | .s n => some (F32.ofRat (s.cycleApparent (s.placeOf n)) wattUnit)
  | .pf n =>
    let a := s.cycleApparent (s.placeOf n)
    some (if a = 0 then 0 else F32.ofRat (s.cycleSum (s.placeOf n) (·.1)) (max 1 s.met.wave.n * a))
  | .freq => some (F32.ofRat s.meterMhz 1000)
  | _ => none

/-- The highest harmonic order (R167). -/
def topOrder (nominal : Nat) : Nat := if nominal = 60000 then 50 else 63

/-- Cycles of a harmonic window (R167). -/
def windowCycles (nominal : Nat) : Nat := if nominal = 60000 then 12 else 10

/-- The corners of a Rogowski channel (R160). -/
def State.corners (s : State) (ch : Nat) : Option (Nat × Nat) :=
  (s.channelsOn.find? fun c => c.ch.val == ch && c.sensor == 3).map fun c => (c.intFc, c.dcbFc)

/-- A window quantity at the end of its window (R167). -/
def State.windowResult (s : State) : Quantity → Option Word
  | .harm c o => some (Config.harmonic o s.meterMhz (s.corners c) ((s.usedOf c).take s.met.wave.wide))
  | .thd c => some (Config.distortion (topOrder s.met.cfg.nominalMhz) s.meterMhz (s.corners c) ((s.usedOf c).take s.met.wave.wide))
  | _ => none

/-! ### Cycles (R166, R167) -/

/-- The reference channel's rms value of the cycle is at least 10 % of Un (R166). -/
def State.refOk (s : State) : Bool :=
  s.met.wave.n != 0 &&
    decide (s.met.wave.n * (s.met.cfg.unMv * 1000000) ^ 2 ≤ 100 * s.met.wave.squares.atD s.met.cfg.refCh.val 0)

/-- Results wait for their cells (R168). -/
def State.readyResults (s : State) (f : Quantity → Option Word) : State :=
  let new := s.met.cfg.bindings.filterMap fun b => (f b.quantity).map fun w => (b.cell, w, s.resultConds b)
  let ready := new.foldl (fun (m : SMap (Word × List Nat)) x => m.put x.1 (x.2.1, x.2.2)) s.met.ready
  { s with met := { s.met with ready := ready } }

/-- A cycle has ended (R166 to R169): lock, the cycle's values and results, the window's with its last cycle. -/
def State.endCycle (s : State) : State :=
  let ok := if s.refOk then s.met.okCycles + 1 else 0
  let lock := decide (ok ≥ 5)
  let irms := s.channelsOn.foldl (fun (m : SMap Nat) c => m.put c.ch (s.rmsOf c.ch)) s.met.irms
  let apparent := s.places.zipIdx.foldl (fun (m : SMap Nat) p => m.put p.2 (s.cycleApparent p.1)) s.met.apparent
  let s := { s with met := { s.met with okCycles := min ok 5, irms := irms, apparent := apparent } }.onCore fun k =>
    (k.setFlag Reg.MET_STAT_FREQ_LOCK lock).fput Reg.MET_FREQ_MHZ (if lock then s.met.mhz else s.met.cfg.nominalMhz)
  let window := decide (windowCycles s.met.cfg.nominalMhz ≤ s.met.wave.cycles + 1)
  let s := s.readyResults s.cycleResult
  let s := if window then s.readyResults s.windowResult else s
  let w := s.met.wave
  let w := { w with squares := [], sums := [], n := 0, cycles := if window then 0 else w.cycles + 1, wide := if window then 0 else w.wide }
  { s with met := { s.met with wave := w, clipCycle := [], clipWindow := if window then [] else s.met.clipWindow } }

/-- The reference channel crosses zero upwards between its two latest samples: the part of the sample gone by then, in 2^-32
(R166). -/
def crossing : List Int → Option Nat
  | b :: a :: _ => if a < 0 ∧ 0 ≤ b then some (rneDiv (-a * 2 ^ 32) (b - a).toNat).toNat else none
  | _ => none

/-- The longest cycle in samples, at 45 Hz: a locked cycle without a crossing ends then. Log entry 116 (PRESUMED, unsafe). -/
def longestCycle : Nat := 178

/-- The reference channel's crossing gives a period, and the cycle ends with it, or while unlocked on the sample clock (R166).
Log entry 116 (PRESUMED, unsafe). -/
def State.trackCycle (s : State) : State :=
  let w := s.met.wave
  let x := crossing (s.usedOf s.met.cfg.refCh.val)
  let locked := s.core.flag Reg.MET_STAT_FREQ_LOCK
  let clock := w.clock + s.met.cfg.nominalMhz
  let ended := if locked then x.isSome || decide (longestCycle ≤ w.n) else decide (8000000 ≤ clock)
  let w := { w with clock := if locked then 0 else clock % 8000000 }
  let s := match x with
    | none => { s with met := { s.met with wave := { w with since := w.since + 2 ^ 32 } } }
    | some f =>
      let period := w.since + f
      let mhz := if w.crossed && period != 0 then
          min 65000 (max 45000 (rneDiv (8000000 * 2 ^ 32) period).toNat) else s.met.mhz
      { s with met := { s.met with wave := { w with crossed := true, since := 2 ^ 32 - f }, mhz := mhz } }
  if ended then s.endCycle else s

/-- The products of a phase in this sample (R165): v·i, and the Hilbert-shifted v times i of 63 samples ago. -/
def State.phaseProducts (s : State) (ch : Nat × Nat) : Int × Int :=
  let v := s.usedOf ch.1
  let i := s.usedOf ch.2
  (v.headD 0 * i.headD 0, Config.hilbert (v.take 127) * i.getD 63 0)

/-- Products kept of a phase: the longest window, at 45 Hz, and one more. -/
def keptProducts : Nat := 180

/-- The products of a sample enter the windows and the cycle (R165, R167). -/
def State.noteProducts (s : State) : State :=
  let xs := s.met.cfg.elements.zipIdx.flatMap fun e => e.1.phases.zipIdx.map fun p => (phaseKey e.2 p.2, s.phaseProducts p.1)
  let products := xs.foldl (fun (m : SMap (List (Int × Int))) x => m.alter x.1 [] fun l => (x.2 :: l).take keptProducts) s.met.products
  let w := s.met.wave
  let sums := xs.foldl (fun (m : SMap (Int × Int)) x => m.alter x.1 (0, 0) fun p => (p.1 + x.2.1, p.2 + x.2.2)) w.sums
  let squares := s.channelsOn.foldl (fun (m : SMap Nat) c =>
    m.alter c.ch 0 (· + ((s.usedOf c.ch).headD 0).natAbs ^ 2)) w.squares
  let w := { w with sums := sums, squares := squares, n := w.n + 1, wide := w.wide + 1 }
  { s with met := { s.met with products := products, wave := w } }

end Sys2Proof.Machine
end

