-- ==== Sys2Proof/Machine/Meter.lean ====
section
/-! DEFINITION. The metrology of a sample: powers, thresholds, routing, remainders, direction (R165, R168 to R175),
demand intervals (R176, R177), and thermal energy (R193, R194). -/

namespace Sys2Proof.Machine

/-! ### Registers (R174) -/

/-- Add units of 2^-32 to a register; carries go into the count (R174). -/
def AccAdd (a : AccReg) (units : Nat) : AccReg :=
  let t := a.rest + units
  { count := a.count + t / 2 ^ 32, rest := t % 2 ^ 32 }

/-- Add to one register of a list. -/
def regsAdd (rs : List AccReg) (i units : Nat) : List AccReg := rs.set i (AccAdd (rs.getD i {}) units)

/-- What a sample adds to the eight registers of a point, in units of 2^-32. -/
abbrev Adds := List Nat

/-- Nothing. -/
def noAdds : Adds := List.replicate 8 0

/-- Add all eight. -/
def addAll (rs : List AccReg) (xs : Adds) : List AccReg := (rs.zip xs).map fun p => AccAdd p.1 p.2

/-- Energy of one sample in units of 2^-32 mWh: `n` is the power in 10^-12 µW times 8,000,000; nearest, ties to even (R174).
Log entry 36 (PRESUMED, unsafe). -/
def sampleUnits (n : Int) : Nat := (rneDiv (n.natAbs * 2 ^ 32) (28800000000 * 8000000 * powerUnit)).toNat

/-! ### Sample power (R165) -/

/-- The window mean of products, newest first, times 8,000,000: the sum of the latest whole samples of W = 8,000,000 / f
samples (f in mHz) and the fraction of the one before them (R165). Log entry 36 (PRESUMED, unsafe). -/
def windowPower (mhz : Nat) (xs : List Int) : Int :=
  let k := 8000000 / mhz
  mhz * (xs.take k).sum + (8000000 % mhz : Nat) * xs.getD k 0

/-- What the window has not credited yet of v·i up to the last sample, times 8,000,000 (R184): each product's remaining share. -/
def windowRest (mhz : Nat) (xs : List Int) : Int :=
  let k := 8000000 / mhz
  ((xs.take k).zipIdx.map fun p => p.1 * ((8000000 : Int) - (p.2 + 1) * mhz)).sum

/-! ### Points (R170, R172, R173, R181) -/

/-- The quadrant register of a sample (R171). -/
def quadrant (p q : Int) : Nat :=
  if p ≥ 0 then (if q ≥ 0 then 2 else 5) else (if q ≥ 0 then 3 else 4)

/-- What one sample of p, q and S (times 8,000,000) adds (R171, R172). -/
def routeSample (p q sPow : Int) : Adds :=
  let up := sampleUnits p
  let uq := sampleUnits q
  let us := sampleUnits sPow
  let x := noAdds
  let x := if p ≥ 0 then x.set 0 up else x.set 1 up
  let x := x.set (quadrant p q) uq
  if p ≥ 0 then x.set 6 us else x.set 7 us

/-- p and q of a phase, times 8,000,000. -/
def State.phasePower (s : State) (e i : Nat) : Int × Int :=
  let xs := s.met.products.atD (phaseKey e i) []
  (windowPower s.meterMhz (xs.map (·.1)), windowPower s.meterMhz (xs.map (·.2)))

/-- The latest apparent power of a phase, in 10^-12 µVA times 8,000,000 (R171): the product of the point it belongs to. -/
def State.phaseApparent (s : State) (e i : Nat) : Int :=
  let n := (s.places.zipIdx.find? fun p => p.1.element == e && p.1.phase == i).map (·.2)
  (n.map fun n => ((s.met.apparent.atD n 0 : Nat) : Int) * 8000000).getD 0

/-- I_START in nA: by default 0.1 % of In (R173). -/
def iStartOf (e : ElementDef) : Nat := match e.iStart with
  | some x => x * 1000
  | none => e.rated

/-- P_NOLOAD in 10^-12 µW: by default 0.25 × Un × I_START (R173). -/
def pNoloadOf (m : MeterCfg) (e : ElementDef) : Nat := match e.pNoload with
  | some x => x * powerUnit
  | none => m.unMv * 1000000 * iStartOf e / 4

/-- A phase accumulates in this sample (R173). -/
def State.phasePasses (s : State) (e : ElementDef) (ei i : Nat) : Bool :=
  let ch := (e.phases.getD i (0, 0)).2
  decide (s.met.irms.atD ch 0 ≥ iStartOf e) && decide ((s.phasePower ei i).1.natAbs ≥ pNoloadOf s.met.cfg e * 8000000)

/-- What a point meets in a sample: its adds, whether it was suppressed, and its p times 8,000,000 for the direction. -/
structure PointSample where
  adds : Adds := noAdds
  below : Bool := false
  p : Int := 0
  deriving DecidableEq, Repr, Inhabited

/-- One point's sample (R172, R173). Log entry 36 (PRESUMED, unsafe). -/
def State.pointSample (s : State) (x : PointPlace) : PointSample :=
  match s.met.cfg.elements[x.element]? with
  | none => {}
  | some e =>
    let phases := s.pointPhases x
    let passing := phases.filter (s.phasePasses e x.element)
    let sum (f : Nat → Int) (ps : List Nat) : Int := (ps.map f).sum
    let p := sum (fun i => (s.phasePower x.element i).1) passing
    let q := sum (fun i => (s.phasePower x.element i).2) passing
    let a := sum (fun i => s.phaseApparent x.element i) passing
    { adds := if passing.isEmpty then noAdds else routeSample p q a, below := passing.length < phases.length
      p := sum (fun i => (s.phasePower x.element i).1) phases }

/-- The direction state of a point after a sample (R175), with the run of opposite samples. Log entry 36 (PRESUMED, unsafe).
-/
def direction (hyst : Nat) (p : Int) (dir run changes : Nat) : Nat × Nat × Nat :=
  if p.natAbs < hyst * (8000000 * powerUnit) then (dir, 0, changes)
  else
    let now := if p ≥ 0 then 1 else 2
    if dir = 0 then (now, 0, changes)
    else if dir = now then (dir, 0, changes)
    else if run + 1 ≥ 8 then (now, 0, (changes + 1) % 2 ^ 32)
    else (dir, run + 1, changes)

/-- Set a STATUS bit (R181). -/
def orStatus (b : PointBlock) (bit : Nat) (on : Bool) : PointBlock := if on then { b with status := b.status ||| bit } else b

/-- Pending accumulators of a warning hold everything (R185). -/
def State.pendingOn (s : State) : Bool := s.met.warned.isSome

/-- One sample at every point: registers, or the pending accumulator after a warning sample, or the trailing accumulator of a
standby (R172 to R175, R185, R245). Log entry 36 (PRESUMED, unsafe). -/
def State.accumulate (s : State) (clips : List Nat) : State :=
  let xs := s.sizedPoints.map fun t => (t, s.pointSample t.1)
  let adds := xs.map (·.2.adds)
  let keep := s.standby || s.pendingOn
  let points := xs.map fun (x : (PointPlace × PointBlock × PointExtra) × PointSample) =>
    let b := x.1.2.1
    let hyst := ((s.met.cfg.elements[x.1.1.element]?).map (·.dirHyst)).getD 0
    let d := direction hyst x.2.p b.dir x.1.2.2.run b.dirChanges
    let b := { b with dir := d.1, dirChanges := d.2.2 }
    let b := orStatus (orStatus b 2 x.2.below) 1 ((s.pointChannels x.1.1).any clips.contains)
    if keep then b else { b with regs := addAll b.regs x.2.adds }
  let extra := xs.map fun (x : (PointPlace × PointBlock × PointExtra) × PointSample) =>
    let hyst := ((s.met.cfg.elements[x.1.1.element]?).map (·.dirHyst)).getD 0
    { x.1.2.2 with run := (direction hyst x.2.p x.1.2.1.dir x.1.2.2.run x.1.2.1.dirChanges).2.1 }
  let met := { s.met with points := points, extra := extra }
  let met := if s.standby then { met with trail := (s.met.lastWall, adds) :: s.met.trail } else met
  let met := if s.pendingOn && !s.standby then
      { met with pend := (adds.zipIdx.map fun p => addAll (s.met.pend.getD p.2 (List.replicate 8 {})) p.1) }
    else met
  { s with met := met }

/-! ### Energy in cells, clips, error time (R167 to R169, R194) -/

/-- Energy registers bound to cells have a new result with every sample (R167, R168). -/
def State.energyResults (s : State) : State :=
  let ready := s.met.cfg.bindings.foldl (fun (m : SMap (Word × List Nat)) b =>
    match b.quantity with
    | .energy n reg unit =>
      let c := ((s.met.points.getD n {}).regs.getD reg {}).count
      m.put b.cell (BitVec.ofNat 32 (c / (max unit 1 * 1000)), [])
    | _ => m) s.met.ready
  { s with met := { s.met with ready := ready } }

/-- Clipped samples (R169). -/
def State.noteClips (s : State) (clips : List (Fin 29)) : State :=
  let s : State := clips.foldl (fun (s : State) c => s.onCore fun k =>
    (k.bump Reg.MET_OVR_COUNT).setFlag Reg.MET_CH_STAT_OVERRANGE true c) s
  let add (xs : List Nat) : List Nat := clips.foldl (fun xs c => if xs.contains c.val then xs else c.val :: xs) xs
  let s := { s with met := { s.met with clipCycle := add s.met.clipCycle, clipWindow := add s.met.clipWindow } }
  if clips.any fun c => s.converter c == 28 then s.onCore (·.setFlag Reg.MET_CH_STAT_OVERRANGE true 28) else s

/-- Network time in the WALL format (R180): units of 2^-16 s. -/
def State.wallNow (s : State) : Nat := (s.ntNs * 65536 / 1000000000).toNat

/-- A cell's quality is GOOD or GOOD_FORCED. -/
def fineCell : Option Cell → Bool
  | some c => c.qual.toNat == Qual.good || c.qual.toNat == Qual.forced
  | none => false

/-- The error time of thermal channels whose temperatures are not fine (R194). Log entry 40 (DESIGN CHOICE, safe). -/
def State.thermalErrors (s : State) : State :=
  let ys := (s.met.cfg.thermal.zipIdx).map fun p =>
    let x := s.met.thermalExtra.getD p.2 {}
    let b := s.met.thermal.getD p.2 {}
    if fineCell x.supply && fineCell x.ret then (x, b)
    else
      let us := x.errUs + 125
      ({ x with errUs := us % 1000 }, { b with errMs := min (b.errMs + us / 1000) (2 ^ 32 - 1) })
  { s with met := { s.met with thermalExtra := ys.map (·.1), thermal := ys.map (·.2) } }

/-- One sample (R158 to R175): a cycle that ends with it ends before it counts. -/
def State.sample (s : State) (raw : List (Int × Nat)) : State :=
  let s := { s with met := { s.met with samples := s.met.samples + 1, lastC := s.core.c, lastWall := s.wallNow } }
  let s := (s.noteRaw raw).trackCycle
  let clips := s.clippedNow
  let s := (s.noteClips clips).noteProducts
  (s.accumulate (clips.map (·.val))).energyResults.thermalErrors

/-! ### Demand (R176, R177) -/

/-- A demand in mW: mWh gained over a length in ns, rounded down (R176). -/
def demandOf (gained ns : Nat) : Nat := if ns = 0 then 0 else gained * 3600000000000 / ns

/-- Close one point's interval: `ns` its length, `wall` its end. Log entry 39 (DESIGN CHOICE, unsafe). -/
def closeInterval (b : PointBlock) (update irregular : Bool) (ns wall : Nat) : PointBlock :=
  let imp := (b.regs.getD 0 {}).count
  let exp := (b.regs.getD 1 {}).count
  let di := demandOf (imp - b.impStart) ns
  let de := demandOf (exp - b.expStart) ns
  let stamp := wall / 2 * 2 + if irregular then 1 else 0
  let b := { b with impStart := imp, expStart := exp }
  let b := if update ∧ b.impMax < di then { b with impMax := di, impEnd := stamp } else b
  if update ∧ b.expMax < de then { b with expMax := de, expEnd := stamp } else b

/-- Close the intervals of the elements a test picks; `step` tells of a step of network time (R177). Log entry 38 (DESIGN
CHOICE, unsafe). -/
def State.closeDemand (s : State) (which : ElementDef → Bool) (step : Bool) : State :=
  let ys := s.sizedPoints.map fun (t : PointPlace × PointBlock × PointExtra) =>
    match s.met.cfg.elements[t.1.element]? with
    | none => t.2
    | some e =>
      if !which e then t.2
      else
        let irr := t.2.2.irregular || step
        let dur := (s.core.c - t.2.2.startC) * 4
        let full := e.demMin * 60000000000
        let ns := if irr then dur else full
        let b := closeInterval t.2.1 (!irr || decide (2 * dur ≥ full)) irr ns (if step then s.wallNow else s.wallNow / 65536 * 65536)
        (b, { t.2.2 with startC := s.core.c, irregular := step })
  { s with met := { s.met with points := ys.map (·.1), extra := ys.map (·.2) } }

/-- UTC in whole seconds, counted from 2000-01-01 (R340). -/
def State.utcSeconds (s : State) : Int := s.ntNs / 1000000000 - s.utcOffset - 946684800

/-- A regular boundary of an element's intervals is now (R176). -/
def State.demandDue (s : State) (e : ElementDef) : Bool :=
  s.utcSeconds % 3600 % (max e.demMin 1 * 60 : Nat) == 0

/-- Reset the maxima of chosen points (R177), with a record. -/
def State.resetMaxima (s : State) (mask : Nat) : State :=
  let points := s.met.points.zipIdx.map fun p =>
    if mask.testBit p.2 then { p.1 with impMax := 0, impEnd := 0, expMax := 0, expEnd := 0 } else p.1
  { s with met := { s.met with points := points } }.record 0x0405 0 (le mask 4)

/-! ### Thermal channels (R193, R194) -/

/-- The exact number of a finite binary32, as an integer times 2^-149. -/
def scaled149 (w : Word) : Int := exact149 w

/-- k at a temperature in units of 2^-149 °C, times 10 × 2^149, in units of 2^-149 mWh/(L·K); none outside the table (R193).
Log entry 40 (DESIGN CHOICE, safe). -/
def kAt (ktab : List Word) (t : Int) : Option Int :=
  let ten : Int := 10 * 2 ^ 149
  if t < 0 ∨ 15 * ten < t then none
  else
    let i := min (t / ten).toNat 14
    let a := ktab.getD i 0
    let b := ktab.getD (i + 1) 0
    if !F32.isFinite a || !F32.isFinite b then none
    else some (exact149 a * ten + (exact149 b - exact149 a) * (t - i * ten))

/-- Energy of an edge in units of 2^-32 mWh (R194): none where the table gives no k, or one below 0, or a temperature is no
number; 0 where ΔT is below 0. Log entry 40 (DESIGN CHOICE, safe). -/
def edgeUnits (d : ThermalDef) (sup ret : Word) : Option Nat :=
  if !F32.isFinite sup || !F32.isFinite ret then none
  else
    let dt := if d.cooling then exact149 ret - exact149 sup else exact149 sup - exact149 ret
    if dt < 0 then some 0
    else ((kAt d.ktab (exact149 (if d.sensorAtReturn then ret else sup))).filter (0 ≤ ·)).map fun k =>
      -- k × VOL_EDGE / 1000 × ΔT × 2^32, with k over 10 × 2^298 and ΔT over 2^149
      (rneDiv (k * d.volEdge * dt * 2 ^ 32) (1000 * (10 * 2 ^ 149) * 2 ^ 149 * 2 ^ 149)).toNat

/-- The direction of an edge: true for reverse (R193). -/
def edgeReverse (d : ThermalDef) (x : ThermalExtra) (reverse : Bool) : Bool :=
  match d.mode.val with
  | 0 => false
  | 1 => (x.dirCell.map fun c => c.value.getLsbD 0).getD false
  | _ => reverse

/-- Put a thermal channel back. -/
def State.putThermal (s : State) (i : Nat) (b : ThermalBlock) (x : ThermalExtra) : State :=
  let n := s.met.cfg.thermal.length
  let th := (List.range n).map fun j => if j = i then b else s.met.thermal.getD j {}
  let ex := (List.range n).map fun j => if j = i then x else s.met.thermalExtra.getD j {}
  { s with met := { s.met with thermal := th, thermalExtra := ex } }

/-- One edge at one channel (R194). Log entry 40 (DESIGN CHOICE, safe). -/
def State.thermalEdge (s : State) (i : Nat) (d : ThermalDef) (reverse : Bool) : State :=
  let x := s.met.thermalExtra.getD i {}
  let b := s.met.thermal.getD i {}
  let rev := edgeReverse d x reverse
  let b := if rev then { b with revVol := b.revVol + d.volEdge } else { b with fwdVol := b.fwdVol + d.volEdge }
  let (x, b) : ThermalExtra × ThermalBlock :=
    if x.dir = rev then ({ x with run := 0 }, b)
    else if x.run + 1 ≥ 8 then ({ x with dir := rev, run := 0 }, { b with dirChanges := (b.dirChanges + 1) % 2 ^ 32 })
    else ({ x with run := x.run + 1 }, b)
  let (units, s) : Nat × State :=
    if !(fineCell x.supply && fineCell x.ret) then (0, s)
    else match edgeUnits d ((x.supply.map (·.value)).getD 0) ((x.ret.map (·.value)).getD 0) with
      | some u => (u, s)
      | none =>
        let f := s.core.takeFree
        (f.1.toNat, { s with core := f.2 })
  let add (b : ThermalBlock) : ThermalBlock :=
    if rev then { b with rev := AccAdd b.rev units } else { b with fwd := AccAdd b.fwd units }
  if s.standby then
    let delta : ThermalBlock := add (if rev then { revVol := d.volEdge } else { fwdVol := d.volEdge })
    let s := s.putThermal i { b with fwdVol := (s.met.thermal.getD i {}).fwdVol, revVol := (s.met.thermal.getD i {}).revVol } x
    { s with met := { s.met with trailThermal := (s.wallNow, i, delta) :: s.met.trailThermal } }
  else if s.pendingOn then
    let p := s.met.pendThermal.getD i ({}, {})
    let p := if rev then (p.1, AccAdd p.2 units) else (AccAdd p.1 units, p.2)
    let ps := (List.range s.met.cfg.thermal.length).map fun j => if j = i then p else s.met.pendThermal.getD j ({}, {})
    let s := s.putThermal i b x
    { s with met := { s.met with pendThermal := ps } }
  else s.putThermal i (add b) x

/-- A pulse or quadrature edge on an input (R193, R194). -/
def State.pulse (s : State) (input : Fin 8) (reverse : Bool) : State :=
  s.met.cfg.thermal.zipIdx.foldl (fun (s : State) p => if p.1.input = input then s.thermalEdge p.2 p.1 reverse else s) s

end Sys2Proof.Machine
end

