-- ==== Sys2Proof/Machine/Commit.lean ====
section
/-! DEFINITION. Commits, snapshots, the power-fail warning and its hold, the roving spare; the rows of metrology (R163, R164,
R177, R180 to R185, R189, R192, R245, R464, R465). -/

namespace Sys2Proof.Machine

/-! ### Commits and snapshots (R180 to R183, R189, R190) -/

/-- Put an image into its slot: A when its number is even (R182). Log entry 37 (DESIGN CHOICE, safe). -/
def State.storeCommit (s : State) (c : CommitImage) : State :=
  let met := { s.met with seq := c.seq }
  { s with met := if c.seq % 2 = 0 then { met with slotA := some c } else { met with slotB := some c } }.onCore
    (·.putPair Reg.MET_SEQ_LO_SEQ_LO Reg.MET_SEQ_HI_SEQ_HI c.seq)

/-- Take one snapshot of a commit (R189, R190): its seal records are queued for the security core. Log entry 38 (DESIGN
CHOICE, unsafe). -/
def State.takeSnapshot (s : State) (c : CommitImage) (d : SnapDue) : State :=
  let n := s.met.snapNo + 1
  let doms := imageDomains c
  let snap : MeterSnap := { number := n, trigger := d.trigger, regLost := s.met.lostMark, image := c, domains := doms }
  let snaps := (s.met.snaps ++ [snap]).drop (s.met.snaps.length - 3)
  let s := { s with met := { s.met with snapNo := n, snaps := snaps, lostMark := false, clearStatus := true }
                    sec := { s.sec with ops := s.sec.ops ++ doms.map fun x => .sealing n x } }
  if d.resetMax then s.resetMaxima d.mask else s

/-- One commit (R180 to R182): STATUS bits 0 and 1 clear in the one that follows a snapshot; the triggers that wait make their
snapshots of it; a duty mirrors it to its standby (R245). -/
def State.commit (s : State) (flags : Nat) : State :=
  let points := if s.met.clearStatus then s.met.points.map fun b => { b with status := b.status / 4 * 4 } else s.met.points
  let s := { s with met := { s.met with points := points, clearStatus := false } }
  let c := s.commitImage flags
  let s := s.storeCommit c
  let due := s.met.snapsDue
  let s : State := due.foldl (fun (s : State) d => s.takeSnapshot c d) { s with met := { s.met with snapsDue := [] } }
  let s := s.showSnapshot
  if s.paired && !s.standby then (s.sendFrame (.meter 0 c)).sendFrame (.meter 1 c) else s

/-- A duration in µs the spec bounds by `bound` and does not state. Log entry 37 (DESIGN CHOICE, safe). -/
def State.freeUs (s : State) (bound : Nat) : Nat × State :=
  let f := s.core.takeFree
  (f.1.toNat % (bound + 1), { s with core := f.2 })

/-- A snapshot trigger (R189). Log entry 38 (DESIGN CHOICE, unsafe). -/
def State.triggerSnapshot (s : State) (d : SnapDue) : State :=
  { s with met := { s.met with snapsDue := s.met.snapsDue ++ [d] } }

/-- Metrology samples now: started, not stopped by a block-alone reset or the loss of its clock. -/
def State.sampling (s : State) : Bool := s.core.flag Reg.MET_STAT_RUN && !s.met.blocked

/-- A standby's registers with what it has added itself (R245). Log entry 44 (DESIGN CHOICE, unsafe). -/
def State.foldTrail (s : State) : State :=
  let base : List PointBlock := match s.met.mirror with
    | some c => c.points
    | none => s.sizedPoints.map (·.2.1)
  let baseTh : List ThermalBlock := match s.met.mirror with
    | some c => c.thermal
    | none => s.met.thermal
  let points := s.met.trail.foldl (fun (ps : List PointBlock) e =>
    ps.zipIdx.map fun p => { p.1 with regs := addAll p.1.regs (e.2.getD p.2 noAdds) }) base
  let thermal := s.met.trailThermal.foldl (fun (ts : List ThermalBlock) e =>
    ts.zipIdx.map fun t =>
      if t.2 != e.2.1 then t.1
      else
        let f (a d : AccReg) : AccReg := let y := AccAdd a d.rest
          { y with count := y.count + d.count }
        { t.1 with fwd := f t.1.fwd e.2.2.fwd, rev := f t.1.rev e.2.2.rev, fwdVol := t.1.fwdVol + e.2.2.fwdVol
                   revVol := t.1.revVol + e.2.2.revVol }) baseTh
  { s with met := { s.met with points := points, thermal := thermal, trail := [], trailThermal := [], mirror := none } }

/-! ### The final commit and the warning (R184, R185, R464, R465) -/

/-- The part of the one-cycle window that is not credited yet, as one amount routed by its own sign, whatever its phases pass
(R184). Log entry 41 (DESIGN CHOICE, unsafe). -/
def State.windowCredit (s : State) (x : PointPlace) : Adds :=
  let rest (f : Int × Int → Int) : Int :=
    ((s.pointPhases x).map fun i => windowRest s.meterMhz ((s.met.products.atD (phaseKey x.element i) []).map f)).sum
  let p := rest (·.1)
  let q := rest (·.2)
  let z := noAdds
  let z := if p ≥ 0 then z.set 0 (sampleUnits p) else z.set 1 (sampleUnits p)
  z.set (quadrant p q) (sampleUnits q)

/-- Credit every point (R184); what is credited leaves the window. Log entry 41 (DESIGN CHOICE, unsafe). -/
def State.creditWindows (s : State) : State :=
  let points := s.sizedPoints.map fun (t : PointPlace × PointBlock × PointExtra) =>
    { t.2.1 with regs := addAll t.2.1.regs (s.windowCredit t.1) }
  { s with met := { s.met with points := points, products := [] } }

/-- The final commit of the warning sample (R184); `flags` are those of R180. Log entry 37 (DESIGN CHOICE, safe). -/
def State.finalCommit (s : State) (flags : Nat) : State :=
  let s := (if s.standby then s.foldTrail else s).creditWindows.commit flags
  let (us, s) := s.freeUs 200
  s.onCore (·.fput Reg.MET_COMMIT_FINAL_US us)

/-- The warning sample has been processed (R184, R185): the final commit, and from now on everything is pending. -/
def State.warningSample (s : State) : State :=
  let s := s.finalCommit 1
  { s with met := { s.met with warnDue := false, warned := some (s.met.lastWall, s.met.lastC)
                               pend := s.places.map fun _ => List.replicate 8 {}
                               pendThermal := s.met.cfg.thermal.map fun _ => ({}, {}) } }

/-- A link goes down (R279). -/
def State.linkFall (s : State) (p : Fin 4) : State :=
  if !s.core.flag Reg.FP_STAT_LINK p then s
  else
    let s := { s with net := { s.net with txq := s.net.txq.del p } }
    let s := (s.onCore fun k => (k.setFlag Reg.FP_STAT_LINK false p).bump Reg.FP_LINK_DOWNS_COUNT p).record 0x0801 0 (le p 1)
    if p < 2 then s.ptpLeave p else s

/-- Warning hold (R464): no further task cycle, loop sample or phase; the uplinks go down. -/
def State.enterHold (s : State) : State :=
  let drop (m : SMap Stage) : SMap Stage := m.map fun p => (p.1, if p.2 == .due then .discarded else p.2)
  let seq := { s.seq with inLeft := [], outLeft := [], base := none, waitFrom := none }
  let s := { s with seq := seq, plat := { s.plat with hold := true }
                    trw := { s.trw with stages := drop s.trw.stages, scanning := false }
                    flt := { s.flt with stages := drop s.flt.stages } }
  let s := s.onCore fun k => (k.setFlag Reg.PWR_STAT_WARN true).setFlag Reg.PWR_STAT_HOLD true
  let s := if s.standby then s.outOfStep else s
  (s.linkFall 0).linkFall 1

/-- A power-fail warning (R184); `pfw` tells PFW_N's fall from the internal detector. -/
def State.warn (s : State) (pfw : Bool) : State :=
  let s := s.onCore fun k => if pfw then k.setFlag Reg.PWR_STAT_PFW_LEVEL true else k.setFlag Reg.PWR_STAT_DETECTOR true
  if s.core.flag Reg.PWR_STAT_WARN then s
  else
    let s := s.onCore fun k => (k.bump Reg.MET_PFW_WARNINGS).setFlag Reg.MET_STAT_PFW_ACTIVE true
    { s with met := { s.met with warnDue := s.sampling && !s.plat.asleep, warnSeen := true } }.enterHold.writeFallback

/-- The pending accumulators go into the registers (R185). -/
def State.foldPending (s : State) : State :=
  let add (rs ps : List AccReg) : List AccReg := rs.zipIdx.map fun p =>
    let d := ps.getD p.2 {}
    let y := AccAdd p.1 d.rest
    { y with count := y.count + d.count }
  let points := s.met.points.zipIdx.map fun p => { p.1 with regs := add p.1.regs (s.met.pend.getD p.2 []) }
  let thermal := s.met.thermal.zipIdx.map fun p =>
    let d := s.met.pendThermal.getD p.2 ({}, {})
    { p.1 with fwd := (add [p.1.fwd] [d.1]).getD 0 {}, rev := (add [p.1.rev] [d.2]).getD 0 {} }
  { s with met := { s.met with points := points, thermal := thermal, pend := [], pendThermal := [], warned := none
                               warnDue := false } }

/-- Pending ±A in whole mWh (R412). Log entry 41 (DESIGN CHOICE, unsafe). -/
def State.pendingMwh (s : State) : Nat :=
  (s.met.pend.map fun rs => (rs.getD 0 {}).count + (rs.getD 1 {}).count).sum

/-- The warning clears (R185, R465): pending energy folded and committed, and the module leaves the hold; its sequencer starts
again on the network-time mapping. Log entry 41 (DESIGN CHOICE, unsafe). -/
def State.clearWarning (s : State) : State :=
  if !s.core.flag Reg.PWR_STAT_WARN then s
  else
    let mwh := s.pendingMwh
    let s := { s with met := { s.met with warnSeen := false } }
    let s := if s.met.warned.isSome then s.foldPending.commit 2 else { s with met := { s.met with warnDue := false } }
    let s := s.onCore fun k =>
      let k := (k.bump Reg.MET_PFW_RECOVERED).setFlag Reg.MET_STAT_PFW_ACTIVE false
      let k := (k.setFlag Reg.PWR_STAT_WARN false).setFlag Reg.PWR_STAT_HOLD false
      (k.setFlag Reg.PWR_STAT_PFW_LEVEL false).setFlag Reg.PWR_STAT_DETECTOR false
    let ticking := s.core.flag Reg.TICK_CFG_VALID && s.core.state != 3
    let s := { s with plat := { s.plat with hold := false }
                      seq := { s.seq with base := if ticking then some s.ntNs else none } }.onCore
      (·.setFlag Reg.TICK_STATUS_RUNNING false)
    s.record 0x0402 0 (le mwh 8)

/-! ### The roving spare (R163, R164) -/

/-- Points that use a channel get or lose CAL_SUSPECT (R164). Log entry 107 (DESIGN CHOICE, unsafe). -/
def State.suspectPoints (s : State) (ch : Nat) (on : Bool) : State :=
  let ps := s.sizedPoints.map fun (t : PointPlace × PointBlock × PointExtra) =>
    if (s.pointChannels t.1).contains ch then
      { t.2.1 with status := if on then t.2.1.status ||| 4 else t.2.1.status % 4 }
    else t.2.1
  { s with met := { s.met with points := ps } }

/-- The newer copy of the coefficients in the ferroelectric store (R179). -/
def newestCal (m : Met) : Option (Nat × SMap Word) :=
  match m.calA, m.calB with
  | some a, some b => some (if b.1 ≤ a.1 then a else b)
  | some a, none => some a
  | none, b => b

/-- The coefficients go into the store with the next sequence number: copy A with an even one, B with an odd one (R179). Log
entry 42 (DESIGN CHOICE, unsafe). -/
def storeCal (m : Met) : Met :=
  let n := ((newestCal m).map (·.1)).getD 0 + 1
  if n % 2 = 0 then { m with calA := some (n, m.gains) } else { m with calB := some (n, m.gains) }

/-- The visit to a channel ends with this judgement of its new coefficients (R164). Log entry 42 (DESIGN CHOICE, unsafe). -/
def State.judge (s : State) (ch : Nat) (r : RoveResult) : State :=
  let s := s.onCore (·.setFlag Reg.MET_CH_STAT_SUBSTITUTED false ch)
  if r.saturated then s
  else if r.gainDiff ≤ 200 ∧ r.phaseDiff ≤ 50 then
    let met := { s.met with gains := s.met.gains.put ch r.newGain, rejects := s.met.rejects.put ch 0
                            calC := s.met.calC.put ch s.core.c }
    ({ s with met := storeCal met }.onCore fun k =>
      (k.fput Reg.MET_CH_GAIN_GAIN r.newGain.toNat ch).setFlag Reg.MET_CH_STAT_CAL_SUSPECT false ch).suspectPoints ch false
  else
    let n := s.met.rejects.atD ch 0 + 1
    let s := { s with met := { s.met with rejects := s.met.rejects.put ch n } }.onCore (·.bump Reg.MET_CAL_REJECTS)
    let s := s.record 0x0401 0 (le ch 1 ++ le n 2)
    if n ≥ 3 then (s.onCore (·.setFlag Reg.MET_CH_STAT_CAL_SUSPECT true ch)).suspectPoints ch true else s

/-- The spare moves on: to the next channel, or to its own calibration after channel 27 (R163). Log entry 42 (DESIGN CHOICE,
unsafe). -/
def State.nextVisit (s : State) (ch : Nat) : State :=
  s.onCore fun k =>
    if ch ≥ 27 then k.fput Reg.MET_STAT_ROVE_PHASE 4
    else (k.fput Reg.MET_STAT_ROVE_CH (ch + 1)).fput Reg.MET_STAT_ROVE_PHASE 1

/-- A phase of the visit ends (R163, R164, R471): no visit starts in warning hold. Log entry 42 (DESIGN CHOICE, unsafe). -/
def State.rove (s : State) (r : RoveResult) : State :=
  let ch := s.core.fget Reg.MET_STAT_ROVE_CH
  match s.core.fget Reg.MET_STAT_ROVE_PHASE with
  | 1 =>
    if r.saturated then s.nextVisit ch
    else { s with met := { s.met with wave := { s.met.wave with ratio := r.ratio, delay := r.delay } } }.onCore fun k =>
      (k.fput Reg.MET_STAT_ROVE_PHASE 2).setFlag Reg.MET_CH_STAT_SUBSTITUTED true ch
  | 2 => if s.plat.hold then s else s.onCore (·.fput Reg.MET_STAT_ROVE_PHASE 3)
  | 3 => (s.judge ch r).nextVisit ch
  | 4 =>
    if s.plat.hold then s
    else s.onCore fun k =>
      ((k.bump Reg.MET_CAL_ROUNDS).fput Reg.MET_STAT_ROVE_CH 0).fput Reg.MET_STAT_ROVE_PHASE 1
  | _ =>
    if s.plat.hold then s else s.onCore fun k => (k.fput Reg.MET_STAT_ROVE_CH 0).fput Reg.MET_STAT_ROVE_PHASE 1

/-! ### Meanings -/

/-- What a row of metrology may change. -/
def State.upMet (s t : State) : State :=
  { s with core := s.core.after t.core, met := t.met, sec := t.sec, pair := t.pair, seq := t.seq, plat := runPlat s.plat t.plat, trw := t.trw
           flt := t.flt, net := t.net, svc := t.svc, hq := t.hq, nt := t.nt }

/-- METROLOGY_SAMPLE (R165): what the decimators of the 29 converters deliver, in nV; the first after a warning is the warning
sample (R184). -/
def execMetrologySample (volts amps : List Int) (spare : Int) (s : State) : Answer :=
  .next <| s.upMet <|
    if !s.sampling then s
    else
      let s := s.sample (converters volts amps spare)
      if s.met.warnDue then s.warningSample else s

/-- REGISTER_COMMIT (R182): not during a warning (R185); a standby's slots hold the duty's images (R245). -/
def execRegisterCommit (s : State) : Answer :=
  .next <| s.upMet <|
    if !s.sampling || s.core.flag Reg.PWR_STAT_WARN || s.standby then s
    else
      let (us, s) := (s.commit 0).freeUs 35
      s.onCore (·.fput Reg.MET_COMMIT_LAST_US us)

/-- ROVE_PHASE_END (R163). -/
def execRovePhaseEnd (r : RoveResult) (s : State) : Answer := .next <| s.upMet <| if s.sampling then s.rove r else s

/-- DEMAND_INTERVAL_END (R176). -/
def execDemandIntervalEnd (s : State) : Answer := .next <| s.upMet <| s.closeDemand s.demandDue false

/-- DAILY_SNAPSHOT (R189): at configured time `i`. -/
def execDailySnapshot (i : Nat) (s : State) : Answer :=
  .next <| s.upMet <| if i < min s.met.cfg.daily.length 4 then s.triggerSnapshot { trigger := 1 } else s

/-- A write of 1 to MET_SNAP_CTRL.TAKE: while NOT_READY is 1 it is discarded (R192). -/
def State.requestSnapshot (s : State) : State :=
  if s.core.flag Reg.MET_SNAP_STAT_NOT_READY then s
  else (s.triggerSnapshot { trigger := 4 }).onCore (·.setFlag Reg.MET_SNAP_STAT_NOT_READY true)

/-- SNAPSHOT_TAKE (R192). -/
def execSnapshotTake (s : State) : Answer := .next <| s.upMet s.requestSnapshot

/-- PULSE_EDGE (R194). -/
def execPulseEdge (input : Fin 8) (reverse : Bool) (s : State) : Answer :=
  .next <| s.upMet <| if s.sampling then s.pulse input reverse else s

/-- POWER_FAIL_WARNING (R184, R464). -/
def execPowerFailWarning (pfw : Bool) (s : State) : Answer := .next <| s.upMet <| s.warn pfw

/-- WARNING_CLEAR (R185, R465). -/
def execWarningClear (s : State) : Answer := .next <| s.upMet s.clearWarning

/-- Meter snapshot, COMMAND 0x0C (R177, R189, R269). -/
def doMeterSnapshot (resetMax : Bool) (mask : Word) : Doing :=
  { check := fun _ => none, apply := fun s => s.triggerSnapshot { trigger := 2, resetMax := resetMax, mask := mask.toNat } }

/-- METER_SNAPSHOT (R189). -/
def execMeterSnapshot (r : Req) (resetMax : Bool) (mask : Word) (s : State) : Answer :=
  .next <| s.upMet <| s.command r {} (some (.meterSnapshot resetMax mask)) (doMeterSnapshot resetMax mask)

end Sys2Proof.Machine
end

