-- ==== Sys2Proof/Machine/Trowel.lean ====
section
/-! DEFINITION. One trowel instruction on the two lanes of an engine: running it, comparing the lanes, task faults,
lane mismatches, and the commit (R55 to R90). -/

namespace Sys2Proof.Machine

/-- The event record of a mismatch or task fault (R85, R88), and TRW_FAULT (R91). -/
def State.trwReport (s : State) (e : Fin 8) (t : Fin 16) (cause : Nat) (addr : Nat) : State :=
  ((s.evidence e).onCore fun k =>
    ((k.fput Reg.TRW_FAULT_TASK t e).fput Reg.TRW_FAULT_CAUSE cause e).fput Reg.TRW_FAULT_ADDR addr e).record 0x0201 0
    (le e 1 ++ le t 1 ++ le cause 1 ++ le addr 4 ++ le s.epoch 8)

/-- A lane mismatch ends the cycle (R85, R86). Log entry 19 (DEDUCED, unsafe). -/
def State.mismatch (s : State) (e : Fin 8) : State :=
  let g := s.engine e
  match g.task, g.task.bind s.taskDef with
  | some t, some d =>
    let s := ((s.dropCycle e 0).markTask d).onCore fun k =>
      (k.bump Reg.TRW_MISM_TOTAL e).bump Reg.TRW_MISM_CONSEC e
    let s := s.trwReport e t 8 g.a.pc.toNat
    let s := if s.core.fget Reg.TRW_MISM_CONSEC e = 3 then s.trwOut e else s
    s.itemDone
  | _, _ => s

/-- A task fault (R87, R88): the cycle is discarded; an ordinary task becomes faulted, a guarded one trips the bead. Log entry
19 (DEDUCED, unsafe). -/
def State.taskFault (s : State) (e : Fin 8) (cause : Nat) : State :=
  let g := s.engine e
  match g.task, g.task.bind s.taskDef with
  | some t, some d =>
    let s := ((s.dropCycle e 0).markTask d).onCore (·.bump Reg.TRW_FAULT_CNT_COUNT e)
    let s := s.trwReport e t cause g.a.pc.toNat
    let s := if d.guarded then s.trip 3 t else s.setTask t 3
    s.itemDone
  | _, _ => s

/-- What one lane makes of an instruction. -/
inductive Res
  /-- Registers only. -/
  | go (r : LaneRegs)
  /-- Registers, and an entry for the commit buffer. -/
  | put (r : LaneRegs) (x : Entry)
  /-- A jump instruction: taken to an address, or not taken. -/
  | jump (r : LaneRegs) (target : Option (BitVec 18))
  /-- A task fault's cause. -/
  | fault (cause : Nat)
  deriving DecidableEq, Repr, Inhabited

/-- Both lanes move on. -/
def State.putLanes (s : State) (e : Fin 8) (a b : LaneRegs) (clk : Nat) : State :=
  let g := s.engine e
  s.putEngine e { g with a := a, b := b, clocks := g.clocks + clk }

/-- The next instruction address. -/
def LaneRegs.step (r : LaneRegs) : LaneRegs := { r with pc := r.pc + 1 }

/-- Compare the two lanes' results and let them take effect (R83, R84). -/
def State.settle (s : State) (e : Fin 8) (clk : Nat) : Res → Res → State
  | .fault c, _ => s.taskFault e c
  | _, .fault c => s.taskFault e c
  | .go a, .go b => s.putLanes e (LaneRegs.step a) (LaneRegs.step b) clk
  | .jump a ta, .jump b tb =>
    if ta != tb then s.mismatch e
    else match ta with
      | none => s.putLanes e (LaneRegs.step a) (LaneRegs.step b) 1
      | some t => s.putLanes e { a with pc := t } { b with pc := t } 3
  | .put a x, .put b y =>
    if x != y then s.mismatch e
    else
      let s' := s.putLanes e (LaneRegs.step a) (LaneRegs.step b) clk
      let drop := match x with
        | .cell i _ => s.isForced i
        | _ => false
      if drop then s'.onCore (·.bump Reg.MSK_REFUSED_COUNT)
      else
        let g := s'.engine e
        let buf := addEntry g.buf x
        if buf.size > 4096 then s.taskFault e 6 else s'.putEngine e { g with buf := buf }
  | _, _ => s.mismatch e

/-- Run one instruction on engine `e`: nothing while no task executes there; an instruction the load check R63 would refuse
can only come of corrupted memory and is cause 0x01, an uncorrectable constant cause 0x07 (R87). `rd` is the operand both
lanes read. Log entry 18 (DESIGN CHOICE, safe). -/
def State.trwRun (s : State) (e : Fin 8) (clk : Nat) (rd : Option MemOp) (ok : TaskDef → Bool)
    (f : LaneRegs → Fetched → Res) : State :=
  let g := s.engine e
  match g.task.bind s.taskDef with
  | none => s
  | some d =>
    if s.trw.codeBad.contains g.a.pc.toNat || !ok d then s.taskFault e 1
    else match rd with
      | none => s.settle e clk (f g.a default) (f g.b default)
      | some m =>
        if m.sp == .const && s.trw.constBad.contains m.idx then s.taskFault e 7
        else
          let (x, s) := s.fetch e m
          let mark (r : LaneRegs) : LaneRegs := if x.failed then { r with chk := true } else r
          s.settle e (clk + mirrorClock m) (f (mark g.a) x) (f (mark g.b) x)

/-- An instruction on the registers alone. -/
def State.trwReg (s : State) (e : Fin 8) (clk : Nat) (f : LaneRegs → LaneRegs) : State :=
  s.trwRun e clk none (fun _ => true) fun r _ => .go (f r)

/-- A load from a bit operand: LACC from LACC and b (R65). -/
def State.trwBit (s : State) (e : Fin 8) (m : MemOp) (f : Bool → Bool → Bool) : State :=
  s.trwRun e 1 (some m) (fun _ => s.okBitRead m) fun r x => .go { r with lacc := f r.lacc (x.value.getLsbD m.bit) }

/-- The entry of a bit store over the operand's old word (R59). -/
def State.bitEntry (s : State) (m : MemOp) (old : Word) (b : Bool) : Entry :=
  match m.sp with
  | .cell => if s.cellKind m.idx = some .bool then .cell m.idx (if b then 1 else 0) else .cell m.idx (putBit old m.bit b)
  | _ => .ret m.idx (putBit old m.bit b)

/-- A bit store (R59, R65): the bit to store, or no write. Log entries 22 (DESIGN CHOICE, unsafe); 122 (DESIGN CHOICE,
unsafe). -/
def State.trwStore (s : State) (e : Fin 8) (m : MemOp) (f : Bool → Option Bool) : State :=
  let rd := if m.sp = .cell ∧ s.cellKind m.idx = some .bool then none else some m
  s.trwRun e 1 rd (fun d => s.okBitStore d m) fun r x =>
    match f r.lacc with
    | some b => .put r (s.bitEntry m x.value b)
    | none => .go r

/-- A word store (R59, R68): only while `f` of LACC holds. -/
def State.trwStoreWord (s : State) (e : Fin 8) (m : MemOp) (f : Bool → Bool) : State :=
  s.trwRun e 1 none (fun d => s.okWordStore d m) fun r _ =>
    if f r.lacc then
      match m.sp with
      | .cell => .put r (.cell m.idx (if s.cellKind m.idx = some .bool then r.wa &&& 1 else r.wa))
      | _ => .put r (.ret m.idx r.wa)
    else .go r

/-- Push onto the nesting stack (R66). -/
def push (t : Tag) (r : LaneRegs) : Res :=
  if r.stack.length ≥ 16 then .fault 2 else .go { r with stack := (r.lacc, t) :: r.stack }

/-- Combine a saved bit with LACC by its tag (R66). -/
def combine : Tag → Bool → Bool → Bool
  | .and, s, l => s && l
  | .andn, s, l => s && !l
  | .or, s, l => s || l
  | .orn, s, l => s || !l
  | .xor, s, l => s != l
  | .push, _, l => l

/-- The closing parenthesis (R66, R67). -/
def closePop (r : LaneRegs) : Res :=
  match r.stack with
  | [] => .fault 3
  | (_, .push) :: _ => .fault 4
  | (b, t) :: st => .go { r with lacc := combine t b r.lacc, stack := st }

/-- READ and POP (R66, R67). Log entry 121 (DESIGN CHOICE, unsafe). -/
def readTop (pop : Bool) (r : LaneRegs) : Res :=
  match r.stack with
  | [] => .fault 3
  | (b, .push) :: st => .go { r with lacc := b, stack := if pop then st else r.stack }
  | _ => .fault 4

/-- An instruction on the nesting stack. -/
def State.trwStack (s : State) (e : Fin 8) (f : LaneRegs → Res) : State :=
  s.trwRun e 1 none (fun _ => true) fun r _ => f r

/-- An integer or binary32 operation: a result for WA and whether it sets OVF (R69, R70). -/
def State.trwAlu (s : State) (e : Fin 8) (clk : Nat) (f : Word → Word → Word × Bool) : State :=
  s.trwReg e clk fun r =>
    let x := f r.wa r.wb
    { r with wa := x.1, ovf := r.ovf || x.2 }

/-- A compare (R72). -/
def State.trwCmp (s : State) (e : Fin 8) (f : Word → Word → Bool) : State :=
  s.trwReg e 1 fun r => { r with lacc := f r.wa r.wb }

/-- A jump (R74); an address outside the task's code is an illegal instruction (R63). -/
def State.trwJump (s : State) (e : Fin 8) (addr : BitVec 18) (f : Bool → Bool) : State :=
  s.trwRun e 1 none (fun d => d.codeStart ≤ addr.toNat && addr.toNat ≤ d.codeEnd) fun r _ =>
    .jump r (if f r.lacc then some addr else none)

/-- A record as the task sees it: its own pending write first (R83). -/
def State.recSeen (s : State) (e : Fin 8) (i : Nat) : TRec := ((s.engine e).buf.recs.at? i).getD (s.recAt i)

/-- An instruction that executes a record (R79, R80): the new record, LACC, and whether it sets OVF. -/
def State.trwRecord (s : State) (e : Fin 8) (m : MemOp) (clk type : Nat)
    (f : LaneRegs → TRec → TRec × Bool × Bool) : State :=
  s.trwRun e clk none (fun d => s.okRecord d m type) fun r _ =>
    let x := f r (s.recSeen e m.idx)
    .put { r with lacc := x.2.1, ovf := r.ovf || x.2.2 } (.record m.idx x.1)

/-- An edge instruction (R81): `f` of LACC and m is what comes out. -/
def State.trwEdge (s : State) (e : Fin 8) (m : MemOp) (f : Bool → Bool → Bool) : State :=
  let x := ((s.engine e).buf.edges.at? m.idx).getD (s.trw.edges.atD m.idx {})
  s.trwRun e 2 none (fun d => okEdge d m) fun r _ =>
    .put { r with lacc := if x.init then false else f r.lacc x.m } (.edge m.idx { m := r.lacc, init := false })

/-! ### Timers (R77 to R79) -/

/-- ET after the time since the last execution, in ms (R77), saturating. -/
def elapsed (r : TRec) (n : Word) (p : Nat) : Word :=
  let d := (n - r.last).toNat
  if d > 2 ^ 30 then 0xFFFFFFFF#32 else BitVec.ofNat 32 (min (r.et.toNat + d * p) (2 ^ 32 - 1))

/-- TON (R79). -/
def ton (inp : Bool) (pt : Word) (n : Word) (p : Nat) (r : TRec) : TRec :=
  let r' := if !inp then { r with run := false, et := 0, q := false }
    else if r.initA || !r.run then { r with run := true, et := 0, q := pt == 0 }
    else let et := elapsed r n p; { r with et := et, q := pt.toNat ≤ et.toNat }
  { r' with pt := pt, last := n, initA := false }

/-- TOF (R79). -/
def tof (inp : Bool) (pt : Word) (n : Word) (p : Nat) (r : TRec) : TRec :=
  let r' := if r.initA then { r with run := false, et := 0, q := inp }
    else if inp then { r with run := false, et := 0, q := true }
    else if r.memA then let q := decide (0 < pt.toNat); { r with et := 0, q := q, run := q }
    else if r.run then
      let et := elapsed r n p
      let q := decide (et.toNat < pt.toNat)
      { r with et := et, q := q, run := q }
    else { r with q := false }
  { r' with memA := inp, pt := pt, last := n, initA := false }

/-- TP (R79). -/
def tp (inp : Bool) (pt : Word) (n : Word) (p : Nat) (r : TRec) : TRec :=
  let r' := if r.initA then { r with run := false, et := 0, q := false }
    else
      let r1 := if r.run then
          let et := elapsed r n p
          if pt.toNat ≤ et.toNat then { r with et := et, run := false, q := false } else { r with et := et }
        else if inp && !r.memA then let q := decide (0 < pt.toNat); { r with et := 0, q := q, run := q }
        else r
      if !r1.run && !inp then { r1 with et := 0 } else r1
  { r' with memA := inp, pt := pt, last := n, initA := false }

/-! ### Counters (R80) -/

/-- Q and QD from CV and PV (R80). Log entry 16 (DEDUCED, unsafe). -/
def recount (r : TRec) : TRec := { r with q := decide (r.pt.toInt ≤ r.et.toInt), qd := decide (r.et.toInt ≤ 0) }

/-- CTU (R80). Log entry 16 (DEDUCED, unsafe). -/
def ctu (inp : Bool) (n : Word) (r : TRec) : TRec × Bool × Bool :=
  let up := !r.initA && inp && !r.memA
  let sat := up && r.et == 0x7FFFFFFF#32
  let r' := recount { r with et := if up && !sat then r.et + 1 else r.et, initA := false, memA := inp, last := n }
  (r', r'.q, sat)

/-- CTD (R80). Log entry 16 (DEDUCED, unsafe). -/
def ctd (inp : Bool) (n : Word) (r : TRec) : TRec × Bool × Bool :=
  let dn := !r.initB && inp && !r.memB
  let sat := dn && r.et == 0x80000000#32
  let r' := recount { r with et := if dn && !sat then r.et - 1 else r.et, initB := false, memB := inp, last := n }
  (r', r'.qd, sat)

/-- CRES, CLOAD and CPSET (R80): a change of CV or PV; LACC unchanged. Log entry 16 (DEDUCED, unsafe). -/
def cset (n : Word) (lacc : Bool) (f : TRec → TRec) (r : TRec) : TRec × Bool × Bool :=
  (recount { f r with last := n }, lacc, false)

/-! ### END (R83, R84) -/

/-- Commit one cell (R59, R83). Log entry 22 (DESIGN CHOICE, unsafe). -/
def State.commitCell (s : State) (a : Nat) (v : Word) : State := s.writeCell a v [] 0x04 s.epoch

/-- Write a commit buffer to the working buffer and the stores (R83). Log entry 21 (DESIGN CHOICE, unsafe). -/
def State.commitBuffer (s : State) (b : Commit) : State :=
  let s : State := b.cells.foldl (fun (s : State) p => s.commitCell p.1 p.2) s
  { s with trw := { s.trw with
      ret := b.ret.foldl (fun m p => SMap.put m p.1 p.2) s.trw.ret
      recs := b.recs.foldl (fun m p => SMap.put m p.1 p.2) s.trw.recs
      edges := b.edges.foldl (fun m p => SMap.put m p.1 p.2) s.trw.edges } }

/-- What a commit buffer's entries leave, as the digests cover it (R233): a dropped store of a forced cell is not among them.
Log entry 54 (DESIGN CHOICE, unsafe). -/
def State.commitBytes (s : State) (b : Commit) : List Byte :=
  (b.cells.flatMap fun p => entryBytes 0 p.1 ((s.img.working.at? p.1).map Cell.image |>.getD [])) ++
    (b.ret.flatMap fun p => entryBytes 1 p.1 (le p.2.toNat 4)) ++ (b.recs.flatMap fun p => entryBytes 3 p.1 (recImage p.2)) ++
    b.edges.flatMap fun p => entryBytes 4 p.1 [if p.2.m then 1 else 0, if p.2.init then 1 else 0]

/-- What the targets of a commit buffer's entries hold (R233). -/
def State.priorBytes (s : State) (b : Commit) : List Byte :=
  (b.cells.flatMap fun p => entryBytes 0 p.1 ((s.img.working.at? p.1).map Cell.image |>.getD [])) ++
    (b.ret.flatMap fun p => entryBytes 1 p.1 (le (s.trw.ret.atD p.1 0).toNat 4)) ++
    (b.recs.flatMap fun p => entryBytes 3 p.1 (recImage (s.trw.recs.atD p.1 {}))) ++
    b.edges.flatMap fun p =>
      let x := s.trw.edges.atD p.1 {}
      entryBytes 4 p.1 [if x.m then 1 else 0, if x.init then 1 else 0]

/-- The task cycle ends (R74, R83, R84, R86): lanes compared, stack checked, buffer committed. Log entry 19 (DEDUCED, unsafe).
-/
def State.trwEnd (s : State) (e : Fin 8) : State :=
  let g := s.engine e
  match g.task, g.task.bind s.taskDef with
  | some t, some _ =>
    if s.trw.codeBad.contains g.a.pc.toNat then s.taskFault e 1
    else if g.a.lacc != g.b.lacc || g.a.wa != g.b.wa || g.a.wb != g.b.wb || g.a.ovf != g.b.ovf || g.a.chk != g.b.chk
        || g.a.stack.length != g.b.stack.length then s.mismatch e
    else if !g.a.stack.isEmpty then s.taskFault e 5
    else
      let clk := g.clocks + 6 + g.buf.size
      let prior := s.priorBytes g.buf
      let s := s.commitBuffer g.buf
      let s := s.pairCommit e t prior (s.commitBytes g.buf)
      let s := { s with trw := { s.trw with
        engines := s.trw.engines.put e { g with task := none, buf := {}, clocks := 0, tickClocks := g.tickClocks + clk }
        stages := s.trw.stages.put t .done } }.bookCycle t clk
      let s := s.onCore fun k =>
        let k := (k.fput Reg.TRW_MISM_CONSEC 0 e).fput Reg.TRW_STAT_STATE 0 e
        if g.a.ovf then k.bump Reg.TRW_OVF_CNT_COUNT e else k
      s.itemDone
  | _, _ => s

/-- An engine starts its ready due task of lowest PRIO (R56, R95); nothing while it executes or is out of service. -/
def State.dispatch (s : State) (e : Fin 8) : State :=
  if s.trw.scanning && s.core.flag Reg.TRW_STAT_IN_SERVICE e && (s.engine e).task.isNone then
    match s.nextTask e with
    | none => s.showEngine e
    | some d =>
      let r : LaneRegs := { pc := BitVec.ofNat 18 d.codeStart }
      let g := s.engine e
      { s with trw := { s.trw with
          engines := s.trw.engines.put e { g with a := r, b := r, task := some d.id, buf := {}, clocks := 4 }
          stages := s.trw.stages.put d.id .running } }.onCore fun k =>
        (k.fput Reg.TRW_STAT_TASK d.id e).fput Reg.TRW_STAT_STATE 1 e
  else s

/-! ### Integer arithmetic (R69) -/

/-- An exact result narrowed to int32; OVF when it does not fit. -/
def narrow (i : Int) : Word × Bool := (BitVec.ofInt 32 i, decide (i < -(2 ^ 31) ∨ 2 ^ 31 ≤ i))

/-- DIVI (R69). -/
def divi (a b : Word) : Word × Bool :=
  if b = 0 then (0, true) else narrow (a.toInt.tdiv b.toInt)

/-- MODI (R69): the sign of WA. -/
def modi (a b : Word) : Word × Bool :=
  if b = 0 then (0, true) else (BitVec.ofInt 32 (a.toInt.tmod b.toInt), false)

/-- DIVU (R69). -/
def divu (a b : Word) : Word × Bool := if b = 0 then (0, true) else (a / b, false)

end Sys2Proof.Machine
end

