-- ==== Sys2Proof/Machine/TrowelOps.lean ====
section
/-! DEFINITION. The trowel instructions, one meaning each (R65 to R81), and the start of a task cycle (R95). -/

namespace Sys2Proof.Machine

/-- What a trowel command may change: the engines and stores, the image, and what the end of the tick's work sets off. -/
def State.upTrw (s t : State) : State :=
  { s with core := s.core.after t.core, img := t.img, seq := t.seq, trw := t.trw, flt := t.flt, cmd := t.cmd, lane := t.lane
           pair := t.pair, xch := t.xch, svc := t.svc, hq := t.hq, net := t.net, can := t.can, plat := runPlat s.plat t.plat, bg := t.bg }

/-- TASK_DISPATCH (R95). -/
def execTaskDispatch (e : Fin 8) (s : State) : Answer :=
  .next <| s.upTrw <| s.dispatch e

/-- NOP (R65). -/
def execNop (e : Fin 8) (s : State) : Answer :=
  .next <| s.upTrw <| s.trwReg e 1 id

/-- LD (R65). -/
def execLd (e : Fin 8) (m : MemOp) (s : State) : Answer :=
  .next <| s.upTrw <| s.trwBit e m (fun _ b => b)

/-- LDN (R65). -/
def execLdn (e : Fin 8) (m : MemOp) (s : State) : Answer :=
  .next <| s.upTrw <| s.trwBit e m (fun _ b => !b)

/-- AND (R65). -/
def execAnd (e : Fin 8) (m : MemOp) (s : State) : Answer :=
  .next <| s.upTrw <| s.trwBit e m (fun l b => l && b)

/-- ANDN (R65). -/
def execAndn (e : Fin 8) (m : MemOp) (s : State) : Answer :=
  .next <| s.upTrw <| s.trwBit e m (fun l b => l && !b)

/-- OR (R65). -/
def execOr (e : Fin 8) (m : MemOp) (s : State) : Answer :=
  .next <| s.upTrw <| s.trwBit e m (fun l b => l || b)

/-- ORN (R65). -/
def execOrn (e : Fin 8) (m : MemOp) (s : State) : Answer :=
  .next <| s.upTrw <| s.trwBit e m (fun l b => l || !b)

/-- XOR (R65). -/
def execXor (e : Fin 8) (m : MemOp) (s : State) : Answer :=
  .next <| s.upTrw <| s.trwBit e m (fun l b => l != b)

/-- XORN (R65). -/
def execXorn (e : Fin 8) (m : MemOp) (s : State) : Answer :=
  .next <| s.upTrw <| s.trwBit e m (fun l b => l != !b)

/-- ST (R65). -/
def execSt (e : Fin 8) (m : MemOp) (s : State) : Answer :=
  .next <| s.upTrw <| s.trwStore e m some

/-- STN (R65). -/
def execStn (e : Fin 8) (m : MemOp) (s : State) : Answer :=
  .next <| s.upTrw <| s.trwStore e m (some !·)

/-- SET (R65). -/
def execSet (e : Fin 8) (m : MemOp) (s : State) : Answer :=
  .next <| s.upTrw <| s.trwStore e m fun l => if l then some true else none

/-- RST (R65). -/
def execRst (e : Fin 8) (m : MemOp) (s : State) : Answer :=
  .next <| s.upTrw <| s.trwStore e m fun l => if l then some false else none

/-- LTRUE (R65). -/
def execLtrue (e : Fin 8) (s : State) : Answer :=
  .next <| s.upTrw <| s.trwReg e 1 fun r => { r with lacc := true }

/-- LFALSE (R65). -/
def execLfalse (e : Fin 8) (s : State) : Answer :=
  .next <| s.upTrw <| s.trwReg e 1 fun r => { r with lacc := false }

/-- NOT (R65). -/
def execNot (e : Fin 8) (s : State) : Answer :=
  .next <| s.upTrw <| s.trwReg e 1 fun r => { r with lacc := !r.lacc }

/-- AND_OPEN (R66). -/
def execAndOpen (e : Fin 8) (s : State) : Answer :=
  .next <| s.upTrw <| s.trwStack e (push .and)

/-- ANDN_OPEN (R66). -/
def execAndnOpen (e : Fin 8) (s : State) : Answer :=
  .next <| s.upTrw <| s.trwStack e (push .andn)

/-- OR_OPEN (R66). -/
def execOrOpen (e : Fin 8) (s : State) : Answer :=
  .next <| s.upTrw <| s.trwStack e (push .or)

/-- ORN_OPEN (R66). -/
def execOrnOpen (e : Fin 8) (s : State) : Answer :=
  .next <| s.upTrw <| s.trwStack e (push .orn)

/-- XOR_OPEN (R66). -/
def execXorOpen (e : Fin 8) (s : State) : Answer :=
  .next <| s.upTrw <| s.trwStack e (push .xor)

/-- CLOSE_PAREN (R66). -/
def execCloseParen (e : Fin 8) (s : State) : Answer :=
  .next <| s.upTrw <| s.trwStack e closePop

/-- PUSH (R66). -/
def execPush (e : Fin 8) (s : State) : Answer :=
  .next <| s.upTrw <| s.trwStack e (push .push)

/-- READ (R66). -/
def execRead (e : Fin 8) (s : State) : Answer :=
  .next <| s.upTrw <| s.trwStack e (readTop false)

/-- POP (R66). -/
def execPop (e : Fin 8) (s : State) : Answer :=
  .next <| s.upTrw <| s.trwStack e (readTop true)

/-- LDA (R68). -/
def execLda (e : Fin 8) (m : MemOp) (s : State) : Answer :=
  .next <| s.upTrw <| s.trwRun e 1 (some m) (fun _ => s.okWordRead m) fun r x => .go { r with wa := x.value }

/-- LDB (R68). -/
def execLdb (e : Fin 8) (m : MemOp) (s : State) : Answer :=
  .next <| s.upTrw <| s.trwRun e 1 (some m) (fun _ => s.okWordRead m) fun r x => .go { r with wb := x.value }

/-- STA (R68). -/
def execSta (e : Fin 8) (m : MemOp) (s : State) : Answer :=
  .next <| s.upTrw <| s.trwStoreWord e m fun _ => true

/-- STAC (R68). -/
def execStac (e : Fin 8) (m : MemOp) (s : State) : Answer :=
  .next <| s.upTrw <| s.trwStoreWord e m id

/-- SWAP (R68). -/
def execSwap (e : Fin 8) (s : State) : Answer :=
  .next <| s.upTrw <| s.trwReg e 1 fun r => { r with wa := r.wb, wb := r.wa }

/-- MOVAB (R68). -/
def execMovab (e : Fin 8) (s : State) : Answer :=
  .next <| s.upTrw <| s.trwReg e 1 fun r => { r with wb := r.wa }

/-- SELW (R68). -/
def execSelw (e : Fin 8) (s : State) : Answer :=
  .next <| s.upTrw <| s.trwReg e 1 fun r => { r with wa := if r.lacc then r.wa else r.wb }

/-- QOK (R68). -/
def execQok (e : Fin 8) (m : MemOp) (s : State) : Answer :=
  .next <| s.upTrw <| s.trwRun e 1 (some m) (fun _ => s.okCell m) fun r x =>
    .go { r with lacc := !x.failed && (x.qual == Qual.good || x.qual == Qual.forced) }

/-- LDQL (R68). -/
def execLdql (e : Fin 8) (m : MemOp) (s : State) : Answer :=
  .next <| s.upTrw <| s.trwRun e 1 (some m) (fun _ => s.okCell m) fun r x => .go { r with wa := BitVec.ofNat 32 x.qual }

/-- ADDI (R69). -/
def execAddi (e : Fin 8) (s : State) : Answer :=
  .next <| s.upTrw <| s.trwAlu e 1 (fun a b => narrow (a.toInt + b.toInt))

/-- SUBI (R69). -/
def execSubi (e : Fin 8) (s : State) : Answer :=
  .next <| s.upTrw <| s.trwAlu e 1 (fun a b => narrow (a.toInt - b.toInt))

/-- MULI (R69). -/
def execMuli (e : Fin 8) (s : State) : Answer :=
  .next <| s.upTrw <| s.trwAlu e 2 (fun a b => narrow (a.toInt * b.toInt))

/-- DIVI (R69). -/
def execDivi (e : Fin 8) (s : State) : Answer :=
  .next <| s.upTrw <| s.trwAlu e 12 divi

/-- MODI (R69). -/
def execModi (e : Fin 8) (s : State) : Answer :=
  .next <| s.upTrw <| s.trwAlu e 12 modi

/-- DIVU (R69). -/
def execDivu (e : Fin 8) (s : State) : Answer :=
  .next <| s.upTrw <| s.trwAlu e 12 divu

/-- NEGI (R69). -/
def execNegi (e : Fin 8) (s : State) : Answer :=
  .next <| s.upTrw <| s.trwAlu e 1 (fun a _ => narrow (-a.toInt))

/-- ABSI (R69). -/
def execAbsi (e : Fin 8) (s : State) : Answer :=
  .next <| s.upTrw <| s.trwAlu e 1 (fun a _ => narrow |a.toInt|)

/-- ANDW (R69). -/
def execAndw (e : Fin 8) (s : State) : Answer :=
  .next <| s.upTrw <| s.trwAlu e 1 (fun a b => (a &&& b, false))

/-- ORW (R69). -/
def execOrw (e : Fin 8) (s : State) : Answer :=
  .next <| s.upTrw <| s.trwAlu e 1 (fun a b => (a ||| b, false))

/-- XORW (R69). -/
def execXorw (e : Fin 8) (s : State) : Answer :=
  .next <| s.upTrw <| s.trwAlu e 1 (fun a b => (a ^^^ b, false))

/-- NOTW (R69). -/
def execNotw (e : Fin 8) (s : State) : Answer :=
  .next <| s.upTrw <| s.trwAlu e 1 (fun a _ => (~~~a, false))

/-- SHL (R69). -/
def execShl (e : Fin 8) (s : State) : Answer :=
  .next <| s.upTrw <| s.trwAlu e 1 (fun a b => (a <<< (b.toNat % 32), false))

/-- SHR (R69). -/
def execShr (e : Fin 8) (s : State) : Answer :=
  .next <| s.upTrw <| s.trwAlu e 1 (fun a b => (a >>> (b.toNat % 32), false))

/-- SAR (R69). -/
def execSar (e : Fin 8) (s : State) : Answer :=
  .next <| s.upTrw <| s.trwAlu e 1 (fun a b => (a.sshiftRight (b.toNat % 32), false))

/-- ADDF (R70). -/
def execAddf (e : Fin 8) (s : State) : Answer :=
  .next <| s.upTrw <| s.trwAlu e 2 F32.add

/-- SUBF (R70). -/
def execSubf (e : Fin 8) (s : State) : Answer :=
  .next <| s.upTrw <| s.trwAlu e 2 F32.sub

/-- MULF (R70). -/
def execMulf (e : Fin 8) (s : State) : Answer :=
  .next <| s.upTrw <| s.trwAlu e 2 F32.mul

/-- DIVF (R70). -/
def execDivf (e : Fin 8) (s : State) : Answer :=
  .next <| s.upTrw <| s.trwAlu e 10 F32.div

/-- SQRTF (R70). -/
def execSqrtf (e : Fin 8) (s : State) : Answer :=
  .next <| s.upTrw <| s.trwAlu e 10 (fun a _ => F32.sqrt a)

/-- NEGF (R70). -/
def execNegf (e : Fin 8) (s : State) : Answer :=
  .next <| s.upTrw <| s.trwAlu e 1 (fun a _ => (F32.neg a, false))

/-- ABSF (R70). -/
def execAbsf (e : Fin 8) (s : State) : Answer :=
  .next <| s.upTrw <| s.trwAlu e 1 (fun a _ => (F32.abs a, false))

/-- MINF (R70). -/
def execMinf (e : Fin 8) (s : State) : Answer :=
  .next <| s.upTrw <| s.trwAlu e 1 (fun a b => (F32.min a b, false))

/-- MAXF (R70). -/
def execMaxf (e : Fin 8) (s : State) : Answer :=
  .next <| s.upTrw <| s.trwAlu e 1 (fun a b => (F32.max a b, false))

/-- ITOF (R70). -/
def execItof (e : Fin 8) (s : State) : Answer :=
  .next <| s.upTrw <| s.trwAlu e 2 (fun a _ => (F32.ofInt a.toInt, false))

/-- UTOF (R70). -/
def execUtof (e : Fin 8) (s : State) : Answer :=
  .next <| s.upTrw <| s.trwAlu e 2 (fun a _ => (F32.ofInt a.toNat, false))

/-- FTOI (R70). -/
def execFtoi (e : Fin 8) (s : State) : Answer :=
  .next <| s.upTrw <| s.trwAlu e 2 (fun a _ => F32.toInt a)

/-- EQI (R72). -/
def execEqi (e : Fin 8) (s : State) : Answer :=
  .next <| s.upTrw <| s.trwCmp e fun a b => a == b

/-- NEI (R72). -/
def execNei (e : Fin 8) (s : State) : Answer :=
  .next <| s.upTrw <| s.trwCmp e fun a b => a != b

/-- GTI (R72). -/
def execGti (e : Fin 8) (s : State) : Answer :=
  .next <| s.upTrw <| s.trwCmp e fun a b => b.toInt < a.toInt

/-- GEI (R72). -/
def execGei (e : Fin 8) (s : State) : Answer :=
  .next <| s.upTrw <| s.trwCmp e fun a b => b.toInt ≤ a.toInt

/-- LTI (R72). -/
def execLti (e : Fin 8) (s : State) : Answer :=
  .next <| s.upTrw <| s.trwCmp e fun a b => a.toInt < b.toInt

/-- LEI (R72). -/
def execLei (e : Fin 8) (s : State) : Answer :=
  .next <| s.upTrw <| s.trwCmp e fun a b => a.toInt ≤ b.toInt

/-- GTU (R72). -/
def execGtu (e : Fin 8) (s : State) : Answer :=
  .next <| s.upTrw <| s.trwCmp e fun a b => b.toNat < a.toNat

/-- LTU (R72). -/
def execLtu (e : Fin 8) (s : State) : Answer :=
  .next <| s.upTrw <| s.trwCmp e fun a b => a.toNat < b.toNat

/-- EQF (R72). -/
def execEqf (e : Fin 8) (s : State) : Answer :=
  .next <| s.upTrw <| s.trwCmp e fun a b => F32.eq a b

/-- NEF (R72). -/
def execNef (e : Fin 8) (s : State) : Answer :=
  .next <| s.upTrw <| s.trwCmp e fun a b => !F32.eq a b

/-- GTF (R72). -/
def execGtf (e : Fin 8) (s : State) : Answer :=
  .next <| s.upTrw <| s.trwCmp e fun a b => F32.lt b a

/-- GEF (R72). -/
def execGef (e : Fin 8) (s : State) : Answer :=
  .next <| s.upTrw <| s.trwCmp e fun a b => F32.le b a

/-- LTF (R72). -/
def execLtf (e : Fin 8) (s : State) : Answer :=
  .next <| s.upTrw <| s.trwCmp e fun a b => F32.lt a b

/-- LEF (R72). -/
def execLef (e : Fin 8) (s : State) : Answer :=
  .next <| s.upTrw <| s.trwCmp e fun a b => F32.le a b

/-- JMP (R74). -/
def execJmp (e : Fin 8) (addr : BitVec 18) (s : State) : Answer :=
  .next <| s.upTrw <| s.trwJump e addr fun _ => true

/-- JC (R74). -/
def execJc (e : Fin 8) (addr : BitVec 18) (s : State) : Answer :=
  .next <| s.upTrw <| s.trwJump e addr id

/-- JCN (R74). -/
def execJcn (e : Fin 8) (addr : BitVec 18) (s : State) : Answer :=
  .next <| s.upTrw <| s.trwJump e addr (!·)

/-- LDOVF (R74). -/
def execLdovf (e : Fin 8) (s : State) : Answer :=
  .next <| s.upTrw <| s.trwReg e 1 fun r => { r with lacc := r.ovf }

/-- CLOVF (R74). -/
def execClovf (e : Fin 8) (s : State) : Answer :=
  .next <| s.upTrw <| s.trwReg e 1 fun r => { r with ovf := false }

/-- LDCHK (R74). -/
def execLdchk (e : Fin 8) (s : State) : Answer :=
  .next <| s.upTrw <| s.trwReg e 1 fun r => { r with lacc := r.chk }

/-- END (R83). -/
def execEndCycle (e : Fin 8) (s : State) : Answer :=
  .next <| s.upTrw <| s.trwEnd e

/-- TON (R79). -/
def execTon (e : Fin 8) (m : MemOp) (s : State) : Answer :=
  .next <| s.upTrw <| s.trwRecord e m 4 1 fun r x =>
    let y := ton r.lacc r.wa (ep32 s.epoch) s.period x
    (y, y.q, false)

/-- TOF (R79). -/
def execTof (e : Fin 8) (m : MemOp) (s : State) : Answer :=
  .next <| s.upTrw <| s.trwRecord e m 4 2 fun r x =>
    let y := tof r.lacc r.wa (ep32 s.epoch) s.period x
    (y, y.q, false)

/-- TP (R79). -/
def execTp (e : Fin 8) (m : MemOp) (s : State) : Answer :=
  .next <| s.upTrw <| s.trwRecord e m 4 3 fun r x =>
    let y := tp r.lacc r.wa (ep32 s.epoch) s.period x
    (y, y.q, false)

/-- CTU (R80). -/
def execCtu (e : Fin 8) (m : MemOp) (s : State) : Answer :=
  .next <| s.upTrw <| s.trwRecord e m 3 4 fun r x => ctu r.lacc (ep32 s.epoch) x

/-- CTD (R80). -/
def execCtd (e : Fin 8) (m : MemOp) (s : State) : Answer :=
  .next <| s.upTrw <| s.trwRecord e m 3 4 fun r x => ctd r.lacc (ep32 s.epoch) x

/-- CRES (R80). -/
def execCres (e : Fin 8) (m : MemOp) (s : State) : Answer :=
  .next <| s.upTrw <| s.trwRecord e m 2 4 fun r x => cset (ep32 s.epoch) r.lacc (fun y => if r.lacc then { y with et := 0 } else y) x

/-- CLOAD (R80). -/
def execCload (e : Fin 8) (m : MemOp) (s : State) : Answer :=
  .next <| s.upTrw <| s.trwRecord e m 2 4 fun r x => cset (ep32 s.epoch) r.lacc (fun y => if r.lacc then { y with et := r.wa } else y) x

/-- CPSET (R80). -/
def execCpset (e : Fin 8) (m : MemOp) (s : State) : Answer :=
  .next <| s.upTrw <| s.trwRecord e m 2 4 fun r x => cset (ep32 s.epoch) r.lacc (fun y => { y with pt := r.wa }) x

/-- LDQ (R80). -/
def execLdq (e : Fin 8) (m : MemOp) (s : State) : Answer :=
  .next <| s.upTrw <| s.trwRun e 1 none (fun _ => s.okRecordRead m true) fun r _ =>
    .go { r with lacc := if m.bit == 0 then (s.recSeen e m.idx).q else (s.recSeen e m.idx).qd }

/-- LET (R80). -/
def execLetv (e : Fin 8) (m : MemOp) (s : State) : Answer :=
  .next <| s.upTrw <| s.trwRun e 1 none (fun _ => s.okRecordRead m false) fun r _ => .go { r with wa := (s.recSeen e m.idx).et }

/-- EDGR (R81). -/
def execEdgr (e : Fin 8) (m : MemOp) (s : State) : Answer :=
  .next <| s.upTrw <| s.trwEdge e m fun l x => l && !x

/-- EDGF (R81). -/
def execEdgf (e : Fin 8) (m : MemOp) (s : State) : Answer :=
  .next <| s.upTrw <| s.trwEdge e m fun l x => !l && x

end Sys2Proof.Machine
end

