-- ==== Sys2Proof/Machine/Load.lean ====
section
/-! DEFINITION. What an accepted configuration image sets when it takes effect (R13, R28, R53, R82, R110, R119, R123, R151, R183,
R195, R221, R246, R247, R276, R280, R296, R324, R344, R419, R428, R477). -/

namespace Sys2Proof.Machine

/-! ### Cells (R27, R28) -/

/-- A mirror slot as it stands until a merge first writes it (R28). -/
def State.freshSlot (s : State) (m : MirrorDef) : State :=
  let a := 0x1000 + m.slot
  s.store a ({ value := 0, qual := BitVec.ofNat 8 Qual.notReady, kind := m.kind, flags := 0, domain := m.domain, src := 6
               epoch := ep32 (s.epoch - 1) : Cell }.sealed (s.pointId a)) [Qual.notReady]

/-- The point image an image defines (R26 to R28): every cell and slot not ready, nothing published. -/
def State.loadCells (s : State) (i : Image) : State :=
  let mirror := i.mirror.foldl (fun (m : SMap MirrorDef) x => m.put (0x1000 + x.slot) x) []
  let s : State := { s with img := { mirror := mirror } }
  let s : State := (i.cells.filter (·.cell < 0xF00)).foldl (fun (s : State) d => s.freshCell d) s
  let s : State := (systemDefs i.cells).foldl (fun (s : State) d => s.freshCell d) s
  let s : State := i.mirror.foldl (fun (s : State) m => s.freshSlot m) s
  { s with bg := { s.bg with sys := [] } }.showPins

/-! ### Forces (R110) -/

/-- Forces at a start-up: gone are those whose cell the image does not define or gives another KIND, and after a cold reset those
that are not persistent; `old` are the kinds the forces were set under. -/
def State.loadForces (s : State) (old : SMap (BitVec 4)) : State :=
  let keep (p : Nat × Force) : Nat :=
    match s.img.defs.at? p.1 with
    | none => 4
    | some d =>
      if (old.at? p.1).any (· != d.kind) then 4
      else if s.plat.cold && !p.2.persist then 5 else 0
  let gone := (s.cmd.forces.map fun p => (p, keep p)).filter fun x => x.2 != 0
  let left := s.cmd.forces.filter fun p => keep p == 0
  let gen := s.cmd.forceGen + gone.length
  let s : State := { s with cmd := { s.cmd with forces := left, forceGen := gen } }
  (gone.foldl (fun (s : State) x => s.forceRecord x.1.1 x.2 x.1.2.persist x.1.2.value) s).showForces

/-! ### The bank, its records and its retained words (R82, R102, R123) -/

/-- The newest MRAM copy whose CRC holds (R123). -/
def Trw_copy (t : Trw) : Option RetCopy :=
  let a := if t.copyA.valid then some t.copyA else none
  let b := if t.copyB.valid then some t.copyB else none
  match a, b with
  | some x, some y => some (if x.seq ≥ y.seq then x else y)
  | some x, none => some x
  | none, y => y

/-- The words of a retained symbol at start-up (R120, R123). -/
def retStart (c : Option RetCopy) (r : RetainedSym) : List Word :=
  match c.bind fun c => c.words.find? fun w => r.symid != 0 && w.1 == r.symid && w.2.1 == r.type && w.2.2.length == r.init.length with
  | some w => w.2.2
  | none => r.init

/-- A record at start-up (R76, R82, R123): at rest, or a retentive counter with its CV and PV. -/
def recStart (c : Option RetCopy) (r : RecordSym) : TRec :=
  let rest : TRec := { sym := r.symid, type := r.type }
  if !(r.retentive && r.type == 4) then rest
  else match c.bind fun c => c.counters.find? fun w => r.symid != 0 && w.1 == r.symid with
    | some w => recount { rest with et := w.2.et, pt := w.2.pt }
    | none => rest

/-- The running bank of an image with its stores (R82, R123); without a valid MRAM copy a record tells so. -/
def State.loadBank (s : State) (i : Image) : State :=
  let p : Program := { i.program with cells := i.cells.filter fun d => d.cell < 0xF00 && d.src == 4 }
  let c := Trw_copy s.trw
  let recs := p.records.foldl (fun (m : SMap TRec) r => m.put r.idx (recStart c r)) []
  let edges := p.edges.foldl (fun (m : SMap EdgeBit) e => m.put e.idx {}) []
  let ret := p.retained.foldl (fun (m : SMap Word) r =>
    (retStart c r).zipIdx.foldl (fun (m : SMap Word) w => m.put (r.idx + w.2) w.1) m) []
  let trw := { s.trw with bank := p, idle := none, recs := recs, edges := edges, ret := ret, stages := [], codeBad := []
                          constBad := [], scanning := false }
  let cmd := { s.cmd with forceDue := [], touchDue := [], slotDue := [], recoat := none, partnerVerified := false
                          restartDue := false, feathering := false, stopAll := false }
  let s : State := ({ s with trw := trw, cmd := cmd }.onCore fun k =>
    ((k.fput Reg.RCT_STAT_STATE 0).setFlag Reg.RCT_STAT_IDLE_VALID false).fput Reg.TUP_STAT_QUEUED 0).showTasks
  if c.isNone then s.record 0x0208 0 (le s.epoch 8) else s

/-- The loop slots of an image (R129, R130). -/
def State.loadLoops (s : State) (i : Image) : State :=
  let s : State := s.flt.slots.foldl (fun (s : State) p => s.onCore fun k =>
    (k.setFlag Reg.LP_STAT_VALID false p.1).fput Reg.LP_STAT_STATE 0 p.1) s
  let s : State := { s with flt := { s.flt with slots := [], stages := [], descBad := [] } }
  (i.loops.foldl (fun (s : State) d => if d.desc.valid then s.putSlot d else s) s).showSlots

/-! ### Metrology (R183, R195) -/

/-- The valid commit slot with the higher SEQ (R183). -/
def Met_slot (m : Met) : Option CommitImage :=
  match m.slotA, m.slotB with
  | some a, some b => some (if a.seq ≥ b.seq then a else b)
  | some a, none => some a
  | none, b => b

/-- TYPE of an element as an image's blocks tell it: one block for TYPE 1, one a phase and one for the whole otherwise (R170). -/
def typeOfBlocks (blocks : List PointBlock) (id : Nat) : Nat :=
  match (blocks.filter (·.elemId == id)).length with
  | 1 => 1
  | 3 => 2
  | 4 => 3
  | _ => 0

/-- The point of a recovered image that a new point carries on, by index (R183): same ELEM_ID, TYPE and phase. Log entry 45
(DEDUCED, unsafe). -/
def carried (new : List ElementDef) (blocks : List PointBlock) (n : PointPlace) : Option Nat :=
  (new[n.element]?).bind fun e =>
    if typeOfBlocks blocks e.elemId.toNat = e.type then
      (blocks.zipIdx.find? fun b => b.1.elemId == e.elemId.toNat && b.1.phase == n.phase).map (·.2)
    else none

/-- A thermal channel carried over: the same channel and pulse input in both configurations. Log entry 45 (DEDUCED, unsafe).
-/
def carriedThermal (old : List ThermalDef) (blocks : List ThermalBlock) (d : ThermalDef) : Option ThermalBlock :=
  (old.zipIdx.find? fun q => q.1.ch == d.ch && q.1.input == d.input).bind fun q => blocks[q.2]?

/-- A new metering configuration (R183): the recovered image is a snapshot with trigger 3, unchanged points go on with their
demand intervals, and the others start at zero with a record that lists them. Log entry 45 (DEDUCED, unsafe). -/
def State.newMetering (s : State) (c : MeterCfg) (img : CommitImage) : State :=
  let old := s.met.cfg
  let from_ := (Machine.places c.elements).map (carried c.elements img.points)
  let points := from_.map fun i => (i.bind (img.points[·]?)).getD {}
  let extra := from_.map fun i => (i.bind (s.met.extra[·]?)).getD { startC := s.core.c }
  let th := c.thermal.map (carriedThermal old.thermal img.thermal)
  let mask := (from_.zipIdx.map fun x => if x.1.isNone && x.2 < 32 then 2 ^ x.2 else 0).sum
  let met := { s.met with cfg := c, points := points, extra := extra, thermal := th.map (·.getD {}), irms := [], apparent := []
                          products := [], wave := {}, ready := [], due := [], thermalExtra := c.thermal.map fun _ => {}
                          okCycles := 0, mhz := c.nominalMhz }
  { s with met := met }.record 0x0404 0 (le c.cfgId.toNat 4 ++ le mask 4)

/-- The image recovered at a cold start (R183): of the newest valid slot, sealed with trigger 3 where its CFG_ID is another.
Log entry 45 (DEDUCED, unsafe). -/
def State.recoverImage (s : State) (c : MeterCfg) (m : CommitImage) : State :=
  let extra := m.points.map fun _ => ({ startC := s.core.c } : PointExtra)
  let met := { s.met with points := m.points, thermal := m.thermal, seq := m.seq, samples := m.samples, extra := extra }
  let s := { s with met := met }.onCore (·.putPair Reg.MET_SEQ_LO_SEQ_LO Reg.MET_SEQ_HI_SEQ_HI m.seq)
  if m.cfgId = c.cfgId then { s with met := { s.met with cfg := c } }
  else (s.takeSnapshot m { trigger := 3 }).showSnapshot.newMetering c m

/-- Registers recovered before the first sample (R183): from the newest valid slot, or from zero with REG_LOST and a record.
Log entry 45 (DEDUCED, unsafe). -/
def State.recoverMeter (s : State) (c : MeterCfg) : State :=
  match Met_slot s.met with
  | some m => s.recoverImage c m
  | none =>
    let ps := Machine.places c.elements
    let mask := (ps.zipIdx.map fun x => if x.2 < 32 then 2 ^ x.2 else 0).sum
    let met := { s.met with points := [], thermal := [], extra := ps.map fun _ => { startC := s.core.c }, cfg := c, lostMark := true
                            thermalExtra := c.thermal.map fun _ => {} }
    ({ s with met := met }.onCore (·.setFlag Reg.MET_STAT_REG_LOST true)).record 0x0404 0 (le c.cfgId.toNat 4 ++ le mask 4)

/-- A configuration meets registers that a warm reset left running (R183, R187): one with a new CFG_ID takes a commit of them,
its snapshot with trigger 3. Log entry 45 (DEDUCED, unsafe). -/
def State.continueMeter (s : State) (c : MeterCfg) : State :=
  if s.met.cfg.cfgId = c.cfgId then { s with met := { s.met with cfg := c } }
  else
    let s := (s.triggerSnapshot { trigger := 3 }).commit 0
    s.newMetering c (s.commitImage 0)

/-- Show the channels' settings and the coefficients in use, those of the ferroelectric store (R179, R195). -/
def State.showChannels (s : State) (c : MeterCfg) : State :=
  (List.range 29).foldl (fun (s : State) ch => s.onCore fun k =>
    let k := match s.met.gains.at? ch with
      | some g => k.fput Reg.MET_CH_GAIN_GAIN g.toNat ch
      | none => k
    match c.channels.find? (·.ch.val == ch) with
    | none => k.setFlag Reg.MET_CH_CFG_ENABLE false ch
    | some d => (((k.setFlag Reg.MET_CH_CFG_ENABLE d.enable ch).fput Reg.MET_CH_CFG_SENSOR d.sensor ch).fput
        Reg.MET_CH_CFG_GAIN d.gain ch).fput Reg.MET_CH_CFG_PHASE d.phase.toNat ch) s

/-- The metering configuration of an image takes effect (R183, R187, R195): after a cold reset the registers are recovered, and
sampling starts. -/
def State.loadMeter (s : State) (c : MeterCfg) : State :=
  let s := if s.core.flag Reg.MET_STAT_RUN || s.met.blocked then s.continueMeter c else s.recoverMeter c
  let s := if s.met.thermalExtra.length = c.thermal.length then s
    else { s with met := { s.met with thermalExtra := c.thermal.map fun _ => {} } }
  (s.showChannels c).onCore fun k =>
    let k := k.setFlag Reg.MET_STAT_RUN (!s.met.blocked)
    if k.flag Reg.MET_STAT_FREQ_LOCK then k else k.fput Reg.MET_FREQ_MHZ c.nominalMhz

/-! ### Identity, tick, pair, lane, exchange (R13, R52, R53, R221, R246, R276) -/

/-- GLB_UNIT, GLB_ESTATE, the tick's set-up, the pair's and the lane's. -/
def State.showUnit (s : State) (i : Image) : State :=
  let pref := i.paired && i.preferredSerial == s.sec.otp.serial
  s.onCore fun k =>
    let k := (k.setFlag Reg.GLB_UNIT_VALID true).setFlag Reg.GLB_UNIT_PAIRED i.paired
    let k := (k.setFlag Reg.GLB_UNIT_PREFERRED pref).fput Reg.GLB_UNIT_POSITION i.position
    let k := k.fput Reg.GLB_ESTATE_ESTATE_ID i.estateId.toNat
    let k := (k.setFlag Reg.TICK_CFG_VALID true).fput Reg.TICK_CFG_PERIOD i.periodCode
    let k := (k.fput Reg.TICK_ORIGIN_LO_SEC_LO i.originS).fput Reg.TICK_ORIGIN_HI_SEC_HI (i.originS / 2 ^ 32)
    let k := k.fput Reg.TICK_SCAN_WIN_WIN_US (periodMs i.periodCode * 1000 - 450)
    let k := (k.fput Reg.TICK_PIN_CFG_MAX_S i.time.pinMaxS).fput Reg.TICK_START_CFG_LOCK_WAIT_S i.time.lockWaitS
    let k := (k.setFlag Reg.PTR_CFG_VALID true).setFlag Reg.PTR_CFG_REVERTIVE i.revertive
    let k := (k.fput Reg.PTR_CFG_START_WAIT_S i.startWaitS).fput Reg.PTR_CFG_HOLDOFF_S i.holdoffS
    ((k.setFlag Reg.LANE_CFG_VALID true).fput Reg.LANE_CFG_RETRY i.laneRetry).fput Reg.LANE_CFG_SILENCE_MS i.silenceMs

/-- The exchange and the point service (R247 to R254, R276): nothing received yet, and the next publish carries everything.
The generation a roll has set stays in use while the image names the generation that the roll replaced (R253, R391). Log entry
106 (DESIGN CHOICE, unsafe). -/
def State.loadExchange (s : State) (i : Image) : State :=
  let x : Xch := { subs := i.subs, windows := s.xch.windows, ctr := s.xch.ctr, ctrSaved := s.xch.ctrSaved, keyBase := some i.keyGen }
  let x := if s.xch.keyBase = some i.keyGen then
      { x with keyNow := s.xch.keyNow, keyPrev := s.xch.keyPrev, keySwitch := s.xch.keySwitch }
    else x
  { s with xch := x }.onCore fun k =>
    let k := (k.setFlag Reg.XCH_CFG_VALID true).setFlag Reg.XCH_CFG_DUAL i.dual
    let k := ((k.fput Reg.XCH_CFG_REPEAT i.xchRepeat).fput Reg.XCH_CFG_KEYGEN_TX (x.keyNow.getD i.keyGen)).fput Reg.XCH_CFG_MTU i.mtu
    ((k.fput Reg.XCH_PORT_SERVICE i.svcPort).fput Reg.XCH_PORT_EXCHANGE i.xchPort).fput Reg.XCH_PUB_PUBSET i.published.length

/-! ### Ports, CAN, time, queues, trend (R280, R296, R324, R344, R419, R428, R477) -/

/-- Port and PLCA set-up: segment `g` is port 2 + g, and one the image says nothing of has the defaults of R280 (R277, R280,
R296). -/
def State.showPorts (s : State) (i : Image) : State :=
  let s : State := (List.range 4).foldl (fun (s : State) p => s.onCore fun k =>
    (k.setFlag Reg.FP_CFG_VALID true p).setFlag Reg.FP_CFG_MACSEC (i.macsec.any (·.val == p)) p) s
  (List.finRange 2).foldl (fun (s : State) g => s.onCore fun k =>
    let c := (i.plca.find? (·.seg == g)).getD { seg := g }
    let k := (k.setFlag Reg.PLCA_CTRL_EN c.enable g).setFlag Reg.PLCA_CTRL_COORD (c.localId == 0) g
    let k := (k.fput Reg.PLCA_CTRL_NODE_COUNT c.nodeCount g).fput Reg.PLCA_CTRL_LOCAL_ID c.localId g
    ((k.fput Reg.PLCA_TIMER_BURST_TMR c.burstTmr g).fput Reg.PLCA_TIMER_TO_TMR c.toTmr g).fput Reg.PLCA_BURST_MAX_BC c.maxBc g) s

/-- One controller's set-up registers (R298, R299, R302, R308, R319, R324). -/
def showCan (k : Core) (c : CanCfg) : Core :=
  let n := c.ctl.val
  let k := ((k.setFlag Reg.CAN_CFG_VALID true n).fput Reg.CAN_CFG_MODE c.mode n).setFlag Reg.CAN_CFG_TXPRIO c.txPrio n
  let k := ((k.setFlag Reg.CAN_CFG_TRIPLE c.triple n).setFlag Reg.CAN_CFG_PEX_EN c.pexEn n).setFlag Reg.CAN_CFG_TIME_MASTER
    c.timeMaster n
  let k := (k.setFlag Reg.CAN_CFG_SSP_EN c.sspEn n).fput Reg.CAN_SSP_SSPO c.sspo n
  let k := (k.fput Reg.CAN_BITN_SEG1 (c.nomSeg1 - 1) n).fput Reg.CAN_BITN_SEG2 (c.nomSeg2 - 1) n
  let k := (k.fput Reg.CAN_BITN_RJW (c.nomSjw - 1) n).fput Reg.CAN_BITN_PRESC (c.nomBrp - 1) n
  let k := (k.fput Reg.CAN_BITD_SEG1 (c.datSeg1 - 1) n).fput Reg.CAN_BITD_SEG2 (c.datSeg2 - 1) n
  let k := (k.fput Reg.CAN_BITD_RJW (c.datSjw - 1) n).fput Reg.CAN_BITD_PRESC (c.datBrp - 1) n
  let k := (k.fput Reg.CAN_ACPT_MISS_BASE c.missBase n).fput Reg.CAN_ACPT_MISS_EXT c.missExt n
  let k := (k.setFlag Reg.CAN_ACPT_RMT_BASE c.rmtBase n).setFlag Reg.CAN_ACPT_RMT_EXT c.rmtExt n
  let k := k.fput Reg.CAN_ACPT_USED c.stencils.length n
  let k := (k.setFlag Reg.CAN_TT_REF_XTD c.refExt n).fput Reg.CAN_TT_REF_ID c.refId.toNat n
  (k.fput Reg.CAN_TT_STAT_NCYC c.ncyc n).fput Reg.CAN_TT_CYC_CYC_US c.cycUs n

/-- The controllers an image sets up (R302, R322): a controller that is not off joins its bus. -/
def State.loadCan (s : State) (i : Image) : State :=
  i.can.foldl (fun (s : State) c =>
    let x := s.can.ctl.atD c.ctl {}
    { s with can := { s.can with ctl := s.can.ctl.put c.ctl { x with cfg := c, joining := true } } }.onCore fun k =>
      (showCan k c).fput Reg.CAN_BUS_STATE (if c.mode = 0 then 3 else 0) c.ctl) s

/-- The time part of an image (R329, R344). -/
def State.showTime (s : State) (t : TimeCfg) : State :=
  s.onCore fun k =>
    let k := ((k.setFlag Reg.NT_CFG_VALID true).fput Reg.NT_CFG_DOMAIN t.domain).fput Reg.NT_CFG_ROLE t.role
    let k := (k.fput Reg.NT_CFG_PROFILE t.profile).setFlag Reg.NT_CFG_TRANSPORT t.transport
    let k := (k.fput Reg.PLB_KP_KP t.kp.toNat).fput Reg.PLB_KI_KI t.ki.toNat
    let k := ((k.fput Reg.PLB_STEP_NS_NS t.stepNs).fput Reg.PLB_LOCK_NS_NS t.lockNs).fput Reg.PLB_MAX_PPB_PPB t.maxPpb
    let k := (k.sput Reg.NT_UTC_OFFSET t.utcOffset).fput Reg.NT_RTC_RTC_STEP_MS t.rtcStepMs
    let k := (k.fput Reg.NT_PPS_CFG_OUT_WIDTH_MS t.ppsWidthMs).setFlag Reg.NT_PPS_CFG_IN_EN t.ppsInEn
    let k := k.fput Reg.NT_PPS_CFG_OUT_MODE t.ppsOutMode
    (k.fput Reg.NT_ASYM0_NS t.asym0.toNat).fput Reg.NT_ASYM1_NS t.asym1.toNat

/-- Queues and event rings with their domains: ring 0 is of domain 0 (R419, R428). -/
def State.showQueues (s : State) (i : Image) : State :=
  let s : State := (List.finRange 64).foldl (fun (s : State) q => s.onCore fun k =>
    match i.queueDomains.find? (·.1 == q) with
    | some d => (k.setFlag Reg.HQ_CFG_BOUND true q).fput Reg.HQ_CFG_DOMAIN d.2.toNat q
    | none => (k.setFlag Reg.HQ_CFG_BOUND false q).fput Reg.HQ_CFG_DOMAIN 0 q) s
  i.ringDomains.foldl (fun (s : State) r => s.onCore (·.fput Reg.EQ_CFG_DOMAIN (if r.1 = 0 then 0 else r.2.toNat) r.1)) s

/-- Trend items (R477). -/
def State.loadTrend (s : State) (i : Image) : State :=
  { s with bg := { s.bg with items := i.trend, last := [] } }.onCore fun k =>
    (k.fput Reg.TREND_STAT_ITEMS i.trend.length).fput Reg.TREND_CFG_FLUSH_S i.trendFlushS

/-! ### The image as a whole -/

/-- An accepted configuration image takes effect at a start-up (R380 step 6). Log entry 106 (DESIGN CHOICE, unsafe). -/
def State.loadImage (s : State) (h : Header) (i : Image) : State :=
  let old := s.img.defs.map fun p => (p.1, p.2.kind)
  let sec := { s.sec with runSeq := h.seq, runSvn := h.svn, runAdvance := h.advance }
  let s : State := { s with cfg := i, sec := sec, seq := { s.seq with started := false, visit := 0 }
                            lane := { s.lane with refs := [], faulty := [], clearDue := [], echoes := [], joining := [], joinNext := [] } }
  let s := ((s.showUnit i).loadCells i).loadForces old
  let s := ((s.loadBank i).loadLoops i).loadMeter i.meter
  let s := ((s.loadExchange i).showPorts i).loadCan i
  (((s.showTime i.time).ptpJoin 0).ptpJoin 1 |>.showQueues i).loadTrend i

end Sys2Proof.Machine
end

