-- ==== Sys2Proof/Machine/Recorder.lean ====
section
/-! DEFINITION. The event recorder: its slots in MRAM, the start-up scan, writing, clearing, the report of dropped events, the
sweep, and reading (R403 to R411, R481). -/

namespace Sys2Proof

/-- A record's CRC holds (R399). -/
def Rec.ok (r : Rec) : Bool := r.crc == Machine.crc32c r.bytes

/-- A record whose slot has lost its content: its check no longer holds. -/
def Rec.torn (r : Rec) : Rec := { r with crc := Machine.crc32c r.bytes + 1 }

/-- Slots of the first area (R403). -/
def firstArea : Nat := 8192

/-- Slots of the circulating area (R403). -/
def circArea : Nat := 57344

/-- The slot a SEQ stands in under F0 (R403). -/
def slotOf (f0 seq : Nat) : Nat :=
  if seq - f0 < firstArea then seq - f0 else firstArea + (seq - f0 - firstArea) % circArea

/-- Lowest SEQ held in the circulating area, `d` if it holds none. -/
def Recorder.circLow (e : Recorder) (d : Nat) : Nat :=
  ((e.slots.filter fun p => decide (p.1 ≥ firstArea)).map (·.2.seq)).foldl
    (fun (m : Option Nat) s => some (match m with | none => s | some x => min x s)) none |>.getD d

/-- Highest SEQ held in the first area; F0 itself stands there (R409). -/
def Recorder.firstHigh (e : Recorder) : Nat :=
  ((e.slots.filter fun p => decide (p.1 < firstArea)).map (·.2.seq)).foldl max e.f0

/-- Slots of a list lose their content (R404, R474, R481). Log entry 88 (DESIGN CHOICE, unsafe). -/
def Recorder.spoil (e : Recorder) (bad : List Nat) : Recorder :=
  { e with slots := e.slots.map fun p => (p.1, if bad.contains p.1 then p.2.torn else p.2) }

/-- Show F0, NEXT and the areas (R413). -/
def Core.showRecorder (k : Core) : Core :=
  let e := k.evr
  let k := k.putPair Reg.EVR_NEXT_LO_SEQ_LO Reg.EVR_NEXT_HI_SEQ_HI e.next
  let k := k.putPair Reg.EVR_FIRST_LO_SEQ_LO Reg.EVR_FIRST_HI_SEQ_HI e.f0
  let k := k.putPair Reg.EVR_CIRC_LO_SEQ_LO Reg.EVR_CIRC_HI_SEQ_HI (e.circLow e.next)
  k.fput Reg.EVR_STAT_FIFO e.fifo.length

/-- The oldest admitted record is written (R403, R405); a clear record empties every other slot (R411). -/
def Core.writeRecord (k : Core) : Core :=
  match k.evr.fifo with
  | [] => k
  | r :: rest =>
    let e := { k.evr with fifo := rest }
    if r.code = 0x0D01 then
      ({ k with evr := { e with slots := [(0, r)], f0 := r.seq, clears := e.clears + 1, counted := [] } }.bump
        Reg.EVR_CLEARS_COUNT).showRecorder
    else
      let i := slotOf e.f0 r.seq
      { k with evr := { e with slots := e.slots.put i r, counted := e.counted.filter (· != i) } }.showRecorder

/-- The record of dropped events, once entries are free (R405). -/
def Core.reportDropped (k : Core) : Core :=
  let e := k.evr
  if e.scanned && e.dropped != 0 && k.evrRoom 0x0D02 then
    { k with evr := { e with dropped := 0 } }.record 0x0D02 0 (le e.dropped 4 ++ le e.dropFirst 8 ++ le e.dropLast 8)
  else k

/-- The payload of a clear record the recorder writes by itself (R411). -/
def Core.ownClear (k : Core) (oldF0 : Nat) : List Byte :=
  le 1 1 ++ le oldF0 8 ++ le k.evr.next 8 ++ le 0 8 ++ le (k.evr.clears + 1) 4

/-- The 16 bytes of a bank of the backup bytes (R367). -/
def Core.bankBytes (k : Core) (b : Nat) : List Byte := (List.range 4).flatMap fun i => le (k.fget Reg.BKP_BYTES_DATA (4 * b + i)) 4

/-- A bank of the fall-back store is valid (R482). -/
def Core.bankOk (k : Core) (b : Nat) : Bool :=
  (Machine.crc32c ((k.bankBytes b).take 12)).toNat == ofLe ((k.bankBytes b).drop 12)

/-- NEXT where the area holds no valid record (R482). -/
def Core.resumeSeq (k : Core) : Nat := if k.bankOk 0 then ofLe ((k.bankBytes 0).take 8) + 64000000 else 0

/-- The scan at every start-up (R404, R482): slots with an invalid CRC do not count; without a valid clear record in slot 0
the area is empty and a clear record with cause 1 is written; then the events that waited are admitted. Log entry 88 (DESIGN
CHOICE, unsafe). -/
def Core.scanRecorder (k : Core) (bad : List Nat) : Core :=
  let e := { k.evr.spoil bad with fifo := [], scanned := true }
  let good := e.slots.filter (·.2.ok)
  let top := if good.isEmpty then k.resumeSeq else good.foldl (fun (m : Nat) p => max m (p.2.seq + 1)) 0
  let head := (e.slots.at? 0).filter fun r => r.ok && r.code == 0x0D01
  let waiting := e.waiting
  let e := { e with next := top, waiting := [] }
  let k := match head with
    | some r => { k with evr := { e with f0 := r.seq } }
    | none => { k with evr := { e with f0 := top, slots := [] } }
  let k := k.showRecorder.setFlag Reg.EVR_STAT_READY true
  let k := if head.isSome then k else k.record 0x0D01 0 (k.ownClear e.f0)
  waiting.foldl (fun k w => k.recordAt w.code w.domain w.payload true w.stamp) k

/-- The sweep of all slots (R481): a corrupt one is counted once until it is written again. -/
def Core.sweepRecorder (k : Core) (bad : List Nat) : Core :=
  let e := k.evr.spoil bad
  let now := (e.slots.filter fun p => !p.2.ok && !e.counted.contains p.1).map (·.1)
  ({ k with evr := { e with counted := e.counted ++ now } }.bump Reg.SWEEP_EVR_CORRUPT 0 now.length).bump Reg.SWEEP_EVR_PASSES

/-! ### Reading (R407 to R409) -/

/-- The walk of a read: where it stands, the gap entries (FROM, COUNT, REASON) newest first, the records newest first, and how
many corrupt slots it met. -/
structure Walked where
  at_ : Nat
  gaps : List (Nat × Nat × Nat) := []
  recs : List Rec := []
  corrupt : Nat := 0
  deriving DecidableEq, Repr, Inhabited

/-- Add a gap of `n` SEQ; none when it would be the 65th entry (R407). -/
def Walked.gap (w : Walked) (n reason : Nat) : Option Walked :=
  match w.gaps with
  | (a, c, r) :: rest =>
    if r = reason ∧ a + c = w.at_ then some { w with at_ := w.at_ + n, gaps := (a, c + n, r) :: rest }
    else if w.gaps.length ≥ 64 then none
    else some { w with at_ := w.at_ + n, gaps := (w.at_, n, reason) :: w.gaps }
  | [] => some { w with at_ := w.at_ + n, gaps := [(w.at_, n, reason)] }

/-- One step of the walk below `top`, the first SEQ not yet written (R407); none where it stops. -/
def walkStep (e : Recorder) (d count top low : Nat) (w : Walked) : Option Walked :=
  if w.at_ ≥ top ∨ w.recs.length ≥ count then none
  else if w.at_ < e.f0 then w.gap (min e.f0 top - w.at_) 1
  else if w.at_ ≥ e.f0 + firstArea ∧ w.at_ < low then w.gap (min low top - w.at_) 2
  else match e.slots.at? (slotOf e.f0 w.at_) with
    | none => (w.gap 1 3).map fun x => { x with corrupt := x.corrupt + 1 }
    | some r =>
      if r.seq ≠ w.at_ then w.gap 1 2
      else if !r.ok then (w.gap 1 3).map fun x => { x with corrupt := x.corrupt + 1 }
      else if recReadable d r.domain then some { w with at_ := w.at_ + 1, recs := r :: w.recs }
      else some { w with at_ := w.at_ + 1 }

/-- The walk; it meets each slot once, and two ranges without slots. Log entry 88 (DESIGN CHOICE, unsafe). -/
def walkFrom (e : Recorder) (d count top low : Nat) : Nat → Walked → Walked
  | 0, w => w
  | f + 1, w => match walkStep e d count top low w with
    | some w => walkFrom e d count top low f w
    | none => w

/-- The response to a RECORDER request (R409), and the corrupt slots it met. Log entry 88 (DESIGN CHOICE, unsafe). -/
def Recorder.read (e : Recorder) (d first count : Nat) : List Byte × Nat :=
  let top := ((e.fifo.head?).map (·.seq)).getD e.next
  let low := e.circLow e.next
  let w := walkFrom e d count top low (firstArea + circArea + 2) { at_ := first }
  let gaps := w.gaps.reverse
  let recs := w.recs.reverse
  (le e.next 8 ++ le e.f0 8 ++ le e.firstHigh 8 ++ le low 8 ++ le recs.length 2 ++ le gaps.length 2 ++
    le (if w.at_ < e.next then 1 else 0) 2 ++ le 0 2 ++ le w.at_ 8 ++
    gaps.flatMap (fun g => le g.1 8 ++ le g.2.1 4 ++ le g.2.2 1 ++ le 0 3) ++ recs.flatMap Rec.image ++ le 1 4, w.corrupt)

end Sys2Proof

namespace Sys2Proof.Machine

/-! ### Meanings -/

/-- RECORD_WRITE (R405). -/
def execRecordWrite (s : State) : Answer := .next { s with core := s.core.after s.core.writeRecord }

/-- RECORDS_DROPPED (R405). -/
def execRecordsDropped (s : State) : Answer := .next { s with core := s.core.after s.core.reportDropped }

/-- RECORDER_SWEEP (R481): suspended in warning hold (R471). Log entry 89 (DESIGN CHOICE, unsafe). -/
def execRecorderSweep (bad : List Nat) (s : State) : Answer :=
  .next { s with core := s.core.after (if s.plat.hold then s.core else s.core.sweepRecorder bad) }

end Sys2Proof.Machine
end

