-- ==== Sys2Proof/Machine/Background.lean ====
section
/-! DEFINITION. The rows of background work: the skim pass, the pages of the trend log, the key-slot sweep and the fall-back store
(R471 to R482). -/

namespace Sys2Proof.Machine

/-- What a row of background work may change. -/
def State.upBack (s t : State) : State :=
  { s with core := s.core.after t.core, img := t.img, trw := t.trw, flt := t.flt, sec := t.sec, svc := t.svc, hq := t.hq, net := t.net
           met := t.met, bg := t.bg, pair := t.pair }

/-! ### The skim pass (R473, R474) -/

/-- CORR and UNCORR of a memory: 0 SRAM, 1 LPDDR4X, 2 MRAM (R484). -/
def skimRow (mem : Nat) (uncorr : Bool) : Row :=
  match mem with
  | 0 => if uncorr then Reg.SKIM_SRAM_UNCORR else Reg.SKIM_SRAM_CORR
  | 1 => if uncorr then Reg.SKIM_DRAM_UNCORR else Reg.SKIM_DRAM_CORR
  | _ => if uncorr then Reg.SKIM_MRAM_UNCORR else Reg.SKIM_MRAM_CORR

/-- A cell whose line is lost (R474): VALUE 0, BAD_CHECK, its check remade. -/
def State.blankCell (s : State) (a : Nat) (c : Cell) : Cell :=
  { c with value := 0, qual := BitVec.ofNat 8 Qual.check }.sealed (s.pointId a)

/-- Cells of the image whose line is lost are sealed until their writers write them (R474). -/
def State.blankCells (s : State) (cells : List Nat) : State :=
  cells.foldl (fun (s : State) a => match s.img.working.at? a with
    | some c => s.store a (s.blankCell a c) (addCond Qual.check (s.conds a))
    | none => s) s

/-- A pinned epoch delivers the cells of the line sealed (R474). -/
def State.blankPinned (s : State) (epoch : Nat) (cells : List Nat) : State :=
  let f (p : Pin) : Pin :=
    if p.epoch = epoch then { p with cells := p.cells.map fun (x : Nat × Cell) =>
      (x.1, if cells.contains x.1 then s.blankCell x.1 x.2 else x.2) }
    else p
  { s with img := { s.img with pins := s.img.pins.map f } }

/-- Addresses that read wrong from now on, or right again from the MRAM copy of the running bank (R474). -/
def spoilAddrs (bad addrs : List Nat) (copyOk : Bool) : List Nat :=
  let rest := bad.filter fun a => !addrs.contains a
  if copyOk then rest else rest ++ addrs

/-- Retained words come back from the newer valid MRAM copy (R123, R474). Log entry 90 (DESIGN CHOICE, unsafe). -/
def State.restoreRet (s : State) (idxs : List Nat) : State :=
  let c := Trw_copy s.trw
  let ret := s.trw.bank.retained.foldl (fun (m : SMap Word) r =>
    (retStart c r).zipIdx.foldl (fun (m : SMap Word) w => if idxs.contains (r.idx + w.2) then m.put (r.idx + w.2) w.1 else m) m)
    s.trw.ret
  { s with trw := { s.trw with ret := ret } }

/-- The further effect of an uncorrectable error (R474). A staged buffer is rebuilt, and the masking table has a second copy.
Log entry 90 (DESIGN CHOICE, unsafe). -/
def State.loseLine (s : State) : LineHolds → State
  | .cells cells => s.blankCells cells
  | .code addrs ok => { s with trw := { s.trw with codeBad := spoilAddrs s.trw.codeBad addrs ok } }
  | .consts idxs ok => { s with trw := { s.trw with constBad := spoilAddrs s.trw.constBad idxs ok } }
  | .records idxs =>
    { s with trw := { s.trw with recs := s.trw.recs.map fun (p : Nat × TRec) =>
        (p.1, if idxs.contains p.1 then { sym := p.2.sym, type := p.2.type } else p.2) } }
  | .edges idxs =>
    { s with trw := { s.trw with edges := s.trw.edges.map fun (p : Nat × EdgeBit) => (p.1, if idxs.contains p.1 then {} else p.2) } }
  | .retained idxs => s.restoreRet idxs
  | .descriptor f slot =>
    let i := f.val * 128 + slot.val
    if s.flt.descBad.contains i then s else { s with flt := { s.flt with descBad := i :: s.flt.descBad } }
  | .pinned epoch cells => s.blankPinned epoch cells
  | .staged => s
  | .recSlot slot => s.onCore fun k => { k with evr := k.evr.spoil [slot] }
  | .keySlot slot copyB =>
    s.withSlots fun s =>
      let x := s.slot slot
      s.putSlotKey slot (if copyB then { x with okB := false } else { x with okA := false })
  | .retCopy second =>
    if second then { s with trw := { s.trw with copyB := { s.trw.copyB with valid := false } } }
    else { s with trw := { s.trw with copyA := { s.trw.copyA with valid := false } } }
  | .masking => s

end Sys2Proof.Machine

namespace Sys2Proof

/-- The line stood in the image and no good copy of it does (R237). Log entry 114 (DEDUCED, unsafe). -/
def LineHolds.inImage : LineHolds → Bool
  | .cells _ => true
  | .code _ ok => !ok
  | .consts _ ok => !ok
  | .descriptor .. => true
  | _ => false

end Sys2Proof

namespace Sys2Proof.Machine

/-- What the skim pass finds in a 64-byte line (R472 to R474): every corrected word counts, its write-back overtaken or not.
Log entries 90 (DESIGN CHOICE, unsafe); 114 (DEDUCED, unsafe). -/
def State.skim (s : State) (mem : Nat) (line : Nat) : SkimResult → State
  | .clean => s
  | .corrected words _ => s.onCore (·.bump (skimRow mem false) 0 words)
  | .bad what =>
    let s := s.onCore (·.bump (skimRow mem true))
    let s := ((s.evidence 13).record 0x1001 0 (le (mem + 1) 1 ++ le (line * 64) 8)).loseLine what
    if what.inImage then s.selfFault else s

/-- SKIM_ACCESS (R473): suspended in warning hold (R471). Log entry 89 (DESIGN CHOICE, unsafe). -/
def execSkimAccess (mem : Fin 3) (line : Nat) (r : SkimResult) (s : State) : Answer :=
  .next <| s.upBack <| if s.plat.hold then s else s.skim mem line r

/-! ### The trend log (R475, R477, R478) -/

/-- Entries of a page. -/
def pageEntries : Nat := 203

/-- Pages the log holds: 64 a block, and fewer blocks once the replacement blocks are used up (R475, R476). -/
def State.logPages (s : State) : Nat := (30720 - (s.bg.retired - spareBlocks)) * 64

/-- Pages that no longer fit the log go, the oldest first (R475, R476); `n` is the next sequence number. -/
def State.trimLog (s : State) (n : Nat) : State :=
  let size := s.logPages
  { s with bg := { s.bg with pages := s.bg.pages.filter fun p => decide (n ≤ p.1 + size) } }

/-- Write the oldest staged entries as a page (R477): the log is circular, and its block is erased once a lap (R475). Log
entry 90 (DESIGN CHOICE, unsafe). -/
def State.writePage (s : State) : State :=
  if s.bg.staged.isEmpty then s
  else
    let n := s.core.pair Reg.TREND_NEXT_LO_SEQ_LO Reg.TREND_NEXT_HI_SEQ_HI
    let size := s.logPages
    let bg := { s.bg with staged := s.bg.staged.drop pageEntries, pages := s.bg.pages.put n (s.bg.staged.take pageEntries) }
    ({ s with bg := bg }.trimLog (n + 1)).onCore fun k =>
      (k.putPair Reg.TREND_NEXT_LO_SEQ_LO Reg.TREND_NEXT_HI_SEQ_HI (n + 1)).fput Reg.FLASH_PE_MAX_PE
        (if size = 0 then k.fget Reg.FLASH_PE_MAX_PE else n / size + 1)

/-- TREND_PAGE_WRITE (R476, R477): no page is started in warning hold (R471); blocks whose erase or program fails on the way
are retired. Log entry 89 (DESIGN CHOICE, unsafe). -/
def execTrendPageWrite (s : State) : Answer :=
  .next <| s.upBack <|
    if s.plat.hold || s.bg.staged.isEmpty then s
    else s.retireFailed.writePage

/-! ### Sweeps (R481, R482) -/

/-- KEY_SLOT_SWEEP (R481): the copies whose check fails, A and B, of the slots listed. -/
def execKeySlotSweep (bad : List (Fin 256 × Bool × Bool)) (s : State) : Answer :=
  .next <| s.upBack <|
    if s.plat.hold then s
    else
      let s := s.withSlots fun s => bad.foldl (fun (s : State) (b : Fin 256 × Bool × Bool) =>
        let x := s.slot b.1
        s.putSlotKey b.1 { x with okA := x.okA && !b.2.1, okB := x.okB && !b.2.2 }) s
      let n := ((List.range 256).filter fun i => KeySlotBad (s.slot i) || s.orphan i).length
      s.onCore fun k => (k.bump Reg.SWEEP_KEYS_PASSES).fput Reg.SWEEP_KEYS_BAD n

/-- FALLBACK_STORE_WRITE (R482): every 64 s. Log entry 89 (DESIGN CHOICE, unsafe). -/
def execFallbackStoreWrite (s : State) : Answer := .next <| s.upBack s.writeFallback

end Sys2Proof.Machine
end

