-- ==== Sys2Proof/Machine/RegWrite.lean ====
section
/-! DEFINITION. Writes and reads of the register map by its access codes (R5, R7, R10, R499). -/

namespace Sys2Proof

/-- Which item of a register field stands at a byte offset. -/
def Row.itemAt (r : Row) (addr : Nat) : Option Nat :=
  if addr < r.addr then none
  else
    let d := addr - r.addr
    if d % max r.stride 1 = 0 ∧ d / max r.stride 1 < r.count then some (d / max r.stride 1) else none

/-- The field's part of a register word. -/
def Row.part (r : Row) (v : Word) : Nat := v.toNat / 2 ^ r.lsb % 2 ^ r.width

/-- The field may be given this value (R499). Log entry 111 (DEDUCED, unsafe). -/
def Row.takes (r : Row) (x : Nat) : Bool := r.accepts.isEmpty || r.accepts.any fun p => decide (p.1 ≤ x) && decide (x ≤ p.2)

/-- Write one field by its access code (R5): a value outside its range is discarded for that field alone (R499), and an RWL
field under the set-up lock is left, with LOCK_VIOL set (R10). -/
def Core.writeField (k : Core) (r : Row) (i x : Nat) : Core :=
  match r.acc with
  | .rw => if r.takes x then k.fput r x i else k
  | .rwl =>
    if k.flag Reg.GLB_CTRL_SETUP_LOCK then k.setFlag Reg.GLB_CTRL_LOCK_VIOL true
    else if r.takes x then k.fput r x i else k
  | .w1c => k.fput r (k.fget r i - (k.fget r i &&& x)) i
  | .w1s => k.fput r (k.fget r i ||| x) i
  | .ro => k
  | .wo => k
  | .ros => k

/-- Write the fields of the register at a byte offset that a test picks. -/
def Core.writeWhere (k : Core) (p : Row → Bool) (addr : Nat) (v : Word) : Core :=
  Reg.all.foldl (fun k r => match r.itemAt addr with
    | some i => if p r then k.writeField r i (r.part v) else k
    | none => k) k

/-- Write the register at a byte offset; an unassigned offset discards the write (R8). -/
def Core.writeWord (k : Core) (addr : Nat) (v : Word) : Core := k.writeWhere (fun _ => true) addr v

/-- Read the register at a byte offset: a WO field and reserved bits read 0 (R5, R7, R8). -/
def Core.readWord (k : Core) (addr : Nat) : Word :=
  BitVec.ofNat 32 <| (Reg.all.map fun r => match r.itemAt addr with
    | some i => if r.acc = .wo then 0 else k.fget r i * 2 ^ r.lsb
    | none => 0).sum

/-- A register of the map stands at a byte offset. -/
def assigned (addr : Nat) : Bool := Reg.all.any fun r => (r.itemAt addr).isSome

/-- A field at a byte offset that a write may change only while the set-up lock is open. -/
def locks (addr : Nat) : Bool := Reg.all.any fun r => r.acc == .rwl && (r.itemAt addr).isSome

end Sys2Proof
end

