-- ==== Sys2Proof/Machine/Calendar.lean ====
section
/-! DEFINITION. The calendar: the render view, local time, and the fields the alarms compare (R346 to R349, R354, R355). -/

namespace Sys2Proof

/-- Leap years of the full Gregorian rule (R347). -/
def leapYear (y : Nat) : Bool := y % 4 == 0 && (y % 100 != 0 || y % 400 == 0)

/-- Days of the year 2000 + y. -/
def yearDays (y : Nat) : Nat := if leapYear (2000 + y) then 366 else 365

/-- Days of month `m` of the year 2000 + y. -/
def monthDays (y m : Nat) : Nat :=
  match m with
  | 2 => if leapYear (2000 + y) then 29 else 28
  | 4 | 6 | 9 | 11 => 30
  | _ => 31

/-- The year a count of days falls in, and the day of it, both from 0. -/
def splitYear : Nat → Nat → Nat → Nat × Nat
  | 0, y, d => (y, d)
  | n + 1, y, d => if d < yearDays y then (y, d) else splitYear n (y + 1) (d - yearDays y)

/-- The month a day of the year falls in, from 1, and the day of it, from 0. -/
def splitMonth (y : Nat) : Nat → Nat → Nat → Nat × Nat
  | 0, m, d => (m, d)
  | n + 1, m, d => if d < monthDays y m then (m, d) else splitMonth y n (m + 1) (d - monthDays y m)

/-- The calendar fields (R347); `yday` is the day of the year, from 1. -/
structure Render where
  sec : Nat := 0
  min : Nat := 0
  hour : Nat := 0
  dow : Nat := 0
  dom : Nat := 0
  mon : Nat := 0
  year : Nat := 0
  yday : Nat := 0
  deriving DecidableEq, Repr, Inhabited

/-- The render view of a count of seconds (R347): 2000-01-01 is a Saturday, 6. -/
def renderOf (s : Nat) : Render :=
  let day := s / 86400
  let t := s % 86400
  let y := splitYear 136 0 day
  let m := splitMonth y.1 11 1 y.2
  { sec := t % 60, min := t / 60 % 60, hour := t / 3600, dow := (day + 5) % 7 + 1, dom := m.2 + 1, mon := m.1, year := y.1
    yday := y.2 + 1 }

/-- Last count of the range (R346). -/
def rangeMax : Nat := 0xFFCEDD7F

/-- The render view of local time, where it lies in 2000 to 2135 (R348). -/
def localView (t : Int) : Option Render := if 0 ≤ t ∧ t ≤ rangeMax then some (renderOf t.toNat) else none

/-- The seconds of calendar fields that are in range (R347, R350). -/
def secondsOf (year mon dom hour min sec : Nat) : Nat :=
  let days := ((List.range year).map yearDays).sum + ((List.range (mon - 1)).map fun m => monthDays year (m + 1)).sum + (dom - 1)
  ((days * 24 + hour) * 60 + min) * 60 + sec

/-- The count B. -/
def Core.secB (k : Core) : Nat := k.fget Reg.BKP_SEC_SEC

/-- OFS in minutes (R348). -/
def Core.ofs (k : Core) : Int := k.sget Reg.BKP_OFFSET_MIN

/-- Local time in seconds (R348). -/
def Core.localSec (k : Core) : Int := k.secB + 60 * k.ofs

/-- BKP_CAL0 or BKP_LOC0 of a view (R373). -/
def viewWord0 (r : Render) : Word := BitVec.ofNat 32 (r.sec + 2 ^ 8 * r.min + 2 ^ 16 * r.hour + 2 ^ 24 * r.dow)

/-- BKP_CAL1 or BKP_LOC1 of a view (R373). -/
def viewWord1 (r : Render) : Word := BitVec.ofNat 32 (r.dom + 2 ^ 8 * r.mon + 2 ^ 16 * r.year)

/-- A register of the time group for B, F, ERA and OFS (R349). -/
def timeWord (t : Nat × Nat × Nat × Int) (addr : Nat) : Option Word :=
  let loc := (localView (t.1 + 60 * t.2.2.2)).getD {}
  if addr = Reg.BKP_SEC_SEC.addr then some (BitVec.ofNat 32 t.1)
  else if addr = Reg.BKP_FRAC_FRAC.addr then some (BitVec.ofNat 32 t.2.1)
  else if addr = Reg.BKP_CAL0_SEC.addr then some (viewWord0 (renderOf t.1))
  else if addr = Reg.BKP_CAL1_DOM.addr then some (viewWord1 (renderOf t.1))
  else if addr = Reg.BKP_LOC0_SEC.addr then some (viewWord0 loc)
  else if addr = Reg.BKP_LOC1_DOM.addr then some (viewWord1 loc)
  else if addr = Reg.BKP_ERA_ERA.addr then some (BitVec.ofNat 32 t.2.2.1)
  else none

/-! ### Alarms (R354, R355) -/

/-- Alarm `a` leaves field `i` out of its comparison. -/
def Core.almMasks (k : Core) (a i : Nat) : Bool := (k.fget Reg.ALM_CTRL_MASK a).testBit i

/-- The date fields of alarm `a` match (R354, R355). -/
def Core.almDate (k : Core) (a : Nat) (r : Render) : Bool :=
  let dom := k.fget Reg.ALM_DATE_DOM a
  (k.almMasks a 3 || k.fget Reg.ALM_TIME_DOW a == r.dow) &&
    (k.almMasks a 4 || dom == r.dom || (dom == 0x3F && r.dom == monthDays r.year r.mon)) &&
    (k.almMasks a 5 || k.fget Reg.ALM_DATE_MON a == r.mon) && (k.almMasks a 6 || k.fget Reg.ALM_DATE_YEAR a == r.year)

/-- The time fields of alarm `a` match some second of the day between two (R354). -/
def Core.almTimes (k : Core) (a lo hi : Nat) : Bool :=
  (List.range 1440).any fun m =>
    (k.almMasks a 2 || k.fget Reg.ALM_TIME_HOUR a == m / 60) && (k.almMasks a 1 || k.fget Reg.ALM_TIME_MIN a == m % 60) &&
      (if k.almMasks a 0 then decide (lo ≤ 60 * m + 59) && decide (60 * m ≤ hi)
       else
        let t := 60 * m + k.fget Reg.ALM_TIME_SEC a
        decide (lo ≤ t) && decide (t ≤ hi))

/-- Alarm `a` can match at all: enabled, and the count has not stopped (R346, R356). -/
def Core.almOn (k : Core) (a : Nat) : Bool := k.flag Reg.ALM_CTRL_EN a && !k.flag Reg.CAL_STATUS_RANGE_END

/-- Alarm `a` matches the local second `t` (R354). -/
def Core.almAt (k : Core) (a : Nat) (t : Int) : Bool :=
  k.almOn a && match localView t with
    | none => false
    | some r => k.almDate a r && (k.almMasks a 0 || k.fget Reg.ALM_TIME_SEC a == r.sec) &&
        (k.almMasks a 1 || k.fget Reg.ALM_TIME_MIN a == r.min) && (k.almMasks a 2 || k.fget Reg.ALM_TIME_HOUR a == r.hour)

/-- Alarm `a` matches at least one local second from `lo` to `hi` (R358). Log entry 84 (DESIGN CHOICE, unsafe). -/
def Core.almIn (k : Core) (a : Nat) (lo hi : Int) : Bool :=
  let l := lo.toNat
  let h := (min hi rangeMax).toNat
  k.almOn a && decide (lo ≤ hi) && decide (0 ≤ hi) && decide (l ≤ h) &&
    (List.range (h / 86400 - l / 86400 + 1)).any fun i =>
      let d := l / 86400 + i
      k.almDate a (renderOf (d * 86400)) &&
        k.almTimes a (if i = 0 then l % 86400 else 0) (if d = h / 86400 then h % 86400 else 86399)

end Sys2Proof
end

