-- ==== Sys2Proof/Machine/NtStep.lean ====
section
/-! DEFINITION. A step of network time and what follows it (R47, R48, R177, R240, R303, R327, R336). -/

namespace Sys2Proof.Machine

/-- The sequencer's answer to a step by `d` ns while it ticks: a realignment, or a re-entry (R47, R48). A standby follows its
duty's decision (R240). Log entry 81 (DESIGN CHOICE, unsafe). -/
def State.followStep (s : State) (d : Int) (small : Bool) : State :=
  if s.standby then s
  else if small then
    let r := s.seq.realign + d
    { s with seq := { s.seq with realign := r } }.onCore (·.setFlag Reg.TICK_STATUS_SLEWING (decide (4 < r.natAbs)))
  else
    let m := s.epochAt s.ntNs
    let e := -(-(s.nt.map.at (s.seq.syncC + s.periodNs.toNat / 4)) / 65536)
    let x := max (max (s.epoch + 1) (m + 1)) (s.epochFrom e)
    let s := { s with seq := { s.seq with next := some x, stepM := some m, realign := 0 } }.onCore
      (·.setFlag Reg.TICK_STATUS_SLEWING false)
    if s.inStep then s.sendFrame (.role (.reentry x)) else s

/-- A module that waits for its first screed instant has its time base move with the step. Log entry 81 (DESIGN CHOICE,
unsafe). -/
def State.moveBase (s : State) (d : Int) : State :=
  { s with seq := { s.seq with base := s.seq.base.map (· + d) } }

/-- Network time steps by `d` in units of 2^-16 ns (R327, R336). Log entry 81 (DESIGN CHOICE, unsafe). -/
def State.stepNt (s : State) (d : Int) : State :=
  let old := s.ntNs
  let s := s.remap (s.nt16 + d) s.nt.map.rate
  let s := { s with nt := { s.nt with prev := none } }.onCore (·.bump Reg.NT_STEPS_COUNT)
  let s := s.record 0x0A01 0 (le (bitsOf 64 old) 8 ++ le (bitsOf 64 s.ntNs) 8 ++ le s.nt.map.gen 4)
  let s := s.closeDemand (fun _ => true) true
  let ctl := s.can.ctl.map fun (p : Nat × CanCtl) => (p.1, { p.2 with disc := true })
  let s := { s with can := { s.can with ctl := ctl } }
  if s.core.flag Reg.TICK_STATUS_RUNNING then
    s.followStep (d / 65536) (decide (4 * d.natAbs ≤ s.periodNs.natAbs * 65536))
  else s.moveBase (d / 65536)

end Sys2Proof.Machine
end

