-- ==== Sys2Proof/Machine/BackupOps.lean ====
section
/-! DEFINITION. The backup domain's own actions: alarms, steps of the count, tamper events, wake causes, stamps, and window
writes that have crossed (R345 to R372). -/

namespace Sys2Proof.Machine

/-- The backup domain as a command leaves it: the crystal's phase moves with time alone (R345). -/
def duringBkp (a b : Bkp) : Bkp := { b with phase := a.phase }

/-- The backup domain as a register access or a reset leaves it: no reset reaches it (R445); a write waits to cross, and the seeds
of the mesh and a due tamper record are the start-up's. -/
def outsideBkp (a b : Bkp) : Bkp :=
  { a with crossing := b.crossing, shadow := b.shadow, tamperDue := b.tamperDue, lfsr0 := b.lfsr0, lfsr1 := b.lfsr1 }

/-- Change the backup domain's hidden part. -/
def State.onBkp (s : State) (f : Bkp → Bkp) : State := { s with bkp := f s.bkp }

/-- The main die is powered and not asleep. -/
def State.dieOn (s : State) : Bool := !s.plat.por && !s.plat.asleep

/-- Stamp B, F and the era (R359, R360, R365). -/
def stampInto (k : Core) (sec frac era : Row) : Core :=
  let w := k.wall
  ((k.fput sec w.1).fput frac w.2.1).fput era w.2.2

/-! ### Wake causes (R368, R371) -/

/-- A wake cause: the first is recorded, and PWRON rises, at the end of its 250 ms (R371). -/
def State.wakeBy (s : State) (cause : Nat) : State :=
  if !s.plat.asleep then s
  else
    let s := if s.core.fget Reg.BKP_WAKE_CAUSE = 0 then s.onCore (·.fput Reg.BKP_WAKE_CAUSE cause) else s
    if s.bkp.lowMin then s.onBkp fun b => { b with wake := true }
    else { s with plat := { s.plat with asleep := false } }.onCore (·.drive .pwron true)

/-! ### Alarms (R356 to R358) -/

/-- The configured table of an alarm: local seconds of day, by day of the year (R357). -/
def State.alarmTable (s : State) (a : Nat) : List Nat := if a = 0 then s.cfg.alarmTable0 else s.cfg.alarmTable1

/-- The service cores load an alarm's time from its table: the time of the present local day, the date masked (R357). Log
entry 84 (DESIGN CHOICE, unsafe). -/
def State.loadTable (s : State) (a : Nat) : State :=
  if !(s.dieOn && s.core.flag Reg.ALM_CTRL_TABLE a) then s
  else match localView s.core.localSec with
    | none => s
    | some r => match (s.alarmTable a)[r.yday - 1]? with
      | none => s
      | some t => s.onCore fun k =>
        let k := (k.fput Reg.ALM_TIME_HOUR (t / 3600) a).fput Reg.ALM_TIME_MIN (t / 60 % 60) a
        (k.fput Reg.ALM_TIME_SEC (t % 60) a).fput Reg.ALM_CTRL_MASK (k.fget Reg.ALM_CTRL_MASK a ||| 0x70) a

/-- ALM_STAT of an alarm. -/
def almStat (k : Core) (a : Nat) : Nat :=
  k.fget Reg.ALM_STAT_FIRED a + 2 * k.fget Reg.ALM_STAT_SKIPPED a + 4 * k.fget Reg.ALM_STAT_SKIPPED_LOST a +
    8 * k.fget Reg.ALM_STAT_REPEATED a

/-- An alarm fires, with the flag that goes with it (R356, R358). Log entry 84 (DESIGN CHOICE, unsafe). -/
def State.fireAlarm (s : State) (a : Nat) (flag : Option Row) : State :=
  let s := s.onCore fun k =>
    let k := (k.setFlag Reg.ALM_STAT_FIRED true a).bump Reg.ALM_COUNT_COUNT a
    match flag with
    | some r => k.setFlag r true a
    | none => k
  let s := if s.core.flag Reg.ALM_CTRL_WAKE a then s.wakeBy (1 + a) else s
  if !s.dieOn then s
  else
    let stat := almStat s.core a
    let s := s.onCore (·.postEvent 7 a stat (s.core.fget Reg.ALM_COUNT_COUNT a) (· == 0))
    (s.record 0x0B03 0 (le a 1 ++ le stat 1)).loadTable a

/-- The start of a local second (R354, R358): a second that a step back re-enters fires with REPEATED. -/
def State.localSecond (s : State) : State :=
  let t := s.core.localSec
  let again := s.bkp.reenter.any fun h => decide (t ≤ h)
  let s : State := [0, 1].foldl (fun (s : State) a =>
    if s.core.almAt a t then s.fireAlarm a (if again then some Reg.ALM_STAT_REPEATED else none) else s) s
  if again then s else s.onBkp fun b => { b with reenter := none }

/-- The local date is another than that of the local second before: the tables are looked up again (R357). -/
def State.newDay (s : State) (before : Int) : State :=
  if before / 86400 = s.core.localSec / 86400 then s else (s.loadTable 0).loadTable 1

/-- Local time has stepped (R358): `old` is the second before, the present one the second it lands on. Log entry 84 (DESIGN
CHOICE, unsafe). -/
def State.afterStep (s : State) (old : Int) : State :=
  let new := s.core.localSec
  let s := if new < old then s.onBkp fun b => { b with reenter := some (max old (b.reenter.getD old)) } else s
  let s : State := [0, 1].foldl (fun (s : State) a =>
    let s :=
      if !s.core.almIn a (old + 1) (new - 1) then s
      else if s.core.flag Reg.ALM_CTRL_CATCHUP a then s.fireAlarm a (some Reg.ALM_STAT_SKIPPED)
      else s.onCore (·.setFlag Reg.ALM_STAT_SKIPPED_LOST true a)
    if new ≠ old && s.core.almAt a new then s.fireAlarm a none else s) s
  s.newDay old

/-! ### The count (R345, R346, R350, R351) -/

/-- OSF, and BKP_OK, its inverse (R352, R469). -/
def State.setOsf (s : State) (b : Bool) : State :=
  s.onCore fun k => (k.setFlag Reg.CAL_STATUS_OSF b).setFlag Reg.CLK_STAT_BKP_OK (!b)

/-- A step of B (R351): recorded under the old time, the era counted, the alarms checked. `accepted` marks an accepted write,
which clears RANGE_END and OSF (R346, R352). -/
def State.stepB (s : State) (b f : Nat) (accepted : Bool) : State :=
  let w := s.core.wall
  let era := (w.2.2 + 1) % 65536
  let old := s.core.localSec
  let s := s.record 0x0B01 0 (le w.1 4 ++ le w.2.1 2 ++ le w.2.2 2 ++ le b 4 ++ le f 2 ++ le era 2)
  let s := s.onCore fun k => ((k.fput Reg.BKP_SEC_SEC b).fput Reg.BKP_FRAC_FRAC f).fput Reg.BKP_ERA_ERA era
  let s := if accepted then (s.onCore (·.setFlag Reg.CAL_STATUS_RANGE_END false)).setOsf false else s
  { s with nt := { s.nt with prev := none } }.afterStep old

/-- A grandmaster without a valid seed takes an accepted time write as its seed and its time base (R353). Log entry 87 (DESIGN
CHOICE, unsafe). -/
def State.reseed (s : State) : State :=
  if s.grandmaster && s.core.flag Reg.NT_STAT_SEED_INVALID then
    let s := s.seedNt
    if s.seq.waitFrom.isSome then { s with seq := { s.seq with base := some s.ntNs, waitFrom := none } } else s
  else s

/-- A staged count (R350): none where it is rejected. -/
def stagedCount (k : Core) : Option (Nat × Nat) :=
  let b := k.fget Reg.BKP_SET_SEC_SEC
  if b ≤ rangeMax then some (b, k.fget Reg.BKP_SET_FRAC_FRAC) else none

/-- Staged calendar fields as a count (R350): none where they are rejected. -/
def stagedCalendar (k : Core) : Option (Nat × Nat) :=
  let sec := k.fget Reg.BKP_SET_CAL0_SEC
  let min := k.fget Reg.BKP_SET_CAL0_MIN
  let hour := k.fget Reg.BKP_SET_CAL0_HOUR
  let dom := k.fget Reg.BKP_SET_CAL1_DOM
  let mon := k.fget Reg.BKP_SET_CAL1_MON
  let year := k.fget Reg.BKP_SET_CAL1_YEAR
  if sec > 59 ∨ min > 59 ∨ hour > 23 ∨ mon = 0 ∨ mon > 12 ∨ year > 135 ∨ dom = 0 ∨ dom > monthDays year mon then none
  else
    let t : Int := secondsOf year mon dom hour min sec
    let b := if k.flag Reg.BKP_SET_CTRL_LOCAL then t - 60 * k.ofs else t
    if 0 ≤ b ∧ b ≤ rangeMax then some (b.toNat, 0) else none

/-- A write of BKP_SET_CTRL with GO bits (R350): both at once, or a rejected value, sets INVALID and changes nothing else. Log
entry 83 (DEDUCED, unsafe). -/
def State.timeWrite (s : State) (goSec goCal : Bool) : State :=
  let v := if goSec && goCal then none else if goSec then stagedCount s.core else stagedCalendar s.core
  match v with
  | none => s.onCore (·.setFlag Reg.CAL_STATUS_INVALID true)
  | some x => (s.stepB x.1 x.2 true).reseed

/-- The count goes into the next second, with the fraction `f` (R345, R346, R354). -/
def State.nextSecond (s : State) (f : Nat) : State :=
  if s.core.flag Reg.CAL_STATUS_RANGE_END then s
  else if s.core.secB ≥ rangeMax then
    s.onCore fun k => (k.fput Reg.BKP_FRAC_FRAC 0xFFFF).setFlag Reg.CAL_STATUS_RANGE_END true
  else
    let old := s.core.localSec
    let acc := s.bkp.acc + s.core.sget Reg.BKP_TRIM_TRIM
    let n := acc.tdiv 256
    let s := s.onBkp fun b => { b with acc := acc - 256 * n, corr := n, err := 0 }
    let s := s.onCore fun k => (k.fput Reg.BKP_SEC_SEC (k.secB + 1)).fput Reg.BKP_FRAC_FRAC f
    s.localSecond.newDay old

/-- One crystal cycle (R345): F advances by 2, a correction of the trim falling due among the 32,768 of the second. -/
def State.crystalCycle (s : State) : State :=
  if s.core.flag Reg.CAL_STATUS_RANGE_END then s
  else
    let e := s.bkp.err + s.bkp.corr.natAbs
    let due := decide (32768 ≤ e)
    let d : Int := if due then (if s.bkp.corr < 0 then 1 else 3) else 2
    let f := (s.core.fget Reg.BKP_FRAC_FRAC + d).toNat
    let s := s.onBkp fun b => { b with err := if due then e - 32768 else e }
    if f ≥ 65536 then s.nextSecond (f - 65536) else s.onCore (·.fput Reg.BKP_FRAC_FRAC f)

/-- One count of C as the crystal sees it: 32,768 cycles in 250,000,000 counts. Log entry 2 (DESIGN CHOICE, unsafe). -/
def State.crystalPhase (s : State) : State :=
  let p := s.bkp.phase + 512
  if p < 3906250 then s.onBkp fun b => { b with phase := p }
  else (s.onBkp fun b => { b with phase := p - 3906250 }).crystalCycle

/-! ### Tamper (R365, R366, R390) -/

/-- TMP_STAT. -/
def tmpStat (k : Core) : Nat :=
  k.fget Reg.TMP_STAT_INPUTS + 16 * k.fget Reg.TMP_STAT_MESH + 32 * k.fget Reg.TMP_STAT_SUPPLY + 256 * k.fget Reg.TMP_STAT_FULL

/-- Write 0x00 to every bank of the backup bytes that BKP_WIPE selects (R365). -/
def wipeBanks (k : Core) : Core :=
  let banks := k.fget Reg.BKP_WIPE_BANKS
  (List.range 32).foldl (fun k i => if banks.testBit (i / 4) then k.fput Reg.BKP_BYTES_DATA 0 i else k) k

/-- The record of a tamper event, at once while the main die runs, else at the next start-up (R366). Log entry 85 (DESIGN
CHOICE, unsafe). -/
def State.tamperRecord (s : State) : State :=
  if s.dieOn then
    (s.record 0x0B04 0 (le (tmpStat s.core) 2 ++ le (s.core.fget Reg.TMP_GEN_GEN) 4)).onCore (·.signal 85)
  else s.onBkp fun b => { b with tamperDue := true }

/-- A full tamper reaches the main die (R366, R387, R390). -/
def State.fullTamper (s : State) (f : State → State) : State :=
  if s.dieOn then (s.withSlots f).tamperSignal else f s

/-- A tamper event (R365): `bit` sets its source bit; `full` and `wake` are its response. Log entry 85 (DESIGN CHOICE,
unsafe). -/
def State.tamperEvent (s : State) (bit : Core → Core) (full wake : Bool) : State :=
  let first := tmpStat s.core == 0
  let newly := full && !s.core.flag Reg.TMP_STAT_FULL
  let s := s.onCore fun k =>
    let k := bit k
    if first then stampInto k Reg.TMP_TIME_SEC_SEC Reg.TMP_TIME_SUB_FRAC Reg.TMP_TIME_SUB_ERA else k
  let s := if newly then
      s.fullTamper fun s => s.onCore fun k =>
        wipeBanks ((k.setFlag Reg.TMP_STAT_FULL true).fput Reg.TMP_GEN_GEN (k.fget Reg.TMP_GEN_GEN + 1))
    else s
  (if full || wake then s.wakeBy 3 else s).tamperRecord

/-- A watched source's next sample (R363, R364): an event at the sample whose count meets the filter, once in a run. Log entry
85 (DESIGN CHOICE, unsafe). -/
def TamperWatch_next (w : TamperWatch) (active : Bool) (filter : Nat) : TamperWatch × Bool :=
  if !active then ({}, false)
  else
    let n := w.count + 1
    let hit := decide (filter ≤ n) && !w.tripped
    ({ count := n, tripped := w.tripped || hit }, hit)

/-- Every backup-domain register takes its backup power-up value (R361, R373). Log entry 5 (DESIGN CHOICE, unsafe). -/
def clearBackup (k : Core) : Core :=
  let ids := (Reg.all.filter (·.bkp)).map (·.id)
  { k with regs := k.regs.filter fun (p : Nat × Nat) => !ids.contains (p.1 / 1024) }

/-! ### Window writes (R354, R364, R372) -/

/-- A host write of the window starts to cross (R372): one the set-up lock stops is a violation (R10), one while another is
crossing is discarded. Log entry 83 (DEDUCED, unsafe). -/
def State.crossWrite (s : State) (addr : Nat) (v : Word) : State :=
  if locks addr && s.core.flag Reg.GLB_CTRL_SETUP_LOCK then s.onCore (·.setFlag Reg.GLB_CTRL_LOCK_VIOL true)
  else if s.core.flag Reg.CAL_STATUS_BUSY then s
  else (s.onBkp fun b => { b with crossing := some (addr, v) }).onCore (·.setFlag Reg.CAL_STATUS_BUSY true)

/-- Fields of a backup register that the main die's set-up lock no longer decides: the write has crossed (R10, R372). -/
def storeField (k : Core) (r : Row) (i x : Nat) : Core :=
  match r.acc with
  | .rwl => if r.takes x then k.fput r x i else k
  | _ => k.writeField r i x

/-- Store the fields of a crossed write; a field out of its range is left alone (R499). -/
def storeCrossed (k : Core) (addr : Nat) (v : Word) : Core :=
  Reg.all.foldl (fun k r => match r.itemAt addr with
    | some i => storeField k r i (r.part v)
    | none => k) k

/-- A field of this register is given a value out of its range. -/
def outOfRange (addr : Nat) (v : Word) : Bool :=
  Reg.all.any fun r => (r.itemAt addr).isSome && (r.acc == .rw || r.acc == .rwl) && !r.takes (r.part v)

/-- An alarm's register. -/
def alarmAddr (addr : Nat) : Bool := decide (0x70080 ≤ addr) && decide (addr < 0x700C0)

/-- A write of BKP_OFFSET (R348): another value is an offset step. Log entry 83 (DEDUCED, unsafe). -/
def State.setOffset (s : State) (addr : Nat) (v : Word) : State :=
  let old := s.core.localSec
  let o := s.core.fget Reg.BKP_OFFSET_MIN
  let s := s.onCore (storeCrossed · addr v)
  let n := s.core.fget Reg.BKP_OFFSET_MIN
  if n = o then s else (s.record 0x0B02 0 (le o 2 ++ le n 2)).afterStep old

/-- A write of TMP_CFG (R363): the count of consecutive samples goes on unless EN or LEVEL changes. -/
def State.setTamper (s : State) (addr : Nat) (v : Word) : State :=
  let i := (addr - Reg.TMP_CFG_EN.addr) / 4
  let seen (k : Core) : Bool × Bool := (k.flag Reg.TMP_CFG_EN i, k.flag Reg.TMP_CFG_LEVEL i)
  let old := seen s.core
  let s := s.onCore (storeCrossed · addr v)
  if seen s.core = old then s else s.onBkp fun b => { b with inputs := b.inputs.del i }

/-- A write of MESH_CFG (R364): EN once set stays set, and the count goes on. -/
def State.setMesh (s : State) (addr : Nat) (v : Word) : State :=
  let en := s.core.flag Reg.MESH_CFG_EN
  (s.onCore (storeCrossed · addr v)).onCore fun k => if en then k.setFlag Reg.MESH_CFG_EN true else k

/-- A crossed write takes effect in the backup domain (R345 to R373). Log entry 83 (DEDUCED, unsafe). -/
def State.applyCrossed (s : State) (addr : Nat) (v : Word) : State :=
  if addr = Reg.BKP_OFFSET_MIN.addr then s.setOffset addr v
  else if addr = Reg.BKP_SET_CTRL_LOCAL.addr then
    let s := if v.getLsbD 0 && v.getLsbD 1 then s else s.onCore (storeCrossed · addr v)
    if v.getLsbD 0 || v.getLsbD 1 then s.timeWrite (v.getLsbD 0) (v.getLsbD 1) else s
  else if addr = Reg.MESH_CFG_EN.addr then s.setMesh addr v
  else if Reg.TMP_CFG_EN.addr ≤ addr ∧ addr < Reg.MESH_CFG_EN.addr then s.setTamper addr v
  else
    let s := s.onCore (storeCrossed · addr v)
    if alarmAddr addr && outOfRange addr v then s.onCore (·.setFlag Reg.CAL_STATUS_INVALID true) else s

end Sys2Proof.Machine
end

