-- ==== Sys2Proof/Machine/Backup.lean ====
section
/-! DEFINITION. The rows of the backup domain: time writes, local seconds, the time group, supplies, tamper sources, sleep and
wake (R345 to R373). -/

namespace Sys2Proof.Machine

/-- What a row of the backup domain may change. -/
def State.upBkp (s t : State) : State :=
  { s with core := s.core.after t.core, bkp := duringBkp s.bkp t.bkp, nt := t.nt, seq := t.seq, sec := t.sec, svc := t.svc, hq := t.hq, net := t.net
           img := t.img, met := t.met, trw := t.trw, flt := t.flt, pair := t.pair, plat := runPlat s.plat t.plat, cmd := t.cmd, bg := t.bg }

/-- GO_SEC (R350): a write of BKP_SET_CTRL with GO_SEC, its LOCAL bit as it stands. -/
def execGoSec (s : State) : Answer :=
  .next <| s.upBkp <| s.crossWrite Reg.BKP_SET_CTRL_LOCAL.addr (BitVec.ofNat 32 (256 * s.core.fget Reg.BKP_SET_CTRL_LOCAL + 1))

/-- GO_CAL (R350). -/
def execGoCal (s : State) : Answer :=
  .next <| s.upBkp <| s.crossWrite Reg.BKP_SET_CTRL_LOCAL.addr (BitVec.ofNat 32 (256 * s.core.fget Reg.BKP_SET_CTRL_LOCAL + 2))

/-- OFFSET_WRITE (R348). -/
def execOffsetWrite (v : BitVec 16) (s : State) : Answer :=
  .next <| s.upBkp <| s.crossWrite Reg.BKP_OFFSET_MIN.addr (v.setWidth 32)

/-- LOCAL_SECOND (R354): the count goes into the next second. -/
def execLocalSecond (s : State) : Answer := .next <| s.upBkp <| s.nextSecond 0

/-- The time group as it stands (R349). -/
def State.timeGroup (s : State) : Nat × Nat × Nat × Int :=
  (s.core.secB, s.core.fget Reg.BKP_FRAC_FRAC, s.core.fget Reg.BKP_ERA_ERA, s.core.ofs)

/-- A read of the time group: the first latches it whole, the read of ERA releases it (R349). -/
def State.readTimeGroup (s : State) (addr : Nat) : State :=
  let t := s.bkp.shadow.getD s.timeGroup
  match timeWord t addr with
  | none => s
  | some v => (s.onBkp fun b => { b with shadow := if addr = Reg.BKP_ERA_ERA.addr then none else some t }).onCore
      (·.emit (.readData addr v))

/-- TIME_GROUP_READ (R349). -/
def execTimeGroupRead (addr : Nat) (s : State) : Answer := .next <| s.upBkp (s.readTimeGroup addr)

/-- SHADOW_RELEASE (R349). -/
def execShadowRelease (s : State) : Answer := .next <| s.upBkp <| s.onBkp fun b => { b with shadow := none }

/-- CRYSTAL_STOP (R352). Log entry 85 (DESIGN CHOICE, unsafe). -/
def execCrystalStop (s : State) : Answer := .next <| s.upBkp <| s.setOsf true

/-- SUPPLY_TO_VBAT (R359). -/
def execSupplyToVbat (s : State) : Answer :=
  .next <| s.upBkp <| s.onCore fun k =>
    if k.flag Reg.BKP_PWR_ON_VBAT then k
    else ((stampInto k Reg.BKP_PWR_FAIL_SEC_SEC Reg.BKP_PWR_FAIL_SUB_FRAC Reg.BKP_PWR_FAIL_SUB_ERA).setFlag
      Reg.BKP_PWR_ON_VBAT true).bump Reg.BKP_PWR_SWITCHES

/-- SUPPLY_RETURN (R359). -/
def execSupplyReturn (s : State) : Answer :=
  .next <| s.upBkp <| s.onCore fun k =>
    if !k.flag Reg.BKP_PWR_ON_VBAT then k
    else (stampInto k Reg.BKP_PWR_RET_SEC_SEC Reg.BKP_PWR_RET_SUB_FRAC Reg.BKP_PWR_RET_SUB_ERA).setFlag
      Reg.BKP_PWR_ON_VBAT false

/-- BACKUP_POWER_UP (R361, R373): every register at its power-up value, a random TMP_GEN, PWRON high, and a full tamper. -/
def execBackupPowerUp (s : State) : Answer :=
  .next <| s.upBkp <|
    let f := s.core.takeFree
    let s := { s with core := f.2 }
    let reset (s : State) : State :=
      ({ s with bkp := {} }.onCore fun k =>
        ((clearBackup k).fput Reg.TMP_GEN_GEN f.1.toNat).setFlag Reg.CAL_STATUS_BUSY false).setOsf true
    let s := (s.fullTamper reset).tamperRecord
    { s with plat := { s.plat with asleep := false } }.onCore (·.drive .pwron true)

/-- VBAT_MEASURE (R361). -/
def execVbatMeasure (mv : Nat) (s : State) : Answer :=
  .next <| s.upBkp <| s.onCore fun k =>
    if mv < 2200 then k.setFlag Reg.BKP_PWR_VBAT_LOW true
    else if 2300 ≤ mv then k.setFlag Reg.BKP_PWR_VBAT_LOW false
    else k

/-- TAMPER_SAMPLE (R363). -/
def execTamperSample (i : Fin 4) (level : Bool) (s : State) : Answer :=
  .next <| s.upBkp <|
    if !s.core.flag Reg.TMP_CFG_EN i then s
    else
      let w := TamperWatch_next (s.bkp.inputs.atD i {}) (level == s.core.flag Reg.TMP_CFG_LEVEL i)
        (s.core.fget Reg.TMP_CFG_FILTER i)
      let s := s.onBkp fun b => { b with inputs := b.inputs.put i w.1 }
      if w.2 then
        s.tamperEvent (·.setBit Reg.TMP_STAT_INPUTS i true) (s.core.flag Reg.TMP_CFG_RESP i) (s.core.flag Reg.TMP_CFG_WAKE i)
      else s

/-- The next state of a mesh LFSR, x^32 + x^22 + x^2 + x + 1 (R364); the bit shifted out is the one driven. Log entry 86
(PRESUMED, unsafe). -/
def lfsrNext (x : BitVec 32) : BitVec 32 :=
  let fb := x.getLsbD 0 ^^ x.getLsbD 1 ^^ x.getLsbD 2 ^^ x.getLsbD 22
  (x >>> 1) ||| (if fb then 0x80000000#32 else 0#32)

/-- MESH_PERIOD (R364): each output drives its LFSR's next bit, and each input must return it. -/
def execMeshPeriod (in0 in1 : Bool) (s : State) : Answer :=
  .next <| s.upBkp <|
    if !s.core.flag Reg.MESH_CFG_EN then s
    else
      let b0 := s.bkp.lfsr0.getLsbD 0
      let b1 := s.bkp.lfsr1.getLsbD 0
      let w := TamperWatch_next s.bkp.mesh (in0 != b0 || in1 != b1) (s.core.fget Reg.MESH_CFG_FILTER)
      let s := s.onBkp fun b => { b with mesh := w.1, lfsr0 := lfsrNext b.lfsr0, lfsr1 := lfsrNext b.lfsr1 }
      let s := s.onCore fun k => (k.drive .mesh0 b0).drive .mesh1 b1
      if w.2 then s.tamperEvent (·.setFlag Reg.TMP_STAT_MESH true) true true else s

/-- TMP_CFG_WRITE (R363). -/
def execTmpCfgWrite (i : Fin 4) (v : Word) (s : State) : Answer :=
  .next <| s.upBkp <| s.crossWrite (Reg.TMP_CFG_EN.addr + 4 * i) v

/-- MESH_CFG_WRITE (R364). -/
def execMeshCfgWrite (v : Word) (s : State) : Answer := .next <| s.upBkp <| s.crossWrite Reg.MESH_CFG_EN.addr v

/-- BKP_WRITE_CROSSED (R372). -/
def execBkpWriteCrossed (s : State) : Answer :=
  .next <| s.upBkp <|
    if !s.core.flag Reg.CAL_STATUS_BUSY then s
    else
      let w := s.bkp.crossing
      let s := (s.onBkp fun b => { b with crossing := none }).onCore (·.setFlag Reg.CAL_STATUS_BUSY false)
      match w with
      | some x => s.applyCrossed x.1 x.2
      | none => s

/-- A write of BKP_SLEEP (R369, R372). -/
def State.sleepKey (s : State) (v : Word) : State :=
  if s.core.flag Reg.CAL_STATUS_BUSY then s
  else
    let s := s.onCore (·.setFlag Reg.CAL_STATUS_BUSY true)
    if v = 0x51EE0A17 then s.sleepRequest else s

/-- SLEEP_KEY_WRITE (R369): the key requests sleep; another value is discarded. -/
def execSleepKeyWrite (v : Word) (s : State) : Answer := .next <| s.upBkp (s.sleepKey v)

/-- The tick after the one a sleep request was accepted in has been executed, or no tick will be (R370). Log entry 109 (DESIGN
CHOICE, unsafe). -/
def State.sleepDue (s : State) : Bool :=
  s.core.state == 4 && s.dieOn && s.plat.sleepReq.any fun n =>
    !s.core.flag Reg.TICK_STATUS_RUNNING || (decide (n < s.epoch) && s.seq.swapped)

/-- SLEEP_ENTRY (R370): final commit, record, MRAM flush, PWRON low. -/
def execSleepEntry (s : State) : Answer :=
  .next <| s.upBkp <|
    if !s.sleepDue then s
    else
      let s := if s.sampling then s.finalCommit 1 else s
      let s := s.record 0x0B05 0 (le (Config.eventByte 0x0B05 0) 1 ++ le s.epoch 8)
      let s := s.saveRetained.writeFallback.stopTicks
      let s := { s with plat := { s.plat with asleep := true, sleepReq := none } }.onBkp fun b =>
        { b with lowMin := true, wake := false }
      s.onCore fun k => (k.drive .pwron false).fput Reg.BKP_WAKE_CAUSE 0

/-- SLEEP_FAIL (R370): VIN has not fallen; PWRON rises and the sequencer starts again without a reset (R49). Log entry 85
(DESIGN CHOICE, unsafe). -/
def execSleepFail (s : State) : Answer :=
  .next <| s.upBkp <|
    if s.plat.por || s.core.state != 4 || s.plat.sleepReq.isSome || s.seq.base.isSome then s
    else
      let s := { s with plat := { s.plat with asleep := false } }.onBkp fun b => { b with lowMin := false, wake := false }
      let s := s.onCore fun k => (k.drive .pwron true).setFlag Reg.BKP_WAKE_SLEEP_FAIL true
      { s with seq := { s.seq with base := some s.ntNs } }

/-- PWRON_LOW_END (R371). -/
def execPwronLowEnd (s : State) : Answer :=
  .next <| s.upBkp <|
    if !s.bkp.lowMin then s
    else
      let due := s.bkp.wake
      let s := s.onBkp fun b => { b with lowMin := false, wake := false }
      if due && s.plat.asleep then { s with plat := { s.plat with asleep := false } }.onCore (·.drive .pwron true) else s

/-- WAKE_N_LOW (R368). -/
def execWakeNLow (s : State) : Answer :=
  .next <| s.upBkp <| if s.core.flag Reg.BKP_WAKE_WAKE_N_EN then s.wakeBy 4 else s

end Sys2Proof.Machine
end

