-- ==== Sys2Proof/Machine/CanFd.lean ====
section
/-! DEFINITION. The CAN FD controllers: frames received and filtered, bindings, attempts that end, protocol errors, bus-off, and
the time-triggered schedule (R297 to R323). -/

namespace Sys2Proof.Machine

/-- What a row of the controllers may change. -/
def State.upCan (s t : State) : State :=
  { s with core := s.core.after t.core, img := t.img, net := t.net, can := t.can, hq := t.hq, pair := t.pair
           svc := t.svc }

/-! ### Errors (R316, R317) -/

/-- The code of a protocol error in CAN_BUS.ERR_LAST (R324). Log entry 70 (PRESUMED, unsafe). -/
def errorCode : CanError → Nat
  | .stuff => 1 | .form => 2 | .ack => 3 | .crc => 4 | .bitRecessive => 5 | .bitDominant => 6

/-- Bus-off (R317): buffers keep their content and requests, and recovery starts. -/
def State.busOff (s : State) (c : Nat) : State :=
  let tec := s.core.fget Reg.CAN_ECR_TEC c
  let s := (s.canFailAll c).onCore fun k =>
    (((k.fput Reg.CAN_BUS_STATE 2 c).fput Reg.CAN_BUS_RECOV 0 c).bump Reg.CAN_BUSOFF_ENTRIES c).canEvent c 10
  (s.showActivity c).record 0x0901 0 (le c 1 ++ le tec 2)

/-- What a protocol error adds to TEC as ISO 11898-1 counts it: nothing for an acknowledgement error of an error-passive node,
nor for a stuff error in arbitration. Log entry 70 (PRESUMED, unsafe). -/
def State.tecStep (s : State) (c : Nat) (kind : CanError) (dataPhase : Bool) : Nat :=
  if kind == .ack && s.core.fget Reg.CAN_BUS_STATE c == 1 then 0
  else if kind == .stuff && !dataPhase then 0 else 8

/-- A protocol error (R316): reported, and counted unless the controller drives nothing (R302, R322). -/
def State.busError (s : State) (c : Nat) (kind : CanError) (tx dataPhase : Bool) : State :=
  let s := s.onCore fun k =>
    let k := (k.fput Reg.CAN_BUS_ERR_LAST (errorCode kind) c).canEvent c (if dataPhase then 13 else 12)
    if dataPhase then k.fput Reg.CAN_BUS_ERR_DATA (errorCode kind) c else k
  if s.canSilent c then s
  else
    let tec := s.core.fget Reg.CAN_ECR_TEC c
    let rec_ := s.core.fget Reg.CAN_ECR_REC c
    let s := s.onCore fun k =>
      if tx then k.canCounts c (tec + s.tecStep c kind dataPhase) rec_
      else k.canCounts c tec (rec_ + if kind == .bitRecessive || kind == .bitDominant then 8 else 1)
    if s.core.fget Reg.CAN_ECR_TEC c > 255 then s.busOff c else s

/-- CAN_BUS_ERROR (R316). Log entry 70 (PRESUMED, unsafe). -/
def State.canError (s : State) (c : Nat) (kind : CanError) (tx dataPhase : Bool) : State :=
  if !s.canJoined c || (tx && s.canSilent c) then s else s.busError c kind tx dataPhase

/-- BUSOFF_RECOVERY (R317). Log entry 70 (PRESUMED, unsafe). -/
def State.recoverBus (s : State) (c : Nat) : State :=
  if s.core.fget Reg.CAN_BUS_STATE c != 2 then s
  else
    (s.onCore fun k =>
      let k := ((k.fput Reg.CAN_BUS_STATE 0 c).fput Reg.CAN_BUS_RECOV 128 c).canCounts c 0 0
      (k.bump Reg.CAN_BUSOFF_RECOVERIES c).canEvent c 11).canStart c

/-! ### Reception (R297, R306 to R311) -/

/-- A good frame lowers REC as ISO 11898-1 counts it: by one, or, above 127, to a value between 119 and 127. Log entry 70
(PRESUMED, unsafe). -/
def State.goodFrame (s : State) (c : Nat) : State :=
  if s.canSilent c then s
  else
    let rec_ := s.core.fget Reg.CAN_ECR_REC c
    if rec_ ≤ 127 then s.onCore fun k => k.canCounts c (k.fget Reg.CAN_ECR_TEC c) (rec_ - 1)
    else
      let (w, k) := s.core.takeFree
      { s with core := k.canCounts c (k.fget Reg.CAN_ECR_TEC c) (119 + w.toNat % 9) }

/-- An entry of the stencil list matches a frame (R307, R308). -/
def StencilHit (e : Stencil) (el : CanElement) : Bool :=
  e.ext == el.ext && (!el.rmt || e.rmt) &&
    (match e.test.val with
      | 1 => decide (e.a ≤ el.id ∧ el.id ≤ e.b)
      | 2 => el.id == e.a || el.id == e.b
      | 3 => (el.id ^^^ e.a) &&& e.b == 0
      | _ => false)

/-- The first matching entry, with its index (R308). -/
def CanCfg_decide (g : CanCfg) (el : CanElement) : Option (Stencil × Nat) := g.stencils.zipIdx.find? fun p => StencilHit p.1 el

/-- Where a frame that matches no entry goes: queue 0 or 1, or nowhere (R308). -/
def CanCfg_miss (g : CanCfg) (el : CanElement) : Option Nat :=
  let d := if el.ext then g.missExt else g.missBase
  if el.rmt && !(if el.ext then g.rmtExt else g.rmtBase) then none
  else if d < 2 then some d else none

/-- A frame as a receive element holds it: its data bytes by DLC (R306). -/
def CanElement_norm (el : CanElement) : CanElement :=
  let n := if el.rmt then 0 else dlcBytes el.fd el.dlc.toNat
  { el with data := (el.data ++ List.replicate 64 (0 : Byte)).take n }

/-- Store a frame in a receive queue: one that finds it full is lost (R309). Log entry 72 (DESIGN CHOICE, unsafe). -/
def State.storeFrame (s : State) (c q : Nat) (el : CanElement) (stencil : Nat) (stamp : Int) : State × Bool :=
  let x := s.canCtl c
  let xs := if q = 0 then x.q0 else x.q1
  let cap := if q = 0 then 64 else 32
  let lost := if q = 0 then Reg.CAN_RXQ0_LOST else Reg.CAN_RXQ1_LOST
  let fill := if q = 0 then Reg.CAN_RXQ0_FILL else Reg.CAN_RXQ1_FILL
  if xs.length ≥ cap then (s.onCore fun k => (k.bump lost c).canEvent c (4 + 3 * q), false)
  else
    let e : RxElement := { el := el, stencil := stencil, stamp := stamp, seq := if q = 0 then x.seq0 else x.seq1 }
    let ys := xs ++ [e]
    let x := if q = 0 then { x with q0 := ys, seq0 := (x.seq0 + 1) % 2 ^ 32 } else { x with q1 := ys, seq1 := (x.seq1 + 1) % 2 ^ 32 }
    ((s.putCan c x).onCore fun k =>
      let k := (k.fput fill ys.length c).canEvent c (2 + 3 * q)
      if ys.length = cap then k.canEvent c (3 + 3 * q) else k, true)

/-- A bound frame (R310, R311). Log entry 72 (DESIGN CHOICE, unsafe). -/
def State.bindFrame (s : State) (c : Nat) (b : CanRxBinding) (el : CanElement) (stamp : Int) : State :=
  let x := s.canCtl c
  let was := x.stale.contains b.id.val
  let s := s.putCan c { x with matched := x.matched.put b.id s.epoch, stale := x.stale.filter (· != b.id.val) }
  let s := if was then s.freshCells (b.extractions.map (·.cell)) else s
  let vs := if el.data.length < b.dlcMin then none else s.extractAll b.extractions el.data
  match vs with
  | none => s.onCore (·.bump Reg.CAN_RX_LATE_SHORT c)
  | some vs =>
    let (s, late) := s.inboxValues vs 2 stamp
    if late then s.onCore fun k => (k.bump Reg.CAN_RX_LATE_LATE c).canEvent c 17 else s

/-- A frame is filtered (R308): stored, handed to a binding, or discarded. On a standby the cells come from the duty (R322). -/
def State.filterCan (s : State) (c : Nat) (el : CanElement) (stamp : Int) : State :=
  let g := (s.canCtl c).cfg
  let (dest, bind, stencil) : Option Nat × Option CanRxBinding × Nat := match CanCfg_decide g el with
    | some (e, i) =>
      if e.dest == 2 then (none, none, i)
      else (if e.dest < 2 then some e.dest.val else none,
        if e.bindEn && !el.rmt then g.rxBindings.find? (·.id == e.bind) else none, i)
    | none => (CanCfg_miss g el, none, 255)
  let (s, kept) := match dest with
    | some q => s.storeFrame c q el stencil stamp
    | none => (s, false)
  let s := if kept || bind.isSome then s.onCore (·.bump Reg.CAN_RX_OK_COUNT c) else s
  match bind with
  | some b => if s.standby then s else s.bindFrame c b el stamp
  | none => s

/-- A reference message starts a follower's basic cycle (R320). -/
def State.takeReference (s : State) (c : Nat) (el : CanElement) (stamp : Int) : State :=
  let x := s.canCtl c
  if s.core.fget Reg.CAN_CFG_MODE c != 3 || s.core.flag Reg.CAN_CFG_TIME_MASTER c || el.rmt || el.ext != x.cfg.refExt ||
      el.id != x.cfg.refId then s
  else
    let cycle := (el.data.getD 0 0).toNat % 32
    (s.putCan c { x with refSof := some stamp }).onCore fun k =>
      ((k.setFlag Reg.CAN_TT_STAT_REF_OK true c).fput Reg.CAN_TT_STAT_CYCLE cycle c).fput Reg.CAN_TT_STAT_COLUMN 0 c

/-- CAN_FRAME_RECEIVE (R297, R308): a frame on the bus means that an attempt in progress has lost arbitration. -/
def State.receiveCan (s : State) (c : Nat) (el : CanElement) (age : Nat) (resRecessive : Bool) : State :=
  if !s.canJoined c then s
  else
    let s := s.canFailAll c
    if el.fd && resRecessive then
      if s.core.flag Reg.CAN_CFG_PEX_EN c then
        ((s.putCan c { s.canCtl c with exception := true }).onCore (·.canEvent c 14)).showActivity c
      else (s.busError c .form false false).canStart c
    else
      let el := CanElement_norm el
      let stamp := s.canStamp c age
      (((s.goodFrame c).takeReference c el stamp).filterCan c el stamp).canStart c

/-- No frame for a binding in STALE_TICKS ticks (R311). -/
def State.canStale (s : State) (c : Nat) (b : CanRxBinding) : State :=
  let x := s.canCtl c
  let due := b.staleTicks != 0 && (x.matched.at? b.id).all fun e => decide (s.epoch ≥ e + b.staleTicks)
  if !due || x.stale.contains b.id.val || s.standby then s
  else (s.putCan c { x with stale := b.id :: x.stale }).staleCells (b.extractions.map (·.cell))

/-! ### Transmission (R301, R313, R315) -/

/-- CAN_TX_ATTEMPT_END (R301, R313): a measured loop delay that puts the secondary sample point beyond its limit is a bit
error. Log entries 71 (DEDUCED, unsafe); 72 (DESIGN CHOICE, unsafe). -/
def State.attemptEnd (s : State) (c buffer : Nat) (ok : Bool) (age : Nat) (loop : Nat) : State :=
  let t := (s.canCtl c).bufs.atD buffer {}
  if buffer ≥ 3 || !t.active then s
  else
    let ssp := s.core.flag Reg.CAN_CFG_SSP_EN c && t.el.fd
    let s := if ssp then s.onCore (·.fput Reg.CAN_SSP_LOOP loop c) else s
    if ssp && loop + s.core.fget Reg.CAN_SSP_SSPO c > 127 then
      let (w, k) := s.core.takeFree
      let s := { s with core := k }.busError c (if w.getLsbD 0 then .bitRecessive else .bitDominant) true true
      (s.canFail c buffer).canStart c
    else if ok then (s.canSent c buffer (s.canStamp c age)).canStart c
    else (s.canFail c buffer).canStart c

/-! ### The time-triggered schedule (R318 to R321) -/

/-- The payload of a reference message (R320). Log entry 74 (DESIGN CHOICE, unsafe). -/
def referenceData (cycle : Nat) (degraded disc : Bool) (sof : Option Int) : List Byte :=
  let disc := disc || sof.isNone
  le (cycle % 32 + (if degraded then 64 else 0) + (if disc then 128 else 0)) 1 ++
    le (if disc then 0 else bitsOf 56 (sof.getD 0)) 7

/-- A time master's reference message is due (R320): sent, or marked discontinuous where it could not begin within one cycle.
Log entry 74 (DESIGN CHOICE, unsafe). -/
def State.reference (s : State) (c : Nat) (begun : Bool) : State :=
  let x := s.canCtl c
  if s.core.fget Reg.CAN_CFG_MODE c != 3 || !s.core.flag Reg.CAN_CFG_TIME_MASTER c then s
  else if !begun || !s.canDrive c then s.putCan c { x with disc := true }
  else
    let cycle := if x.refSof.isNone then 0 else (s.core.fget Reg.CAN_TT_STAT_CYCLE c + 1) % max x.cfg.ncyc 1
    let degraded := s.core.fget Reg.NT_STAT_STATE == 3
    let el : CanElement := ⟨x.cfg.refId, x.cfg.refExt, false, false, false, false, 8, referenceData cycle degraded x.disc x.refSof⟩
    let stamp := s.canStamp c 0
    let s := (s.putCan c { x with refSof := some stamp, disc := false, sent := (256, el) :: x.sent }).onCore fun k =>
      let k := (k.setFlag Reg.CAN_TT_STAT_REF_OK true c).fput Reg.CAN_TT_STAT_CYCLE cycle c
      let k := (k.fput Reg.CAN_TT_STAT_COLUMN 0 c).canCounts c (k.fget Reg.CAN_ECR_TEC c - 1) (k.fget Reg.CAN_ECR_REC c)
      (k.bump Reg.CAN_TX_OK_COUNT c).canEvent c 0
    s.canStart c

/-- The CAN_TT_MISS register of a slot entry. -/
def missRow (idx : Nat) : Row :=
  match idx / 32 with
  | 0 => Reg.CAN_TT_MISS0_SLOTS | 1 => Reg.CAN_TT_MISS1_SLOTS | 2 => Reg.CAN_TT_MISS2_SLOTS | 3 => Reg.CAN_TT_MISS3_SLOTS
  | 4 => Reg.CAN_TT_MISS4_SLOTS | 5 => Reg.CAN_TT_MISS5_SLOTS | 6 => Reg.CAN_TT_MISS6_SLOTS | _ => Reg.CAN_TT_MISS7_SLOTS

/-- A due slot is missed (R321). -/
def State.missSlot (s : State) (c : Nat) (e : TtSlot) : State :=
  let b := 128 + e.buf.val
  let t := (s.canCtl c).bufs.atD b {}
  let s := s.onCore fun k => (k.setBit (missRow e.idx) (e.idx % 32) true c).canEvent c 15
  if e.keep then s else (s.onBuf c b fun t => { t with pending := false }).logCan c b t.el 2 0

/-- TT_SLOT_DUE (R319, R321): a slot due in the current basic cycle sends its buffer's frame or misses. Log entry 74 (DESIGN
CHOICE, unsafe). -/
def State.slotDue (s : State) (c idx : Nat) (ok : Bool) (age : Nat) : State :=
  let x := s.canCtl c
  match x.cfg.slots.find? (·.idx == idx) with
  | none => s
  | some e =>
    if !s.canOn c || s.core.fget Reg.CAN_CFG_MODE c != 3 || e.type ≥ 2 ||
        s.core.fget Reg.CAN_TT_STAT_CYCLE c % 2 ^ e.rep.val != e.base then s
    else
      let b := 128 + e.buf.val
      let live := s.core.flag Reg.CAN_TT_STAT_REF_OK c
      let s := if live then s.onCore (·.fput Reg.CAN_TT_STAT_COLUMN e.column c) else s
      if !(x.bufs.atD b {}).pending then s
      else if live && ok && s.canDrive c then (s.canSent c b (s.canStamp c age)).canStart c
      else s.missSlot c e

/-- TT_REFERENCE_LOSS (R320). -/
def State.loseReference (s : State) (c : Nat) : State :=
  if s.core.fget Reg.CAN_CFG_MODE c != 3 || s.core.flag Reg.CAN_CFG_TIME_MASTER c || !s.core.flag Reg.CAN_TT_STAT_REF_OK c then s
  else s.onCore fun k =>
    ((k.setFlag Reg.CAN_TT_STAT_REF_OK false c).bump Reg.CAN_TT_STAT_REF_LOSSES c).canEvent c 16

/-- CAN_BUS_INTEGRATION (R297, R322): 11 recessive bits end a protocol exception, or a join once start-up has completed. -/
def State.integrate (s : State) (c : Nat) : State :=
  if !s.canOn c || s.net.quiet || s.core.fget Reg.CAN_BUS_STATE c ≥ 2 then s
  else (s.putCan c { s.canCtl c with joining := false, exception := false }).canStart c

/-! ### Meanings -/

/-- CAN_FRAME_RECEIVE (R308). -/
def execCanFrameReceive (c : Fin 4) (el : CanElement) (age : Nat) (resRecessive : Bool) (s : State) : Answer :=
  .next <| s.upCan <| s.receiveCan c el age resRecessive

/-- CAN_BINDING_STALE (R311). -/
def execCanBindingStale (c : Fin 4) (binding : Fin 32) (s : State) : Answer :=
  .next <| s.upCan <| match (s.canCtl c).cfg.rxBindings.find? (·.id == binding) with
    | some b => s.canStale c b
    | none => s

/-- CAN_TX_ATTEMPT_END (R313). -/
def execCanTxAttemptEnd (c : Fin 4) (buffer : Nat) (ok : Bool) (age : Nat) (loop : BitVec 7) (s : State) : Answer :=
  .next <| s.upCan <| s.attemptEnd c buffer ok age loop.toNat

/-- CAN_BUS_ERROR (R316). -/
def execCanBusError (c : Fin 4) (kind : CanError) (tx dataPhase : Bool) (s : State) : Answer :=
  .next <| s.upCan <| s.canError c kind tx dataPhase

/-- BUSOFF_RECOVERY (R317). -/
def execBusoffRecovery (c : Fin 4) (s : State) : Answer := .next <| s.upCan <| s.recoverBus c

/-- CAN_STAMP_ADJUST (R303). -/
def execCanStampAdjust (c : Fin 4) (s : State) : Answer :=
  .next <| s.upCan <| s.putCan c { s.canCtl c with adjusts := (s.canCtl c).adjusts + 1 }

/-- TT_REFERENCE_TIME (R320). -/
def execTtReferenceTime (c : Fin 4) (begun : Bool) (s : State) : Answer := .next <| s.upCan <| s.reference c begun

/-- TT_SLOT_DUE (R319). -/
def execTtSlotDue (c : Fin 4) (idx : Fin 256) (ok : Bool) (age : Nat) (s : State) : Answer :=
  .next <| s.upCan <| s.slotDue c idx ok age

/-- TT_REFERENCE_LOSS (R320). -/
def execTtReferenceLoss (c : Fin 4) (s : State) : Answer := .next <| s.upCan <| s.loseReference c

/-- CAN_BUS_INTEGRATION (R297). -/
def execCanBusIntegration (c : Fin 4) (s : State) : Answer := .next <| s.upCan <| s.integrate c

end Sys2Proof.Machine
end

