-- ==== Sys2Proof/Machine/Exchange.lean ====
section
/-! DEFINITION. Exchange datagrams as they arrive, and the end of a LEVEL wait (R249 to R253, R255, R259). -/

namespace Sys2Proof.Machine

/-- What a row of the exchange may change. -/
def State.upXch (s t : State) : State := { s with core := s.core.after t.core, img := t.img, xch := t.xch, pair := t.pair }

/-- Key of a replay window: position and unit (R253). -/
def Datagram_sender (d : Datagram) : Nat := d.senderPos + (if d.senderUnit then 1024 else 0)

/-- What becomes of a datagram (R250, R253): held, an AUTH discard, or a REPLAY, format or epoch discard. -/
inductive DgCheck
  | ok | auth | replay
  deriving DecidableEq, Repr, Inhabited

/-- The replay window lets a counter value pass (R253): above the highest accepted, or one of the 64 below it not yet
accepted. -/
def Window_free (w : Option Window) (ctr : Nat) : Bool :=
  match w with
  | none => true
  | some w => ctr > w.hi || (ctr + 64 ≥ w.hi && ctr < w.hi && !w.seen.contains ctr)

/-- The window after a datagram was accepted. -/
def Window_take (w : Option Window) (ctr : Nat) : Window :=
  match w with
  | none => { hi := ctr, seen := [] }
  | some w =>
    if ctr > w.hi then { hi := ctr, seen := (w.hi :: w.seen).filter fun c => decide (c + 64 ≥ ctr) }
    else { w with seen := ctr :: w.seen }

/-- The generations a receiver takes: its current one and the one before (R253). -/
def State.keyGens (s : State) : List Nat := s.core.fget Reg.XCH_CFG_KEYGEN_TX :: s.xch.keyPrev.toList

/-- The receiver's checks, in an order in which each discard has one cause (R250, R253). Before the first tick there is no
current epoch, and no epoch window applies. Log entry 60 (DESIGN CHOICE, unsafe). -/
def State.checkDatagram (s : State) (d : Datagram) (tagOk fragmented : Bool) : DgCheck :=
  if fragmented then .replay
  else if d.estateId.toNat != s.core.fget Reg.GLB_ESTATE_ESTATE_ID || !s.keyGens.contains d.keyGen || !s.exchangeKey d.keyGen ||
      !tagOk then .auth
  else if d.version != 1 || d.type != 1 || d.cells != d.entries.length || d.dgCount = 0 || d.dgIndex ≥ d.dgCount then .replay
  else if !Window_free (s.xch.windows.at? (Datagram_sender d)) d.ctr then .replay
  else if s.core.flag Reg.TICK_STATUS_RUNNING && (d.epoch + 1 < s.epoch || d.epoch > s.epoch + 1) then .replay
  else .ok

/-- The PUB_ID a datagram carries (R249): a change of it is recorded. Log entry 60 (DESIGN CHOICE, unsafe). -/
def State.notePubId (s : State) (sub : SubDef) (d : Datagram) : State :=
  let old := s.xch.pubIds.atD sub.pubPos sub.pubId.toNat
  if old = d.pubId.toNat then s
  else { s with xch := { s.xch with pubIds := s.xch.pubIds.put sub.pubPos d.pubId.toNat } }.record 0x0701 0
    (le sub.pubPos 2 ++ le d.pubId.toNat 4)

/-- An accepted datagram is held for its merge; one whose merge has started is late, or merged in the LEVEL wait that runs for
it (R255, R259). -/
def State.holdDatagram (s : State) (sub : SubDef) (d : Datagram) : State :=
  let late := s.xch.mergedEpoch.any fun m => decide (m ≥ d.epoch + 1)
  if !late then { s with xch := { s.xch with held := s.xch.held ++ [d] } }
  else match s.xch.waits.find? (·.sub == sub.id) with
    | some w =>
      if d.epoch + 1 = s.epoch && !s.pubWrong sub then
        let before := s
        let s := { s with xch := { s.xch with held := s.xch.held ++ [d] } }.lateMerge sub w d
        let s := s.sendClose (mirrorChanged before s) (s.xch.waits.map (·.sub))
        s.showEngines
      else s.onCore (·.bump Reg.XCH_LATE_COUNT)
    | none => s.onCore (·.bump Reg.XCH_LATE_COUNT)

/-- EXCHANGE_DATAGRAM_RECEIVE (R253): datagrams of positions the image does not subscribe to are none of this receiver's, and
a standby gets its inputs from the duty (R230). Log entry 60 (DESIGN CHOICE, unsafe). -/
def State.receiveDatagram (s : State) (d : Datagram) (tagOk fragmented : Bool) : State :=
  if s.standby then s
  else match s.xch.subs.find? (·.pubPos == d.senderPos) with
    | none => s
    | some sub => match s.checkDatagram d tagOk fragmented with
      | .auth => s.onCore (·.bump Reg.XCH_RX_DROP_AUTH)
      | .replay => s.onCore (·.bump Reg.XCH_RX_DROP_REPLAY)
      | .ok =>
        let i := Datagram_sender d
        let w := s.xch.windows.put i (Window_take (s.xch.windows.at? i) d.ctr)
        let s := { s with xch := { s.xch with windows := w } }.onCore (·.bump Reg.XCH_RX_DG_COUNT)
        (s.notePubId sub d).holdDatagram sub d

/-- LEVEL_TIMEOUT (R259): the fall-back is the duty's decision, which the standby gets with CLOSE. -/
def State.levelTimeoutRow (s : State) (sub : Nat) : State :=
  if s.standby || !(s.xch.waits.any (·.sub == sub)) then s
  else
    let before := s
    let s := s.levelTimeout sub
    let s := s.sendClose (mirrorChanged before s) (s.xch.waits.map (·.sub))
    s.showEngines

/-- EXCHANGE_DATAGRAM_RECEIVE (R253). -/
def execExchangeDatagramReceive (d : Datagram) (tagOk fragmented : Bool) (s : State) : Answer :=
  .next <| s.upXch <| s.receiveDatagram d tagOk fragmented

/-- LEVEL_TIMEOUT (R259). -/
def execLevelTimeout (sub : Nat) (s : State) : Answer := .next <| s.upXch <| s.levelTimeoutRow sub

end Sys2Proof.Machine
end

