-- ==== Sys2Proof/Machine/FramePort.lean ====
section
/-! DEFINITION. The frame ports: frames received and matched to bindings, PAUSE, the transmit queues, MACsec's packet
numbers and key agreement, links, and PLCA (R277 to R296). -/

namespace Sys2Proof.Machine

/-- What a row of the frame ports may change. -/
def State.upPort (s t : State) : State :=
  { s with core := s.core.after t.core, img := t.img, net := t.net, svc := t.svc, pair := t.pair, nt := t.nt
           seq := t.seq }

/-! ### Addresses (R282, R295) -/

/-- The unit's own address (R222). -/
def State.ownAddress (s : State) : Nat :=
  if s.core.flag Reg.GLB_UNIT_PAIRED && !s.core.flag Reg.GLB_UNIT_PREFERRED then s.cfg.otherAddress else s.cfg.unitAddress

/-- The addresses the unit answers to: its own, and the position's while it holds the position (R222). -/
def State.addresses (s : State) : List Nat := if s.standby then [s.ownAddress] else [s.ownAddress, s.cfg.posAddress]

/-- IPv6 groups a port has joined: all nodes, the solicited-node groups of its addresses, on an uplink those of PTP, and the
exchange groups where it carries exchange traffic (R250, R282, R329). Log entry 65 (DESIGN CHOICE, unsafe). -/
def State.groups (s : State) (p : Nat) : List Nat :=
  let base := 0xFF02 * 2 ^ 112
  (base + 1) :: s.addresses.map (fun a => base + 2 ^ 32 + 0xFF000000 + a % 2 ^ 24) ++
    (if p < 2 then [base + 0x6B, 0xFF0E * 2 ^ 112 + 0x181] else []) ++
    (if s.carriesXch p then s.xch.subs.map fun u => s.groupOf u.pubPos else [])

/-- The destination addresses a port delivers (R282). -/
def State.accepts (s : State) (p : Nat) (dst : BitVec 48) : Bool :=
  dst.toNat == s.mac p || dst == 0xFFFFFFFFFFFF#48 || dst == 0x011B19000000#48 || dst == 0x0180C200000E#48 ||
    (s.groups p).any fun g => dst.toNat == groupMac g

/-! ### Receive (R278, R282, R283, R288, R289, R293, R294) -/

/-- Bytes of a frame as it came, from destination address to FCS, with its tag and with SecTAG and ICV (R278). -/
def frameLen (f : RxFrame) : Nat :=
  18 + f.payload.length + (if f.tag.isSome then 4 else 0) + (if f.sec = .unprotected then 0 else 32)

/-- The longest frame a port takes (R278). -/
def State.longest (s : State) (p : Nat) : Nat := if s.isMacsec p then 1554 else 1522

/-- The upper-layer packet of an IPv6 frame. -/
def frameUpper (f : RxFrame) : Option Upper := if f.etype = 0x86DD#16 then upperOf f.payload else none

/-- An EAPOL-MKA frame (R289). Log entry 65 (DESIGN CHOICE, unsafe). -/
def isMka (f : RxFrame) : Bool := f.etype == 0x888E#16 && f.payload.getD 1 0 == 5

/-- A PTP message: by its EtherType, or on UDP port 319 or 320 (R282, R329). Log entry 65 (DESIGN CHOICE, unsafe). -/
def isPtp (f : RxFrame) : Bool :=
  f.etype == 0x88F7#16 || (frameUpper f).any fun u => u.proto == 17 && (u.port == 319 || u.port == 320)

/-- An exchange datagram: on the exchange's UDP port (R250, R282). -/
def State.isXch (s : State) (f : RxFrame) : Bool :=
  (frameUpper f).any fun u => u.proto == 17 && u.port == s.core.fget Reg.XCH_PORT_EXCHANGE

/-- Point service, neighbour discovery, MLDv2, MKA (R282): TCP to the service port, the ICMPv6 types of RFC 4861 and RFC 3810,
EAPOL. Log entry 65 (DESIGN CHOICE, unsafe). -/
def State.isService (s : State) (f : RxFrame) : Bool :=
  isMka f || (frameUpper f).any fun u =>
    (u.proto == 6 && u.port == s.core.fget Reg.XCH_PORT_SERVICE) ||
      (u.proto == 58 && [130, 133, 134, 135, 136, 137, 143].contains (ofBe (cut u.bytes 0 1)))

/-- A 32-bit big-endian payload word at the binding's offset equals its TAG under the mask (R293). -/
def FrameTag (b : FrameBinding) (xs : List Byte) : Bool :=
  match bytesAt xs b.tagOff 4 with
  | some w => decide (BitVec.ofNat 32 (ofBe w) &&& b.tagMask = b.tag &&& b.tagMask)
  | none => b.tagMask == 0

/-- The payload a binding extracts from, where EtherType or UDP port and source are the binding's (R293). -/
def framePayload (b : FrameBinding) (f : RxFrame) : Option (List Byte) :=
  if b.udp then match frameUpper f with
    | none => none
    | some u =>
      if u.proto = 17 ∧ !u.frag ∧ u.port = b.ident.toNat ∧ (b.source = 0 ∨ b.source = ofBe (cut f.payload 8 16)) then some u.udpPayload
      else none
  else if b.ident = f.etype ∧ (b.source = 0 ∨ b.source = f.src.toNat) then some f.payload
  else none

/-- A frame matches a binding (R293). -/
def FrameMatches (b : FrameBinding) (p : Fin 4) (f : RxFrame) : Bool :=
  b.ports.contains p && frameLen f ≤ (if p < 2 then 1554 else 160) && (framePayload b f).any (FrameTag b)

/-- The first binding that a frame matches (R293). -/
def State.bindingOf (s : State) (p : Fin 4) (f : RxFrame) : Option FrameBinding :=
  s.cfg.frameBindings.find? fun b => FrameMatches b p f

/-- The class a frame is delivered to: the first it matches (R282). -/
def State.classOf (s : State) (p : Fin 4) (f : RxFrame) : Option Nat :=
  if isPtp f then some 0
  else if s.isXch f then some 1
  else if (s.bindingOf p f).isSome then some 2
  else if s.isService f then some 3
  else none

/-- EGRESS_NS of a port (R292). -/
def egressNs (p : Fin 4) : Int := if p < 2 then 172 else 840

/-- The transmit stamp of a frame that leaves now (R291). -/
def State.txStamp (s : State) (p : Fin 4) : Int := s.stampNs 0 + egressNs p + s.core.sget Reg.FP_TS_TRIM_EGR_TRIM p

/-! ### The receive buffer (R283) -/

/-- Bytes of a port's receive buffer, and of each reservation of classes 0 and 1 (R283). -/
def rxSize (p : Fin 4) : Nat × Nat := if p < 2 then (192 * 1024, 16 * 1024) else (16 * 1024, 2 * 1024)

/-- The occupancy of a port's receive buffer once the engines have taken out what they have taken. -/
def RxRoom_taken (r t : RxRoom) : RxRoom := ⟨r.ptp - t.ptp, r.xch - t.xch, r.shared - t.shared⟩

/-- A frame of class `c` and `n` bytes finds room in its class's reservation, or in the shared remainder (R283): the occupancy
with it. Log entry 66 (DESIGN CHOICE, unsafe). -/
def RxRoom_put (p : Fin 4) (c n : Nat) (r : RxRoom) : Option RxRoom :=
  let z := rxSize p
  if c = 0 ∧ r.ptp + n ≤ z.2 then some { r with ptp := r.ptp + n }
  else if c = 1 ∧ r.xch + n ≤ z.2 then some { r with xch := r.xch + n }
  else if r.shared + n ≤ z.1 - 2 * z.2 then some { r with shared := r.shared + n }
  else none

/-- A frame matches a binding (R294): its values wait for their entry point, and a stale binding is stale no more. Log entry
68 (DESIGN CHOICE, unsafe). -/
def State.matchFrame (s : State) (p : Fin 4) (b : FrameBinding) (f : RxFrame) : State :=
  let s := s.onCore (·.bump Reg.FP_BIND_RX_COUNT p)
  let cells := b.extractions.map (·.cell)
  let s : State :=
    if s.net.stale.contains b.id then
      { s with net := { s.net with stale := s.net.stale.filter (· != b.id) } }.freshCells cells
    else s
  let s := { s with net := { s.net with matched := s.net.matched.put b.id s.epoch } }
  match (framePayload b f).bind (s.extractAll b.extractions) with
  | none => s.onCore (·.bump Reg.FP_BIND_SHORT_COUNT p)
  | some vs => (s.inboxValues vs 1 (s.rxStamp p f.age)).1

/-- A frame that passed the port's checks is classified and buffered (R282, R283). -/
def State.deliver (s : State) (p : Fin 4) (f : RxFrame) : State :=
  match s.classOf p f with
  | none => s.onCore (·.bump Reg.FP_RX_FILT_COUNT p)
  | some c => match RxRoom_put p c (frameLen f) (s.net.rx.atD p {}) with
    | none => s.onCore (·.bump (if c ≤ 1 then Reg.FP_RX_OVF_PRIORITY else Reg.FP_RX_OVF_OTHER) p)
    | some r =>
      let s := { s with net := { s.net with rx := s.net.rx.put p r } }.onCore (·.bump Reg.FP_RX_OK_COUNT p)
      if c = 2 && !s.standby then match s.bindingOf p f with
        | some b => s.matchFrame p b f
        | none => s
      else s

/-- A frame carries a TCP or UDP packet whose checksum fails (R288). -/
def frameBadSum (f : RxFrame) : Bool := (frameUpper f).any fun u => u.badSum f.payload

/-- The destination filter, the checksum and the classes (R282, R288). Log entry 65 (DESIGN CHOICE, unsafe). -/
def State.filterFrame (s : State) (p : Fin 4) (f : RxFrame) : State :=
  if !s.accepts p f.dst then s.onCore (·.bump Reg.FP_RX_FILT_COUNT p)
  else if frameBadSum f then s.onCore (·.bump Reg.FP_RX_ERR_CSUM p)
  else s.deliver p f

/-- The next packet number a receive channel expects of an association (R289). -/
def State.nextPn (s : State) (p : Fin 4) (sci : BitVec 64) (an : Fin 4) : Option Nat :=
  (((s.net.macsec.atD p {}).rx.find? fun c => c.1 == sci).bind fun c => c.2.at? an)

/-- A packet number has been received (R289). -/
def State.takePn (s : State) (p : Fin 4) (sci : BitVec 64) (an : Fin 4) (pn : Nat) : State :=
  let m := s.net.macsec.atD p {}
  let rx := m.rx.map fun c => if c.1 = sci then (c.1, c.2.alter an 0 (max · (pn + 1))) else c
  { s with net := { s.net with macsec := s.net.macsec.put p { m with rx := rx } } }

/-- MACsec's check (R289, R290): MKA comes by the uncontrolled port; everything else must be protected, pass its ICV under an
installed association and the replay check, and is delivered only while MKA has a live peer. Log entry 65 (DESIGN CHOICE,
unsafe). -/
def State.secureFrame (s : State) (p : Fin 4) (f : RxFrame) : State :=
  if !s.isMacsec p then (if f.sec = .unprotected then s.filterFrame p f else s.onCore (·.bump Reg.FP_RX_FILT_COUNT p))
  else if isMka f then s.filterFrame p f
  else match f.sec with
    | .unprotected => s.onCore (·.bump Reg.MS_UNPROT_COUNT p)
    | .secured sci an pn icvOk => match s.nextPn p sci an with
      | none => s.onCore (·.bump Reg.MS_DROP_ICV p)
      | some next =>
        if !icvOk then s.onCore (·.bump Reg.MS_DROP_ICV p)
        else if pn + s.cfg.replayWindows.atD p 0 < next then s.onCore (·.bump Reg.MS_DROP_REPLAY p)
        else if s.core.flag Reg.MS_STAT_SECURED p then (s.takePn p sci an pn).filterFrame p f
        else s

/-- No frame has matched a binding for STALE_TICKS ticks (R294). -/
def State.bindingStale (s : State) (b : FrameBinding) : State :=
  let due := b.staleTicks != 0 && (s.net.matched.at? b.id).all fun e => decide (s.epoch ≥ e + b.staleTicks)
  if !due || s.net.stale.contains b.id || s.standby then s
  else
    let cells := b.extractions.map (·.cell)
    { s with net := { s.net with stale := b.id :: s.net.stale } }.staleCells cells

/-! ### PAUSE (R285) -/

/-- The pause of an uplink ends after `n` counts in all: counted, and recorded where it was longer than a quarter of P. Log
entry 66 (DESIGN CHOICE, unsafe). -/
def State.endPause (s : State) (p : Fin 4) (n : Nat) : State :=
  let us := n / 250
  let s := { s with net := { s.net with pauses := s.net.pauses.del p } }.onCore fun k =>
    (k.setFlag Reg.FP_STAT_PAUSED false p).bump Reg.FP_PAUSE_US_US p us
  if s.core.flag Reg.TICK_CFG_VALID && 16 * n > s.periodNs.toNat &&
      (s.net.pauseSeen.at? p).all (fun e => decide (s.epoch ≥ e + 1024)) then
    { s with net := { s.net with pauseSeen := s.net.pauseSeen.put p s.epoch } }.record 0x0802 0 (le p 1 ++ le us 4)
  else s

/-- A PAUSE frame (R285): it stops transmission for quanta × 512 ns, restarts a pause in progress, and quanta 0 ends it. -/
def State.pause (s : State) (p : Fin 4) (quanta : Nat) : State :=
  if !s.core.flag Reg.FP_STAT_LINK p then s
  else
    let s := s.onCore (·.bump Reg.FP_PAUSE_RX_COUNT p)
    let c := s.core.c
    match s.net.pauses.at? p with
    | none =>
      if quanta = 0 then s
      else { s with net := { s.net with pauses := s.net.pauses.put p (c, quanta * 128) } }.onCore
        (·.setFlag Reg.FP_STAT_PAUSED true p)
    | some (start, _) =>
      if quanta = 0 then s.endPause p (c - start)
      else { s with net := { s.net with pauses := s.net.pauses.put p (start, c - start + quanta * 128) } }

/-- MAC control frames (R285, R286): a PAUSE frame on an uplink, to the PAUSE address or the port's own, is honoured and consumed;
every other one is discarded and counted. -/
def State.macControl (s : State) (p : Fin 4) (f : RxFrame) : State :=
  if p < 2 && ofBe (cut f.payload 0 2) == 1 && (f.dst == 0x0180C2000001#48 || f.dst.toNat == s.mac p) then
    s.pause p (ofBe (cut f.payload 2 2))
  else s.onCore (·.bump Reg.FP_RX_FILT_COUNT p)

/-- FRAME_RECEIVE (R278, R282, R283, R286). Log entry 65 (DESIGN CHOICE, unsafe). -/
def State.receiveFrame (s : State) (p : Fin 4) (f : RxFrame) : State :=
  if !s.core.flag Reg.FP_STAT_LINK p || !s.core.pllOk 1 then s
  else
    let s := { s with net := { s.net with rx := s.net.rx.put p (RxRoom_taken (s.net.rx.atD p {}) f.taken) } }
    if !f.fcsOk || frameLen f < 64 || frameLen f > s.longest p then s.onCore (·.bump Reg.FP_RX_ERR_FCS p)
    else if f.etype = 0x8808#16 && f.sec = .unprotected then s.macControl p f
    else s.secureFrame p f

/-! ### Transmit (R284, R287, R290, R291, R295) -/

/-- A segment may send (R281): under PLCA in its own opportunity of the cycle, up to 1 + MAX_BC frames; under CSMA/CD at any
time. A follower that has neither a BEACON nor fallen back sends nothing. Log entry 68 (DESIGN CHOICE, unsafe). -/
def State.plcaTurn (s : State) (g : Nat) : Bool :=
  !s.core.flag Reg.PLCA_CTRL_EN g || s.core.flag Reg.PLCA_STAT_CSMA_FALLBACK g ||
    (s.core.flag Reg.PLCA_STAT_ACTIVE g && s.net.inCycle.atD g 0 ≤ s.core.fget Reg.PLCA_BURST_MAX_BC g)

/-- The port may send (R281, R285, R290, R295, R464). -/
def State.canSend (s : State) (p : Fin 4) : Bool :=
  s.core.flag Reg.FP_STAT_LINK p && !s.core.flag Reg.FP_STAT_PAUSED p && !s.core.flag Reg.FP_STAT_TX_STOPPED p &&
    !s.net.quiet && !s.plat.hold && !s.plat.frozen && s.core.pllOk 1 && (p < 2 || s.plcaTurn (p - 2))

/-- Items that may leave now: MKA alone while the uplink is not secured (R290). -/
def State.maySend (s : State) (p : Fin 4) (i : TxItem) : Bool :=
  !s.isMacsec p || s.core.flag Reg.MS_STAT_SECURED p || i == .mka

/-- Take the next item under strict priority (R284), discarding exchange datagrams whose epoch is below the current one − 1: how
many, the item, and what is left in the queues. -/
def takeItem (cur : Nat) (may : TxItem → Bool) : Nat → List TxItem → Nat × Option TxItem × List TxItem
  | 0, xs => (0, none, xs)
  | n + 1, xs => match firstBy (fun a b => decide (a.queue < b.queue)) (xs.filter may) with
    | none => (0, none, xs)
    | some i =>
      let rest := xs.erase i
      match i with
      | .exchange d =>
        if d.epoch + 1 < cur then
          let r := takeItem cur may n rest
          (r.1 + 1, r.2)
        else (0, some i, rest)
      | _ => (0, some i, rest)

/-- The largest packet number of an uplink's cipher suite and the one that asks for a new SAK (R290). Log entry 67 (DESIGN
CHOICE, unsafe). -/
def State.pnLimits (s : State) (p : Fin 4) : Nat × Nat :=
  if s.cfg.macsecXpn.any (·.val == p.val) then (2 ^ 64 - 1, 0xC000000000000000) else (2 ^ 32 - 1, 0xC0000000)

/-- A protected frame takes a packet number (R290). Log entry 67 (DESIGN CHOICE, unsafe). -/
def State.countPn (s : State) (p : Fin 4) (i : TxItem) : State :=
  if !s.isMacsec p || i == .mka then s
  else
    let m := s.net.macsec.atD p {}
    let (top, ask) := s.pnLimits p
    let asks := m.pn > ask && !m.rekey
    let last := decide (m.pn ≥ top)
    let s := { s with net := { s.net with macsec := s.net.macsec.put p { m with pn := m.pn + 1, rekey := m.rekey || asks, exhausted := last } } }
    let s := if asks then s.enqueue p .mka else s
    if last then s.onCore (·.setFlag Reg.FP_STAT_TX_STOPPED true p) else s

/-- The frame of an exchange datagram (R250, R288). Log entry 61 (DESIGN CHOICE, unsafe). -/
def State.xchFrame (s : State) (p : Fin 4) (d : Datagram) : List Byte :=
  let dst := s.groupOf d.senderPos
  let body := Datagram_payload d
  let port := s.core.fget Reg.XCH_PORT_EXCHANGE
  let ip := ipHeader (4 * s.cfg.dscp) 17 s.cfg.hopLimit s.cfg.posAddress dst (8 + body.length)
  groupFrame (s.mac p) dst ip (withSum ip 17 6 (be port 2 ++ be port 2 ++ be (8 + body.length) 2 ++ be 0 2 ++ body))

/-- The frame an item leaves as, before padding and protection (R250, R287, R330). Log entry 66 (DESIGN CHOICE, unsafe). -/
def State.plainFrame (s : State) (p : Fin 4) : TxItem → List Byte
  | .ptp => (Config.ownFrame 0 p s.net.sent.length).take 1518
  | .exchange d => s.xchFrame p d
  | .service _ _ x done => segmentFrame x done
  | .advert => advertFrame (s.mac p) s.cfg.posAddress
  | .mld gs => mldFrame (s.mac p) s.ownAddress gs
  | .mka => (Config.ownFrame 1 p s.net.sent.length).take 1518
  | .bulk _ x done => segmentFrame x done

/-- The frame an item leaves as (R278, R289): padded to the least length, and protected where the uplink runs MACsec. -/
def State.frameOf (s : State) (p : Fin 4) (i : TxItem) : List Byte :=
  let xs := padFrame (s.plainFrame p i)
  if s.isMacsec p && i != .mka then
    macsecFrame p (s.core.fget Reg.MS_STAT_TX_AN p) (s.net.macsec.atD p {}).pn (s.mac p * 65536 + 1) xs
  else xs

/-- A frame leaves (R291): stamped, its stamp returned to PTP, and counted in the segment's cycle. -/
def State.sendPortFrame (s : State) (p : Fin 4) (i : TxItem) : State :=
  let f : TxFrame := { port := p, item := i, data := s.frameOf p i, stamp := s.txStamp p }
  let net := { s.net with sent := f :: s.net.sent }
  let net := if p < 2 then net else { net with inCycle := net.inCycle.alter (p - 2) 0 (· + 1) }
  let nt := if i = .ptp then { s.nt with sentAt := s.nt.sentAt.put p f.stamp } else s.nt
  ({ s with net := net, nt := nt }.onCore (·.bump Reg.FP_TX_OK_COUNT p)).countPn p i

/-- Put an item back at the head of its queue. -/
def State.putBack (s : State) (p : Fin 4) (i : TxItem) : State :=
  { s with net := { s.net with txq := s.net.txq.alter p [] (i :: ·) } }

/-- The send buffer of a session gets the bytes of an UPDATE back (R273). -/
def State.freeBuffer (s : State) (n upd : Nat) : State :=
  match s.svc.sessions.at? n with
  | none => s
  | some x => { s with svc := { s.svc with sessions := s.svc.sessions.put n { x with buffered := x.buffered - upd } } }

/-- The first copy of an exchange datagram is counted, and in DG_LAST where it is of the last epoch published (R276). -/
def State.countDatagram (s : State) (d : Datagram) : State :=
  if s.net.sent.any (·.item == .exchange d) then s
  else s.onCore fun k =>
    let k := k.bump Reg.XCH_TX_DG_COUNT
    if s.img.pubEpoch = some d.epoch then k.bump Reg.XCH_PUB_DG_LAST else k

/-- Send an item, or the next segment of it (R284, R287). Log entries 61 (DESIGN CHOICE, unsafe); 66 (DESIGN CHOICE, unsafe).
-/
def State.sendItem (s : State) (p : Fin 4) (i : TxItem) : State :=
  match i with
  | .service n upd x done =>
    let s := s.onCore (·.bump Reg.FP_SEG_COUNT p)
    if sendLast x done then (s.sendPortFrame p i).freeBuffer n upd
    else (s.putBack p (.service n upd x (done + sendSize x))).sendPortFrame p i
  | .bulk n x done =>
    let s := s.onCore (·.bump Reg.FP_SEG_COUNT p)
    if sendLast x done then s.sendPortFrame p i
    else (s.putBack p (.bulk n x (done + sendSize x))).sendPortFrame p i
  | .exchange d => (s.countDatagram d).sendPortFrame p i
  | .ptp => s.sendPortFrame p i
  | .advert => s.sendPortFrame p i
  | .mld _ => s.sendPortFrame p i
  | .mka => s.sendPortFrame p i

/-- FRAME_TRANSMIT (R281, R284): a collision on a segment is counted, and the frame stays queued. Log entry 68 (DESIGN CHOICE,
unsafe). -/
def State.transmit (s : State) (p : Fin 4) (collided : Bool) : State :=
  if !s.canSend p then s
  else
    let xs := s.net.txq.atD p []
    let (dropped, i, rest) := takeItem s.epoch (s.maySend p) xs.length xs
    let s0 := s.onCore (·.bump Reg.FP_TX_STALE_COUNT p dropped)
    match i with
    | none => { s0 with net := { s0.net with txq := s0.net.txq.put p rest } }
    | some i =>
      if collided && p ≥ 2 then
        { s0 with net := { s0.net with txq := s0.net.txq.put p (i :: rest) } }.onCore (·.bump Reg.PLCA_COLL_COUNT (p - 2))
      else ({ s0 with net := { s0.net with txq := s0.net.txq.put p rest } }).sendItem p i

/-! ### MKA, links and PLCA (R279, R281, R290, R295) -/

/-- The receive channels after an installation: each live peer's, with the new association from packet number 1 (R289, R290).
Log entry 67 (DESIGN CHOICE, unsafe). -/
def installRx (old : List (BitVec 64 × SMap Nat)) (an : Nat) (peers : List (BitVec 64)) : List (BitVec 64 × SMap Nat) :=
  (peers.take 4).map fun sci => (sci, SMap.put (((old.find? fun c => c.1 == sci).map (·.2)).getD []) an 1)

/-- A new SA is installed (R289, R290): the next association, its packet number from the start, on the transmit channel and on
the receive channels of up to four live peers, whose SCIs MKA gives. Log entry 67 (DESIGN CHOICE, unsafe). -/
def State.installSa (s : State) (p : Fin 4) (peers : List (BitVec 64)) : State :=
  if !s.isMacsec p || !s.hasCak then s
  else
    let an := if (s.net.macsec.at? p).isNone then 0 else (s.core.fget Reg.MS_STAT_TX_AN p + 1) % 4
    let m : MacsecPort := { rx := installRx (s.net.macsec.atD p {}).rx an peers }
    { s with net := { s.net with macsec := s.net.macsec.put p m } }.onCore fun k =>
      ((((k.setFlag Reg.MS_STAT_SECURED true p).fput Reg.MS_STAT_TX_AN an p).bump Reg.MS_STAT_REKEYS p).setFlag
        Reg.FP_STAT_TX_STOPPED s.net.fenced p).opDone

/-- A cycle of PLCA has begun: its predecessor's length is booked (R281). -/
def State.bookBeacon (s : State) (g : Fin 2) : State :=
  let c := s.core.c
  let xs := s.net.cycles.atD g []
  let xs := match s.net.beaconC.at? g with
    | some b => (s.epoch, (c - b) / 250) :: xs
    | none => xs
  { s with net := { s.net with beaconC := s.net.beaconC.put g c, cycles := s.net.cycles.put g xs, inCycle := s.net.inCycle.put g 0 } }.onCore fun k =>
    (k.setFlag Reg.PLCA_STAT_ACTIVE true g).fput Reg.PLCA_CYCLE_MAX_US (xs.foldl (fun m (x : Nat × Nat) => max m x.2) 0) g

/-- The segment's PLCA runs in a role: enabled, with its link up and its clocks running (R462). -/
def State.plcaRole (s : State) (g : Fin 2) (coord : Bool) : Bool :=
  !s.plat.frozen && s.core.pllOk 1 && s.core.flag Reg.PLCA_CTRL_EN g && s.core.flag Reg.PLCA_CTRL_COORD g == coord && s.core.flag Reg.FP_STAT_LINK (2 + g)

/-- A coordinator sends a BEACON, where it may send at all (R281, R295). -/
def State.sendBeacon (s : State) (g : Fin 2) : State :=
  if s.plcaRole g true && !s.core.flag Reg.FP_STAT_TX_STOPPED (2 + g) && !s.net.quiet && !s.plat.hold then s.bookBeacon g else s

/-- No BEACON within invalid_beacon_timer (R281). -/
def State.loseBeacon (s : State) (g : Fin 2) : State :=
  if !s.plcaRole g false || s.core.flag Reg.PLCA_STAT_CSMA_FALLBACK g then s
  else
    ({ s with net := { s.net with beaconC := s.net.beaconC.del g } }.onCore fun k =>
      ((k.setFlag Reg.PLCA_STAT_ACTIVE false g).setFlag Reg.PLCA_STAT_CSMA_FALLBACK true g).bump
        Reg.PLCA_BEACON_LOSS_COUNT g).record 0x0803 0 (le g 1)

/-- A valid BEACON (R281). Log entry 68 (DESIGN CHOICE, unsafe). -/
def State.takeBeacon (s : State) (g : Fin 2) : State :=
  if s.plcaRole g false then (s.bookBeacon g).onCore (·.setFlag Reg.PLCA_STAT_CSMA_FALLBACK false g) else s

/-- A link comes up (R279, R295): not while a reset is asserted, and an uplink not in warning hold (R464). Log entry 68
(DESIGN CHOICE, unsafe). -/
def State.raiseLink (s : State) (p : Fin 4) (master : Bool) : State :=
  if s.plat.por || s.plat.rstLow || (s.plat.hold && p < 2) || s.core.flag Reg.FP_STAT_LINK p then s
  else
    let s := s.onCore fun k => (k.setFlag Reg.FP_STAT_LINK true p).setFlag Reg.FP_STAT_MS_MASTER (master && p < 2) p
    if p < 2 then (s.ptpJoin p).joinGroups p else s

/-! ### Meanings -/

/-- FRAME_RECEIVE (R282). -/
def execFrameReceive (p : Fin 4) (f : RxFrame) (s : State) : Answer := .next <| s.upPort <| s.receiveFrame p f

/-- FRAME_BINDING_STALE (R294). -/
def execFrameBindingStale (binding : Nat) (s : State) : Answer :=
  .next <| s.upPort <| match s.cfg.frameBindings.find? (·.id == binding) with
    | some b => s.bindingStale b
    | none => s

/-- PAUSE_FRAME (R285). -/
def execPauseFrame (p : Fin 2) (quanta : BitVec 16) (s : State) : Answer :=
  .next <| s.upPort <| s.pause (p.castLE (by decide)) quanta.toNat

/-- PAUSE_EXPIRY (R285). -/
def execPauseExpiry (p : Fin 2) (s : State) : Answer :=
  .next <| s.upPort <| match s.net.pauses.at? p with
    | some (_, n) => s.endPause (p.castLE (by decide)) n
    | none => s

/-- FRAME_TRANSMIT (R284). -/
def execFrameTransmit (p : Fin 4) (collided : Bool) (s : State) : Answer := .next <| s.upPort <| s.transmit p collided

/-- MKA_SA_INSTALL (R290). -/
def execMkaSaInstall (sa : SaInstall) (s : State) : Answer :=
  .next <| s.upPort <| s.installSa (sa.port.castLE (by decide)) sa.peers

/-- MKA_PEER_LOSS (R290). -/
def execMkaPeerLoss (p : Fin 2) (s : State) : Answer :=
  .next <| s.upPort <| s.onCore (·.setFlag Reg.MS_STAT_SECURED false p)

/-- LINK_DOWN (R279). -/
def execLinkDown (p : Fin 4) (s : State) : Answer := .next <| s.upPort <| s.linkFall p

/-- LINK_UP (R295). -/
def execLinkUp (p : Fin 4) (master : Bool) (s : State) : Answer := .next <| s.upPort <| s.raiseLink p master

/-- PLCA_BEACON_SEND (R281). -/
def execPlcaBeaconSend (g : Fin 2) (s : State) : Answer := .next <| s.upPort <| s.sendBeacon g

/-- BEACON_LOSS (R281). -/
def execBeaconLoss (g : Fin 2) (s : State) : Answer := .next <| s.upPort <| s.loseBeacon g

/-- BEACON_RECEIVE (R281). -/
def execBeaconReceive (g : Fin 2) (s : State) : Answer := .next <| s.upPort <| s.takeBeacon g

end Sys2Proof.Machine
end

