-- ==== Sys2Proof/Machine/PointService.lean ====
section
/-! DEFINITION. The point service: sessions opened and closed, and its messages other than COMMAND and IMAGE
(R155, R156, R191, R262 to R274, R407, R479). -/

namespace Sys2Proof.Machine

/-! ### Sessions (R262 to R264) -/

/-- Network time as s since 1970-01-01 UTC (R340). -/
def State.utcNow (s : State) : Int := s.ntNs / 1000000000 - s.utcOffset

/-- A certificate is within its validity period and not revoked (R262). -/
def State.certOk (s : State) (c : Cert) : Bool :=
  c.notBefore ≤ s.utcNow && s.utcNow ≤ c.notAfter && !(s.cfg.revokedSerials.contains c.serial)

/-- The domain a handshake gives its session, if it passes (R262, R263, R396). -/
def State.handshakeDomain (s : State) (h : Handshake) : Option Nat :=
  match h.uris with
  | [some d] =>
    let chain := if s.unclaimed then h.selfChained && d == 0 else h.chainOk
    if h.suiteOk && !h.chain.isEmpty && chain && h.chain.length ≤ 4 && h.chain.all s.certOk && d ≤ 1023 then some d
    else none
  | _ => none

/-- A handshake (R262, R263): refused and counted, or an open session. The boot ROM in recovery serves none (R381). Log entry
63 (DESIGN CHOICE, unsafe). -/
def State.handshake (s : State) (n : Fin 32) (h : Handshake) : State :=
  if s.core.fget Reg.SEC_BOOT_STAGE == 3 || s.net.quiet || s.plat.frozen then s
  else match s.handshakeDomain h, s.svc.sessions.at? n with
    | none, _ => s.onCore (·.bump Reg.PS_HANDSHAKE_FAIL_COUNT)
    | some _, some _ => if s.svc.sessions.length ≥ 32 then s.onCore (·.bump Reg.PS_HANDSHAKE_FAIL_COUNT) else s
    | some d, none => ((s.putSession n { domain := d, port := h.port, identity := !s.usable 9 }).showSessions).onCore (·.opDone)

/-! ### Reads of the image (R266, R270) -/

/-- Ranges a request may name (R266, R270). -/
def rangesOk (ranges : List (Nat × Nat)) : Bool :=
  1 ≤ ranges.length && ranges.length ≤ 16 && ranges.all (fun r => decide (r.1 + r.2 ≤ 0x5000)) &&
    (ranges.map (·.2)).sum ≤ 20480

/-- Only system cells (R396). -/
def systemOnly (ranges : List (Nat × Nat)) : Bool := ranges.all fun r => decide (0xF00 ≤ r.1 ∧ r.1 + r.2 ≤ 0x1000)

/-- The body of an INFO response (R266). -/
def State.infoBody (s : State) (d : Nat) : List Byte :=
  let k := s.core
  le (k.fget Reg.GLB_ESTATE_ESTATE_ID) 4 ++ le (k.fget Reg.GLB_UNIT_POSITION) 2 ++
    le (([Reg.GLB_UNIT_VALID, Reg.GLB_UNIT_ROLE, Reg.GLB_UNIT_PREFERRED, Reg.GLB_UNIT_PAIRED, Reg.GLB_UNIT_POSITION].map
      fun r => k.fget r * 2 ^ r.lsb).sum) 4 ++
    le (k.fget Reg.TICK_CFG_PERIOD) 1 ++ le d 2 ++ le s.epoch 8 ++ le (s.img.pubEpoch.getD 0) 8

/-- A SNAPSHOT under its domain (R270). Log entry 63 (DESIGN CHOICE, unsafe). -/
def State.snapshotNow (s : State) (r : Req) (d epoch : Nat) (pin : Bool) (ranges : List (Nat × Nat)) : State :=
  if !rangesOk ranges then s.answer r .badRequest []
  else
    let pinned := s.img.pins.any (·.epoch == epoch)
    match s.img.pubEpoch with
    | some p =>
      if epoch = 0 ∨ epoch = p then s.serveSnapshot r d p pin ranges
      else if pinned then s.serveSnapshot r d epoch pin ranges
      else if epoch < p then s.answer r .epochGone []
      else if s.t0 epoch + s.periodNs - s.ntNs ≤ 2000000000 then
        { s with svc := { s.svc with held := s.svc.held ++ [⟨r, epoch, pin, ranges⟩] } }
      else s.answer r .epochFuture []
    | none =>
      if pinned then s.serveSnapshot r d epoch pin ranges
      else if epoch = 0 then s.answer r .epochGone []
      else if s.t0 epoch + s.periodNs - s.ntNs ≤ 2000000000 then
        { s with svc := { s.svc with held := s.svc.held ++ [⟨r, epoch, pin, ranges⟩] } }
      else s.answer r .epochFuture []

/-! ### Subscriptions (R273, R423) -/

/-- Subscriptions of a requester. -/
def State.subsOf (s : State) : ReqSrc → List Subscription
  | .session n => ((s.svc.sessions.at? n).map (·.subs)).getD []
  | .queue q => (s.queue q).subs

/-- Change the subscriptions of a requester. -/
def State.withSubs (s : State) (src : ReqSrc) (f : List Subscription → List Subscription) : State :=
  match src with
  | .session n => match s.svc.sessions.at? n with
    | none => s
    | some x => (s.putSession n { x with subs := f x.subs }).showSessions
  | .queue q => let x := s.queue q
    s.putQueue q { x with subs := f x.subs }

/-- Cells a list of subscriptions covers. -/
def subCells (xs : List Subscription) : Nat := (xs.map fun x => (x.ranges.map (·.2)).sum).sum

/-- The lowest free subscription number. -/
def freeNumber (xs : List Subscription) : Nat := ((List.range 9).find? fun i => !xs.any (·.number == i)).getD 0

/-- SUBSCRIBE (R273): up to 8 subscriptions over up to 4,096 cells. Log entry 63 (DESIGN CHOICE, unsafe). -/
def State.subscribeNow (s : State) (r : Req) (k : Nat) (ranges : List (Nat × Nat)) : State :=
  if !(1 ≤ k && k ≤ 1000 && rangesOk ranges) then s.answer r .badRequest []
  else
    let xs := s.subsOf r.src
    if xs.length ≥ 8 ∨ subCells xs + (ranges.map (·.2)).sum > 4096 then s.answer r .busy []
    else
      let n := freeNumber xs
      (s.withSubs r.src (· ++ [{ number := n, k := k, ranges := ranges }])).answer r .ok (le n 1)

/-- UNSUBSCRIBE (R273); the updates of it that a queue still holds go. -/
def State.unsubscribeNow (s : State) (r : Req) (n : Nat) : State :=
  if !((s.subsOf r.src).any (·.number == n)) then s.answer r .badRequest []
  else
    let s := s.withSubs r.src fun xs => xs.filter fun x => x.number != n
    let s := match r.src with
      | .session _ => s
      | .queue q =>
        let x := s.queue q
        let keep : List (Nat × List Byte) := x.updates.filter fun u => u.1 != n
        s.putQueue q { x with updates := keep, buffered := (keep.map fun (u : Nat × List Byte) => u.2.length + 16).sum }
    s.answer r .ok []

/-! ### WRITE (R30, R33, R272) -/

/-- A WRITE under its domain. -/
def State.writeNow (s : State) (r : Req) (d cell : Nat) (v : Word) : State :=
  if !s.mayWrite d cell then (s.deny d).answerKept r .noAccess []
  else if s.isForced cell then (s.onCore (·.bump Reg.MSK_REFUSED_COUNT)).answerKept r .forced []
  else
    let v := if s.cellKind cell = some .bool then v &&& 1 else v
    { s with img := { s.img with writes := s.img.writes ++ [(⟨cell, v, s.epoch⟩ : HostWrite)] } }.answerKept r .ok (le (s.epoch + 1) 8)

/-! ### METER, TRACE, TREND -/

/-- The latest commit image. -/
def State.latestCommit (s : State) : Option CommitImage :=
  match s.met.slotA, s.met.slotB with
  | some a, some b => some (if a.seq > b.seq then a else b)
  | some a, none => some a
  | none, b => b

/-- METER (R191, R267): a refused or absent item is NO_ACCESS, a seal record still to be made NOT_READY. Log entry 63 (DESIGN
CHOICE, unsafe). -/
def State.meterNow (s : State) (r : Req) (d : Nat) (sealed : Bool) (number domain : Nat) : State :=
  if !sealed then
    match s.latestCommit with
    | some c => s.answer r .ok (filteredCommit d c)
    | none => (s.deny d).answer r .noAccess []
  else match s.met.snaps.find? (·.number == number) with
    | none => (s.deny d).answer r .noAccess []
    | some n =>
      if !(seesPoint d domain && n.domains.contains domain) then (s.deny d).answer r .noAccess []
      else match n.seals.find? (·.1 == domain) with
        | some x => s.answer r .ok x.2
        | none => s.answer r .notReady []

/-- Slots a trace set-up shows: TBASE and those of the enabled channels (R156). -/
def tracedSlots (t : TraceSetup) : List Nat := t.tbase.val :: (t.ch.filter (·.1)).map (·.2.1.val)

/-- A requester may read an engine's trace (R156). -/
def State.mayTrace (s : State) (d engine : Nat) : Bool :=
  d == 0 || (d ≥ 2 && match (s.flt.traces.at? engine).bind (·.setup) with
    | none => false
    | some t => (tracedSlots t).all fun i => match s.loopAt engine i with
      | none => true
      | some l => l.desc.uCell.all fun a => (s.kindDomain a).2.toNat == d)

/-- The trace result (R155). -/
def State.traceBody (s : State) (engine : Nat) : List Byte :=
  let tr := s.flt.traces.atD engine {}
  let t : TraceSetup := tr.setup.getD ⟨0, [], 0, 0, 0, 0⟩
  let ch := t.ch.flatMap fun c =>
    le ((if c.1 then 2 ^ 31 else 0) + c.2.1.val * 65536 + c.2.2.1.val * 256 + c.2.2.2.val) 4
  le engine 1 ++ le t.tbase 1 ++ le t.pre 2 ++ ch ++
    le (s.core.pair Reg.TRC_TRIG_LO_EPOCH_LO Reg.TRC_TRIG_HI_EPOCH_HI engine) 8 ++ le t.trigMode 1 ++ le t.trigCh 1 ++ le 0 2 ++
    le t.level.toNat 4 ++ le 0 12 ++ tr.rows.reverse.flatMap fun row => row.1.flatMap (fun w => le w.toNat 4) ++ le row.2 4

/-- TRACE (R155, R156). -/
def State.traceNow (s : State) (r : Req) (d engine : Nat) : State :=
  if engine > 3 then s.answer r .badRequest []
  else if !s.mayTrace d engine then (s.deny d).answer r .noAccess []
  else if s.core.fget Reg.TRC_STAT_STATE engine ≠ 4 then s.answer r .notReady []
  else s.answer r .ok (s.traceBody engine)

/-- RECORDER (R407): corrupt slots that it meets are counted. -/
def State.recorderNow (s : State) (r : Req) (d first count : Nat) : State :=
  if !(1 ≤ count && count ≤ 1024) then s.answer r .badRequest []
  else
    let x := s.core.evr.read d first count
    (s.onCore (·.bump Reg.EVR_CORRUPT_COUNT 0 x.2)).answer r .ok x.1

/-- A trend entry as a requester sees it (R33, R478, R479). -/
def trendEntry (d : Nat) (e : TrendEntry) : List Byte :=
  let sees := d == 0 || e.content.domain.toNat == 1 ||
    (e.content.domain.toNat == d && !(0xF00 ≤ e.cell && e.cell ≤ 0xFFF))
  if sees then le e.cell 2 ++ le 0 2 ++ e.content.image else List.replicate 20 0xFF

/-- A trend page (R478). Log entry 64 (DESIGN CHOICE, unsafe). -/
def trendPage (d seq : Nat) (es : List TrendEntry) : List Byte :=
  let b := fixLen 4092 (le 0x44545243 4 ++ le seq 8 ++ le ((es.head?.map (·.epoch)).getD 0) 8 ++ le es.length 2 ++ le 0 10 ++
    es.flatMap (trendEntry d))
  b ++ le (crc32c b).toNat 4

/-- NEXT page sequence. -/
def State.trendNext (s : State) : Nat := s.core.pair Reg.TREND_NEXT_LO_SEQ_LO Reg.TREND_NEXT_HI_SEQ_HI

/-- TREND (R25, R479): pages not held, and pages whose CRC fails, are skipped. Log entry 64 (DESIGN CHOICE, unsafe). -/
def State.trendNow (s : State) (r : Req) (d first count : Nat) : State :=
  if !(1 ≤ count && count ≤ 16) then s.answer r .badRequest []
  else
    let ps := s.bg.pages.filter fun p => decide (first ≤ p.1 ∧ p.1 < first + count)
    let oldest := ((s.bg.pages.head?).map (·.1)).getD s.trendNext
    s.answer r .ok (le s.trendNext 8 ++ le oldest 8 ++ le ps.length 2 ++ le 0 6 ++
      ps.flatMap fun p => trendPage d p.1 p.2)

/-! ### Serving the messages -/

/-- INFO (R266, R396). -/
def State.askInfo (s : State) (r : Req) : State :=
  s.serve r { maint := true, unclaimed := true, type := 0x01 } fun d s => s.answer r .ok (s.infoBody d)

/-- SNAPSHOT (R270, R396). -/
def State.askSnapshot (s : State) (r : Req) (epoch : Nat) (pin : Bool) (ranges : List (Nat × Nat)) : State :=
  s.serve r { maint := systemOnly ranges, type := 0x10 } fun d s => s.snapshotNow r d epoch pin ranges

/-- UNPIN (R31, R270). -/
def State.askUnpin (s : State) (r : Req) (epoch : Nat) : State :=
  s.serve r { type := 0x11 } fun _ s => (s.unpinIf fun e h => e == epoch && h.who == r.src && !h.snap).answer r .ok []

/-- WRITE (R272). -/
def State.askWrite (s : State) (r : Req) (cell : Nat) (v : Word) : State :=
  s.serve r { writes := true, kept := true, type := 0x20 } fun d s => s.writeNow r d cell v

/-- SUBSCRIBE (R273). -/
def State.askSubscribe (s : State) (r : Req) (k : Nat) (ranges : List (Nat × Nat)) : State :=
  s.serve r { type := 0x30 } fun _ s => s.subscribeNow r k ranges

/-- UNSUBSCRIBE (R273). -/
def State.askUnsubscribe (s : State) (r : Req) (n : Nat) : State := s.serve r { type := 0x31 } fun _ s => s.unsubscribeNow r n

/-- METER (R191, R396). -/
def State.askMeter (s : State) (r : Req) (sealed : Bool) (number domain : Nat) : State :=
  s.serve r { maint := true, type := 0x40 } fun d s => s.meterNow r d sealed number domain

/-- TRACE (R155). -/
def State.askTrace (s : State) (r : Req) (engine : Nat) : State := s.serve r { type := 0x50 } fun d s => s.traceNow r d engine

/-- RECORDER (R396, R407). -/
def State.askRecorder (s : State) (r : Req) (first count : Nat) : State :=
  s.serve r { maint := true, type := 0x60 } fun d s => s.recorderNow r d first count

/-- TREND (R479). -/
def State.askTrend (s : State) (r : Req) (first count : Nat) : State :=
  s.serve r { type := trendType } fun d s => s.trendNow r d first count

/-- PING (R266, R396). -/
def State.askPing (s : State) (r : Req) (bytes : List Byte) : State :=
  s.serve r { maint := true, type := 0xF0 } fun _ s => if bytes.length ≤ 64 then s.answer r .ok bytes else s.answer r .badRequest []

/-! ### Meanings -/

/-- What a message of the point service may change. -/
def State.upSvc (s t : State) : State := { s with core := s.core.after t.core, img := t.img, svc := t.svc, hq := t.hq, net := t.net }

/-- TLS_HANDSHAKE (R262, R263). -/
def execTlsHandshake (n : Fin 32) (h : Handshake) (s : State) : Answer := .next <| s.upSvc <| s.handshake n h

/-- What the end of a session may change: an open recoat transfer of it ends too (R274). -/
def State.upEnd (s t : State) : State := { s with core := s.core.after t.core, img := t.img, svc := t.svc, net := t.net }

/-- SESSION_IDLE_TIMEOUT (R264). -/
def execSessionIdleTimeout (n : Fin 32) (s : State) : Answer := .next <| s.upEnd <| s.closeSession n

/-- SESSION_CLOSE (R274): the client ends its session, or a message's LENGTH is out of range (R265). -/
def execSessionClose (n : Fin 32) (s : State) : Answer := .next <| s.upEnd <| s.closeSession n

/-- INFO (R266). -/
def execInfo (r : Req) (s : State) : Answer := .next <| s.upSvc <| s.askInfo r

/-- SNAPSHOT (R270). -/
def execSnapshot (r : Req) (epoch : Nat) (pin : Bool) (ranges : List (Nat × Nat)) (s : State) : Answer :=
  .next <| s.upSvc <| s.askSnapshot r epoch pin ranges

/-- UNPIN (R270). -/
def execUnpin (r : Req) (epoch : Nat) (s : State) : Answer := .next <| s.upSvc <| s.askUnpin r epoch

/-- WRITE (R272). -/
def execWrite (r : Req) (cell : Nat) (v : Word) (s : State) : Answer := .next <| s.upSvc <| s.askWrite r cell v

/-- SUBSCRIBE (R273). -/
def execSubscribe (r : Req) (k : Nat) (ranges : List (Nat × Nat)) (s : State) : Answer :=
  .next <| s.upSvc <| s.askSubscribe r k ranges

/-- UNSUBSCRIBE (R273). -/
def execUnsubscribe (r : Req) (n : Nat) (s : State) : Answer := .next <| s.upSvc <| s.askUnsubscribe r n

/-- METER (R191). -/
def execMeter (r : Req) (sealed : Bool) (number domain : Nat) (s : State) : Answer :=
  .next <| s.upSvc <| s.askMeter r sealed number domain

/-- TRACE (R155). -/
def execTrace (r : Req) (engine : Nat) (s : State) : Answer := .next <| s.upSvc <| s.askTrace r engine

/-- RECORDER (R407). -/
def execRecorder (r : Req) (first count : Nat) (s : State) : Answer := .next <| s.upSvc <| s.askRecorder r first count

/-- TREND (R479). -/
def execTrend (r : Req) (first count : Nat) (s : State) : Answer := .next <| s.upSvc <| s.askTrend r first count

/-- PING (R266). -/
def execPing (r : Req) (bytes : List Byte) (s : State) : Answer := .next <| s.upSvc <| s.askPing r bytes

end Sys2Proof.Machine
end

