-- ==== Sys2Proof/Machine/Requests.lean ====
section
/-! DEFINITION. Every COMMAND as its check and effect, the point-service message a host queue carries, and the switchover
(R232, R237, R266, R269, R391, R423). -/

namespace Sys2Proof.Machine

/-- Switchover (0x0D, R237): the standby in step declares a duty failure when it gets the command. Log entry 28 (DESIGN
CHOICE, unsafe). -/
def doSwitchover (current : Nat) (sigValid : Bool) : Doing :=
  { check := fun s =>
      if !sigValid then some (.signature, .none)
      else if !s.epochOk 0xD current then some (.staleEpoch, .none)
      else if !s.inStep then some (.refused, .none)
      else none
    apply := fun s => ((s.epochTaken 0xD current).onCore (·.opDone)).declare 5 }

end Sys2Proof.Machine

namespace Sys2Proof
open Machine

/-- What a COMMAND checks and does (R269, R391). -/
def Command.doing : Command → Doing
  | .forceSet cell persist v => doForceSet cell persist v
  | .forceRemove cell => doForceRemove cell
  | .touchUp items => doTouchUp items
  | .recoatArm swap => doRecoatArm swap
  | .recoatCancel => doRecoatCancel
  | .revertArm swap => doRevertArm swap
  | .slotUpdate descs => doSlotUpdate descs
  | .stop => doStop
  | .restart trip current sigValid => doRestart trip current sigValid
  | .loopReset engine slot fault => doLoopReset engine slot fault
  | .traceSetUp engine t => doTraceSetUp engine t
  | .meterSnapshot resetMax mask => doMeterSnapshot resetMax mask
  | .switchover current sigValid => doSwitchover current sigValid
  | .recorderClear sg upto => doRecorderClear sg upto
  | .maintenance true => doMaintenanceEnter
  | .maintenance false => doMaintenanceLeave
  | .claim serial owner => doClaim serial owner
  | .ownerTransfer sg owner => doOwnerTransfer sg owner
  | .keyImport sg slot alg parent use tag key unwraps => doKeyImport sg slot alg parent use tag key unwraps
  | .keyDestroy sg slot => doKeyDestroy sg slot
  | .coatRenew sg brown => doCoatRenew sg brown
  | .exchangeKeyRoll sg keyGen swap => doExchangeKeyRoll sg keyGen swap
  | .tamperClear sg timeSec gen => doTamperClear sg timeSec gen
  | .recommission sg => doRecommission sg
  | .firmwareCommit sg slot => doFirmwareCommit sg slot
  | .configurationCommit sg seq => doConfigurationCommit sg seq

/-- A COMMAND passes over the partner link (R229, R232): codes 0x01 to 0x0D but stop, which the trip pulse carries (R244). Log
entry 28 (DESIGN CHOICE, unsafe). -/
def Command.passes (c : Command) : Bool := c.code ≤ 0x0D && c.code != 8

/-- When a COMMAND is served (R391, R396). Log entry 30 (DEDUCED, unsafe). -/
def Command.gate (c : Command) : Gate :=
  if c.code ≤ 0x0D then {}
  else if c.code = 0x0F then maintGate
  else { unitGate with unclaimed := c.code == 0x10 }

end Sys2Proof

namespace Sys2Proof.Machine

/-- Serve a COMMAND message (R269). Log entries 28 (DESIGN CHOICE, unsafe); 54 (DESIGN CHOICE, unsafe). -/
def State.runCommand (s : State) (r : Req) (c : Command) : State :=
  s.command r c.gate (if c.passes then some c else none) c.doing

/-- Serve a point-service message (R266, R423). -/
def State.runMessage (s : State) (r : Req) : Message → State
  | .info => s.askInfo r
  | .snapshot epoch pin ranges => s.askSnapshot r epoch pin ranges
  | .unpin epoch => s.askUnpin r epoch
  | .write cell v => s.askWrite r cell v
  | .subscribe k ranges => s.askSubscribe r k ranges
  | .unsubscribe n => s.askUnsubscribe r n
  | .meter sealed number domain => s.askMeter r sealed number domain
  | .trace engine => s.askTrace r engine
  | .recorder first count => s.askRecorder r first count
  | .attest nonce => s.askAttest r nonce
  | .challenge bytes => s.askChallenge r bytes
  | .trend first count => s.askTrend r first count
  | .ping bytes => s.askPing r bytes
  | .command c => s.runCommand r c
  | .imageBegin kind total => s.image r fun s => s.beginImage r kind total
  | .imageChunk offset length => s.image r fun s => s.chunkImage r offset length
  | .imageEnd => s.image r fun s => s.endImage r
  | .imageAbort => s.image r fun s => s.abortImage r

/-- A command that waits for its standby is decided on the duty (R232). Log entry 59 (DESIGN CHOICE, unsafe). -/
def State.settleCommand (s : State) (w : Sent) : State :=
  let t : State := { s with pair := { s.pair with accepted := w.id } }
  match w.c with
  | .chunk _ offset length => t.takeChunk w.r offset length
  | .command c =>
    let x := c.doing
    match x.check s with
    | some (st, c) => (x.refuse s).answerKept w.r st (commandBody 0 c)
    | none => (x.apply t).answerKept w.r .ok (commandBody (x.epoch s) .none)

/-- What a refused COMMAND answers its requester: the standby's result (R232). -/
def State.refusePassed (s : State) (w : Sent) (st : Status) (cause : Cause) : State :=
  s.answerKept w.r st (match w.c with
    | .chunk .. => []
    | .command _ => commandBody 0 cause)

/-- A duty whose standby is no longer in step applies the commands that waited alone (R224, R232). Log entry 28 (DESIGN
CHOICE, unsafe). -/
def State.flushCommands (s : State) : State :=
  if s.inStep || s.pair.cmds.isEmpty then s
  else
    let ws := s.pair.cmds
    ws.foldl (fun (s : State) w => s.settleCommand w) { s with pair := { s.pair with cmds := [] } }

/-- What SWITCHOVER may change. -/
def State.upSwitch (s t : State) : State :=
  { s with core := s.core.after t.core, svc := t.svc, hq := t.hq, net := t.net, pair := t.pair, sec := t.sec }

/-- SWITCHOVER (R237). -/
def execSwitchover (r : Req) (current : Nat) (sigValid : Bool) (s : State) : Answer :=
  .next <| s.upSwitch <| s.command r {} (some (.switchover current sigValid)) (doSwitchover current sigValid)

end Sys2Proof.Machine
end

