-- ==== Sys2Proof/Machine/HostOps.lean ====
section
/-! DEFINITION. What the host queues share: address translation and its cache, halts, completion entries, the data mover, and
queues that stop (R416 to R438). -/

namespace Sys2Proof.Machine

/-! ### Translation (R431 to R433) -/

/-- What a translation gives: a host address, a fault cause, or the need of a table walk. -/
structure Xlate where
  host : Nat := 0
  cause : Nat := 0
  walk : Bool := false
  deriving DecidableEq, Repr, Inhabited

/-- A reserved bit of a table entry is set (R431, R435). -/
def entryBad (e : BitVec 64) : Bool := e.toNat / 8 % 512 != 0 || e.toNat / 2 ^ 48 != 0

/-- A level-2 entry as the cache keeps it. -/
def cacheEntry (q page : Nat) (e : BitVec 64) : AtcEntry :=
  { q := q, page := page, host := e.toNat / 4096 % 2 ^ 36, r := e.getLsbD 1, w := e.getLsbD 2 }

/-- Put entries at the front of the cache: 256 in all, the least recently used go (R432). -/
def cachePut (c xs : List AtcEntry) : List AtcEntry :=
  (xs ++ c.filter fun e => !xs.any fun x => x.q == e.q && x.page == e.page).take 256

/-- An access through a cached entry: its permission (R435). -/
def reach (e : AtcEntry) (iova : Nat) (write : Bool) : Xlate :=
  if (if write then e.w else e.r) then { host := e.host * 4096 + iova % 4096 } else { cause := 2 }

/-- The walk on a miss (R432): every valid entry of the line is cached; an invalid one is not mapped. Log entry 92 (DEDUCED,
unsafe). -/
def State.walkTables (s : State) (q : Fin 64) (iova : Nat) (write : Bool) (w : Walk) : Xlate × State :=
  let page := iova / 4096
  let s := s.onCore (·.bump Reg.ATC_MISS_COUNT)
  match w.l1 with
  | none => ({ cause := 4 }, s)
  | some t =>
    if !t.getLsbD 0 then ({ cause := 1 }, s)
    else if entryBad t then ({ cause := 4 }, s)
    else match w.line with
      | none => ({ cause := 4 }, s)
      | some es =>
        let at_ (i : Nat) : AtcEntry := cacheEntry q (page / 8 * 8 + i) (es.getD i 0)
        let good := (List.range 8).filter fun i => (es.getD i 0).getLsbD 0 && !entryBad (es.getD i 0)
        let i := page % 8
        let e := es.getD i 0
        let order := if good.contains i then i :: good.filter (· != i) else good
        let s := { s with hq := { s.hq with atc := cachePut s.hq.atc (order.map at_) } }
        if !e.getLsbD 0 then ({ cause := 1 }, s)
        else if entryBad e then ({ cause := 4 }, s)
        else (reach (at_ i) iova write, s)

/-- Translate an access of `len` bytes (R431, R432). Without a walk to go by, a miss answers that it needs one. -/
def State.translate (s : State) (q : Fin 64) (iova len : Nat) (write : Bool) (w : Option Walk) : Xlate × State :=
  if s.core.fget Reg.ATC_ROOT_LO_ADDR q = 0 ∧ s.core.fget Reg.ATC_ROOT_HI_ADDR q = 0 ∨ iova + len > 2 ^ 30 then ({ cause := 3 }, s)
  else match s.hq.atc.find? fun e => e.q == q.val && e.page == iova / 4096 with
    | some e =>
      let s := { s with hq := { s.hq with atc := cachePut s.hq.atc [e] } }
      (reach e iova write, s.onCore (·.bump Reg.ATC_HIT_COUNT))
    | none => match w with
      | none => ({ walk := true }, s)
      | some w => s.walkTables q iova write w

/-! ### Queues (R420, R436) -/

/-- Change a queue's hidden state. -/
def State.onQueue (s : State) (q : Fin 64) (f : Queue → Queue) : State := s.putQueue q (f (s.queue q))

/-- A queue that works: enabled and not halted, and PLL0 runs (R462). -/
def State.queueRuns (s : State) (q : Fin 64) : Bool :=
  s.core.flag Reg.HQ_CFG_ENABLE q && !s.core.flag Reg.HQ_STAT_HALTED q && !s.plat.frozen

/-- Entries of a queue's submission and completion rings (R420). -/
def State.sqSize (s : State) (q : Fin 64) : Nat := 2 ^ s.core.fget Reg.HQ_CFG_SQ_LOG2 q
def State.cqSize (s : State) (q : Fin 64) : Nat := 2 ^ s.core.fget Reg.HQ_CFG_CQ_LOG2 q

/-- Show HQ_STAT.HALTED and its bit in HQE_HALTED (R441). -/
def showHalt (k : Core) (q : Fin 64) (b : Bool) : Core :=
  (k.setFlag Reg.HQ_STAT_HALTED b q).setBit (if q.val < 32 then Reg.HQE_HALTED_LO_QUEUES else Reg.HQE_HALTED_HI_QUEUES) (q % 32) b

/-- The response as it goes out (R423): status, bytes, and BYTES_DONE; one that exceeds RSP_LEN is not written. -/
def Progress_reply (g : Progress) : Option (Status × List Byte × Nat) :=
  g.answer.map fun a => if a.2.length > g.d.rspLen then (.badRequest, [], a.2.length) else (a.1, a.2, a.2.length)

/-- The request body has been read: inline, or moved whole (R421, R423). -/
def bodyRead (g : Progress) : Bool := g.d.isInline || decide (g.d.reqLen ≤ g.reqRead)

/-- The queue holds its descriptor's epoch pinned (R425). -/
def State.pinHeld (s : State) (q : Fin 64) (g : Progress) : Bool := g.epoch.any fun e => s.holds (.queue q) e

/-- A completion entry of the descriptor in progress (R425); its phase is set when it is written. Log entry 93 (DESIGN CHOICE,
safe). -/
def State.entryOf (s : State) (q : Fin 64) (g : Progress) (kind status done : Nat) (inReq : Bool) (cause page : Nat) : Completion :=
  { tag := g.d.tag.toNat, status := status, kind := kind, phase := false, pinned := s.pinHeld q g, inReq := inReq, cause := cause
    sqHead := s.core.fget Reg.HQ_STAT_SQ_HEAD q, bytesDone := done, faultPage := page }

/-- A SNAPSHOT's epoch is pinned at a halt, if it is not pinned for it already (R438). -/
def State.pinAtHalt (s : State) (q : Fin 64) : State :=
  match (s.queue q).cur with
  | none => s
  | some g => match g.epoch with
    | none => s
    | some e =>
      if s.img.pins.any fun p => p.epoch == e && p.holds.any fun h => h.who == .queue q && h.snap then s
      else (s.pin (.queue q) e true).2

/-- A fault halts the queue (R436): `xl` tells that a translation failed. Log entry 92 (DEDUCED, unsafe). -/
def State.haltQueue (s : State) (q : Fin 64) (step : HaltStep) (cause iova done : Nat) (xl : Bool) : State :=
  let ring := step == .fetch || step == .complete
  let c := if ring then 6 else cause
  let page := iova / 4096 % 2 ^ 18
  let d := s.core.fget Reg.HQ_CFG_DOMAIN q
  let s := s.onQueue q fun x => { x with halt := some step, haltPage := page }
  let s := s.onCore fun k =>
    let k := ((showHalt k q true).fput Reg.HQ_STAT_CAUSE c q).bump Reg.HQ_FAULTS_COUNT q
    if xl || ring then (k.fput Reg.ATC_FAULT_CAUSE c q).fput Reg.ATC_FAULT_PAGE page q else k
  let s := s.onCore fun k => (k.postEvent 2 q (c + 256 * page) done (fun x => x == 0 || x == d)).signal 82
  (s.record 0x0E01 d (le q 1 ++ le c 1 ++ le iova 8)).pinAtHalt q

/-- The queue goes on. -/
def State.endHalt (s : State) (q : Fin 64) : State :=
  (s.onQueue q fun x => { x with halt := none }).onCore (showHalt · q false)

/-! ### Completion entries (R425 to R427) -/

/-- The descriptor is over: its own pin and staging go, and the next may be fetched (R437, R438). Log entry 93 (DESIGN CHOICE,
safe). -/
def State.endDescriptor (s : State) (q : Fin 64) : State :=
  ((s.onQueue q fun x => { x with cur := none }).onCore (·.setFlag Reg.HQ_STAT_ACTIVE false q)).unpinIf fun _ h =>
    h.who == .queue q && h.snap

/-- A completion entry as its 16 bytes (R425). -/
def Completion_bytes (c : Completion) : List Byte :=
  le c.tag 2 ++ le c.status 2 ++ le c.kind 1 ++
    le ((if c.phase then 1 else 0) + (if c.pinned then 2 else 0) + (if c.inReq then 4 else 0)) 1 ++ le c.cause 1 ++ le 0 1 ++
    le c.sqHead 2 ++ le c.bytesDone 3 ++ le c.faultPage 3

/-- Write one completion entry at a host address (R426, R427). -/
def State.writeEntry (s : State) (q : Fin 64) (host : Nat) (c : Completion) : State :=
  let tail := s.core.fget Reg.HQ_CQ_TAIL q
  let ph := s.core.flag Reg.HQ_CQ_PHASE q
  let irq := c.kind == 1 || ((s.queue q).cur.any fun g => g.d.irq)
  let s := s.onCore fun k =>
    let c := { c with phase := ph }
    let k := ((k.emit (.hostWrite q host (Completion_bytes c))).emit (.completion q tail c)).fput Reg.HQ_CQ_TAIL ((tail + 1) % s.cqSize q) q
    let k := if tail + 1 = s.cqSize q then k.setFlag Reg.HQ_CQ_PHASE (!ph) q else k
    let k := if c.kind = 0 then k.bump Reg.HQ_DONE_COUNT q else k
    if irq then k.signal q else k
  let s := s.onQueue q fun x => { x with cqUsed := x.cqUsed + 1, entries := x.entries.drop 1 }
  if c.kind = 1 then s else s.endDescriptor q

/-- Write the entries that wait, as far as the ring has room and the translation goes (R426): a fault there halts the queue.
Log entry 92 (DEDUCED, unsafe). -/
def State.flushEntries (s : State) (q : Fin 64) (w : Option Walk) : Nat → State
  | 0 => s
  | n + 1 => match (s.queue q).entries with
    | [] => s
    | c :: _ =>
      if (s.queue q).cqUsed ≥ s.cqSize q then s
      else
        let iova := s.core.fget Reg.HQ_CQ_BASE_PAGE q * 4096 + s.core.fget Reg.HQ_CQ_TAIL q * 16
        let (x, s) := s.translate q iova 16 true w
        if x.walk then s
        else if x.cause ≠ 0 then s.haltQueue q .complete x.cause iova 0 true
        else State.flushEntries (s.writeEntry q x.host c) q w n

/-- Write what waits, at most a FAULT and a closing entry. -/
def State.flush (s : State) (q : Fin 64) (w : Option Walk) : State := s.flushEntries q w 2

/-- An entry is decided. -/
def State.addEntry (s : State) (q : Fin 64) (c : Completion) (w : Option Walk) : State :=
  (s.onQueue q fun x => { x with entries := x.entries ++ [c] }).flush q w

/-- A descriptor whose response is out is DONE (R425). -/
def State.tryFinish (s : State) (q : Fin 64) (w : Option Walk) : State :=
  match (s.queue q).cur with
  | none => s
  | some g => match Progress_reply g with
    | none => s
    | some r =>
      if g.sent < r.2.1.length || !(s.queue q).entries.isEmpty then s
      else s.addEntry q (s.entryOf q g 0 r.1.code r.2.2 false 0 0) w

/-- A fault while a body moves (R436): the queue halts with a FAULT entry. Log entry 92 (DEDUCED, unsafe). -/
def State.bodyFault (s : State) (q : Fin 64) (g : Progress) (inReq : Bool) (cause iova : Nat) (xl : Bool) : State :=
  let done := if inReq then g.reqRead else g.sent
  let s := s.haltQueue q (if inReq then .request else .response) cause iova done xl
  let (st, s) : Nat × State := match Progress_reply g with
    | some r => (r.1.code, s)
    | none =>
      let f := s.core.takeFree
      (f.1.toNat % 65536, { s with core := f.2 })
  s.addEntry q (s.entryOf q g 1 st done inReq cause (iova / 4096 % 2 ^ 18)) none

/-! ### The data mover (R434) -/

/-- A queue has bytes to move. -/
def State.moves (s : State) (q : Fin 64) : Bool :=
  s.queueRuns q && (s.queue q).entries.isEmpty && (s.queue q).cur.any fun g => match Progress_reply g with
    | none => !bodyRead g
    | some r => decide (g.sent < r.2.1.length)

/-- The queue the mover serves next: lowest PRIO, round-robin among equals (R434). -/
def State.moverNext (s : State) : Option (Fin 64) :=
  let start := match s.hq.last with
    | some i => i + 1
    | none => 0
  let order := (List.finRange 64).map fun i => (⟨(i.val + start) % 64, Nat.mod_lt _ (by decide)⟩ : Fin 64)
  let qs := order.filter s.moves
  let best := qs.foldl (fun m q => min m (s.core.fget Reg.HQ_CFG_PRIO q)) 4
  qs.find? fun q => s.core.fget Reg.HQ_CFG_PRIO q == best

/-- The mover takes a chunk of this queue: the queue it served before, if it has more to move, is pre-empted (R434). -/
def State.takeMover (s : State) (q : Fin 64) : State :=
  let s := match s.hq.last with
    | some i => if h : i < 64 then
        let p : Fin 64 := ⟨i, h⟩
        if p ≠ q && s.moves p then s.onCore (·.bump Reg.HQ_PREEMPT_COUNT p) else s
      else s
    | none => s
  { s with hq := { s.hq with last := some q.val } }

/-- Bytes of the chunk at an IOVA (R434). -/
def chunkBytes (iova left : Nat) : Nat := min (4096 - iova % 4096) left

/-- One chunk of the request body (R434 to R436). -/
def State.readChunk (s : State) (q : Fin 64) (g : Progress) (w : Walk) (err : Bool) : State :=
  let iova := g.d.reqAddr + g.reqRead
  let n := chunkBytes iova (g.d.reqLen - g.reqRead)
  let (x, s) := (s.takeMover q).translate q iova n false (some w)
  if x.cause ≠ 0 then s.bodyFault q g true x.cause iova true
  else if err then s.bodyFault q g true 5 iova false
  else s.onQueue q fun y => { y with cur := some { g with reqRead := g.reqRead + n } }

/-- One chunk of the response (R427, R434). -/
def State.writeChunk (s : State) (q : Fin 64) (g : Progress) (body : List Byte) (w : Walk) : State :=
  let iova := g.d.rspAddr + g.sent
  let n := chunkBytes iova (body.length - g.sent)
  let (x, s) := (s.takeMover q).translate q iova n true (some w)
  if x.cause ≠ 0 then s.bodyFault q g false x.cause iova true
  else
    let s := s.onCore (·.emit (.hostWrite q x.host ((body.drop g.sent).take n)))
    (s.onQueue q fun y => { y with cur := some { g with sent := g.sent + n } }).tryFinish q none

/-- One turn of the mover for a queue: the entries that wait, or a chunk (R434). Log entry 92 (DEDUCED, unsafe). -/
def State.moverTurn (s : State) (q : Fin 64) (w : Walk) (err : Bool) : State :=
  if !s.core.flag Reg.HQ_CFG_ENABLE q then s
  else if !(s.queue q).entries.isEmpty then if (s.queue q).halt == some .complete then s else s.flush q (some w)
  else match (s.queue q).cur with
    | none => s
    | some g =>
      if s.moves q then
        if s.moverNext != some q then s
        else match Progress_reply g with
          | none => s.readChunk q g w err
          | some r => s.writeChunk q g r.2.1 w
      else if s.queueRuns q then s.tryFinish q (some w) else s

/-! ### Queues that stop (R416, R420, R439) -/

/-- A queue is disabled (R420): no completion for its descriptor; pins, subscriptions, held snapshots and its transfer go. -/
def State.stopQueue (s : State) (q : Fin 64) : State :=
  let s := s.unpinIf fun _ h => h.who == .queue q
  let s := if s.svc.transfer.any fun t => t.src == ReqSrc.queue q then s.abortTransfer else s
  let s := { s with svc := { s.svc with held := s.svc.held.filter fun h => h.r.src != ReqSrc.queue q }
                    hq := { s.hq with queues := s.hq.queues.del q } }
  s.onCore fun k =>
    ((showHalt (k.setFlag Reg.HQ_CFG_ENABLE false q) q false).setFlag Reg.HQ_STAT_ACTIVE false q).setFlag Reg.HQ_STAT_PINNED false q

/-- Every queue is disabled. -/
def State.stopQueues (s : State) : State :=
  (List.finRange 64).foldl (fun (s : State) (q : Fin 64) => if s.core.flag Reg.HQ_CFG_ENABLE q then s.stopQueue q else s) s

/-- An event ring is disabled. Log entry 94 (DESIGN CHOICE, safe). -/
def stopRing (k : Core) (e : Nat) : Core := { k.setFlag Reg.EQ_CFG_ENABLE false e with rings := k.rings.del e }

/-- Every event ring is disabled. -/
def stopRings (k : Core) : Core := (List.range 16).foldl stopRing k

end Sys2Proof.Machine
end

