-- ==== Sys2Proof/Machine/MessageRam.lean ====
section
/-! DEFINITION. The message RAM of a CAN controller as bytes: its elements, its stencil list, its columns and its slot entries
(R305 to R307, R315, R318, R319). It is visible in no BAR, and descriptors and events read parts of it. -/

namespace Sys2Proof.Machine

/-- The weight of a bit that is set. -/
def bitAt (b : Bool) (w : Nat) : Nat := if b then w else 0

/-! ### Elements (R306) -/

/-- The 80 bytes of an element: the ESI as received, the stencil that decided it and its stamp stand in receive elements, 0 in
transmit elements. -/
def elementBytes (el : CanElement) (esi : Bool) (stencil : Nat) (stamp : Nat) : List Byte :=
  le el.id.toNat 4 ++ le (elementBits el esi) 1 ++ le el.dlc.toNat 1 ++ le stencil 1 ++ le 0 1 ++ le stamp 8 ++
    (el.data ++ List.replicate 64 (0 : Byte)).take 64

/-- A receive element (R306). -/
def RxElement_bytes (e : RxElement) : List Byte := elementBytes e.el e.el.esi e.stencil e.stamp.toNat

/-- A transmit buffer's element (R306). -/
def TxBuffer_bytes (t : TxBuffer) : List Byte := elementBytes t.el false 0 0

/-! ### The stencil list (R307) -/

/-- Word 2 of a stencil entry. -/
def stencilWord (e : Stencil) : Word :=
  BitVec.ofNat 32 (e.test.val + bitAt e.ext 4 + bitAt e.rmt 8 + e.dest.val * 16 + bitAt e.bindEn 64 + e.bind.val * 128)

/-- An entry as its three words. -/
def Stencil_words (e : Stencil) : Word × Word × Word := (e.a.setWidth 32, e.b.setWidth 32, stencilWord e)

/-- The entry that three words of an image spell; a reserved bit set rejects it (R307). -/
def stencilOf (a b c : Word) : Option Stencil :=
  if a.toNat ≥ 2 ^ 29 ∨ b.toNat ≥ 2 ^ 29 ∨ c.toNat ≥ 2 ^ 12 then none
  else some ⟨a.setWidth 29, b.setWidth 29, Fin.ofNat 4 c.toNat, c.getLsbD 2, c.getLsbD 3, Fin.ofNat 4 (c.toNat / 16),
    c.getLsbD 6, Fin.ofNat 32 (c.toNat / 128)⟩

/-! ### The time-triggered tables (R318, R319) -/

/-- An entry of the column table: START in [31:16], LEN in [15:0], both in µs (R318). -/
def columnWord (x : Nat × Nat) : Word := BitVec.ofNat 32 (x.1 * 2 ^ 16 + x.2 % 2 ^ 16)

/-- A slot entry (R319). -/
def ttSlotWord (e : TtSlot) : Word :=
  BitVec.ofNat 32 (e.type.val * 2 ^ 30 + e.column % 64 * 2 ^ 24 + e.buf.val * 2 ^ 19 + bitAt e.keep (2 ^ 18) + e.rep.val * 2 ^ 15 +
    e.base % 32 * 2 ^ 10)

/-- The slot entry number `idx` that a word of an image spells: TYPE 3, a repetition above 32 and a reserved bit reject it
(R319). Log entry 119 (DESIGN CHOICE, unsafe). -/
def ttSlotOf (idx : Nat) (w : Word) : Option TtSlot :=
  let n := w.toNat
  if h : n / 2 ^ 15 % 8 < 6 then
    if n % 2 ^ 10 ≠ 0 ∨ n / 2 ^ 30 = 3 then none
    else some ⟨idx, Fin.ofNat 4 (n / 2 ^ 30), n / 2 ^ 24 % 64, Fin.ofNat 32 (n / 2 ^ 19), w.getLsbD 18, ⟨n / 2 ^ 15 % 8, h⟩,
      n / 2 ^ 10 % 32⟩
  else none

/-! ### The layout (R305) -/

/-- A part of the RAM: its entries, then zeros up to its length. -/
def ramPart (len : Nat) (xs : List Byte) : List Byte := (xs ++ List.replicate len (0 : Byte)).take len

/-- The element of a receive queue that stands in a place: element number `seq` in place `seq` modulo the queue's length. The
spec gives no place to an element of a queue: log entry 119 (DESIGN CHOICE, unsafe). Log entry 119 (DESIGN CHOICE, unsafe). -/
def queuePart (len : Nat) (xs : List RxElement) : List Byte :=
  (List.range len).flatMap fun i => match xs.find? (·.seq % len == i) with
    | some e => RxElement_bytes e
    | none => List.replicate 80 (0 : Byte)

/-- The 16 KiB of message RAM (R305). Log entry 119 (DESIGN CHOICE, unsafe). -/
def CanCtl_ram (x : CanCtl) : List Byte :=
  let buffer (b : Nat) : List Byte := TxBuffer_bytes (x.bufs.atD b {})
  let stencil (e : Stencil) : List Byte := let w := Stencil_words e; le w.1.toNat 4 ++ le w.2.1.toNat 4 ++ le w.2.2.toNat 4
  let slot (i : Nat) : List Byte := match x.cfg.slots.find? (·.idx == i) with
    | some e => le (ttSlotWord e).toNat 4
    | none => le 0x80000000 4
  ramPart 0x900 (x.cfg.stencils.flatMap stencil) ++ queuePart 64 x.q0 ++ queuePart 32 x.q1 ++
    ramPart 0x100 ((List.range 3).flatMap buffer) ++ ramPart 0x100 (x.log.reverse.flatMap TxEvent_bytes) ++
    (List.range 32).flatMap (fun n => buffer (0x80 + n)) ++ ramPart 0x100 (x.cfg.columns.flatMap fun c => le (columnWord c).toNat 4) ++
    (List.range 256).flatMap slot ++ List.replicate 0x800 (0 : Byte)

end Sys2Proof.Machine
end

