-- ==== Sys2Proof/Machine/HostQueue.lean ====
section
/-! DEFINITION. The rows of the host queues: doorbells, enabling, descriptors, the data mover, event rings and invalidation
(R416 to R438). -/

namespace Sys2Proof

/-- The TYPE of a message (R266, R394, R479). -/
def Message.type : Message → Nat
  | .info => 1 | .snapshot .. => 0x10 | .unpin .. => 0x11 | .write .. => 0x20 | .subscribe .. => 0x30 | .unsubscribe .. => 0x31
  | .meter .. => 0x40 | .trace .. => 0x50 | .recorder .. => 0x60 | .attest .. => 0x70 | .challenge .. => 0x71
  | .command .. => 0x80 | .imageBegin .. => 0x90 | .imageChunk .. => 0x90 | .imageEnd => 0x90 | .imageAbort => 0x90
  | .trend .. => 0xA0 | .ping .. => 0xF0

end Sys2Proof

namespace Sys2Proof.Machine

/-- What a row of the host queues may change. -/
def State.upHq (s t : State) : State :=
  { t with pending := s.pending, core := s.core.after t.core, bkp := s.bkp, nt := s.nt, cfg := s.cfg, plat := runPlat s.plat t.plat }

/-! ### Doorbells (R417, R418, R429, R437) -/

/-- A doorbell value out of range halts the queue (R418). Log entry 93 (DESIGN CHOICE, safe). -/
def State.doorbellFault (s : State) (q : Fin 64) : State :=
  if s.core.flag Reg.HQ_STAT_HALTED q then s else s.haltQueue q .doorbell 7 0 0 false

/-- SQ_TAIL (R418). Log entry 15 (DESIGN CHOICE, unsafe). -/
def execSqTail (q : Fin 64) (v : BitVec 12) (s : State) : Answer :=
  .next <| s.upHq <|
    if !s.core.flag Reg.HQ_CFG_ENABLE q then s
    else if v.toNat ≥ s.sqSize q then s.doorbellFault q
    else s.onQueue q fun x => { x with sqTail := v.toNat }

/-- CQ_HEAD (R418, R426): it frees entries, and one that waits is written. Log entry 15 (DESIGN CHOICE, unsafe). -/
def execCqHead (q : Fin 64) (v : BitVec 12) (s : State) : Answer :=
  .next <| s.upHq <|
    if !s.core.flag Reg.HQ_CFG_ENABLE q then s
    else
      let x := s.queue q
      let n := s.cqSize q
      let freed := (v.toNat + n - x.cqHead) % n
      if v.toNat ≥ n ∨ freed > x.cqUsed then s.doorbellFault q
      else
        let s := s.onQueue q fun x => { x with cqHead := v.toNat, cqUsed := x.cqUsed - freed }
        if freed = 0 ∨ x.halt = some .complete then s else s.flush q none

/-- CONTROL 0x1 (R437): the failed step is repeated. -/
def execControlResume (q : Fin 64) (w : Walk) (s : State) : Answer :=
  .next <| s.upHq <| if s.core.flag Reg.HQ_STAT_HALTED q then (s.endHalt q).flush q (some w) else s

/-- CONTROL 0x2 (R437). Log entry 93 (DESIGN CHOICE, safe). -/
def State.abandon (s : State) (q : Fin 64) (w : Walk) : State :=
  let x := s.queue q
  let cause := s.core.fget Reg.HQ_STAT_CAUSE q
  let s := s.endHalt q
  match x.halt with
  | some .fetch => s.onCore fun k => k.fput Reg.HQ_STAT_SQ_HEAD ((k.fget Reg.HQ_STAT_SQ_HEAD q + 1) % s.sqSize q) q
  | some .complete =>
    let s := s.onQueue q fun y => { y with entries := y.entries.drop 1 }
    if x.entries.head?.all fun e => e.kind == 1 then s else s.endDescriptor q
  | some .request => match x.cur with
    | some g => s.addEntry q (s.entryOf q g 2 Status.badRequest.code g.reqRead true cause x.haltPage) (some w)
    | none => s
  | some .response => match x.cur.bind fun g => (Progress_reply g).map fun r => (g, r) with
    | some (g, r) => s.addEntry q (s.entryOf q g 2 r.1.code g.sent false cause x.haltPage) (some w)
    | none => s
  | _ => s

/-- CONTROL 0x2 (R437). -/
def execControlAbandon (q : Fin 64) (w : Walk) (s : State) : Answer :=
  .next <| s.upHq <| if s.core.flag Reg.HQ_STAT_HALTED q then s.abandon q w else s

/-- The enabled event ring that a queue owns (R417, R428). -/
def State.ownedRing (s : State) (q : Fin 64) : Option Nat :=
  (List.range 16).find? fun e => s.core.flag Reg.EQ_CFG_ENABLE e && s.core.fget Reg.EQ_CFG_OWNER_Q e == q.val

/-- EQ_HEAD (R418, R429): it frees entries, and losses are reported in one OVERFLOW entry. Log entries 15 (DESIGN CHOICE,
unsafe); 94 (DESIGN CHOICE, safe). -/
def execEqHead (q : Fin 64) (v : BitVec 12) (s : State) : Answer :=
  .next <| s.upHq <| match s.ownedRing q with
    | none => s
    | some e => s.onCore fun k =>
      let r := k.rings.atD e {}
      let n := 2 ^ k.fget Reg.EQ_CFG_LOG2 e
      let freed := (v.toNat + n - r.head) % n
      if v.toNat ≥ n ∨ freed > r.used then k.setFlag Reg.EQ_STAT_STOPPED true e
      else
        let k := { k with rings := k.rings.put e { head := v.toNat, used := r.used - freed, lost := 0 } }
        if r.lost = 0 ∨ freed = 0 ∨ k.flag Reg.EQ_STAT_STOPPED e then
          { k with rings := k.rings.alter e {} fun x => { x with lost := r.lost } }
        else k.ringWrite e 0x7F 0 r.lost 0

/-! ### Enabling (R415, R416, R420, R428, R433) -/

/-- Ring sizes are 2^4 to 2^12 (R420, R428). -/
def sizeOk (n : Nat) : Bool := decide (4 ≤ n) && decide (n ≤ 12)

/-- A write of HQ_CFG.ENABLE 1 (R420). -/
def State.enableQueue (s : State) (q : Fin 64) : State :=
  let k := s.core
  if k.flag Reg.HQ_CFG_ENABLE q || !k.flag Reg.HQ_CFG_BOUND q || !sizeOk (k.fget Reg.HQ_CFG_SQ_LOG2 q) ||
      !sizeOk (k.fget Reg.HQ_CFG_CQ_LOG2 q) || s.plat.por || s.plat.rstLow then s
  else
    (s.putQueue q {}).onCore fun k =>
      let k := (k.setFlag Reg.HQ_CFG_ENABLE true q).fput Reg.HQ_STAT_SQ_HEAD 0 q
      (k.fput Reg.HQ_CQ_TAIL 0 q).setFlag Reg.HQ_CQ_PHASE true q

/-- QUEUE_ENABLE (R420). -/
def execQueueEnable (q : Fin 64) (s : State) : Answer := .next <| s.upHq (s.enableQueue q)

/-- QUEUE_DISABLE (R420). -/
def execQueueDisable (q : Fin 64) (s : State) : Answer :=
  .next <| s.upHq <| if s.core.flag Reg.HQ_CFG_ENABLE q then s.stopQueue q else s

/-- A write of EQ_CFG.ENABLE (R428, R429): the ring's owner must be bound to the ring's domain. -/
def State.enableRing (s : State) (ring : Fin 16) (on : Bool) : State :=
  s.onCore fun k =>
    let o := k.fget Reg.EQ_CFG_OWNER_Q ring
    if !on then stopRing k ring
    else if k.flag Reg.EQ_CFG_ENABLE ring || !k.flag Reg.HQ_CFG_BOUND o || !sizeOk (k.fget Reg.EQ_CFG_LOG2 ring) ||
        k.fget Reg.HQ_CFG_DOMAIN o != k.fget Reg.EQ_CFG_DOMAIN ring || s.plat.por || s.plat.rstLow then k
    else
      let k := ((k.setFlag Reg.EQ_CFG_ENABLE true ring).setFlag Reg.EQ_STAT_STOPPED false ring).fput Reg.EQ_STAT_TAIL 0 ring
      { k.setFlag Reg.EQ_STAT_PHASE true ring with rings := k.rings.put ring {} }

/-- EVENT_RING_ENABLE (R428, R429). -/
def execEventRingEnable (ring : Fin 16) (on : Bool) (s : State) : Answer := .next <| s.upHq (s.enableRing ring on)

/-- Start an invalidation (R433). Log entry 96 (DESIGN CHOICE, unsafe). -/
def State.invalidate (s : State) : State :=
  let k := s.core
  if k.flag Reg.ATC_INV_STAT_BUSY then s
  else
    let i := (k.fget Reg.ATC_INV_CTRL_QUEUE, k.flag Reg.ATC_INV_CTRL_ALL, k.fget Reg.ATC_INV_PAGE_FIRST,
      k.fget Reg.ATC_INV_COUNT_PAGES)
    { s with hq := { s.hq with inv := some i } }.onCore (·.setFlag Reg.ATC_INV_STAT_BUSY true)

/-- ATC_INVALIDATE (R433): a GO while BUSY is discarded. -/
def execAtcInvalidate (s : State) : Answer := .next <| s.upHq s.invalidate

/-- ATC_INVALIDATE_DONE (R433). Log entry 96 (DESIGN CHOICE, unsafe). -/
def execAtcInvalidateDone (s : State) : Answer :=
  .next <| s.upHq <| match s.hq.inv with
    | none => s
    | some (q, all, first, n) =>
      let gone (e : AtcEntry) : Bool := e.q == q && (all || (decide (first ≤ e.page) && decide (e.page < first + n)))
      { s with hq := { s.hq with inv := none, atc := s.hq.atc.filter fun e => !gone e } }.onCore fun k =>
        (k.setFlag Reg.ATC_INV_STAT_BUSY false).signal 81

/-- The host queue engine's register fields (R441). Log entry 97 (DESIGN CHOICE, unsafe). -/
def hqeRow (r : Row) : Bool := decide (0x4000 ≤ r.addr) && decide (r.addr < 0x10000)

/-- The host queue engine is reset: queues and rings disabled, its fields at their Warm values (R416, R441, R455). -/
def State.resetHqe (s : State) : State :=
  let s := s.stopQueues.onCore stopRings
  let ids := (Reg.all.filter fun r => hqeRow r && !r.keeps).map (·.id)
  { s with hq := {} }.onCore fun k =>
    { k with regs := k.regs.filter fun (p : Nat × Nat) => !ids.contains (p.1 / 1024) }

/-- PE_PERST (R416): the link, the configuration space with its MSI-X table, and the host queue engine. Log entry 96 (DESIGN
CHOICE, unsafe). -/
def execPePerst (s : State) : Answer :=
  .next <| s.upHq <| s.resetHqe.onCore fun k =>
    { (k.fput Reg.HQE_LINK_SPEED 0).fput Reg.HQE_LINK_WIDTH 0 with msixTable := [], msixPend := [] }

/-- D3HOT_ENTRY (R415). -/
def execD3hotEntry (s : State) : Answer := .next <| s.upHq s.stopQueues

/-! ### Descriptors (R421 to R424) -/

/-- Message types that exist (R266, R394, R479); the push type is none of them. -/
def messageTypes : List Nat := [1, 0x10, 0x11, 0x20, 0x30, 0x31, 0x40, 0x50, 0x60, 0x70, 0x71, 0x80, 0x90, 0xA0, 0xF0]

/-- Request bytes of an opcode other than MSG (R422). -/
def opcodeBytes (op : Nat) : Nat :=
  match op with
  | 2 => 1 | 3 => 3 | 4 => 8 | 5 => 84 | 6 => 3 | _ => 0

/-- The descriptor that 64 bytes of the submission ring spell (R421); INLINE reaches its message's row. -/
def descriptorOf (b : List Byte) : Descriptor :=
  let n (off len : Nat) : Nat := ofLe (cut b off len)
  { opcode := n 0 1, irq := (n 1 1).testBit 0, isInline := (n 1 1).testBit 1, flagsReserved := decide (4 ≤ n 1 1), type := n 2 2
    tag := BitVec.ofNat 16 (n 4 2), reqAddr := n 8 4, reqLen := n 12 4, rspAddr := n 16 4, rspLen := n 20 4
    reservedZero := decide (n 6 2 = 0 ∧ n 24 8 = 0) }

/-- What is wrong with a descriptor as such (R421, R422). Log entry 95 (DESIGN CHOICE, unsafe). -/
def Descriptor_status (d : Descriptor) (dom : Nat) : Option Status :=
  let limit := if d.isInline then 32 else 1048576
  let shape := if d.opcode = 1 then messageTypes.contains d.type else d.type == 0 && d.reqLen == opcodeBytes d.opcode
  if d.opcode > 6 || d.flagsReserved || !d.reservedZero || !shape || d.reqLen > limit then some .badRequest
  else if d.opcode ≥ 3 && dom != 0 then some .noAccess
  else none

/-- A fetched descriptor starts (R421, R438): a SNAPSHOT's epoch is the published one of now. -/
def State.startDescriptor (s : State) (q : Fin 64) (d : Descriptor) : State :=
  let bad := (Descriptor_status d (s.core.fget Reg.HQ_CFG_DOMAIN q)).map fun st => (st, ([] : List Byte))
  let e := if d.opcode = 1 ∧ d.type = 0x10 then s.img.pubEpoch else none
  (s.onQueue q fun x => { x with cur := some { d := d, answer := bad, epoch := e } }).onCore fun k =>
    (k.setFlag Reg.HQ_STAT_ACTIVE true q).fput Reg.HQ_STAT_SQ_HEAD ((k.fget Reg.HQ_STAT_SQ_HEAD q + 1) % s.sqSize q) q

/-- DESCRIPTOR_FETCH (R421, R426): one at a time, while the completion ring has room; none in warning hold (R464). -/
def execDescriptorFetch (q : Fin 64) (w : Walk) (d : Option (List Byte)) (s : State) : Answer :=
  .next <| s.upHq <|
    let x := s.queue q
    let head := s.core.fget Reg.HQ_STAT_SQ_HEAD q
    if !s.queueRuns q || s.plat.hold || x.cur.isSome || !x.entries.isEmpty || head == x.sqTail || x.cqUsed ≥ s.cqSize q then s
    else
      let iova := s.core.fget Reg.HQ_SQ_BASE_PAGE q * 4096 + head * 64
      let (t, s) := s.translate q iova 64 false (some w)
      if t.cause ≠ 0 then s.haltQueue q .fetch t.cause iova 0 true
      else match d with
        | none => s.haltQueue q .fetch 5 iova 0 false
        | some b => s.startDescriptor q (descriptorOf b)

/-- The descriptor in progress, if it is of this opcode, its body is read and nothing has been decided about it. -/
def State.atOpcode (s : State) (q : Fin 64) (op : Nat) : Bool :=
  s.queueRuns q && (s.queue q).cur.any fun g =>
    g.d.opcode == op && g.answer.isNone && !g.applied && bodyRead g && g.waitSub.isNone && g.waitCan.isNone && g.waitEcho.isNone

/-- The request a queue's descriptor makes. -/
def queueReq (q : Fin 64) : Req := ⟨.queue q, 0⟩

/-- A descriptor other than MSG is served: in maintenance, and by an unclaimed module, it is refused (R396); one that writes,
or needs the lane, is not the standby's to serve (R244, R439). Log entry 95 (DESIGN CHOICE, unsafe). -/
def State.serveOp (s : State) (q : Fin 64) (op : Nat) (writes : Bool) (f : State → State) : State :=
  if !s.atOpcode q op then s
  else if s.core.state == 3 || s.unclaimed || s.core.fget Reg.SEC_BOOT_STAGE == 3 then
    s.answer (queueReq q) .refused (causeBody .maintenance)
  else if writes && s.standby then s.answer (queueReq q) .notDuty []
  else f s

/-- HQ_NOP (R422). -/
def execHqNop (q : Fin 64) (w : Walk) (s : State) : Answer :=
  .next <| s.upHq <| if s.atOpcode q 0 then (s.answer (queueReq q) .ok []).tryFinish q (some w) else s

/-- A message whose descriptor has fixed its epoch names it (R438). -/
def fixEpoch (m : Message) (e : Option Nat) : Message :=
  match m, e with
  | .snapshot 0 pin ranges, some e => .snapshot e pin ranges
  | m, _ => m

/-- MSG (R423): no message is a body that is malformed. Log entry 95 (DESIGN CHOICE, unsafe). -/
def execMsg (q : Fin 64) (m : Option Message) (w : Walk) (s : State) : Answer :=
  .next <| s.upHq <|
    if !s.atOpcode q 1 then s
    else match m with
      | none => (s.answer (queueReq q) .badRequest []).tryFinish q (some w)
      | some m =>
        if (s.queue q).cur.all fun g => g.d.type != m.type then s
        else (s.runMessage (queueReq q) (fixEpoch m ((s.queue q).cur.bind (·.epoch)))).tryFinish q (some w)

/-- UPDATE_WAIT (R422, R423): an update that waits is delivered, else the next one. -/
def execUpdateWait (q : Fin 64) (n : Nat) (s : State) : Answer :=
  .next <| s.upHq <| s.serveOp q 2 false fun s =>
    let x := s.queue q
    if !(x.subs.any (·.number == n)) then s.answer (queueReq q) .badRequest []
    else match x.updates.find? (·.1 == n) with
      | some u =>
        let s := s.onQueue q fun x => { x with updates := x.updates.erase u, buffered := x.buffered - (u.2.length + 16) }
        s.answer (queueReq q) .ok u.2
      | none => s.onQueue q fun x => { x with cur := x.cur.map fun g => { g with waitSub := some n } }

/-- The elements a receive queue holds. -/
def State.rxHeld (s : State) (ctl rxq : Nat) : List RxElement :=
  let x := s.canCtl ctl
  if rxq = 0 then x.q0 else x.q1

/-- CAN_RX (R309, R424): a read consumes nothing. With no element held, FIRST_SEQ is an open value. Log entry 95 (DESIGN
CHOICE, unsafe). -/
def execCanRx (q : Fin 64) (ctl rxq max : Nat) (s : State) : Answer :=
  .next <| s.upHq <| s.serveOp q 3 false fun s =>
    if !(ctl ≤ 3 && rxq ≤ 1 && 1 ≤ max && max ≤ 64) then s.answer (queueReq q) .badRequest []
    else
      let es := (s.rxHeld ctl rxq).take max
      let (first, s) : Nat × State := match es with
        | e :: _ => (e.seq, s)
        | [] =>
          let f := s.core.takeFree
          (f.1.toNat, { s with core := f.2 })
      s.answer (queueReq q) .ok
        (le ctl 1 ++ le rxq 1 ++ le es.length 1 ++ le 0 1 ++ le first 4 ++ es.flatMap RxElement_bytes)

/-- CAN_ACK (R424): every element up to LAST_SEQ is released. -/
def execCanAck (q : Fin 64) (ctl rxq : Nat) (last : Word) (w : Walk) (s : State) : Answer :=
  .next <| s.upHq <| if !s.atOpcode q 4 then s else
    (s.serveOp q 4 false fun s =>
      let es := s.rxHeld ctl rxq
      if !(ctl ≤ 3 && rxq ≤ 1 && es.any (·.seq == last.toNat)) then s.answer (queueReq q) .badRequest []
      else
        let left := (es.dropWhile fun e => e.seq != last.toNat).drop 1
        let x := s.canCtl ctl
        let s := s.putCan ctl (if rxq = 0 then { x with q0 := left } else { x with q1 := left })
        let fill := if rxq = 0 then Reg.CAN_RXQ0_FILL else Reg.CAN_RXQ1_FILL
        (s.onCore (·.fput fill left.length ctl)).answer (queueReq q) .ok []).tryFinish q (some w)

/-- A transmit element is well formed (R306). -/
def elementOk (el : CanElement) : Bool :=
  (el.ext || decide (el.id.toNat < 2048)) && !(el.rmt && el.fd) && (el.fd || !el.brs)

/-- A transmit element as the controller keeps it: ESI ignored, as many data bytes as its DLC tells (R306). -/
def elementKept (el : CanElement) : CanElement :=
  let n := if el.rmt then 0 else dlcBytes el.fd el.dlc.toNat
  { el with esi := false, data := (el.data ++ List.replicate 64 (0 : Byte)).take n }

/-- A transmit binding owns the buffer (R312). -/
def State.bindingOwns (s : State) (ctl b : Nat) : Bool := (s.canCtl ctl).cfg.txBindings.any (·.buffer == b)

/-- Descriptors whose content a newer request replaces get their event (R424). Log entries 71 (DEDUCED, unsafe); 95 (DESIGN
CHOICE, unsafe). -/
def State.replaceCan (s : State) (ctl b : Nat) : State :=
  let t := (s.canCtl ctl).bufs.atD b {}
  if t.active then match t.next with
    | none => s
    | some el =>
      let e := TxEvent_bytes (s.txEvent ctl b el 1 0)
      let queues := s.hq.queues.map fun (p : Nat × Queue) => match p.2.cur with
        | some g => if g.waitCan = some (ctl, b, true) then
            (p.1, { p.2 with cur := some { g with answer := some (.ok, e), waitCan := none } }) else p
        | none => p
      { s with hq := { s.hq with queues := queues } }
  else if t.pending then s.answerCan ctl b (s.txEvent ctl b t.el 1 0)
  else s

/-- A CAN_TX for a buffer (R312, R424): a number that names none is malformed, a binding's buffer refuses. -/
def State.canRequest (s : State) (q : Fin 64) (ctl b : Nat) (ok : Bool) (w : Walk) (f : State → State) : State :=
  if !s.atOpcode q 5 then s
  else
    (s.serveOp q 5 true fun s =>
      if !(ctl ≤ 3 && b ≤ 2 && ok) then s.answer (queueReq q) .badRequest []
      else if s.bindingOwns ctl b then s.answer (queueReq q) .refused (causeBody .bindingOwned)
      else f s).tryFinish q (some w)

/-- The queue waits for a buffer's transmit event. -/
def State.waitCan (s : State) (q : Fin 64) (ctl b : Nat) (later : Bool) : State :=
  s.onQueue q fun x => { x with cur := x.cur.map fun g => { g with waitCan := some (ctl, b, later) } }

/-- CAN_TX_SEND (R313, R424). -/
def execCanTxSend (q : Fin 64) (ctl buffer : Nat) (el : CanElement) (w : Walk) (s : State) : Answer :=
  .next <| s.upHq <| s.canRequest q ctl buffer (elementOk el) w fun s =>
    let later := ((s.canCtl ctl).bufs.atD buffer {}).active
    ((s.replaceCan ctl buffer).waitCan q ctl buffer later).canPut ctl buffer (elementKept el)

/-- Content that waits for the attempt goes with the cancel (R313). -/
def State.replaceLater (s : State) (ctl b : Nat) : State :=
  if ((s.canCtl ctl).bufs.atD b {}).active then s.replaceCan ctl b else s

/-- CAN_TX_CANCEL (R313): a buffer without a request has no event to wait for. -/
def execCanTxCancel (q : Fin 64) (ctl buffer : Nat) (w : Walk) (s : State) : Answer :=
  .next <| s.upHq <| s.canRequest q ctl buffer true w fun s =>
    let t := (s.canCtl ctl).bufs.atD buffer {}
    if !(t.active || t.pending) then s.answer (queueReq q) .ok []
    else ((s.replaceLater ctl buffer).waitCan q ctl buffer false).canCancel ctl buffer

/-- LANE_ECHO (R219, R422). -/
def execLaneEcho (q : Fin 64) (carrier channel words : Nat) (s : State) : Answer :=
  .next <| s.upHq <| s.serveOp q 6 true fun s =>
    if !(carrier ≤ 31 && 1 ≤ words && words ≤ 64 && channel + words ≤ 128) then s.answer (queueReq q) .badRequest []
    else
      let want := (carrier, channel, words)
      let s := s.onQueue q fun x => { x with cur := x.cur.map fun g => { g with waitEcho := some want } }
      if s.lane.echoes.contains want then s else { s with lane := { s.lane with echoes := s.lane.echoes ++ [want] } }

/-- DMA_CHUNK (R434). -/
def execDmaChunk (q : Fin 64) (w : Walk) (err : Bool) (s : State) : Answer := .next <| s.upHq <| s.moverTurn q w err

end Sys2Proof.Machine
end

