-- ==== Sys2Proof/Machine/NetTime.lean ====
section
/-! DEFINITION. Network time's rows: measurements and the plumb servo, PTP messages, PPS, capture, the comparison with the backup
domain, and leap seconds (R328 to R342). -/

namespace Sys2Proof.Machine

/-- What a row of network time may change. -/
def State.upNt (s t : State) : State :=
  { s with core := s.core.after t.core, nt := t.nt, seq := t.seq, met := t.met, can := t.can, pair := t.pair, net := t.net, bkp := duringBkp s.bkp t.bkp
           plat := runPlat s.plat t.plat, sec := t.sec }

/-! ### The plumb servo (R333 to R335) -/

/-- A gain times an offset, in 2^-176 ppb: the gain in ppb per ns at 125 ms, the offset in 2^-16 ns, the measurement interval
2^`log` s (R333). Log entry 77 (DESIGN CHOICE, unsafe). -/
def gainTimes (gain : Nat) (x log : Int) : Int := exact149 (BitVec.ofNat 32 gain) * x * 2 ^ (8 - log).toNat

/-- One measurement through the PI law (R333, R334): while the clamp acts, I stays. Log entry 77 (DESIGN CHOICE, unsafe). -/
def State.servoPi (s : State) (x log : Int) : State :=
  let y := gainTimes (s.core.fget Reg.PLB_KP_KP) x log + s.nt.integ
  let c := s.clampPpb y
  let s := if c = y then
      { s with nt := { s.nt with integ := s.nt.integ + gainTimes (s.core.fget Reg.PLB_KI_KI) x log } }
    else s
  s.setRate (rateOf c)

/-- Count a measurement towards lock and away from it, and change state (R335). -/
def State.countLock (s : State) (x : Int) : State :=
  let lock : Nat := s.core.fget Reg.PLB_LOCK_NS_NS * 65536
  let good := if x.natAbs ≤ lock then s.nt.good + 1 else 0
  let poor := if 4 * lock < x.natAbs then s.nt.poor + 1 else 0
  let s := { s with nt := { s.nt with good := good, poor := poor } }
  match s.core.fget Reg.NT_STAT_STATE with
  | 1 => if good ≥ 16 then { s with nt := { s.nt with poor := 0 } }.setServo 2 else s
  | 2 => if poor ≥ 4 then { s with nt := { s.nt with good := 0 } }.setServo 1 else s
  | _ => s

/-- A step of network time by −x puts the servo in ACQUIRING with I kept (R335). -/
def State.servoStep (s : State) (x : Int) : State :=
  let s := s.stepNt (-x)
  { s with nt := { s.nt with good := 0, poor := 0, spikes := 0 } }.setServo 1

/-- A spike is counted and not used; the third in a row steps network time (R335). Log entry 78 (DESIGN CHOICE, unsafe). -/
def State.servoSpike (s : State) (x : Int) : State :=
  let n := s.nt.spikes + 1
  let s := { s with nt := { s.nt with spikes := n } }.onCore (·.bump Reg.NT_SPIKES_COUNT)
  if n ≥ 3 then s.servoStep x else s

/-- The servo takes an offset `x` in 2^-16 ns at an interval of 2^`log` s (R333 to R335); `far` marks a pulse too far from a
whole second (R338). Log entry 78 (DESIGN CHOICE, unsafe). -/
def State.servoMeasure (s : State) (x log : Int) (far : Bool) : State :=
  let st := s.core.fget Reg.NT_STAT_STATE
  let ns := x / 65536
  let sat := if ns < -(2 ^ 31) then -(2 ^ 31) else if 2 ^ 31 - 1 < ns then 2 ^ 31 - 1 else ns
  let big := decide (s.core.fget Reg.PLB_STEP_NS_NS * 65536 < x.natAbs)
  let s := s.onCore (·.sput Reg.NT_OFFSET_LAST_NS sat)
  let s := { s with nt := { s.nt with lastX := x } }
  if far || (big && st != 0) then s.servoSpike x
  else if big then s.servoStep x
  else
    let s := { s with nt := { s.nt with spikes := 0 } }
    let s := if st = 0 ∨ st = 3 then { s with nt := { s.nt with good := 0, poor := 0 } }.setServo 1 else s
    (s.servoPi x log).countLock x

/-! ### PTP (R327, R329 to R332) -/

/-- The mean of the last 16 valid delay measurements of an uplink, in 2^-16 ns (R331). -/
def State.meanDelay (s : State) (p : Nat) : Option Int :=
  let ds := s.nt.delays.atD p []
  if ds.isEmpty then none else some (rneDiv ds.sum ds.length)

/-- The configured path asymmetry of an uplink in ns (R331). -/
def State.asymmetry (s : State) (p : Nat) : Int := s.core.sget (if p = 0 then Reg.NT_ASYM0_NS else Reg.NT_ASYM1_NS)

/-- A Sync exchange (R291, R327, R331): t2 is the receive stamp of the uplink; used on the slave port of a unit that is no
grandmaster, with a delay measured; a stamp of a mapping no longer held is discarded and counted. Log entry 78 (DESIGN CHOICE,
unsafe). -/
def State.takeSync (s : State) (p : Fin 2) (t1 : Int) (age : Nat) : State :=
  if s.grandmaster || s.core.fget Reg.NT_STAT_SLAVE != p.val + 1 then s
  else if (s.mapAt (s.core.c - age)).isNone then s.onCore (·.bump Reg.NT_SPIKES_COUNT)
  else
    let t2 := s.rxStamp p age
    let s := { s with nt := { s.nt with syncs := s.nt.syncs.put p (t1, t2) } }
    match s.meanDelay p with
    | none => s
    | some d => s.servoMeasure ((t2 - t1 - s.asymmetry p) * 65536 - d) s.cfg.time.logInterval false

/-- A delay measurement, twice its value in ns: half of it in 2^-16 ns joins the uplink's last 16 (R331). -/
def State.noteDelay (s : State) (p : Nat) (twice : Int) : State :=
  { s with nt := { s.nt with delays := s.nt.delays.alter p [] (fun ds => (twice * 32768 :: ds).take 16), sentAt := s.nt.sentAt.del p } }

/-- A delay response, end to end (R329, R331): t1 and t2 of the last Sync, t3 the transmit stamp of the request, t4 the master's. -/
def State.takeDelay (s : State) (p : Nat) (t4 : Int) : State :=
  match s.nt.syncs.at? p, s.nt.sentAt.at? p with
  | some (t1, t2), some t3 =>
    if s.core.fget Reg.NT_CFG_PROFILE = 0 then s.noteDelay p (t2 - t1 + (t4 - t3)) else s
  | _, _ => s

/-- A peer delay response (R329, R331): t1 the transmit stamp of the request, t4 the receive stamp of the response. -/
def State.takePeer (s : State) (p : Nat) (t2 t3 : Int) (age : Nat) : State :=
  match s.nt.sentAt.at? p with
  | none => s
  | some t1 =>
    if s.core.fget Reg.NT_CFG_PROFILE = 0 then s
    else if (s.mapAt (s.core.c - age)).isNone then s.onCore (·.bump Reg.NT_SPIKES_COUNT)
    else s.noteDelay p (s.rxStamp p age - t1 - (t3 - t2))

/-- The port states the BMCA decides (R330, R332): a grandmaster is master on both uplinks, an ordinary clock is never master
and passive on the uplink that is not selected, at most one uplink is slave, and the slave role is on the uplink in state 9.
Log entry 80 (PRESUMED, unsafe). -/
def State.takeAnnounce (s : State) (q0 q1 : Nat) (utc : Option Int) : State :=
  let gm := s.grandmaster
  let ordinary := s.core.fget Reg.NT_CFG_ROLE == 0 || s.core.isStandby
  let fix (p q : Nat) : Nat :=
    if !s.core.flag Reg.FP_STAT_LINK p then 3 else if gm then 6 else if ordinary && q = 6 then 4 else q
  let a := fix 0 q0
  let b := if a = 9 ∧ fix 1 q1 = 9 then 7 else fix 1 q1
  let a := if ordinary && !gm && b = 9 && s.core.flag Reg.FP_STAT_LINK 0 then 7 else a
  let b := if ordinary && !gm && a = 9 && s.core.flag Reg.FP_STAT_LINK 1 then 7 else b
  let s := s.onCore fun k => (k.fput Reg.NT_STAT_PORT0 a).fput Reg.NT_STAT_PORT1 b
  let slave := if gm then 0 else if a = 9 then 1 else if b = 9 then 2 else 0
  let was := s.core.fget Reg.NT_STAT_SLAVE
  let s := { s with nt := { s.nt with utcRx := if gm then none else utc } }.onCore
    (·.setFlag Reg.NT_UTC_RX_VALID (!gm && utc.isSome))
  if slave = 0 && (was = 1 || was = 2) then s.loseSlave
  else if gm then s
  else s.onCore (·.fput Reg.NT_STAT_SLAVE slave)

/-- The PTP instance takes part: configured, not in reset. -/
def State.ptpOn (s : State) : Bool := s.core.flag Reg.NT_CFG_VALID && !s.plat.por && !s.plat.rstLow

/-- An uplink takes PTP messages: with a link, and where MACsec runs, while it is secured (R279, R290). -/
def State.ptpHears (s : State) (p : Nat) : Bool :=
  s.ptpOn && s.core.flag Reg.FP_STAT_LINK p && (!s.isMacsec p || s.core.flag Reg.MS_STAT_SECURED p)

/-- PTP_MESSAGE_RECEIVE (R329). -/
def execPtpMessageReceive (p : Fin 2) (m : PtpIn) (s : State) : Answer :=
  .next <| s.upNt <|
    if !s.ptpHears p then s
    else match m with
      | .sync t1 age => s.takeSync p t1 age
      | .delayResp t4 => s.takeDelay p t4
      | .peerResp t2 t3 age => s.takePeer p t2 t3 age
      | .announce a b utc => s.takeAnnounce a b utc

/-- The clock class a grandmaster announces (R330): none the spec states while it acquires. Log entry 80 (PRESUMED, unsafe).
-/
def State.clockClass (s : State) : Nat × State :=
  match s.core.fget Reg.NT_STAT_STATE with
  | 2 => (s.cfg.time.lockedClass, s)
  | 3 => (7, s)
  | 0 => (248, s)
  | _ =>
    let f := s.core.takeFree
    (f.1.toNat % 256, { s with core := f.2 })

/-- PTP_MESSAGE_SEND (R330, R340): a fenced unit's ports send nothing (R227). -/
def execPtpMessageSend (p : Fin 2) (s : State) : Answer :=
  .next <| s.upNt <|
    if !(s.ptpOn && s.core.flag Reg.FP_STAT_LINK p) || s.core.flag Reg.PTR_STAT_FENCED then s
    else
      let gm := s.grandmaster
      let c := if gm then (some s.clockClass.1, s.clockClass.2) else (none, s)
      let s := c.2
      let own (x : BitVec 8) : Option (BitVec 8) := if gm then some x else none
      let t := s.cfg.time
      let o : PtpOut := { port := p, master := s.core.fget (portRow p) == 6, clockClass := c.1, utc := s.utcOffset
                          priority1 := own t.priority1, priority2 := own t.priority2, accuracy := own t.clockAccuracy
                          leap59 := gm && s.core.flag Reg.NT_UTC_LEAP59, leap61 := gm && s.core.flag Reg.NT_UTC_LEAP61 }
      { s with nt := { s.nt with sent := o :: s.nt.sent } }.enqueue p .ptp

/-- HOLDOVER_ENTRY (R335): no valid measurement for 4 intervals, or no PPS for 3 s; a grandmaster on its own oscillator takes
none. -/
def execHoldoverEntry (s : State) : Answer :=
  .next <| s.upNt <|
    if s.grandmaster && !s.core.flag Reg.NT_PPS_CFG_IN_EN then s
    else if s.core.fget Reg.NT_STAT_SLAVE = 3 then s.loseSlave
    else s.enterHoldover

/-! ### PPS (R338, R339) -/

/-- An instant in 2^-16 ns against the nearest whole second. -/
def secondOffset (t : Int) : Int :=
  let u : Int := 1000000000 * 65536
  let r := t % u
  if u ≤ 2 * r then r - u else r

/-- PPS_IN_EDGE (R338). -/
def execPpsInEdge (s : State) : Answer :=
  .next <| s.upNt <|
    if s.plat.por || s.plat.rstLow then s
    else
      let x := secondOffset s.nt16
      let s := s.onCore (·.sput Reg.NT_PPS_IN_OFS_NS (x / 65536))
      if !(s.grandmaster && s.core.flag Reg.NT_PPS_CFG_IN_EN) then s
      else (s.onCore (·.fput Reg.NT_STAT_SLAVE 3)).servoMeasure x 0 (decide (400000000 * 65536 < x.natAbs))

/-- PPS_OUT_EDGE (R339): the land rises, and falls again when its width has passed. Log entry 82 (DESIGN CHOICE, unsafe). -/
def execPpsOutEdge (s : State) : Answer :=
  .next <| s.upNt <|
    if s.core.fget Reg.NT_PPS_CFG_OUT_MODE = 0 then s
    else s.onCore fun k => (k.drive .ppsOut true).drive .ppsOut false

/-- C and NT captured at one clock (R328): both values are in their registers when the command ends. Log entry 82 (DESIGN
CHOICE, unsafe). -/
def State.capture (s : State) : State :=
  s.onCore fun k =>
    let ns := bitsOf 64 s.ntNs
    let k := k.putPair Reg.NT_CAP_CNT_LO_C_LO Reg.NT_CAP_CNT_HI_C_HI k.c
    let k := k.putPair Reg.NT_CAP_NS_LO_NS_LO Reg.NT_CAP_NS_HI_NS_HI ns
    (k.fput Reg.NT_CAP_STAT_GEN s.nt.map.gen).setFlag Reg.NT_CAP_STAT_NOT_READY false

/-- NT_CAPTURE (R328). -/
def execNtCapture (s : State) : Answer := .next <| s.upNt s.capture

/-! ### The backup domain's count (R340, R342) -/

/-- A trim within ±200 ppm (R345). -/
def clampTrim (n : Int) : Int := if n < -3355 then -3355 else if 3355 < n then 3355 else n

/-- The trim the last 16 comparisons ask for; the one in use while there are none (R342). Log entry 82 (DESIGN CHOICE,
unsafe). -/
def State.neededTrim (s : State) : Int :=
  if s.nt.needs.isEmpty then s.core.sget Reg.BKP_TRIM_TRIM
  else clampTrim (rneDiv s.nt.needs.sum (256 * s.nt.needs.length))

/-- What the comparison before and this one tell of the crystal (R342). Log entry 82 (DESIGN CHOICE, unsafe). -/
def State.learnTrim (s : State) (d : Int) : State :=
  match s.nt.prev with
  | none => s
  | some (t0, d0, trim) =>
    let dt := s.nt16 - t0
    if dt ≤ 0 then s
    else
      let need := trim * 256 - rneDiv ((d - d0) * 2 ^ 32) dt.toNat
      { s with nt := { s.nt with needs := (need :: s.nt.needs).take 16 } }

/-- RTC_COMPARE (R342): a large difference is a step of B, a smaller one is trimmed away at 100 ppm. Log entry 82 (DESIGN
CHOICE, unsafe). -/
def execRtcCompare (s : State) : Answer :=
  .next <| s.upNt <|
    if s.core.fget Reg.NT_STAT_STATE ≠ 2 then s
    else
      let d := s.backup16 - s.nt16
      let us := rneDiv d 65536000
      let sat := if us < -(2 ^ 31) then -(2 ^ 31) else if 2 ^ 31 - 1 < us then 2 ^ 31 - 1 else us
      let s := s.onCore (·.sput Reg.NT_RTC_DIFF_US sat)
      if s.core.fget Reg.NT_RTC_RTC_STEP_MS * 65536000000 ≤ d.natAbs then
        let u : Int := 1000000000 * 65536
        let t := s.nt16 - (s.utcOffset + 946684800) * u
        let b := t / u
        if 0 ≤ b ∧ b ≤ rangeMax then s.stepB b.toNat (t % u / 1000000000).toNat false else s
      else
        let s := s.learnTrim d
        let f := s.neededTrim
        let n := if d.natAbs ≥ 100000 * 65536 then clampTrim (if 0 < d then f - 1677 else f + 1677) else f
        let s := s.onCore (·.sput Reg.BKP_TRIM_TRIM n)
        { s with nt := { s.nt with prev := some (s.nt16, d, n) } }

/-- LEAP_SECOND (R340): B steps by −1 s at an inserted second, by +1 s at a deleted one. Log entry 82 (DESIGN CHOICE, unsafe).
-/
def execLeapSecond (insert : Bool) (s : State) : Answer :=
  .next <| s.upNt <|
    let b := s.core.secB
    s.stepB (if insert then b - 1 else min (b + 1) rangeMax) (s.core.fget Reg.BKP_FRAC_FRAC) false

end Sys2Proof.Machine
end

