-- ==== Sys2Proof/Machine/Loop.lean ====
section
/-! DEFINITION. The float engines: one sample of a loop slot, its supervision, its fall-backs and faults, and the trace
units (R125 to R157). -/

namespace Sys2Proof.Machine

/-- Element of a vector of words; 0 beyond it. -/
def vat (v : List Word) (i : Nat) : Word := v.getD i 0

/-- Row of a matrix. -/
def mrow (m : List (List Word)) (i : Nat) : List Word := m.getD i []

/-- Accumulate a row over a vector by fused multiply-add, columns ascending (R128). -/
def accum (acc : Word) (row v : List Word) : Word := (row.zip v).foldl (fun a p => F32.fma p.1 p.2 a) acc

/-- A cell's VALUE as binary32 (R132). -/
def asFloat (k : Kind) (v : Word) : Word :=
  match k with
  | .int32 => F32.ofInt v.toInt
  | .uint32 => F32.ofInt v.toNat
  | _ => v

/-- An operand a sample has read. -/
structure Operand where
  value : Word := 0
  epoch : Nat := 0
  /-- Its check holds and its QUAL is neither BAD nor reserved. -/
  sound : Bool := false
  uncertain : Bool := false
  raw : Word := 0
  deriving DecidableEq, Repr, Inhabited

/-- Read and verify one operand of a slot on engine `f` (R132); the freshness epoch is that of R142. -/
def State.loopRead (s : State) (f : Nat) (a : Nat) : Operand × State :=
  match s.readCell a 1 with
  | (some (c, true), s) =>
    let q := c.qual.toNat
    ({ value := asFloat (kindOf c.kind) c.value, raw := c.value, sound := !Qual.bad q, uncertain := Qual.uncertain q
       epoch := if a < 0x1000 then c.epoch.toNat else s.xch.fresh.atD a 0 }, s)
  | (some (_, false), s) => ({}, s.onCore (·.bump Reg.FLT_CHK_RD_COUNT f))
  | (none, s) => ({}, s)

/-- Read a list of operands in order. -/
def State.loopReads (s : State) (f : Nat) : List Nat → List Operand × State
  | [] => ([], s)
  | a :: as =>
    let (x, s) := s.loopRead f a
    let (xs, s) := State.loopReads s f as
    (x :: xs, s)

/-- The mode a slot runs in at this sample (R132, R135). Log entry 24 (DESIGN CHOICE, unsafe). -/
def State.loopMode (s : State) (f : Nat) (l : Loop) : Nat × State :=
  match l.desc.modeCell with
  | none => (if l.desc.cascade then 2 else 1, s)
  | some a =>
    let (x, s) := s.loopRead f a
    let m := if x.sound && x.raw.toNat ≤ 2 then x.raw.toNat else l.mode
    (if m = 2 ∧ !l.desc.cascade then 1 else m, s)

/-- Advance the two frozen tests by one sample (R142). -/
def stillsStep (t : Stills) (x : Operand) : Stills :=
  { epoch := x.epoch, value := x.raw, seen := true
    still := if t.seen && t.epoch == x.epoch then t.still + 1 else 0
    same := if t.seen && t.value == x.raw then t.same + 1 else 0 }

/-- A frozen test is met (R142). -/
def frozenNow (d : LoopDesc) (t : Stills) : Bool :=
  (d.frozenN > 0 && t.still ≥ d.frozenN) || (d.stuckN > 0 && t.same ≥ d.stuckN)

/-- A measurement is usable apart from freezing (R132). -/
def usableNow (d : LoopDesc) (x : Operand) : Bool :=
  x.sound && (!x.uncertain || d.acceptUnc) && F32.isFinite x.value

/-- One measurement's supervision at a sample: the new watch, whether Y_CELL and whether Y_ALT serve, and whether the
measurement has just rejoined (R142 to R145). -/
def watchStep (d : LoopDesc) (w : Watch) (x : Operand) (alt : Option Operand) : Watch × Bool × Bool × Bool :=
  let p := stillsStep w.p x
  let good := usableNow d x && !frozenNow d p
  let a := match alt with
    | some y => if w.switched then stillsStep w.a y else w.a
    | none => w.a
  let altGood := match alt with
    | some y => usableNow d y && !(w.switched && frozenNow d a)
    | none => false
  let run := if good then w.usable + 1 else 0
  let back := w.failed && run ≥ d.rejoinN
  ({ w with p := p, a := a, usable := if w.failed then run else 0
            failed := if w.failed then !back else !good
            switched := w.switched && !back }, good, altGood, back)

/-- The slot whose cascade this slot is the outer loop of. -/
def State.innerOf (s : State) (f slot : Nat) : Option Loop :=
  ((s.flt.slots.find? fun p =>
    p.1 / 128 == f && p.2.desc.cascade && p.2.desc.outer.val == slot && p.2.desc.valid)).map (·.2)

/-- One reference at a sample (R132, R138, R139): the new r_eff, what is still followed, and whether it is held. Log entry 125
(DESIGN CHOICE, unsafe). -/
def refStep (d : LoopDesc) (ts : Nat) (r : Word) (first moved : Bool) (fol : Option (Option Nat)) (x : Operand) :
    Word × Option (Option Nat) × Bool :=
  let ok := x.sound && F32.isFinite x.value
  let fol := if moved && !first then some (if F32.isZero d.refSlew then some x.epoch else none) else fol
  if !ok then (r, fol, true)
  else if first then (x.value, none, false)
  else match fol with
    | none => (x.value, none, false)
    | some none =>
      let r' := toward r x.value (slewStep d.refSlew ts)
      (r', if r' = x.value then none else some none, false)
    | some (some e) => if newer (ep32 x.epoch) (ep32 e) then (x.value, none, false) else (r, fol, false)

/-- Rate limit, then clamp (R140); the flag tells that one of them acted. -/
def limit (d : LoopDesc) (ts i : Nat) (prev u : Word) : Word × Bool :=
  let rate := vat d.rate i
  let u1 := if F32.isZero rate then u else
    let dd := slewStep rate ts
    let diff := (F32.sub u prev).1
    if F32.lt dd (F32.abs diff) then (if F32.sign diff then (F32.sub prev dd).1 else (F32.add prev dd).1) else u
  let u2 := if F32.lt u1 (vat d.uMin i) then vat d.uMin i else if F32.lt (vat d.uMax i) u1 then vat d.uMax i else u1
  (u2, u1 != u || u2 != u1)

/-- Clocks of a sample (R134). -/
def sampleClocks (l : Loop) : Nat :=
  let d := l.desc
  let up (k : Nat) := (k + 15) / 16
  40 + 2 * (d.m + d.p + d.q) + up (d.m * (d.n + d.q)) + up (d.p * d.n) + up (d.n * (d.n + d.m + d.p)) + 3 * d.m +
    ((Loop.reads l).filter (· ≥ 0x1000)).length

/-- An out-of-service float engine (R149, R86). -/
def State.fltOut (s : State) (f : Fin 4) : State :=
  let mine := s.flt.slots.filter fun p => p.1 / 128 == f.val
  let s := s.onCore fun k =>
    ((k.setFlag Reg.FLT_STAT_IN_SERVICE false f).fput Reg.FLT_STAT_STATE 3 f).setBit Reg.FLT_INSVC_ENGINES f false
  let s : State := mine.foldl (fun (s : State) p => s.markCells p.2.desc.uCell Qual.lastUsable) s
  let s := { s with flt := { s.flt with stages := s.flt.stages.map fun (p : Nat × Stage) =>
    if p.1 / 128 == f.val && p.2 == Stage.due then (p.1, Stage.discarded) else p } }
  let s := if mine.any (·.2.desc.guarded) then s.trip 4 f else s
  s.selfFault

/-- What a float engine reports of a slot (R141, R149). -/
def State.fltReport (s : State) (f : Fin 4) (slot : Fin 128) (cause : Nat) : State :=
  ((s.evidence (8 + f.val)).onCore fun k => (k.fput Reg.FLT_FAULT_CAUSE cause f).fput Reg.FLT_FAULT_SLOT slot f).record 0x0301 0
    (le f 1 ++ le slot 1 ++ le cause 1 ++ le s.epoch 8)

/-- The slot is finished with in this tick. -/
def State.loopStage (s : State) (f : Fin 4) (slot : Fin 128) (st : Stage) : State :=
  { s with flt := { s.flt with stages := s.flt.stages.put (f.val * 128 + slot.val) st } }

/-- A numeric fault (R141), or a descriptor the ECC cannot correct (R149). -/
def State.numericFault (s : State) (f : Fin 4) (slot : Fin 128) (l : Loop) (cause : Nat) : State :=
  let i := f.val * 128 + slot.val
  let s := { s with flt := { s.flt with slots := s.flt.slots.put i { l with faultEpoch := s.epoch } } }
  ((s.onCore fun k => (k.bump Reg.FLT_NUM_CNT_COUNT f).fput Reg.LP_STAT_STATE 3 i).fltReport f slot cause).loopStage f slot
    .done

/-- A lane mismatch of a sample (R149). -/
def State.fltMismatch (s : State) (f : Fin 4) (slot : Fin 128) (l : Loop) : State :=
  let s := (s.markCells l.desc.uCell Qual.lastUsable).onCore fun k => (k.bump Reg.FLT_MISM_TOTAL f).bump Reg.FLT_MISM_CONSEC f
  let s := (s.fltReport f slot 8).loopStage f slot .discarded
  if s.core.fget Reg.FLT_MISM_CONSEC f = 3 then s.fltOut f else s

/-! ### The trace units (R153, R154) -/

/-- The latest committed value of a node (R153). Log entry 26 (DESIGN CHOICE, unsafe). -/
def State.traceNode (s : State) (f : Nat) (slot node idx : Nat) : Word :=
  match s.loopAt f slot with
  | none => 0
  | some l => match node with
    | 0 => vat l.xhat idx | 1 => vat l.e idx | 2 => vat l.ucmd idx | 3 => vat l.uappl idx | 4 => vat l.reff idx
    | 5 => vat l.y idx | 6 => vat l.bias idx | _ => 0

/-- A row meets the trigger (R153, R154). Log entries 26 (DESIGN CHOICE, unsafe); 126 (DESIGN CHOICE, unsafe). -/
def triggerMet (t : TraceSetup) (prev : Option (List Word)) (row : List Word) : Bool :=
  let v := vat row t.trigCh.val
  let rise := prev.any fun p => F32.lt (vat p t.trigCh.val) t.level && F32.le t.level v
  let fall := prev.any fun p => F32.lt t.level (vat p t.trigCh.val) && F32.le v t.level
  match t.trigMode.val with
  | 0 => true | 1 => rise | 2 => fall | 3 => rise || fall | 4 => F32.le t.level (F32.abs v) | _ => false

/-- A committed sample of TBASE records one row (R154). Log entries 26 (DESIGN CHOICE, unsafe); 127 (DESIGN CHOICE, unsafe).
-/
def State.traceRow (s : State) (f : Fin 4) (slot : Fin 128) : State :=
  let tr := s.flt.traces.atD f {}
  let st := s.core.fget Reg.TRC_STAT_STATE f
  match tr.setup with
  | none => s
  | some t =>
    if t.tbase != slot || st = 0 || st = 4 then s
    else
      let row := t.ch.map fun c => if c.1 then s.traceNode f c.2.1 c.2.2.1 c.2.2.2 else 0
      let hit := st == 2 && triggerMet t (tr.rows.head?.map (·.1)) row
      let rows := (row, s.epoch % 2 ^ 32) :: (if st = 2 then tr.rows.take t.pre else tr.rows)
      let after := if hit then 1 else if st = 3 then tr.after + 1 else 0
      let st' := if st = 1 then (if rows.length ≥ t.pre then 2 else 1)
        else if after ≥ 4096 - t.pre ∧ after > 0 then 4 else if hit then 3 else st
      let s := { s with flt := { s.flt with traces := s.flt.traces.put f { tr with rows := rows, after := after } } }
      s.onCore fun k =>
        let k := (k.fput Reg.TRC_STAT_STATE st' f).fput Reg.TRC_STAT_ROWS (min rows.length 4096) f
        if hit then k.putPair Reg.TRC_TRIG_LO_EPOCH_LO Reg.TRC_TRIG_HI_EPOCH_HI s.epoch f else k

/-! ### One sample (R127) -/

/-- What supervision and the modes decide before the law runs. -/
structure Plan where
  mode : Nat
  /-- 0 normal, 1 predicting, 2 HOLD, 3 FEATHER, 4 switched (LP_STAT.FB). -/
  fb : Nat
  age : Nat
  watch : List Watch
  y : List Word
  g : List Bool
  reff : List Word
  follow : List (Option (Option Nat))
  held : Bool
  man : List (Option Word)
  /-- The outer slot tracks the inner r_eff (R138). -/
  track : Option (List Word)
  closed : Bool
  innerClosed : Bool
  transfer : Bool
  deriving DecidableEq, Repr, Inhabited

/-- Read every cell the slot uses and supervise it (R127, R132 to R145). Log entries 24 (DESIGN CHOICE, unsafe); 128 (DESIGN
CHOICE, unsafe). -/
def State.plan (s : State) (f : Fin 4) (slot : Fin 128) (l : Loop) : Plan × State :=
  let d := l.desc
  let ts := d.periodK * s.period
  let (mode, s) := s.loopMode f l
  let (ys, s) := s.loopReads f d.yCell
  let (as, s) := s.loopReads f (d.yAlt.map fun a => a.getD 0x7FFF)
  let ws := (List.range d.p).map fun j =>
    watchStep d (l.watch.getD j {}) (ys.getD j {}) ((d.yAlt.getD j none).map fun _ => as.getD j {})
  let failed := ws.map (·.1.failed)
  let anyFailed := failed.any id
  let horizon := anyFailed && l.fb == 0 &&
    s.core.fget Reg.LP_FB_AGE (f.val * 128 + slot.val) ≥ d.horizon
  let inFb := anyFailed && (l.fb != 0 || horizon)
  -- SWITCH: each failed measurement with a usable Y_ALT is read from it (R144)
  let ws2 := ws.zipIdx.map fun x =>
    let w := x.1
    if inFb && d.fallback == 2 && w.1.failed && w.2.2.1 then
      ({ w.1 with switched := true, a := if w.1.switched then w.1.a else stillsStep {} (as.getD x.2 {}) }, w.2) else w
  let allAlt := ws2.all fun w => !w.1.failed || (w.1.switched && w.2.2.1)
  let fb := if !anyFailed then 0
    else if !inFb then 1
    else if d.fallback == 2 then (if allAlt then 4 else 2)
    else if d.fallback == 1 then 3 else 2
  let g := ws2.map fun w => if w.1.failed then w.1.switched && w.2.2.1 else true
  let y := (List.range d.p).map fun j =>
    if (ws2.getD j default).1.switched then (as.getD j {}).value else (ys.getD j {}).value
  let rejoined := ws2.any fun w => w.2.2.2
  let age0 := s.core.fget Reg.LP_FB_AGE (f.val * 128 + slot.val)
  let age := if !anyFailed then 0 else if g.all id then age0 else min (age0 + 1) 0xFFFF
  -- references
  let outer := if d.cascade then s.loopAt f d.outer.val else none
  let closed := d.cascade && mode == 2
  let om := (outer.map (·.desc.m)).getD 0
  let srcs := (List.range d.q).map fun k =>
    if closed && k < om then vatNat ((outer.map (·.desc.uCell)).getD []) k else vatNat d.rCell k
  let (rs, s) := s.loopReads f srcs
  let refs := (List.range d.q).map fun k =>
    refStep d ts (vat l.reff k) (!l.refRead) (k < om && closed != l.closed) (l.follow.getD k none) (rs.getD k {})
  let (ms, s) := s.loopReads f (d.manCell.map fun a => a.getD 0x7FFF)
  let man := (List.range d.m).map fun i =>
    match d.manCell.getD i none with
    | none => none
    | some _ => let x := ms.getD i {}; if x.sound && F32.isFinite x.value then some x.value else none
  -- cascade seen from the outer slot
  let inner := s.innerOf f slot
  let (imode, s) := match inner with
    | some li => s.loopMode f li
    | none => (1, s)
  let innerClosed := inner.isSome && imode == 2
  let irs := match inner with
    | some li => if li.refRead then [] else (s.loopReads f li.desc.rCell).1
    | none => []
  let track := match inner with
    | some li => if imode == 2 then none
      else some ((List.range li.desc.q).map fun k => (refStep li.desc 0 (vat li.reff k) true false none (irs.getD k {})).1)
    | none => none
  let forcedNow := d.uCell.map s.isForced
  let unforced := (l.forced.zip forcedNow).any fun p => p.1 && !p.2
  let transfer := l.transfer || (l.mode == 0 && mode != 0) || unforced || (rejoined && l.fb ≥ 2) ||
    (fb == 4 && (ws2.zip l.watch).any (fun p => p.1.1.switched && !p.2.switched)) || (l.fb == 2 && fb == 4) ||
    (innerClosed && !l.innerClosed)
  ({ mode := mode, fb := fb, age := age, watch := ws2.map (·.1), y := y, g := g, reff := refs.map (·.1)
     follow := refs.map (·.2.1), held := refs.any (·.2.2), man := man, track := track
     closed := closed, innerClosed := innerClosed, transfer := transfer }, s)
where
  /-- Element of a list of operands. -/
  vatNat (v : List Nat) (i : Nat) : Nat := v.getD i 0x7FFF

/-- What stands at an output in place of a computed value: the VALUE of a force on its cell, or u_prev when that is not finite
(R140). -/
def State.forcedOr (s : State) (cell : Nat) (prev u : Word) : Word :=
  match s.cmd.forces.at? cell with
  | some fo => if F32.isFinite fo.value then fo.value else prev
  | none => u

/-- What the law computes from a plan. -/
structure Law where
  uauto : List Word
  bias : List Word
  ucmd : List Word
  uappl : List Word
  atLimit : Bool
  e : List Word
  x : List Word
  /-- u_auto + bias, e and the new estimate are all finite (R141). -/
  finite : Bool
  deriving DecidableEq, Repr, Inhabited

/-- The law of R127 in the order of R128. `applied` replaces the applied input (a stopped guarded slot, R147). -/
def State.law (s : State) (l : Loop) (p : Plan) (applied : Option (List Word)) : Law :=
  let d := l.desc
  let ts := d.periodK * s.period
  let is := List.range d.m
  let uauto := is.map fun i => accum (accum 0 (mrow d.nMat i) p.reff) ((mrow d.k i).map F32.neg) l.xhat
  let bias := if p.transfer then is.map fun i => (F32.sub (vat l.uprev i) (vat uauto i)).1 else l.bias
  let sum := is.map fun i => (F32.add (vat uauto i) (vat bias i)).1
  let ucmd := is.map fun i =>
    match p.track with
    | some r => vat r i
    | none =>
      if p.mode == 0 then ((p.man.getD i none).getD (vat l.uprev i))
      else if p.transfer || p.fb == 2 then vat l.uprev i
      else if p.fb == 3 then toward (vat l.uprev i) (vat d.safe i)
        (if F32.isZero (vat d.slew i) then F32.inf else slewStep (vat d.slew i) ts)
      else vat sum i
  let lim := is.map fun i => limit d ts i (vat l.uprev i) (vat ucmd i)
  let uappl := match applied with
    | some u => u
    | none => is.map fun i => s.forcedOr (d.uCell.getD i 0x7FFF) (vat l.uprev i) (lim.getD i default).1
  let e := (List.range d.p).map fun j =>
    if p.g.getD j false then (F32.sub (vat p.y j) (accum 0 (mrow d.c j) l.xhat)).1 else 0
  let x := (List.range d.n).map fun i =>
    accum (accum (accum 0 (mrow d.a i) l.xhat) (mrow d.b i) uappl) (mrow d.l i) e
  { uauto := uauto, bias := bias, ucmd := ucmd, uappl := uappl, atLimit := lim.any (·.2), e := e, x := x
    finite := sum.all F32.isFinite && e.all F32.isFinite && x.all F32.isFinite }

/-- Show a slot's supervision in its registers (R157). -/
def State.showLoop (s : State) (i : Nat) (p : Plan) (atLimit : Bool) : State :=
  let mask (bs : List Bool) : Nat := (bs.zipIdx.map fun x => if x.1 then 2 ^ x.2 else 0).sum
  s.onCore fun k =>
    let k := ((k.fput Reg.LP_STAT_MODE p.mode i).fput Reg.LP_STAT_FB p.fb i).setFlag Reg.LP_STAT_REF_HELD p.held i
    let k := (k.setFlag Reg.LP_STAT_AT_LIMIT atLimit i).fput Reg.LP_FB_AGE p.age i
    (k.fput Reg.LP_FB_LOST (mask (p.watch.map (·.failed))) i).fput Reg.LP_FB_SWITCHED (mask (p.watch.map (·.switched))) i

/-- Busy clocks of the engine (R134, R157). -/
def State.loopClocks (s : State) (f : Fin 4) (l : Loop) : State :=
  { s with flt := { s.flt with clocks := s.flt.clocks.alter f 0 (· + sampleClocks l) } }

/-- A committed sample's outputs: VALUE u_appl, SRC float, QUAL by the loop's state (R131, R143, R144). -/
def State.loopOutputs (s : State) (d : LoopDesc) (u : List Word) (conds : List Nat) : State :=
  (d.uCell.zip u).foldl (fun (s : State) p => s.writeCell p.1 p.2 conds 0x05 s.epoch) s

/-- The commit of a sample's outputs, as the pair's digest covers it (R131, R233). -/
def State.commitOutputs (s : State) (f : Fin 4) (slot : Fin 128) (d : LoopDesc) (u : List Word) (conds : List Nat) : State :=
  let entries (s : State) : List Byte :=
    d.uCell.flatMap fun a => entryBytes 0 a ((s.img.working.at? a).map Cell.image |>.getD [])
  let t := s.loopOutputs d u conds
  t.pairCommit (8 + f.val) slot (entries s) (entries t)

/-- What supervision leaves after an executed sample: the slot's registers, the fall-backs it entered and the rejoins (R144,
R145, R157). -/
def State.superviseDone (s : State) (f : Fin 4) (slot : Fin 128) (l : Loop) (p : Plan) (atLimit : Bool) : State :=
  let i := f.val * 128 + slot.val
  let entered := l.fb == 0 && p.fb ≥ 2
  let rejoined := l.watch.any (·.failed) && !p.watch.any (·.failed)
  let s := (s.showLoop i p atLimit).onCore fun k =>
    let k := k.fput Reg.FLT_MISM_CONSEC 0 f
    let k := if entered then k.bump Reg.LP_FALLBACK_ENTRIES i else k
    if rejoined then k.bump Reg.LP_FALLBACK_REJOINS i else k
  if entered then s.record 0x0303 0
    (le f 1 ++ le slot 1 ++ le l.desc.fallback 1 ++ le (s.core.fget Reg.LP_FB_LOST i) 1 ++ le s.epoch 8) else s

/-- The slot after an executed sample, `bias` its transfer bias and `again` an open transfer event. -/
def State.sampled (s : State) (l : Loop) (p : Plan) (w : Law) (bias : List Word) (again : Bool) : Loop :=
  { l with xhat := w.x, uprev := w.uappl, bias := bias, reff := p.reff, refRead := true, follow := p.follow
           transfer := again, watch := p.watch, mode := p.mode, closed := p.closed, innerClosed := p.innerClosed
           forced := l.desc.uCell.map s.isForced, fb := if p.fb ≥ 2 then p.fb else 0, e := w.e, ucmd := w.ucmd
           uappl := w.uappl, y := p.y }

/-- What stands at the outputs of a stopped slot: the feathered values, or u_prev where such a value is not finite (R140, R147). -/
def State.feathered (s : State) (l : Loop) : List Word :=
  l.desc.uCell.zipIdx.map fun x =>
    let v := ((s.img.working.at? x.1).map (·.value)).getD 0
    if F32.isFinite v then v else vat l.uprev x.2

/-- One executed sample of an ordinary or untripped slot. -/
def State.sampleRun (s : State) (f : Fin 4) (slot : Fin 128) (l : Loop) (health : Health) : State :=
  let (p, s) := s.plan f slot l
  let w := s.law l p none
  if health = .mismatch then s.fltMismatch f slot l
  else if !w.finite then s.numericFault f slot l 0x10
  else
    let conds := if p.track.isSome || p.mode == 0 then [] else match p.fb with
      | 1 => [Qual.predicted] | 2 => [Qual.lastUsable] | 3 => [Qual.subst] | _ => []
    let s := s.commitOutputs f slot l.desc w.uappl conds
    let l' := s.sampled l p w (w.bias.map fun b => (F32.mul l.desc.decay b).1) false
    let s := { s with flt := { s.flt with slots := s.flt.slots.put (f.val * 128 + slot.val) l' } }
    ((s.superviseDone f slot l p w.atLimit).loopStage f slot .done).traceRow f slot

/-- A due sample of a faulted slot: HOLD or FEATHER, the observer not running (R141, R144). Log entry 24 (DESIGN CHOICE,
unsafe). -/
def State.sampleFaulted (s : State) (f : Fin 4) (slot : Fin 128) (l : Loop) (health : Health) : State :=
  let d := l.desc
  let i := f.val * 128 + slot.val
  let ts := d.periodK * s.period
  let feather := d.fallback == 1
  let ucmd := (List.range d.m).map fun j =>
    if feather then toward (vat l.uprev j) (vat d.safe j)
      (if F32.isZero (vat d.slew j) then F32.inf else slewStep (vat d.slew j) ts)
    else vat l.uprev j
  let lim := (List.range d.m).map fun j => limit d ts j (vat l.uprev j) (vat ucmd j)
  let u := (List.range d.m).map fun j => s.forcedOr (d.uCell.getD j 0x7FFF) (vat l.uprev j) (lim.getD j default).1
  if health = .mismatch then s.fltMismatch f slot l
  else
    let s := s.commitOutputs f slot d u [if feather then Qual.subst else Qual.lastUsable]
    let l' := { l with uprev := u, ucmd := ucmd, uappl := u, forced := d.uCell.map s.isForced }
    let s := { s with flt := { s.flt with slots := s.flt.slots.put i l' } }.onCore fun k =>
      ((k.fput Reg.LP_STAT_FB (if feather then 3 else 2) i).setFlag Reg.LP_STAT_AT_LIMIT (lim.any (·.2)) i).fput
        Reg.FLT_MISM_CONSEC 0 f
    (s.loopStage f slot .done).traceRow f slot

/-- A due sample of a guarded slot while the bead stands tripped: its observer runs on the feathered values, or on u_prev where
such a value is not finite; no control output is computed, and no cell is written (R140, R147). -/
def State.sampleStopped (s : State) (f : Fin 4) (slot : Fin 128) (l : Loop) (health : Health) : State :=
  let (p, s) := s.plan f slot l
  let w := s.law l p (some (s.feathered l))
  if health = .mismatch then s.fltMismatch f slot l
  else if !(w.e.all F32.isFinite && w.x.all F32.isFinite) then s.numericFault f slot l 0x10
  else
    let l' := { s.sampled l p w l.bias l.transfer with ucmd := l.ucmd }
    let s := { s with flt := { s.flt with slots := s.flt.slots.put (f.val * 128 + slot.val) l' } }
    ((s.superviseDone f slot l p false).loopStage f slot .done).traceRow f slot

/-- LOOP_SAMPLE (R127): nothing unless the slot is the one its engine would run next. -/
def State.loopSample (s : State) (f : Fin 4) (slot : Fin 128) (health : Health) : State :=
  let i := f.val * 128 + slot.val
  match s.loopAt f slot with
  | none => s
  | some l =>
    if !(s.trw.scanning && s.core.flag Reg.FLT_STAT_IN_SERVICE f && s.nextLoop f == some slot.val) then s
    else
      let s := (s.loopClocks f l).onCore (·.fput Reg.FLT_STAT_SLOT slot f)
      let st := s.core.fget Reg.LP_STAT_STATE i
      let s := if health = .eccError || (s.flt.descBad.contains i && st != 3) then s.numericFault f slot l 0x11
        else if l.desc.guarded && s.core.flag Reg.SBD_STAT_TRIPPED then
          if st = 3 then s.loopStage f slot .done else s.sampleStopped f slot l health
        else if st = 3 then s.sampleFaulted f slot l health
        else s.sampleRun f slot l health
      s.itemDone

/-- What a loop sample may change. -/
def State.upFlt (s t : State) : State :=
  { s with core := s.core.after t.core, img := t.img, seq := t.seq, trw := t.trw, flt := t.flt, cmd := t.cmd, lane := t.lane
           pair := t.pair, xch := t.xch, svc := t.svc, hq := t.hq, net := t.net, can := t.can, plat := runPlat s.plat t.plat, bg := t.bg }

/-- LOOP_SAMPLE (R127). -/
def execLoopSample (f : Fin 4) (slot : Fin 128) (health : Health) (s : State) : Answer :=
  .next <| s.upFlt <| s.loopSample f slot health

end Sys2Proof.Machine
end

