-- ==== Sys2Proof/Machine/Lane.lean ====
section
/-! DEFINITION. Lane bursts: reads and writes of the sweeps, identity, configuration, status and echo bursts, repeats and
their failures, and the standby's snooping and holds (R199 to R220). -/

namespace Sys2Proof

/-- The carrier's answer to STAT_RD, word 0: bit 0 tells that an output is in its safe state (R220). -/
def Carrier.statusWord (c : Carrier) : LWord := c.status ||| (if c.enabled && !c.applied.isEmpty then 0#16 else 1#16)

/-- An identity word; a word the carrier does not drive reads 0xFFFF (R197, R211). -/
def identWord (ws : List LWord) (i : Nat) : LWord := ws.getD i 0xFFFF#16

/-- The kind of a channel by a carrier's identity words (R211). -/
def identKind (ws : List LWord) (ch : Nat) : Nat := (identWord ws (8 + ch / 4)).toNat / 2 ^ (4 * (ch % 4)) % 16

/-- A carrier reports a write failure and sees a CRC error (R220). -/
def Carrier.writeFails (c : Carrier) (n : Nat) : Carrier :=
  if n = 0 then c else { c with crcFails := c.crcFails + BitVec.ofNat 16 n, status := c.status ||| 0x10#16 }

/-- Write data words into the pending buffer; a held word leaves its channel as it is (R204). -/
def Carrier.takeWords (c : Carrier) (channel : Nat) (held : List Nat) (ws : List LWord) : Carrier :=
  { c with waiting := ws.zipIdx.foldl (fun m p => if held.contains p.2 then m else m.put (channel + p.2) p.1) c.waiting }

/-- Where the words a kind of burst addresses end (R205): channel 127 or the carrier's last channel, or the kind's own last
word. -/
def Carrier.lastWord (c : Carrier) (kind : Nat) : Nat :=
  match kind with
  | 2 => 39 | 3 => 3 | 4 => 1 | 6 => 3
  | _ => min 127 ((identWord c.ident 5).toNat / 256)

end Sys2Proof

namespace Sys2Proof.Machine

/-- What a lane burst may change. -/
def State.upLane (s t : State) : State :=
  { s with core := s.core.after t.core, img := t.img, seq := t.seq, trw := t.trw, met := t.met, lane := t.lane, pair := t.pair
           xch := t.xch, svc := t.svc, hq := t.hq, net := t.net, can := t.can, bg := t.bg, cmd := t.cmd }

/-- The unit drives the lane, or follows it as a standby (R196, R210). -/
def State.onLane (s : State) : Bool := s.core.flag Reg.LANE_STAT_MASTER || s.core.flag Reg.LANE_STAT_SNOOP

/-- A burst runs past the end of what its kind addresses: the carrier refuses and ignores it (R205). -/
def State.pastEnd (s : State) (carrier channel words kind : Nat) : Bool :=
  (s.lane.carriers.at? carrier).any fun c => decide (c.lastWord kind < channel + words - 1)

/-- Attempts of a burst that fail: all of them where the carrier refuses the burst (R205), as the wire says otherwise. Log
entry 47 (DEDUCED, unsafe). -/
def State.burstFails (s : State) (carrier channel words kind : Nat) (w : Wire) : Nat :=
  let r := s.core.fget Reg.LANE_CFG_RETRY
  if s.pastEnd carrier channel words kind then r + 1 else min w.failures (r + 1)

/-- Repeats are counted (LANE_RETRIES); the cycles they took. Log entry 47 (DEDUCED, unsafe). -/
def State.countRepeats (s : State) (fails : Nat) : State :=
  s.onCore (·.bump Reg.LANE_RETRIES_COUNT 0 (min fails (s.core.fget Reg.LANE_CFG_RETRY)))

/-- The burst has failed (R206): every attempt did, or its repeats were given up at a limit. Log entry 47 (DEDUCED, unsafe).
-/
def State.burstLost (s : State) (fails : Nat) (w : Wire) : Bool :=
  decide (fails > s.core.fget Reg.LANE_CFG_RETRY) || (w.gaveUp && decide (0 < fails))

/-- Lane cycles of a burst with its repeats (R218). -/
def State.burstCycles (s : State) (words fails : Nat) : Nat :=
  (words + 2) * (1 + min fails (s.core.fget Reg.LANE_CFG_RETRY))

/-- A burst has failed after its repeats (R206): counted, and one record per carrier in any 1,024 ticks. Log entry 47
(DEDUCED, unsafe). -/
def State.burstFailed (s : State) (carrier kind : Nat) (write : Bool) : State :=
  let s := s.onCore (·.bump (if write then Reg.LANE_CRC_FAIL_WR else Reg.LANE_CRC_FAIL_RD))
  let n := s.epoch
  if (s.lane.failSeen.at? carrier).all (fun e => n ≥ e + 1024) then
    { s with lane := { s.lane with failSeen := s.lane.failSeen.put carrier n } }.record 0x0501 0
      (le carrier 1 ++ le kind 1 ++ le n 8)
  else s

/-! ### The input sweep (R203, R210, R215) -/

/-- One input word enters one bound cell (R215, R220). Log entry 48 (DESIGN CHOICE, safe). -/
def State.enterCell (s : State) (b : LaneBinding) (chKind : Nat) (prev : Option LWord) (w : LWord) : State :=
  let k := kindOf (s.kindDomain b.cell).1
  let faulty := if s.lane.faulty.contains b.carrier then [Qual.sensor] else []
  let keeps := chKind = 3 ∧ w = 0x8000#16
  let (old, s) := if keeps ∨ k = .counter then
      match s.readCell b.cell 2 with
      | (some (c, true), s) => (c.value, s)
      | (_, s) => let f := s.core.takeFree; (f.1, { s with core := f.2 })
    else (0, s)
  if keeps then s.writeCell b.cell old [Qual.sensor] 0 s.epoch
  else s.writeCell b.cell (laneIn chKind b k old prev w) faulty 0 s.epoch

/-- The words of a DATA_RD enter their cells; the last word of each counter channel becomes its reference (R215). -/
def State.enterWords (s : State) (carrier channel : Nat) (ws : List LWord) : State :=
  ws.zipIdx.foldl (fun (s : State) p =>
    let ch := channel + p.2
    let k := s.channelKind carrier ch
    if outKind k then s
    else
      let i := carrier * 128 + ch
      let prev := s.lane.refs.at? i
      let s : State := (s.bindings carrier ch).foldl (fun (s : State) b => s.enterCell b k prev p.1) s
      if (s.bindings carrier ch).any fun b => kindOf (s.kindDomain b.cell).1 == .counter then
        { s with lane := { s.lane with refs := s.lane.refs.put i p.1 } }
      else s) s

/-- The words a DATA_RD returns: those the carrier latched, or, on a standby, those it snoops (R203, R210). -/
def State.readWords (s : State) (carrier channel words : Nat) (w : Wire) : List LWord :=
  if s.standby then (List.range words).map fun i => w.master.getD i 0xFFFF#16
  else match s.lane.carriers.at? carrier with
    | some c => (List.range words).map fun i => c.latched.atD (channel + i) 0
    | none => List.replicate words 0xFFFF#16

/-- A joining unit snoops the lane (R241). -/
def State.snoopsToJoin (s : State) : Bool :=
  s.standby && s.pairState == 2 && (s.pair.stage == 2 || s.pair.stage == 3) && s.core.flag Reg.LANE_STAT_SNOOP

/-- A joining unit takes the carriers the duty's sweeps address as joined: the duty leaves the others out (R213). Log entry 56
(DESIGN CHOICE, unsafe). -/
def State.snoopCarrier (s : State) (carrier : Nat) : State :=
  let c : Carrier := { silence := s.core.fget Reg.LANE_CFG_SILENCE_MS, enabled := true }
  let known := (s.lane.carriers.at? carrier).isSome
  { s with lane := { s.lane with carriers := if known then s.lane.carriers else s.lane.carriers.put carrier c } }.onCore
    (·.setBit Reg.LANE_PRESENT_CARRIERS carrier true)

/-- A joining unit buffers a lane read it snoops under the epoch it saw begin last (R241). Log entry 52 (DESIGN CHOICE,
unsafe). -/
def State.bufferRead (s : State) (carrier channel words : Nat) (w : Wire) : State :=
  if s.snoopsToJoin then
    let s := s.snoopCarrier carrier
    let read := (carrier, channel, (List.range words).map fun i => w.master.getD i 0xFFFF#16)
    match s.pair.backlog.getLast? with
    | none => s
    | some b => { s with pair := { s.pair with
        backlog := s.pair.backlog.dropLast ++ [{ b with reads := b.reads ++ [read] }] } }
  else s

/-- DATA_RD of the input sweep (R203, R206, R210). Log entries 46 (DESIGN CHOICE, unsafe); 52 (DESIGN CHOICE, unsafe). -/
def State.dataRd (s : State) (carrier : Fin 32) (channel words : Nat) (w : Wire) : State :=
  match s.seq.inLeft with
  | [] => s.bufferRead carrier channel words w
  | b :: rest =>
    if !s.onLane || b.carrier != carrier || b.channel != channel || b.words != words then s
    else
      let fails := s.burstFails carrier channel words 0 w
      let lost := s.burstLost fails w
      let snoops := s.standby
      let bad := if snoops && w.differs then !lost else lost
      let s := (s.countRepeats fails)
      let s := { s with seq := { s.seq with inLeft := rest, inCycles := s.seq.inCycles + s.burstCycles words fails } }
      let cells := (List.range words).flatMap fun i =>
        ((s.bindings carrier (channel + i)).filter fun _ => !outKind (s.channelKind carrier (channel + i))).map (·.cell)
      let s := if bad then (s.markCells cells Qual.comm).burstFailed carrier 0 false
        else
          let ws := s.readWords carrier channel words w
          let s := if s.paired then
              { s with pair := { s.pair with inBytes := s.pair.inBytes ++ ws.flatMap fun x => le x.toNat 2 } }
            else s
          s.enterWords carrier channel ws
      let s := if snoops && w.differs then
          let s := s.evidence 14
          if lost then s else s.outOfStep
        else s
      if rest.isEmpty then s.endInput else s

/-! ### The output sweep (R204, R208, R209) -/

/-- Data cycles in which the standby asserts LN_HOLD_N (R208). -/
def holdCycles (addr : LWord) (own : List (Option LWord)) (w : Wire) : List Nat :=
  (List.range own.length).filter fun i => w.masterAddr != addr || own.getD i none != some (w.master.getD i 0)

/-- A standby compares in this sweep (R208): it holds authority, and was ready at the window start (R233). Log entry 52
(DESIGN CHOICE, unsafe). -/
def State.compares (s : State) : Bool :=
  s.standby && s.core.flag Reg.PTR_STAT_HOLD_AUTH && !s.pair.notReady

/-- The words this unit has for a burst: its channels' words, none for a channel that must not be written now (R25). -/
def State.ownWords (s : State) (carrier channel words : Nat) : List (Option LWord) × State :=
  let (ws, s) := s.laneWords carrier channel words
  (ws.map (·.2), s)

/-- Data cycles whose word is left out, so that the carrier keeps its pending word (R25). -/
def leftOut (own : List (Option LWord)) : List Nat := (List.range own.length).filter fun i => (own.getD i none).isNone

/-- Put the words of a write burst into the carrier (R204); one it refuses it ignores (R205). -/
def State.carrierTakes (s : State) (carrier channel : Nat) (held : List Nat) (ws : List LWord) (fails : Nat) (lost : Bool) :
    State :=
  match s.lane.carriers.at? carrier with
  | none => s
  | some c =>
    let c := if decide (c.lastWord 1 < channel + ws.length - 1) then c else c.writeFails fails
    let c := if lost then c else c.takeWords channel held ws
    { s with lane := { s.lane with carriers := s.lane.carriers.put carrier c } }

/-- What a write burst that has been sent leaves beside the sweep's own progress (R204, R206, R209): its repeats, which for the
last burst of the sweep go out after the swap, and what the carrier takes. -/
def State.burstSent (s : State) (carrier channel : Nat) (held : List Nat) (own : List (Option LWord)) (fails : Nat) (w : Wire) :
    State :=
  let lost := s.burstLost fails w
  let s := s.countRepeats fails
  let wire := if s.standby then (List.range own.length).map fun i => w.master.getD i 0 else own.map (·.getD 0)
  let s := s.carrierTakes carrier channel (if s.standby then held else held ++ leftOut own) wire fails lost
  if lost then s.burstFailed carrier 1 true else s

/-- DATA_WR of the output sweep (R204, R206, R208, R209); the last one ends the sweep, with the swap at its own CRC cycle
(R45, R206). Log entries 46 (DESIGN CHOICE, unsafe); 131 (DESIGN CHOICE, unsafe). -/
def State.dataWr (s : State) (carrier : Fin 32) (channel words : Nat) (w : Wire) : State :=
  match s.seq.outLeft with
  | [] =>
    if s.snoopsToJoin then (s.snoopCarrier carrier).carrierTakes carrier channel w.held (w.master.take words) 0 false else s
  | b :: rest =>
    if !s.onLane || b.carrier != carrier || b.channel != channel || b.words != words then s
    else
      let (own, s) := s.ownWords carrier channel words
      let addr := laneAddr carrier channel 1
      let held := if s.compares then holdCycles addr own w else if s.paired then w.held.filter (· < words) else []
      let fails := s.burstFails carrier channel words 1 w
      let s : State := held.foldl (fun (s : State) i => s.heldWord carrier (channel + i)) s
      let s := if s.paired then
          { s with pair := { s.pair with outBytes := s.pair.outBytes ++ (addr :: own.filterMap id).flatMap fun x => le x.toNat 2 } }
        else s
      let took (n : Nat) (s : State) : State :=
        { s with seq := { s.seq with outLeft := rest, outCycles := s.seq.outCycles + s.burstCycles words n } }
      if rest.isEmpty then ((took 0 s).finishSweep).burstSent carrier channel held own fails w
      else (took fails s).burstSent carrier channel held own fails w

/-! ### Identity and joining (R211 to R214) -/

/-- What a probe finds (R213): 0 absent, 1 mismatched, 2 a match. -/
def State.probeFinds (s : State) (d : CarrierDef) (ws : List LWord) (lost : Bool) : Nat :=
  if lost || identWord ws 0 == 0xFFFF#16 then 0
  else if identWord ws 0 != d.vendor || identWord ws 1 != d.product || !d.kinds.all (fun k => identKind ws k.1 == k.2) ||
      (identWord ws 6).toNat > s.core.fget Reg.LANE_CFG_SILENCE_MS then 1
  else 2

/-- A carrier that answers is known with its identity words. Log entry 51 (DESIGN CHOICE, unsafe). -/
def State.meetCarrier (s : State) (carrier : Nat) (ws : List LWord) : State :=
  { s with lane := { s.lane with carriers := s.lane.carriers.alter carrier {} fun c => { c with ident := ws } } }

/-- The identity read of a carrier (R213): one that does not answer fails in every attempt (R197). Log entry 51 (DESIGN
CHOICE, unsafe). -/
def State.probe (s : State) (carrier : Fin 32) (ans : Option (List LWord)) (w : Wire) : State :=
  let r := s.core.fget Reg.LANE_CFG_RETRY
  let fails := if ans.isNone then r + 1 else min w.failures (r + 1)
  let lost := s.burstLost fails w
  let ws := ans.getD []
  let s := s.countRepeats fails
  let s := if lost then s.burstFailed carrier 2 false else s.meetCarrier carrier ws
  match s.cfg.carriers.find? (·.address == carrier) with
  | none => s
  | some d =>
    let s := s.onCore fun k => (k.setBit Reg.LANE_PRESENT_CARRIERS carrier false).setBit Reg.LANE_MISMATCH_CARRIERS carrier false
    match s.probeFinds d ws lost with
    | 0 => s.markCells (s.laneInputs carrier) Qual.comm
    | 1 =>
      ((s.markCells (s.laneInputs carrier) Qual.config).onCore (·.setBit Reg.LANE_MISMATCH_CARRIERS carrier true)).record
        0x0502 0 (le carrier 1 ++ le (identWord ws 0).toNat 2 ++ le (identWord ws 1).toNat 2)
    | _ => { s with lane := { s.lane with joining := s.lane.joining.put carrier (false, false) } }

/-! ### Service bursts (R219, R220) -/

/-- The service window is open: the output sweep has ended and the tick runs (R219). -/
def State.serviceWindow (s : State) : Bool := s.onLane && s.core.flag Reg.TICK_STATUS_RUNNING && s.seq.swapped

/-- The order of service bursts in a window (R219): 2 probes and CFG_WR, 3 the one STAT_RD, 4 STAT_CLR, 5 ECHO_RD. -/
def State.windowOpen (s : State) (step : Nat) : Bool :=
  s.serviceWindow && (if step = 3 then decide (s.lane.step < 3) else decide (s.lane.step ≤ step))

/-- The window has come to a burst of this place in the order (R219). -/
def State.atStep (s : State) (step : Nat) : State := { s with lane := { s.lane with step := step } }

/-- A CARRIER_PROBE is due (R213): of an expected carrier that has not joined, once every 1,024 ticks, or in the tick after a
failed CFG_WR. Log entry 51 (DESIGN CHOICE, unsafe). -/
def State.probeDue (s : State) (carrier : Fin 32) : Bool :=
  s.windowOpen 2 && !s.joined carrier && s.cfg.carriers.any (·.address == carrier) &&
    decide (s.lane.nextProbe.atD carrier 0 ≤ s.epoch)

/-- CARRIER_PROBE (R213): the next is due 1,024 ticks later. -/
def State.probeAgain (s : State) (carrier : Fin 32) (ans : Option (List LWord)) (w : Wire) : State :=
  if !s.probeDue carrier then s
  else
    let again := s.lane.retried.contains carrier.val
    let s := { s with lane := { s.lane with nextProbe := s.lane.nextProbe.put carrier (s.epoch + 1024) } }
    let s := (s.atStep 2).probe carrier ans w
    if again && (s.lane.joining.at? carrier).isNone then
      { s with lane := { s.lane with retried := s.lane.retried.filter (· != carrier.val) } }
    else s

/-- A CFG_WR that failed (R213): the carrier is probed again in the next tick, once, and else every 1,024 ticks. -/
def State.joinFails (s : State) (carrier : Fin 32) : State :=
  let again := s.lane.retried.contains carrier.val
  let others := s.lane.retried.filter (· != carrier.val)
  let lane := { s.lane with nextProbe := s.lane.nextProbe.put carrier (if again then s.epoch + 1024 else s.epoch + 1)
                            retried := if again then others else carrier.val :: others }
  { s with lane := lane }.markCells (s.laneInputs carrier) Qual.comm

/-- CFG_WR (R213, R214): a carrier whose probe matched takes its silence time and its output enable and joins, at once before
the first LN_SYNC and else at the next tick; no other carrier is written. Log entry 51 (DESIGN CHOICE, unsafe). -/
def State.cfgWr (s : State) (carrier : Fin 32) (silence : LWord) (enable : Bool) (w : Wire) : State :=
  if !s.onLane || silence = 0 || (s.lane.joining.at? carrier).isNone || (s.core.flag Reg.TICK_STATUS_RUNNING && !s.windowOpen 2) then s
  else
    let fails := s.burstFails carrier 0 2 4 w
    let lost := s.burstLost fails w
    let s := (if s.core.flag Reg.TICK_STATUS_RUNNING then s.atStep 2 else s).countRepeats fails
    let carriers := match s.lane.carriers.at? carrier with
      | some c =>
        let c := c.writeFails fails
        s.lane.carriers.put carrier (if lost then c else { c with silence := silence.toNat, enabled := enable })
      | none => s.lane.carriers
    let s := { s with lane := { s.lane with carriers := carriers, joining := s.lane.joining.del carrier } }
    let s := if lost then s.burstFailed carrier 4 true else s
    if lost || silence.toNat != s.core.fget Reg.LANE_CFG_SILENCE_MS || !enable then s.joinFails carrier
    else
      let refs := s.lane.refs.filter fun p => p.1 / 128 != carrier.val
      let s := { s with lane := { s.lane with refs := refs, retried := s.lane.retried.filter (· != carrier.val) } }
      if s.core.flag Reg.TICK_STATUS_RUNNING then { s with lane := { s.lane with joinNext := s.lane.joinNext ++ [carrier.val] } }
      else s.onCore (·.setBit Reg.LANE_PRESENT_CARRIERS carrier true)

/-- The carrier whose turn a STAT_RD is (R219): the next that has joined. -/
def State.statTurn (s : State) : Option Nat :=
  ((List.range 32).map fun i => (s.lane.turn + i) % 32).find? s.joined

/-- STAT_RD (R219, R220): one of 4 words a tick, to the next carrier in rotation, whose status bits read before have been
cleared; `raised` are status bits the carrier has set since it was last read. -/
def State.statRd (s : State) (carrier : Fin 32) (channel words : Nat) (raised : LWord) (w : Wire) : State :=
  match s.lane.carriers.at? carrier with
  | none => s
  | some c =>
    if !s.windowOpen 3 || s.statTurn != some carrier.val || channel != 0 || words != 4 ||
        (s.lane.clearDue.at? carrier).isSome then s
    else
      let fails := s.burstFails carrier channel words 3 w
      let s := { s.atStep 3 with lane := { (s.atStep 3).lane with turn := (carrier.val + 1) % 32 } }.countRepeats fails
      let c := { c with status := c.status ||| (raised &&& 0x1E#16) }
      let s := { s with lane := { s.lane with carriers := s.lane.carriers.put carrier c } }
      if s.burstLost fails w then s.burstFailed carrier 3 false
      else
        let bits := c.statusWord &&& 0x1F#16
        let bad := bits.getLsbD 2 || bits.getLsbD 3
        let others := s.lane.faulty.filter (· != carrier.val)
        let due := if bits = 0 then s.lane.clearDue.del carrier else s.lane.clearDue.put carrier bits
        { s with lane := { s.lane with clearDue := due, faulty := if bad then carrier.val :: others else others } }

/-- STAT_CLR (R220) of word 0: 1 clears a status bit, and the bits are exactly those read as set. -/
def State.statClr (s : State) (carrier : Fin 32) (channel : Nat) (bits : List LWord) (w : Wire) : State :=
  match s.lane.carriers.at? carrier with
  | none => s
  | some c =>
    if !(s.windowOpen 4 && s.joined carrier) || channel != 0 || s.lane.clearDue.at? carrier != some (bits.headD 0) ||
        bits.length != 1 then s
    else
      let fails := s.burstFails carrier channel bits.length 6 w
      let lost := s.burstLost fails w
      let s := (s.atStep 4).countRepeats fails
      let c := if lost then c else { c with status := c.status &&& ~~~(bits.headD 0) }
      let c := c.writeFails fails
      let due := if lost then s.lane.clearDue else s.lane.clearDue.del carrier
      let s := { s with lane := { s.lane with carriers := s.lane.carriers.put carrier c, clearDue := due } }
      if lost then s.burstFailed carrier 6 true else s

/-- Words of an ECHO_RD: the pending words, or an open value for a channel whose word is empty (R200, R216). Log entry 49
(DESIGN CHOICE, safe). -/
def State.echoWords (s : State) (c : Carrier) (channel : Nat) : Nat → List LWord × State
  | 0 => ([], s)
  | n + 1 =>
    let (x, s) : LWord × State := match c.waiting.at? channel with
      | some x => (x, s)
      | none => let f := s.core.takeFree; (f.1.setWidth 16, { s with core := f.2 })
    let (xs, s) := State.echoWords s c (channel + 1) n
    (x :: xs, s)

/-- ECHO_RD (R200, R219): the queues that wait for these words get them (R422). Log entry 49 (DESIGN CHOICE, safe). -/
def State.echoRd (s : State) (carrier : Fin 32) (channel words : Nat) (w : Wire) : State :=
  let want := (carrier.val, channel, words)
  if !(s.windowOpen 5 && s.lane.echoes.contains want) then s
  else
    let fails := s.burstFails carrier channel words 5 w
    let lost := s.burstLost fails w
    let s := (s.atStep 5).countRepeats fails
    let s := if lost then s.burstFailed carrier 5 false else s
    let c := if lost then {} else s.lane.carriers.atD carrier {}
    let (ws, s) := s.echoWords c channel words
    let body := ws.flatMap fun x => le x.toNat 2
    let s := { s with lane := { s.lane with echoes := s.lane.echoes.filter (· != want) } }
    let queues := s.hq.queues.map fun (p : Nat × Queue) => match p.2.cur with
      | some g => if g.waitEcho = some want ∧ g.answer.isNone then
          (p.1, { p.2 with cur := some { g with answer := some (.ok, body), waitEcho := none } }) else p
      | none => p
    { s with hq := { s.hq with queues := queues } }

/-! ### Meanings -/

/-- DATA_RD (R203). -/
def execDataRd (carrier : Fin 32) (channel : Fin 128) (words : Nat) (w : Wire) (s : State) : Answer :=
  .next <| s.upLane <| s.dataRd carrier channel words w

/-- DATA_WR (R204). -/
def execDataWr (carrier : Fin 32) (channel : Fin 128) (words : Nat) (w : Wire) (s : State) : Answer :=
  .next <| s.upLane <| s.dataWr carrier channel words w

/-- ID_RD (R211, R213): at start-up, before the first LN_SYNC. -/
def execIdRd (carrier : Fin 32) (ans : Option (List LWord)) (w : Wire) (s : State) : Answer :=
  .next <| s.upLane <|
    if s.onLane && s.core.flag Reg.LANE_CFG_VALID && !s.core.flag Reg.TICK_STATUS_RUNNING then s.probe carrier ans w else s

/-- STAT_RD (R220). Log entry 9 (DESIGN CHOICE, safe). -/
def execStatRd (carrier : Fin 32) (channel : Fin 128) (words : Nat) (raised : LWord) (w : Wire) (s : State) : Answer :=
  .next <| s.upLane <| s.statRd carrier channel words raised w

/-- CFG_WR (R214). -/
def execCfgWr (carrier : Fin 32) (silence : LWord) (enable : Bool) (w : Wire) (s : State) : Answer :=
  .next <| s.upLane <| s.cfgWr carrier silence enable w

/-- ECHO_RD (R200, R219). -/
def execEchoRd (carrier : Fin 32) (channel : Fin 128) (words : Nat) (w : Wire) (s : State) : Answer :=
  .next <| s.upLane <| s.echoRd carrier channel words w

/-- STAT_CLR (R220). -/
def execStatClr (carrier : Fin 32) (channel : Fin 128) (bits : List LWord) (w : Wire) (s : State) : Answer :=
  .next <| s.upLane <| s.statClr carrier channel bits w

/-- CARRIER_PROBE (R213): a carrier that has not joined is probed again in a service window. -/
def execCarrierProbe (carrier : Fin 32) (ans : Option (List LWord)) (w : Wire) (s : State) : Answer :=
  .next <| s.upLane <| s.probeAgain carrier ans w

end Sys2Proof.Machine
end

