-- ==== Sys2Proof/Machine/Roles.lean ====
section
/-! DEFINITION. The roles of a pair's units: becoming duty and standby, the choice at start-up, what a joining unit receives and
how it catches up, and the inputs a standby takes from CLOSE (R222 to R224, R230, R231, R240, R241). -/

namespace Sys2Proof.Machine

/-! ### Roles (R222, R223) -/

/-- The unit masters the lane and the position: duty of a pair, or single (R196, R222, R224), with the registers it has
(R245). Log entry 44 (DESIGN CHOICE, unsafe). -/
def State.becomeDuty (s : State) : State :=
  let p := s.paired
  let s := s.foldTrail.onCore fun k =>
    let k := ((k.fput Reg.GLB_UNIT_ROLE (if p then 1 else 0)).setFlag Reg.LANE_STAT_MASTER true).setFlag Reg.LANE_STAT_SNOOP false
    let k := raiseLand (k.setFlag Reg.PTR_STAT_HOLD_AUTH false) .lnClk
    if p then k.drive .ptrMst true else k
  let q := { s.pair with waiting := false, stage := 0, backlog := [], resolve := none, declared := none, load := none }
  ({ s with pair := q }.setPair 0).ptpRole

/-- The unit snoops the lane as standby (R208, R210, R222). -/
def State.becomeStandby (s : State) : State :=
  let s := s.onCore fun k =>
    let k := ((k.fput Reg.GLB_UNIT_ROLE 2).setFlag Reg.LANE_STAT_MASTER false).setFlag Reg.LANE_STAT_SNOOP true
    (lowerLand k .lnClk).drive .ptrMst false
  { s with pair := { s.pair with waiting := false, resolve := none, declared := none } }.ptpRole.canRole true

/-- The role a unit takes once its image has been accepted (R223). Log entry 59 (DESIGN CHOICE, unsafe). -/
def State.chooseRole (s : State) : State :=
  if !s.paired then s.becomeDuty
  else if s.pair.mstIn then s.becomeStandby.startResync 1
  else if s.core.flag Reg.GLB_UNIT_PREFERRED then s.becomeDuty
  else ({ s with pair := { s.pair with waiting := true } }).setPair 1

/-! ### Inputs of a standby (R229 to R231) -/

/-- A cell that the duty's INPUT or CLOSE frame carries enters the image bit for bit (R230). A mirror slot that no GROUT handling
wrote is fresh with the epoch before (R256). -/
def State.putItem (s : State) (i : InputItem) : State :=
  if (s.img.working.at? i.cell).isNone then s
  else
    let s := s.store i.cell i.content (condsIn i.content)
    let s := match i.stamp with
      | some t => { s with net := { s.net with stamps := s.net.stamps.put i.cell t } }
      | none => s
    if i.cell < 0x1000 || i.content.src == 6 then s
    else { s with xch := { s.xch with fresh := s.xch.fresh.put i.cell (s.epoch - 1)
                                      received := s.xch.received.put i.cell i.content } }

/-- A subscription has slots that GROUT handling wrote: their SRC is remote, which no received cell's is (R18, R260). -/
def State.slotsOut (s : State) (sub : SubDef) : Bool :=
  (s.subSlots sub.id).any fun a => (s.img.working.at? a).any (·.src == 6)

/-- What the duty's merge did with a subscription shows in its slots (R230, R258 to R261): runs, and its error task, at this merge
or, after a LEVEL wait, at the next. -/
def State.followSub (s : State) (later : Bool) (sub : SubDef) : State :=
  let runs := (s.subSlots sub.id).foldl (fun (m : SMap Nat) a =>
    if (s.img.working.at? a).any (·.src == 6) then m.alter a 0 (· + 1) else m.put a 0) s.xch.runs
  let first := s.xch.subRuns.atD sub.id 0 = 0
  let out := s.slotsOut sub
  let s := { s with xch := { s.xch with runs := runs, subRuns := s.xch.subRuns.alter sub.id 0 fun n => if out then n + 1 else 0 } }
  match sub.errorTask with
  | none => s
  | some t =>
    if !(out && (sub.trigEvery || first)) then s
    else if later then { s with xch := { s.xch with triggers := s.xch.triggers ++ [t] } } else s.trigger t

/-- The subscriptions the duty still waits for (R259). -/
def State.setWaits (s : State) (subs : List Nat) : State :=
  { s with xch := { s.xch with waits := subs.map fun i => { sub := i, since := s.core.c } } }

/-- A digest difference or a missing CLOSE: out of step, or a failed attempt of a joining unit (R231, R241). -/
def State.loseStep (s : State) : State := if s.pairState = 2 then s.resyncFailed else s.outOfStep

/-- The duty has closed the inputs of the epoch in progress (R230): they enter the image, and scan and control starts; a later
CLOSE of the epoch ends LEVEL waits. Inputs that differ from the digest are evidence and put the unit out of step (R231, R233). -/
def State.closeInputs (s : State) (items : List InputItem) (waits : List Nat) (digest : Word) : State :=
  let first := s.core.fget Reg.TICK_STATUS_PHASE == 1
  let all := s.pair.inputs ++ items
  let s : State := all.foldl (fun (s : State) i => s.putItem i) s
  let bytes := s.pair.inBytes ++ itemBytes all
  let s := { s with pair := { s.pair with inputs := [], inBytes := bytes, closed := some s.epoch } }
  let bad := crc32c bytes != digest
  let s := if bad then s.evidence 15 else s
  let ended := s.xch.waits.map (·.sub)
  let s := s.setWaits waits
  let s :=
    if first then
      let s := (s.onCore (·.fput Reg.TICK_STATUS_PHASE 2)).laterTriggers
      let s : State := (s.xch.subs.filter fun u => !waits.contains u.id).foldl (fun (s : State) u => s.followSub false u) s
      s.startScan
    else
      let s : State := (s.xch.subs.filter fun u => ended.contains u.id && !waits.contains u.id).foldl
        (fun (s : State) u => s.followSub true u) s
      s.showEngines
  if bad then s.loseStep else s

/-! ### Joining (R241) -/

/-- A chunk of a recoat image reaches a standby (R116, R244): the first begins the load. Log entry 28 (DESIGN CHOICE, unsafe).
-/
def State.loadChunk (s : State) (total offset length : Nat) : State :=
  let s := if offset = 0 then s.beginRecoat else s
  { s with pair := { s.pair with load := some (total, offset + length) } }

/-- Why a standby refuses a COMMAND (R232, R116). -/
def State.passedCheck (s : State) : Passed → Option (Status × Cause)
  | .chunk _ offset _ =>
    if s.armed then some (.recoatArmed, .none)
    else if offset = 0 ∨ s.pair.load.any (·.2 == offset) then none else some (.badRequest, .none)
  | .command c => c.doing.check s

/-- What a COMMAND does on the standby. -/
def State.passedApply (s : State) : Passed → State
  | .chunk total offset length => s.loadChunk total offset length
  | .command c => c.doing.apply s

/-- A standby accepts a COMMAND (R232): one that takes effect at a screed instant waits for its application epoch. Log entry
28 (DESIGN CHOICE, unsafe). -/
def State.followCommand (s : State) (seq : Nat) (c : Passed) (apply : Nat) : State :=
  let s := { s with pair := { s.pair with accepted := seq } }
  match c with
  | .command x =>
    if x.timed.isSome && decide (s.epoch + 1 < apply) then
      { s with pair := { s.pair with agreed := s.pair.agreed ++ [(x, apply)] } }
    else s.passedApply c
  | _ => s.passedApply c

/-- What a refused COMMAND leaves on the standby. -/
def State.passedRefuse (s : State) : Passed → State
  | .chunk .. => s
  | .command c => c.doing.refuse s

/-- No epoch is in progress. -/
def State.idle (s : State) : Bool := !s.core.flag Reg.TICK_STATUS_RUNNING || s.seq.swapped

/-- The buffered epoch after the last executed one. -/
def State.nextBuffered (s : State) : Option Buffered := s.pair.backlog.find? (·.epoch == s.epoch + 1)

/-- A buffered COMMAND (R241). -/
def State.followBuffered (s : State) (x : Nat × Passed × Nat) : State :=
  match s.passedCheck x.2.1 with
  | some _ => s.passedRefuse x.2.1
  | none => s.followCommand x.1 x.2.1 x.2.2

/-- Execute one buffered epoch up to the start of its scan and control (R241): its snooped reads, its commands, its inputs. -/
def State.runBuffered (s : State) (b : Buffered) (waits : List Nat) (digest : Word) : State :=
  let s := s.beginTick b.epoch
  let s : State := b.reads.foldl (fun (s : State) (r : Nat × Nat × List LWord) =>
    ({ s with pair := { s.pair with inBytes := s.pair.inBytes ++ r.2.2.flatMap fun (x : LWord) => le x.toNat 2 } }).enterWords r.1 r.2.1 r.2.2) s
  let s := { s with seq := { s.seq with inLeft := [], metDone := true } }
  let s := if s.seq.inDone then s else s.endInput
  let s : State := b.cmds.foldl (fun (s : State) c => s.followBuffered c) s
  s.closeInputs b.items waits digest

/-- A joining unit that has its snapshot starts the next buffered epoch whose inputs are closed (R241). Log entry 56 (DESIGN
CHOICE, unsafe). -/
def State.catchUp (s : State) : State :=
  if !(s.catchingUp && s.idle) then s
  else match s.nextBuffered with
    | none => s
    | some b => match b.closed with
      | none => s
      | some (waits, digest) => s.runBuffered b waits digest

/-- Change the buffered epoch of a number. -/
def State.onBuffered (s : State) (epoch : Nat) (f : Buffered → Buffered) : State :=
  { s with pair := { s.pair with backlog := s.pair.backlog.map fun b => if b.epoch == epoch then f b else b } }

/-- Buffer an epoch that begins (R241); more than 64 restart resynchronisation. -/
def State.bufferEpoch (s : State) (epoch : Nat) : State :=
  let l := s.pair.backlog ++ [{ epoch := epoch }]
  let s := { s with pair := { s.pair with backlog := l } }.onCore (·.fput Reg.PTR_RESYNC_BACKLOG (min l.length 64))
  if l.length > 64 then s.resyncFailed else s

/-- A joining unit buffers what it gets (R241). -/
def State.buffers (s : State) : Bool := s.standby && s.pairState == 2 && (s.pair.stage == 2 || s.pair.stage == 3)

/-- The configuration image in force as it stands in its slot. -/
def State.runningFile (s : State) : Option ImageFile :=
  (s.sec.cfg.filterMap id).find? fun f => f.header.seq == s.sec.runSeq

/-- The parts a static check found different (R241). -/
def State.staticParts (s : State) (their : StaticId) : List StatePart :=
  let own := s.staticId
  let img := own.imageSeq != their.imageSeq
  let bank := img || own.bank0 != their.bank0 || own.bank1 != their.bank1 || own.touchUps != their.touchUps
  (if img then (s.runningFile.map StatePart.image).toList else []) ++
    (if bank then [.banks s.trw.bank s.trw.idle own.touchUps] else []) ++
    (if img || own.slotSeq != their.slotSeq then [.slots s.slotDescs s.cmd.slotSeq] else []) ++
    (if img || own.maskGen != their.maskGen then
      [.forces (s.cmd.forces.map fun p => (p.1, p.2.persist, p.2.value, p.2.epoch)) s.cmd.forceGen] else [])

/-- A duty whose partner wants to join answers its static check, and sends it the snapshot of the next swap (R241). -/
def State.answerResync (s : State) (their : StaticId) : State :=
  let parts := s.staticParts their
  let s := s.cancelTakeback
  let p := { s.pair with stage := 2, resolve := none, own := none, peer := none, partner := some their }
  let s := (({ s with pair := p }.checkPartner).setPair 2).sendFrame (.role (.resync s.staticId))
  parts.foldl (fun (s : State) x => s.sendFrame (.state x)) s

/-- The static check is passed when the identities are those of the duty's answer (R241). Log entry 56 (DESIGN CHOICE,
unsafe). -/
def State.checkStatic (s : State) : State :=
  match s.pair.target with
  | none => s
  | some t => { s with pair := { s.pair with stage := if s.staticId = t then 2 else 1 } }

/-- The snapshot is complete (R241): the epochs up to J are done, and catch-up begins. The reference words of counter channels are
those that epoch J's reads left; the COMMANDs of epoch J that take effect later are followed. -/
def State.snapshotDone (s : State) (j lastCmd accepted : Nat) : State :=
  let later := (s.pair.backlog.filter fun b => decide (b.epoch ≤ j)).flatMap (·.cmds) |>.filter fun x =>
    match x.2.1 with
    | .command c => c.timed.isSome && decide (j < x.2.2)
    | _ => false
  let reads := (s.pair.backlog.filter (·.epoch == j)).flatMap (·.reads)
  let refs := reads.foldl (fun (m : SMap LWord) r =>
    r.2.2.zipIdx.foldl (fun (m : SMap LWord) w => m.put (r.1 * 128 + r.2.1 + w.2) w.1) m) s.lane.refs
  let left := s.pair.backlog.filter fun b => decide (j < b.epoch)
  let s := s.stopTicks
  let s := { s with lane := { s.lane with refs := refs }, seq := { s.seq with started := true, swapped := true }
                    img := { s.img with pubEpoch := some j }
                    pair := { s.pair with backlog := left, stage := 3, lastApplied := lastCmd, accepted := accepted, agreed := [] }
                    cmd := { s.cmd with forceDue := [], touchDue := [], slotDue := [], restartDue := false } }
  let s := s.onCore fun k =>
    (k.putPair Reg.TICK_EPOCH_LO_EPOCH_LO Reg.TICK_EPOCH_HI_EPOCH_HI j).fput Reg.PTR_RESYNC_BACKLOG left.length
  (later.foldl (fun (s : State) x => s.followBuffered x) s).catchUp

/-- Forces as the duty holds them (R110, R241). -/
def State.takeForces (s : State) (xs : List (Nat × Bool × Word × Nat)) (gen : Nat) : State :=
  let f := xs.foldl (fun (m : SMap Force) x => m.put x.1 ⟨x.2.2.1, x.2.1, x.2.2.2⟩) []
  { s with cmd := { s.cmd with forces := f, forceGen := gen } }.showForces

/-- The duty's registers at an image, with what this unit's own samples add after it (R245). Log entry 44 (DESIGN CHOICE,
unsafe). -/
def State.mirrorCommit (s : State) (c : CommitImage) : State :=
  { s with met := { s.met with mirror := some c, trail := s.met.trail.filter fun t => decide (c.wall < t.1)
                               trailThermal := s.met.trailThermal.filter fun t => decide (c.wall < t.1) } }

/-- A part of the duty's state reaches a joining unit (R241): an image counts only when the module accepts it. Log entry 56
(DESIGN CHOICE, unsafe). -/
def State.takePart (s : State) : StatePart → State
  | .image f =>
    if s.verify 3 f.header.bodyLength (some f.header.seq) f ≠ 0 then s
    else match f.body with
      | .configuration i => ((s.acceptConfig f).loadImage f.header i).checkStatic
      | _ => s
  | .banks running idle n =>
    (({ s with trw := { s.trw with bank := running, idle := idle } }.showTasks).onCore fun k =>
      (k.fput Reg.TUP_STAT_APPLIED n).setFlag Reg.RCT_STAT_IDLE_VALID idle.isSome).checkStatic
  | .slots descs n =>
    let gone := s.flt.slots
    let s : State := gone.foldl (fun (s : State) p => s.onCore fun k =>
      (k.setFlag Reg.LP_STAT_VALID false p.1).fput Reg.LP_STAT_STATE 0 p.1) s
    let s : State := { s with flt := { s.flt with slots := [] }, cmd := { s.cmd with slotSeq := n, slotDue := [] } }
    ((descs.filter (·.desc.valid)).foldl (fun (s : State) d => s.putSlot d) s).showSlots.checkStatic
  | .forces xs gen => if s.pair.stage = 1 then (s.takeForces xs gen).checkStatic else s.takeForces xs gen
  | .cells xs =>
    let put (m : SMap Cell) : SMap Cell := xs.foldl (fun (m : SMap Cell) x => m.put x.1 x.2) m
    let conds := xs.foldl (fun (m : SMap (List Nat)) x => m.put x.1 (condsIn x.2)) s.img.conds
    { s with img := { s.img with working := put [], published := put [], conds := conds, changed := [], hist := [] } }
  | .records xs => { s with trw := { s.trw with recs := xs.foldl (fun (m : SMap TRec) x => m.put x.1 (recOfWords x.2)) [] } }
  | .edges xs => { s with trw := { s.trw with edges := xs.foldl (fun (m : SMap EdgeBit) x => m.put x.1 ⟨x.2.1, x.2.2⟩) [] } }
  | .retained xs => { s with trw := { s.trw with ret := xs.foldl (fun (m : SMap Word) x => m.put x.1 x.2) [] } }
  | .loop i x shown => match s.flt.slots.at? i with
    | none => s
    | some l =>
      { s with flt := { s.flt with slots := s.flt.slots.put i { x with desc := l.desc } } }.onCore fun k =>
        (loopRows.zip shown).foldl (fun (k : Core) (r : Row × Nat) => k.fput r.1 r.2 i) k
  | .tasks xs => xs.foldl (fun (s : State) x => s.onCore (·.fput Reg.TSK_STAT_STATE x.2 x.1)) s
  | .recoat st swap => s.onCore fun k =>
    (k.fput Reg.RCT_STAT_STATE st).putPair Reg.RCT_SWAP_LO_EPOCH_LO Reg.RCT_SWAP_HI_EPOCH_HI swap
  | .meter c => s.mirrorCommit c
  | .done j lastCmd accepted => if s.pair.stage = 2 then s.snapshotDone j lastCmd accepted else s.resyncFailed

end Sys2Proof.Machine
end

