-- ==== Sys2Proof/Machine/Pair.lean ====
section
/-! DEFINITION. The rows of a redundant pair: frames of the partner link, the sideband lines, takeover, takeback and the fence
(R222 to R246). -/

namespace Sys2Proof.Machine

/-! ### Frames (R228, R229) -/

/-- A frame arrives: acknowledged by its SEQ, and taken once (R228). -/
def State.onFrame (s : State) (seq : Nat) (f : State → State) : State :=
  if !s.paired || s.pair.silent then s
  else
    let a := seq :: s.pair.acks
    if s.pair.rxSeen.contains seq then { s with pair := { s.pair with acks := a } }
    else f { s with pair := { s.pair with acks := a, rxSeen := (seq :: s.pair.rxSeen).take 64 } }

/-- The standby may start a tick at the LN_SYNC it sees (R230). Log entry 76 (DESIGN CHOICE, unsafe). -/
def State.canSnoop (s : State) : Bool :=
  s.standby && s.core.flag Reg.LANE_STAT_SNOOP && s.core.flag Reg.TICK_CFG_VALID && !s.core.flag Reg.PTR_STAT_FENCED &&
    !s.plat.hold && !s.plat.frozen && s.core.pllOk 3 && !s.plat.asleep && !s.plat.por && !s.plat.rstLow && s.core.state != 3 && s.plat.step.isNone

/-- LN_SYNC of tick `epoch` (R230, R241): a standby in step starts the tick, a joining unit buffers it, and one that has caught up
executes it live. -/
def State.followTick (s : State) (epoch : Nat) : State :=
  let s := { s with pair := { s.pair with reentry := none } }
  let live (s : State) : State := (s.carriersSync []).beginTick epoch
  if s.inStep then live s
  else if s.pairState ≠ 2 then s
  else match s.pair.stage with
    | 2 => s.bufferEpoch epoch
    | 3 =>
      if s.pair.backlog.isEmpty && s.idle && s.epoch + 1 == epoch then live { s with pair := { s.pair with stage := 4 } }
      else (s.bufferEpoch epoch).catchUp
    | 4 => live s
    | _ => s

/-- INPUT of an epoch (R229, R230, R241). -/
def State.takeInput (s : State) (epoch : Nat) (items : List InputItem) : State :=
  if !s.standby then s
  else if s.buffers && (s.pair.backlog.any (·.epoch == epoch)) && !(s.epoch == epoch && !s.idle) then
    (s.onBuffered epoch fun b => { b with items := b.items ++ items }).catchUp
  else if s.epoch = epoch && !s.idle then { s with pair := { s.pair with inputs := s.pair.inputs ++ items } }
  else s

/-- CLOSE of an epoch (R230, R241). -/
def State.takeClose (s : State) (epoch : Nat) (items : List InputItem) (waits : List Nat) (digest : Word) : State :=
  if !s.standby then s
  else if s.epoch = epoch && !s.idle then s.closeInputs items waits digest
  else if s.buffers then
    (s.onBuffered epoch fun b => { b with items := b.items ++ items, closed := some (waits, digest) }).catchUp
  else s

/-- CLOSE has not arrived in time (R231). -/
def State.missClose (s : State) : State :=
  if s.standby && s.inStep && s.core.flag Reg.TICK_STATUS_RUNNING && s.core.fget Reg.TICK_STATUS_PHASE == 1 then s.outOfStep else s

/-- A COMMAND of the duty (R232): checked by a standby in step, which answers and applies it at its application epoch;
buffered by a joining unit with the epoch its frame belongs to. Log entry 28 (DESIGN CHOICE, unsafe). -/
def State.takeCommand (s : State) (seq epoch : Nat) (c : Passed) (apply : Nat) : State :=
  if !s.standby then s
  else if s.inStep then
    match s.passedCheck c with
    | some (st, cause) => (s.passedRefuse c).sendFrame (.ack seq st cause)
    | none => (s.followCommand seq c apply).sendFrame (.ack seq .ok .none)
  else if s.buffers then
    let e := if s.pair.backlog.any (·.epoch == epoch) then some epoch else s.pair.backlog.getLast?.map (·.epoch)
    match e with
    | some e => s.onBuffered e fun b => { b with cmds := b.cmds ++ [(seq, c, apply)] }
    | none => s
  else s

/-- ACK of a COMMAND (R232): the duty applies it and answers the requester, or refuses with the standby's result. -/
def State.takeAck (s : State) (id : Nat) (st : Status) (cause : Cause) : State :=
  match s.pair.cmds.find? (·.id == id) with
  | none => s
  | some w =>
    let s := { s with pair := { s.pair with cmds := s.pair.cmds.filter fun x => x.id != id } }
    if st = .ok then s.settleCommand w else s.refusePassed w st cause

/-- A DIGEST (R233, R234, R241). -/
def State.takeDigest (s : State) (epoch : Nat) (d : Digest) : State :=
  if s.buffers && s.pair.backlog.any (·.epoch == epoch) then
    (s.onBuffered epoch fun b => { b with digest := some d }).catchUp
  else match s.pair.own with
    | some (m, mine) =>
      if m = epoch then (s.compare epoch mine d).catchUp else { s with pair := { s.pair with peer := some (epoch, d) } }
    | none => { s with pair := { s.pair with peer := some (epoch, d) } }

/-- A mirrored commit image (R229, R245), which comes in two frames: into the slot its number names; what the standby has
added since stays in its trail. Log entry 44 (DESIGN CHOICE, unsafe). -/
def State.takeMeter (s : State) (half : Fin 2) (c : CommitImage) : State :=
  if !s.standby then s
  else if half = 0 then { s with pair := { s.pair with half := some c } }
  else if s.pair.half = some c then
    (s.storeCommit c).mirrorCommit c |> fun s => { s with pair := { s.pair with half := none } }
  else s

/-! ### Resolving a divergence (R235) -/

/-- Commit digests of an engine's tasks or slots, in dispatch order, as a REPLY carries them. -/
def State.engineItems (s : State) (engine : Nat) : List Word :=
  (s.pair.items.filter fun p => p.1 / 128 == engine).flatMap fun p => [BitVec.ofNat 32 (p.1 % 128), p.2]

/-- Pairs of a REPLY's words. -/
def wordPairs : List Word → List (Nat × Word)
  | a :: b :: rest => (a.toNat, b) :: wordPairs rest
  | _ => []

/-- The first item in dispatch order whose digests differ (R235). -/
def firstDiffering : List (Nat × Word) → List (Nat × Word) → Option Nat
  | [], [] => none
  | a :: as, b :: bs => if a = b then firstDiffering as bs else some a.1
  | a :: _, [] => some a.1
  | [], b :: _ => some b.1

/-- QUERY (R229, R235): step 2 asks for an engine's items, steps 3 and 4 for the verdicts. -/
def State.takeQuery (s : State) (kind item : Nat) : State :=
  match kind, s.pair.resolve with
  | 2, _ => s.sendFrame (.reply 2 item (s.engineItems item))
  | 3, some r =>
    let (b, r, s) := s.ownReplay r
    { s with pair := { s.pair with resolve := some r } }.sendFrame (.reply 3 item [if b then 1 else 0])
  | 4, some r =>
    let (b, r, s) := s.ownPage r
    { s with pair := { s.pair with resolve := some r } }.sendFrame (.reply 4 item [if b then 1 else 0])
  | _, _ => s

/-- Step 2 of R235: once the partner has answered for every engine asked, the first item in dispatch order whose digests
differ is the divergent one. Log entry 55 (DESIGN CHOICE, safe). -/
def State.locate (s : State) (r : Resolve) : State :=
  let found := r.asked.findSome? fun e => match r.theirs.find? (·.1 == e) with
    | some x => (firstDiffering (wordPairs (s.engineItems e)) (wordPairs x.2)).map fun i => (e, i)
    | none => none
  let s := { s with pair := { s.pair with resolve := some r } }
  if !(r.asked.all fun e => r.theirs.any (·.1 == e)) then s
  else match found with
    | none => s
    | some (e, i) =>
      { s with pair := { s.pair with resolve := some { r with step := 3, engine := e, item := i } } }.sendFrame (.query 3 i)

/-- REPLY (R235): the item located, the replays compared, the pages compared. -/
def State.takeReply (s : State) (kind engine : Nat) (data : List Word) : State :=
  match s.pair.resolve with
  | none => s
  | some r =>
    match kind with
    | 2 => s.locate { r with theirs := r.theirs ++ [(engine, data)] }
    | 3 =>
      let theirs := data.headD 0 != 0
      let (mine, r, s) := s.ownReplay r
      if mine && theirs then s.outcome { r with step := 3 } 3
      else if mine then s.outcome { r with step := 3 } (s.outcomeFor true)
      else if theirs then s.outcome { r with step := 3 } (s.outcomeFor false)
      else { s with pair := { s.pair with resolve := some { r with step := 4 } } }.sendFrame (.query 4 r.item)
    | 4 =>
      let theirs := data.headD 0 != 0
      let (mine, r, s) := s.ownPage r
      let r := { r with step := 4 }
      if mine == theirs then s.outcome r 3
      else if mine then s.outcome r (s.outcomeFor true) else s.outcome r (s.outcomeFor false)
    | _ => s

/-! ### ROLE messages (R229, R241 to R244) -/

/-- A ROLE message. Log entry 57 (DESIGN CHOICE, unsafe). -/
def State.takeRole (s : State) : RoleMsg → State
  | .takeover _ => s
  | .fence => s
  | .takebackPropose k =>
    if s.standby then s
    else if s.inStep && s.pairState = 3 && !s.core.flag Reg.PTR_STAT_PAIR_SUSPECT && s.epoch + 8 ≤ k then
      { s with pair := { s.pair with takeback := some k } }.sendFrame (.role (.takebackAck k))
    else s.sendFrame (.role .takebackCancel)
  | .takebackAck k =>
    if s.pair.proposed = some k then { s with pair := { s.pair with takeback := some k, proposed := none } } else s
  | .takebackCancel => { s with pair := { s.pair with takeback := none, proposed := none } }
  | .reentry n =>
    if s.standby then { s with pair := { s.pair with reentry := some n }, seq := { s.seq with next := some n } } else s
  | .holdOff t => s.onCore (·.fput Reg.PTR_STAT_HOLDOFF_LEFT_S t)
  | .static id => { s with pair := { s.pair with partner := some id } }.checkPartner
  | .resync id =>
    if s.standby then
      (if s.pairState = 2 && (s.pair.stage == 1 || s.pair.stage == 2) then
        { s with pair := { s.pair with target := some id } }.checkStatic else s)
    else if s.core.fget Reg.GLB_UNIT_ROLE = 1 then s.answerResync id
    else s

/-! ### The link and the sideband (R225, R226, R228, R237, R240) -/

/-- The link is silent (R237): a standby with a healthy partner is detached; a duty runs alone. -/
def State.linkSilent (s : State) : State :=
  let s := { s with pair := { s.pair with silent := true } }.onCore fun k =>
    (k.fput Reg.PTR_STAT_LINK_LANES 0).setFlag Reg.CLK_STAT_PTNR_OK false
  if s.standby then
    (if s.core.flag Reg.PTR_STAT_PARTNER_OK && 2 ≤ s.pairState && s.pairState ≤ 4 then
      { s with pair := { s.pair with stage := 0, backlog := [], resolve := none } }.detach 0 else s)
  else if 2 ≤ s.pairState && s.pairState ≤ 4 then
    { s with pair := { s.pair with stage := 0, resolve := none, takeback := none, proposed := none } }.setPair 0
  else s

/-- A frame has not been acknowledged in 20 µs (R228): sent again, up to 8 times. -/
def State.frameTimeout (s : State) (seq : Nat) : State :=
  if !s.paired || s.pair.silent then s
  else match s.pair.sent.find? (·.seq == seq) with
    | none => s
    | some f =>
      let n := s.pair.resends.atD seq 0
      if n < 8 then
        { s with pair := { s.pair with sent := { f with again := true } :: s.pair.sent
                                       resends := s.pair.resends.put seq (n + 1) } }.onCore (·.bump Reg.PTR_LINK_ERR_RESENT)
      else s.linkSilent

/-- The link trains again (R225, R237). Log entry 58 (DESIGN CHOICE, unsafe). -/
def State.linkReturn (s : State) : State :=
  if !s.paired then s
  else
    let s := { s with pair := { s.pair with silent := false, resends := [] } }.onCore fun k =>
      (k.fput Reg.PTR_STAT_LINK_LANES 3).setFlag Reg.CLK_STAT_PTNR_OK true
    if s.standby && (s.pairState = 5 || s.pairState = 2) then s.startResync 1 else s

/-- The partner is no longer healthy: a duty runs alone (R224). Log entry 59 (DESIGN CHOICE, unsafe). -/
def State.partnerLost (s : State) : State :=
  if !s.standby && s.core.fget Reg.GLB_UNIT_ROLE = 1 && 2 ≤ s.pairState && s.pairState ≤ 4 then
    { s with pair := { s.pair with stage := 0, resolve := none, takeback := none } }.setPair 0
  else s

/-- PTR_OK_I falls (R226, R237): a reset of the partner takes its PTR_MST_O low too. -/
def State.okFalls (s : State) : State :=
  let s := { s with pair := { s.pair with okIn := false, okFell := true, mstIn := false } }.onCore
    (·.setFlag Reg.PTR_STAT_PARTNER_OK false)
  s.partnerLost.declare 2

/-- PTR_OK_I rises (R240): a new duty whose partner's line has been low releases the fence. -/
def State.okRises (s : State) : State :=
  let s := { s with pair := { s.pair with okIn := true } }
  if !s.core.landLevel .ptrFenceN && s.pair.okFell then
    { s with pair := { s.pair with okFell := false } }.onCore (·.drive .ptrFenceN true)
  else s

/-- PTR_HB_I has not toggled (R237). -/
def State.heartbeatLost (s : State) : State := ((s.onCore (·.setFlag Reg.PTR_STAT_PARTNER_OK false)).partnerLost).declare 3

/-! ### Takeover, takeback, fence (R227, R239, R240, R243) -/

/-- The record of a role change (R412), whose cause and kind bytes the spec does not code beyond R237. Log entry 8 (DESIGN
CHOICE, safe). -/
def State.roleRecord (s : State) (cause kind k : Nat) : State :=
  s.record 0x0602 0 (le cause 1 ++ le k 8 ++ le (Config.eventByte 0x0602 kind) 1)

/-- The unit takes over the position at epoch `k` (R239, R240, R245). -/
def State.takesPosition (s : State) (k : Nat) : State :=
  let s := s.becomeDuty.canRole false
  let s := { s with xch := { s.xch with fullDue := true } }.onCore fun c =>
    c.putPair Reg.PTR_ROLE_EPOCH_LO_EPOCH_LO Reg.PTR_ROLE_EPOCH_HI_EPOCH_HI k
  (s.enqueue 0 .advert).enqueue 1 .advert

/-- TAKEOVER at T0(K) (R239, R240). Log entry 58 (DESIGN CHOICE, unsafe). -/
def State.takeOver (s : State) : State :=
  match s.pair.declared with
  | none => s
  | some k =>
    if !s.standby then s
    else
      let cause := s.core.fget Reg.PTR_DECLARE_CAUSE
      let s := (s.onCore (·.drive .ptrFenceN false)).takesPosition k
      let p := { s.pair with declared := none, cmds := [], okFell := !s.pair.okIn, mstIn := false, takeback := none, proposed := none }
      ({ s with pair := p, seq := { s.seq with next := some k } }.onCore (·.bump Reg.PTR_CHANGES_TAKEOVERS)).roleRecord cause 0 k

/-- Reads of an epoch that a host queue has not finished end with EPOCH_GONE, and every pin is released (R240). -/
def State.losePins (s : State) : State :=
  let queues := s.hq.queues.map fun (p : Nat × Queue) => match p.2.cur with
    | some g => if g.epoch.isSome && (g.answer.any fun a => g.sent < a.2.length) then
        (p.1, { p.2 with cur := some { g with answer := some (.epochGone, []), sent := 0 } }) else p
    | none => p
  { s with hq := { s.hq with queues := queues } }.unpinIf fun _ _ => true

/-- TAKEBACK at T0(K) (R243): the roles change without a fence, and both units stay in step. Log entry 58 (DESIGN CHOICE,
unsafe). -/
def State.takeBack (s : State) : State :=
  match s.pair.takeback with
  | none => s
  | some k =>
    if !(s.inStep && s.pairState = 3 && s.epoch + 1 == k) then { s with pair := { s.pair with takeback := none } }
    else
      let cause := Config.eventByte 0x0602 2
      let s := { s with pair := { s.pair with takeback := none, proposed := none } }
      let s := if s.standby then
          let t := s.takesPosition k
          { t with pair := { t.pair with mstIn := false } }
        else
          let s := (s.closeSessions.losePins.becomeStandby).onCore fun c =>
            (c.setFlag Reg.PTR_STAT_HOLD_AUTH true).putPair Reg.PTR_ROLE_EPOCH_LO_EPOCH_LO Reg.PTR_ROLE_EPOCH_HI_EPOCH_HI k
          { s with pair := { s.pair with mstIn := true } }
      (((s.setPair 3).restartHoldoff).onCore (·.bump Reg.PTR_CHANGES_TAKEBACKS)).roleRecord cause 1 k

/-- The preferred standby's hold-off has ended (R242, R243): it proposes a takeback eight epochs ahead. Log entry 57 (DESIGN
CHOICE, unsafe). -/
def State.proposeTakeback (s : State) : State :=
  if s.standby && s.core.flag Reg.GLB_UNIT_PREFERRED && s.core.flag Reg.PTR_CFG_REVERTIVE && s.pairState = 3 &&
      !s.core.flag Reg.PTR_STAT_PAIR_SUSPECT && s.core.state = 1 && s.pair.holdFrom.isSome && s.pair.proposed.isNone then
    let k := s.epoch + 8
    ({ s with pair := { s.pair with proposed := some k } }.onCore (·.fput Reg.PTR_STAT_HOLDOFF_LEFT_S 0)).sendFrame
      (.role (.takebackPropose k))
  else s

/-- PTR_FENCEI_N low (R227, R240, R295). Log entry 58 (DESIGN CHOICE, unsafe). -/
def State.fenced (s : State) : State :=
  let s := s.stopTicks.closeSessions.losePins
  let s : State := (List.range 4).foldl (fun (s : State) p => s.onCore (·.setFlag Reg.FP_STAT_TX_STOPPED true p)) s
  { s.canHush with net := { s.net with fenced := true, beaconC := [] }, pair := { s.pair with fenceIn := true, cmds := [] } }.onCore fun k =>
    (lowerLand ((k.setFlag Reg.PTR_STAT_FENCED true).setFlag Reg.LANE_STAT_MASTER false) .lnClk).drive .ptrOk false

/-- PTR_FENCEI_N high again (R227): standby, and resynchronising. Log entry 58 (DESIGN CHOICE, unsafe). -/
def State.unfenced (s : State) : State :=
  if !s.core.flag Reg.PTR_STAT_FENCED then s
  else
    let s : State := (List.range 4).foldl (fun (s : State) p =>
      s.onCore (·.setFlag Reg.FP_STAT_TX_STOPPED (s.net.macsec.atD p {}).exhausted p)) s
    let s := { s with net := { s.net with fenced := false }, pair := { s.pair with fenceIn := false, mstIn := true } }.onCore
      (·.setFlag Reg.PTR_STAT_FENCED false)
    s.becomeStandby.startResync 1

/-! ### Meanings -/

/-- What a row of the pair may change: any unit's state but network time and the backup domain. -/
def State.upPair (s t : State) : State :=
  { t with pending := s.pending, core := s.core.after t.core, bkp := s.bkp, cfg := s.cfg, plat := runPlat s.plat t.plat }

/-- STANDBY_TICK_START (R230). -/
def execStandbyTickStart (epoch : Nat) (s : State) : Answer :=
  .next <| s.upPair <| if s.canSnoop then s.followTick epoch else s

/-- PARTNER_READY (R233). -/
def execPartnerReady (s : State) : Answer :=
  .next <| s.upPair <|
    let s := { s with pair := { s.pair with rdyIn := true } }
    if s.inStep && !s.standby then s.itemDone else s

/-- INPUT_FRAME (R229, R230). -/
def execInputFrame (seq epoch : Nat) (items : List InputItem) (s : State) : Answer :=
  .next <| s.upPair <| s.onFrame seq fun s => s.takeInput epoch items

/-- CLOSE_FRAME (R230). -/
def execCloseFrame (seq epoch : Nat) (items : List InputItem) (fallbacks : List Nat) (digest : Word) (s : State) : Answer :=
  .next <| s.upPair <| s.onFrame seq fun s => s.takeClose epoch items fallbacks digest

/-- CLOSE_DEADLINE (R231). -/
def execCloseDeadline (s : State) : Answer := .next <| s.upPair s.missClose

/-- COMMAND_FRAME (R232). -/
def execCommandFrame (seq epoch : Nat) (c : Passed) (apply : Nat) (s : State) : Answer :=
  .next <| s.upPair <| s.onFrame seq fun s => s.takeCommand seq epoch c apply

/-- ACK_FRAME (R232). -/
def execAckFrame (id : Nat) (st : Status) (cause : Cause) (s : State) : Answer := .next <| s.upPair <| s.takeAck id st cause

/-- DIGEST_FRAME (R233, R234). -/
def execDigestFrame (seq epoch : Nat) (d : Digest) (s : State) : Answer :=
  .next <| s.upPair <| s.onFrame seq fun s => s.takeDigest epoch d

/-- METER_FRAME (R245). -/
def execMeterFrame (seq : Nat) (m : MeterHalf) (s : State) : Answer :=
  .next <| s.upPair <| s.onFrame seq fun s => s.takeMeter m.half m.img

/-- QUERY_FRAME (R229, R235). -/
def execQueryFrame (seq kind item : Nat) (s : State) : Answer :=
  .next <| s.upPair <| s.onFrame seq fun s => s.takeQuery kind item

/-- REPLY_FRAME (R229, R235). -/
def execReplyFrame (seq kind item : Nat) (data : List Word) (s : State) : Answer :=
  .next <| s.upPair <| s.onFrame seq fun s => s.takeReply kind item data

/-- STATE_FRAME (R241). -/
def execStateFrame (seq : Nat) (part : StatePart) (s : State) : Answer :=
  .next <| s.upPair <| s.onFrame seq fun s => if s.standby && s.pairState = 2 then s.takePart part else s

/-- ROLE_FRAME (R229). -/
def execRoleFrame (seq : Nat) (m : RoleMsg) (s : State) : Answer := .next <| s.upPair <| s.onFrame seq fun s => s.takeRole m

/-- PARTNER_FRAME_TIMEOUT (R228). -/
def execPartnerFrameTimeout (seq : Nat) (s : State) : Answer := .next <| s.upPair <| s.frameTimeout seq

/-- PARTNER_LINK_SILENCE (R237). -/
def execPartnerLinkSilence (s : State) : Answer := .next <| s.upPair <| if s.paired then s.linkSilent else s

/-- PTR_OK_FALL (R237). -/
def execPtrOkFall (s : State) : Answer := .next <| s.upPair <| if s.paired then s.okFalls else s

/-- HEARTBEAT_TIMEOUT (R237). -/
def execHeartbeatTimeout (s : State) : Answer := .next <| s.upPair <| if s.paired then s.heartbeatLost else s

/-- LN_SYNC_MISSING (R237): only where no re-entry has been announced. -/
def execLnSyncMissing (s : State) : Answer := .next <| s.upPair <| if s.pair.reentry.isNone then s.declare 4 else s

/-- TAKEOVER (R239). -/
def execTakeover (s : State) : Answer := .next <| s.upPair s.takeOver

/-- FENCE_ASSERT (R227). -/
def execFenceAssert (s : State) : Answer := .next <| s.upPair <| if s.paired then s.fenced else s

/-- FENCE_RELEASE (R227). -/
def execFenceRelease (s : State) : Answer := .next <| s.upPair s.unfenced

/-- PARTNER_TRIP (R100, R244). -/
def execPartnerTrip (s : State) : Answer := .next <| s.upPair <| if s.paired then s.trip 6 0 else s

/-- ROLE_START_WAIT_EXPIRY (R223). -/
def execRoleStartWaitExpiry (s : State) : Answer := .next <| s.upPair <| if s.pair.waiting then s.becomeDuty else s

/-- HOLDOFF_EXPIRY (R242). -/
def execHoldoffExpiry (s : State) : Answer := .next <| s.upPair s.proposeTakeback

/-- TAKEBACK (R243). -/
def execTakeback (s : State) : Answer := .next <| s.upPair s.takeBack

/-- PTR_MST_I_RISE (R223). -/
def execPtrMstIRise (s : State) : Answer :=
  .next <| s.upPair <|
    let s := { s with pair := { s.pair with mstIn := true } }
    if s.pair.waiting then s.becomeStandby.startResync 1 else s

/-- PTR_OK_I_RISE (R240). -/
def execPtrOkIRise (s : State) : Answer := .next <| s.upPair s.okRises

/-- HEARTBEAT_TOGGLE (R226). -/
def execHeartbeatToggle (s : State) : Answer :=
  .next <| s.upPair <| s.onCore (·.setFlag Reg.PTR_STAT_PARTNER_OK s.pair.okIn)

/-- PARTNER_LINK_RETURN (R237). -/
def execPartnerLinkReturn (s : State) : Answer := .next <| s.upPair s.linkReturn

/-- PARTNER_LINK_LANE_LOSS (R225, R242). -/
def execPartnerLinkLaneLoss (k : Fin 2) (s : State) : Answer :=
  .next <| s.upPair <| (s.onCore (·.setBit Reg.PTR_STAT_LINK_LANES k false)).restartHoldoff

/-- PARTNER_FRAME_BAD_CRC (R228). -/
def execPartnerFrameBadCrc (s : State) : Answer :=
  .next <| s.upPair <| if s.paired then s.onCore (·.bump Reg.PTR_LINK_ERR_CRC) else s

/-- FENCED_SELF_TEST_DONE (R227): PTR_OK_O rises again while the fence still stands. -/
def execFencedSelfTestDone (ok : Bool) (s : State) : Answer :=
  .next <| s.upPair <| if s.core.flag Reg.PTR_STAT_FENCED && ok then s.onCore (·.drive .ptrOk true) else s

end Sys2Proof.Machine
end

