-- ==== Sys2Proof/Machine/Sequence.lean ====
section
/-! DEFINITION. The rows of the screed tick: screed instant, limits, merge, metrology results, pins and the start-up wait
(R31, R39 to R49, R168, R256). -/

namespace Sys2Proof.Machine

/-- What a row of the screed tick may change. -/
def State.upTick (s t : State) : State :=
  { s with core := s.core.after t.core, img := t.img, seq := t.seq, trw := t.trw, flt := t.flt, cmd := t.cmd, met := t.met, lane := t.lane
           pair := t.pair, xch := t.xch, svc := t.svc, hq := t.hq, net := t.net, can := t.can, sec := t.sec, plat := runPlat s.plat t.plat
           nt := t.nt, bg := t.bg }

/-- A tick is in progress. -/
def State.running (s : State) : Bool := s.core.flag Reg.TICK_STATUS_RUNNING

/-- Newer metrology results enter their cells (R168); the standby gets the duty's (R229). Log entry 38 (DESIGN CHOICE,
unsafe). -/
def State.enterResults (s : State) : State :=
  let due := s.met.due
  let s := { s with met := { s.met with due := [] }, seq := { s.seq with metDone := true } }
  if s.standby then s
  else
    let s : State := due.foldl (fun (s : State) p => s.writeCell p.1 p.2.1 p.2.2 3 s.epoch) s
    s.sendInputs due.keys

/-- SCREED_INSTANT (R39): a standby's ticks start with STANDBY_TICK_START instead (R230). -/
def execScreedInstant (inputs : List LaneInput) (s : State) : Answer :=
  .next <| s.upTick <| if s.canTick && !s.standby then (s.flushCommands.laneSync inputs).beginTick s.nextEpoch else s

/-- INPUT_SWEEP_OVERRUN (R44): the input sweep is still running 170 µs after T0. -/
def execInputSweepOverrun (s : State) : Answer :=
  .next <| s.upTick <|
    if s.running && !s.seq.inDone then s.onCore (·.setFlag Reg.TICK_OVR_IN_SWEEP_OVR true) else s

/-- INPUT_SWEEP_HARD_LIMIT (R44). -/
def execInputSweepHardLimit (s : State) : Answer := .next <| s.upTick <| if s.running then s.hardLimit else s

/-- The duty or single unit merges on its own; a standby in step merges on CLOSE (R230). Log entry 38 (DESIGN CHOICE, unsafe).
-/
def State.ownMerge (s : State) : Bool := s.canMerge && !s.standby

/-- Results that have not entered their cells yet do so before the merge (R168). -/
def State.resultsIn (s : State) : State := if s.seq.metDone then s else s.enterResults

/-- MERGE (R41, R256). -/
def execMerge (s : State) : Answer := .next <| s.upTick <| if s.ownMerge then s.resultsIn.mergeTick else s

/-- MERGE_LIMIT (R44): the merge is cut off with these slots not merged. -/
def execMergeLimit (unmerged : List Nat) (s : State) : Answer :=
  .next <| s.upTick <|
    if s.ownMerge then (s.onCore (·.setFlag Reg.TICK_OVR_MERGE_OVR true)).resultsIn.mergeTick unmerged else s

/-- METROLOGY_RESULT_ENTRY (R168): after the input sweep, once a tick. -/
def execMetrologyResultEntry (s : State) : Answer :=
  .next <| s.upTick <| if s.canMerge && !s.seq.metDone then s.enterResults else s

/-- OUTPUT_SWEEP_WINDOW_START (R97). -/
def execOutputSweepWindowStart (s : State) : Answer := .next <| s.upTick s.windowStart

/-- OUTPUT_SWEEP_ABORT (R44, R45). -/
def execOutputSweepAbort (s : State) : Answer := .next <| s.upTick s.abortSweep

/-- PUBLISH_ABANDON (R44). -/
def execPublishAbandon (s : State) : Answer := .next <| s.upTick s.abandonPublish

/-- NEAR_LIMIT (R43): one tick's measured scan and control time. -/
def execNearLimit (scanUs : Nat) (s : State) : Answer := .next <| s.upTick <| s.scanTime scanUs

/-- PIN_EXPIRY (R31). Log entry 9 (DESIGN CHOICE, safe). -/
def execPinExpiry (who : ReqSrc) (epoch : Nat) (s : State) : Answer := .next <| s.upTick <| s.expirePin who epoch

/-- LOCK_WAIT_EXPIRY (R49, R341): the time base is the seeded time; with an invalid seed the module goes on waiting. -/
def execLockWaitExpiry (s : State) : Answer :=
  .next <| s.upTick <|
    if s.seq.waitFrom.isSome && s.seq.base.isNone && !s.core.flag Reg.NT_STAT_SEED_INVALID then
      { s with seq := { s.seq with base := some s.ntNs, waitFrom := none } }.onCore
        (·.setFlag Reg.TICK_STATUS_TIME_DEGRADED true)
    else s

end Sys2Proof.Machine
end

