-- ==== Sys2Proof/Machine/ResetOps.lean ====
section
/-! DEFINITION. Resets: what each reaches, the reports of start-up, its steps, and the resets of single blocks (R442 to R458). -/

namespace Sys2Proof.Machine

/-! ### What a reset reaches (R445, R446) -/

/-- Fields that OTP or MRAM holds (R13, R398, R469): no reset changes them. -/
def heldRows : List Row :=
  [Reg.SEC_SVN_CFG, Reg.SEC_SVN_FW, Reg.SEC_SVN_BL, Reg.SEC_OWNER_CLAIMED, Reg.SEC_OWNER_FW_REVOKED, Reg.SEC_OWNER_REVOKED,
   Reg.SEC_OWNER_CURRENT, Reg.RST_COUNT_COLD]

/-- Register fields after a reset (R5, R445): those of the backup domain, OTP and MRAM stay, and after a warm reset those marked
Keeps; every other has its cold value. CAL_STATUS.BUSY is the main die's part of a crossing. -/
def resetRegs (k : Core) (cold : Bool) : Core :=
  let ids := ((Reg.all.filter fun r => r.bkp || (!cold && r.keeps)) ++ heldRows).map (·.id)
  let k := { k with regs := k.regs.filter fun (p : Nat × Nat) => ids.contains (p.1 / 1024), latch := [] }
  (k.setFlag Reg.CAL_STATUS_BUSY false).setFlag Reg.CLK_STAT_BKP_OK (!k.flag Reg.CAL_STATUS_OSF)

/-- Lands at the assertion of a reset (R446). -/
def resetLands (k : Core) (cold : Bool) : Core :=
  let k := [Land.ptrOk, .ptrMst, .ptrRdy, .ptrTrip, .lnSync].foldl lowerLand k
  if !cold then k
  else
    let k := [Land.wdtOut, .lnClk, .ptrHb, .ppsOut].foldl lowerLand k
    raiseLand k .ptrFenceN

/-- The recorder keeps its slots in MRAM; its FIFO is lost, and nothing is admitted until the scan (R404, R445). -/
def resetRecorder (k : Core) : Core :=
  { k with evr := { slots := k.evr.slots, next := k.evr.next, f0 := k.evr.f0, clears := k.evr.clears }, rings := [] }

/-- A controller after a reset (R322). Log entry 102 (DESIGN CHOICE, unsafe). -/
def CanCtl_reset (cold : Bool) (x : CanCtl) : CanCtl :=
  if cold then { sent := x.sent }
  else { cfg := x.cfg, seq0 := x.seq0, seq1 := x.seq1, adjusts := x.adjusts, sent := x.sent }

/-- What metrology keeps over a cold reset (R179, R187): the ferroelectric store, with its newer coefficients, and the
configuration its registers were made under. Log entry 102 (DESIGN CHOICE, unsafe). -/
def coldMet (m : Met) : Met :=
  { cfg := m.cfg, slotA := m.slotA, slotB := m.slotB, snaps := m.snaps, snapNo := m.snapNo, outages := m.outages
    outageNo := m.outageNo, calA := m.calA, calB := m.calB, gains := ((newestCal m).map (·.2)).getD [], warnSeen := m.warnSeen }

/-- A final commit that was not complete when the supply failed may be torn: the slot it was for then fails its check (R186).
Log entry 43 (DESIGN CHOICE, unsafe). -/
def State.tearCommit (s : State) : State :=
  if !s.met.warnDue then s
  else
    let f := s.core.takeFree
    let met := if !f.1.getLsbD 0 then s.met
      else if s.met.seq % 2 = 1 then { s.met with slotA := none } else { s.met with slotB := none }
    { s with core := f.2, met := met }

/-- Carriers and what they hold; they see a cold reset as silence (R217). Log entry 50 (DESIGN CHOICE, unsafe). -/
def resetLane (l : LaneBus) (cold : Bool) : LaneBus :=
  { carriers := if cold then l.carriers.map fun (p : Nat × Carrier) => (p.1, p.2.silent) else l.carriers, syncC := if cold then 0 else l.syncC }

/-- Network time at a reset (R325, R344, R445): C and the mapping are lost in a cold one; a warm one returns the servo to FREE
and keeps the mapping and I. Log entry 102 (DESIGN CHOICE, unsafe). -/
def resetNt (n : Nt) (cold : Bool) : Nt :=
  if cold then { sent := n.sent } else { map := n.map, old := n.old, integ := n.integ, sent := n.sent }

/-- The platform at a reset. -/
def resetPlat (p : Plat) (cold : Bool) : Plat :=
  { p with step := none, fails := 0, block := none, cold := cold || p.cold, lost := if cold then [] else p.lost
           frozen := !cold && p.frozen, cool := false, sleepReq := none, hold := !cold && p.hold }

/-- Seal records still to be made of the snapshots kept (R190): a reset takes none of them away. -/
def sealsDue (m : Met) : List KeyOp :=
  m.snaps.flatMap fun n => (n.domains.filter fun d => !n.seals.any (·.1 == d)).map fun d => .sealing n.number d

/-- Every block a reset reaches (R445). MRAM, the ferroelectric store, flash and the backup domain keep their content. Log
entry 102 (DESIGN CHOICE, unsafe). -/
def State.resetBlocks (s : State) (cold : Bool) : State :=
  let s := s.resetHqe
  let k := resetLands (resetRecorder (resetRegs s.core cold)) cold
  let k := if cold then { k with c := 0, msixTable := [], msixPend := [] } else k
  let k := k.setFlag Reg.PTR_STAT_FENCED s.pair.fenceIn
  let k := (List.range 4).foldl (fun (k : Core) p => k.setFlag Reg.FP_STAT_TX_STOPPED s.net.fenced p) k
  { pending := s.pending, core := k, img := { defs := s.img.defs }
    trw := { copyA := s.trw.copyA, copyB := s.trw.copyB }
    cmd := { forces := s.cmd.forces, forceGen := s.cmd.forceGen, reports := s.cmd.reports, reportNo := s.cmd.reportNo }
    met := if cold then coldMet s.met else s.met
    lane := resetLane s.lane cold
    pair := { sent := s.pair.sent, okIn := s.pair.okIn, mstIn := s.pair.mstIn, rdyIn := s.pair.rdyIn, fenceIn := s.pair.fenceIn }
    xch := { ctrSaved := s.xch.ctrSaved, keyBase := s.xch.keyBase, keyNow := s.xch.keyNow, keyPrev := s.xch.keyPrev, keySwitch := s.xch.keySwitch }
    net := { sent := s.net.sent, fenced := s.net.fenced }
    can := { ctl := s.can.ctl.map fun (p : Nat × CanCtl) => (p.1, CanCtl_reset cold p.2) }
    nt := resetNt s.nt cold
    bkp := { s.bkp with crossing := none, shadow := none }
    sec := { s.sec with ops := sealsDue s.met, runSeq := 0, runSvn := 0, runAdvance := false }
    plat := resetPlat s.plat cold
    bg := { pages := s.bg.pages, retired := s.bg.retired } }

/-- The backup domain stamps each assertion of the reset line with the sources that take part (R360). Log entry 100 (DESIGN
CHOICE, unsafe). -/
def State.stampReset (s : State) : State :=
  let kind := (if s.plat.por then 1 else 0) + (if s.plat.rstLow then 2 else 0)
  s.onCore fun k =>
    (stampInto k Reg.BKP_RST_SEC_SEC Reg.BKP_RST_SUB_FRAC Reg.BKP_RST_SUB_ERA).fput Reg.BKP_RST_KIND_KIND kind

/-- Power-on reset is asserted (R444, R447). -/
def State.assertPor (s : State) : State :=
  if s.plat.por then s
  else
    let s := { s with plat := { s.plat with por := true, srcCold := true } }.stampReset.tearCommit
    s.resetBlocks true

/-- RESET_N goes low (R443), by the carrier or by the module itself (R442): a power-on reset in force covers it (R447). Log
entry 100 (DESIGN CHOICE, unsafe). -/
def State.assertWarm (s : State) (self : Bool) : State :=
  if s.plat.rstLow then s
  else
    let s := { s with plat := { s.plat with rstLow := true, srcWarm := true, srcSelf := s.plat.srcSelf || self } }.stampReset
    if s.plat.por then s else s.resetBlocks false

/-! ### The report of a reset (R448) -/

/-- The stamp of the reset for its record (R400). Log entry 99 (DESIGN CHOICE, unsafe). -/
def resetStamp (k : Core) : Nat × Nat × Nat :=
  (k.fget Reg.BKP_RST_SEC_SEC, k.fget Reg.BKP_RST_SUB_FRAC, k.fget Reg.BKP_RST_SUB_ERA)

/-- RST_CAUSE, RST_COUNT and the reset record (R448). Log entries 8 (DESIGN CHOICE, safe); 99 (DESIGN CHOICE, unsafe). -/
def State.reportReset (s : State) : State :=
  let p := s.plat
  let n (b : Bool) : Nat := if b then 1 else 0
  let k := ((s.core.setFlag Reg.RST_CAUSE_COLD p.srcCold).setFlag Reg.RST_CAUSE_WARM p.srcWarm).setFlag Reg.RST_CAUSE_SELF p.srcSelf
  let k := if p.srcCold then k.fput Reg.RST_COUNT_COLD (k.fget Reg.RST_COUNT_COLD + 1) else k
  let k := if p.srcWarm then k.bump Reg.RST_COUNT_WARM else k
  let k := k.recordAt 0x0F01 0 (le (n p.srcCold + 2 * n p.srcWarm + 4 * n p.srcSelf) 1 ++
    le (k.fget Reg.RST_PRIMER_ATTEMPTS) 1) true (resetStamp k)
  { s with core := k, plat := { p with srcCold := false, srcWarm := false, srcSelf := false } }

/-- A tamper event from before the start-up is recorded from TMP_STAT and TMP_TIME (R366). Log entry 99 (DESIGN CHOICE,
unsafe). -/
def State.reportTamper (s : State) : State :=
  if !s.bkp.tamperDue then s
  else (s.onBkp fun b => { b with tamperDue := false }).onCore fun k =>
    (k.recordAt 0x0B04 0 (le (tmpStat k) 2 ++ le (k.fget Reg.TMP_GEN_GEN) 4) true
      (k.fget Reg.TMP_TIME_SEC_SEC, k.fget Reg.TMP_TIME_SUB_FRAC, k.fget Reg.TMP_TIME_SUB_ERA)).signal 85

/-- The record of a watchdog expiry that MRAM holds (R457). Log entry 99 (DESIGN CHOICE, unsafe). -/
def State.reportExpiry (s : State) : State :=
  match s.plat.expiry with
  | none => s
  | some (c, e) => { s with plat := { s.plat with expiry := none } }.onCore fun k =>
    k.record 0x0F05 0 (le (k.fget Reg.WDT_STAT_EXPIRIES) 2 ++ le c 8 ++ le e 8)

/-! ### Maintenance causes of start-up (R397, R449) -/

/-- A cause that start-up records; maintenance is entered where step 8 ends. Log entry 98 (DEDUCED, unsafe). -/
def State.noteCause (s : State) (c : Nat) : State := s.onCore (·.setBit Reg.SEC_MAINT_CAUSES (c - 1) true)

/-! ### The primer load (R451 to R453) -/

/-- The shadows are valid: the load has ended (R451), or the built-in defaults stand in for it (R452). -/
def State.shadowsValid (s : State) : State :=
  let s := { s with plat := { s.plat with step := some 3 } }.onCore (·.setFlag Reg.RST_PRIMER_VALID true)
  s.reportReset.reportTamper

/-- Three loads have failed (R452). Log entry 107 (DESIGN CHOICE, unsafe). -/
def State.primerFault (s : State) : State :=
  let s := (s.onCore fun k => (k.setFlag Reg.RST_PRIMER_PRIMER_FAULT true).fput Reg.RST_PRIMER_ATTEMPTS 3).shadowsValid
  (s.record 0x0F02 0 (le 3 1)).noteCause 1

/-- A primer load ends (R451, R452). -/
def State.primerDone (s : State) (ok : Bool) (us : Nat) : State :=
  if s.plat.step ≠ some 2 || s.plat.por || s.plat.rstLow || s.plat.frozen then s
  else
    let s := s.onCore fun k => (k.fput Reg.RST_PRIMER_LOAD_US us).fput Reg.RST_PRIMER_ATTEMPTS s.plat.fails
    if ok then s.shadowsValid
    else if s.plat.fails + 1 < 3 then { s with plat := { s.plat with fails := s.plat.fails + 1 } }
    else { s with plat := { s.plat with fails := 3 } }.primerFault

/-- Start-up begins at its first step or at the primer load (R447, R449); with PRIMER_FAULT set no load is made (R453). Log
entry 100 (DESIGN CHOICE, unsafe). -/
def State.beginStartUp (s : State) (cold : Bool) : State :=
  if cold then { s with plat := { s.plat with step := some 1 } }
  else if s.core.flag Reg.RST_PRIMER_PRIMER_FAULT then s.shadowsValid.noteCause 1
  else { s with plat := { s.plat with step := some 2 } }

/-- A source of the reset is released (R447): the module stays in reset until both are. -/
def State.release (s : State) (cold : Bool) : State := if s.plat.por || s.plat.rstLow then s else s.beginStartUp cold

/-! ### Start-up, steps 1 to 7 (R341, R380, R404, R449) -/

/-- Step 1 ends: the clocks run, and a cold start seeds network time (R341, R459). Log entry 107 (DESIGN CHOICE, unsafe). -/
def State.clocksUp (s : State) : State :=
  let s := s.onCore fun k =>
    ((k.fput Reg.CLK_STAT_PLL_LOCK 15).setFlag Reg.CLK_STAT_MET_OK true).setFlag Reg.CLK_STAT_PCIE_REF_OK true
  s.seedNt

/-- Start-up goes on with a step. -/
def State.toStep (s : State) (n : Nat) : State := { s with plat := { s.plat with step := some n } }

/-- An image as its slot reads back now (R378): its signature and hash hold as `ok` says. -/
def readBack (ok : Bool) (f : ImageFile) : ImageFile := { f with sigValid := f.sigValid && ok, bodyHashOk := f.bodyHashOk && ok }

/-- Verify one image of a firmware slot (R378); an empty slot holds no image. -/
def State.verifyFw (s : State) (info : StepInfo) (i : Nat) (stage1 : Bool) : Bool × State :=
  match s.sec.fw.getD i none with
  | none => (false, s)
  | some x =>
    let f := readBack (info.fwOk.any (·.val == i)) (if stage1 then x.stage1 else x.firmware)
    let kind := if stage1 then 1 else 2
    let code := s.verify kind f.header.bodyLength none f
    (code == 0, s.noteVerify kind code f.header)

/-- A trial that a reset has ended before its commit (R382). Log entry 101 (DEDUCED, unsafe). -/
def State.abandonTrial (s : State) : State :=
  match s.sec.trial with
  | some (i, true) =>
    ({ s with sec := { s.sec with trial := none } }.onCore (·.setFlag Reg.SEC_BOOT_FALLBACK true)).record 0x0C04 0 (le i 1)
  | _ => s

/-- The slot the boot ROM tries first (R380): a TRIAL slot once, else the preferred one. Log entry 101 (DEDUCED, unsafe). -/
def State.firstSlot (s : State) : Nat :=
  match s.sec.trial with
  | some (i, false) => i
  | _ => s.sec.fwPref

/-- A firmware slot boots up to a stage (R380, R382, R398). Log entry 101 (DEDUCED, unsafe). -/
def State.bootSlot (s : State) (i stage : Nat) (fallback : Bool) : State :=
  let trial := s.sec.trial.any (·.1 == i)
  s.onCore fun k =>
    let k := ((k.fput Reg.SEC_BOOT_FW_SLOT i).setFlag Reg.SEC_BOOT_TRIAL trial).fput Reg.SEC_BOOT_STAGE stage
    if fallback then k.setFlag Reg.SEC_BOOT_FALLBACK true else k

/-- ROM recovery (R381): queue pair 0 alone is served, for a firmware image. -/
def State.romRecovery (s : State) : State :=
  { s with plat := { s.plat with step := none }, net := { s.net with quiet := false } }.onCore (·.fput Reg.SEC_BOOT_STAGE 3)

/-- Step 4 ends, steps 1 to 3 of R380: a full tamper is a cause, and the ROM has verified a stage 1. Log entry 101 (DEDUCED,
unsafe). -/
def State.romDone (s : State) (info : StepInfo) : State :=
  let s := (if s.core.flag Reg.TMP_STAT_FULL then s.noteCause 2 else s).abandonTrial
  let a := s.firstSlot
  let s := { s with sec := { s.sec with trial := s.sec.trial.map fun (t : Nat × Bool) => (t.1, t.2 || t.1 == a) } }
  let (ok, s) := s.verifyFw info a true
  if ok then (s.bootSlot a 1 false).toStep 5
  else
    let (ok, s) := s.verifyFw info (1 - a) true
    if ok then (s.bootSlot (1 - a) 1 true).toStep 5 else s.romRecovery

/-- The built-in self-test of every engine (R89, R149): one that fails stays out of service. Log entry 98 (DEDUCED, unsafe).
-/
def selfTests (k : Core) (info : StepInfo) : Core :=
  let k := (List.finRange 8).foldl (fun (k : Core) (e : Fin 8) =>
    let bad := info.trwBad.contains e
    let k := ((k.setFlag Reg.TRW_STAT_IN_SERVICE (!bad) e).fput Reg.TRW_STAT_STATE (if bad then 3 else 0) e).setBit
      Reg.TRW_INSVC_ENGINES e (!bad)
    if bad then k.fput Reg.TRW_FAULT_CAUSE 9 e else k) k
  (List.finRange 4).foldl (fun (k : Core) (f : Fin 4) =>
    let bad := info.fltBad.contains f
    let k := ((k.setFlag Reg.FLT_STAT_IN_SERVICE (!bad) f).fput Reg.FLT_STAT_STATE (if bad then 3 else 0) f).setBit
      Reg.FLT_INSVC_ENGINES f (!bad)
    if bad then k.fput Reg.FLT_FAULT_CAUSE 9 f else k) k

/-- Step 5 ends, step 4 of R380: stage 1 has verified the firmware of its slot and loaded the engines. A slot passes with both
its images; where none does, the ROM recovers (R381). Log entry 101 (DEDUCED, unsafe). -/
def State.stageDone (s : State) (info : StepInfo) : State :=
  let a := s.core.fget Reg.SEC_BOOT_FW_SLOT
  let up (s : State) : State := (s.onCore (selfTests · info)).toStep 6
  let (ok, s) := s.verifyFw info a false
  if ok then up (s.onCore (·.fput Reg.SEC_BOOT_STAGE 2))
  else if s.core.flag Reg.SEC_BOOT_FALLBACK then s.romRecovery
  else
    let (ok1, s) := s.verifyFw info (1 - a) true
    if !ok1 then s.romRecovery
    else
      let (ok2, s) := s.verifyFw info (1 - a) false
      if ok2 then up (s.bootSlot (1 - a) 2 true) else s.romRecovery

/-- Step 6 ends, step 5 of R380: the key slots are checked and the keys released; the mesh's LFSRs take new seeds (R364,
R398). Log entry 86 (PRESUMED, unsafe). -/
def State.keysDone (s : State) : State :=
  let a := s.core.takeFree
  let b := a.2.takeFree
  let s := { s with core := b.2 }.onBkp fun x => { x with lfsr0 := a.1, lfsr1 := b.1 }
  ((s.onCore (·.setFlag Reg.SEC_BOOT_KEYS_RELEASED true)).refreshSlots false false).toStep 7

/-! ### Outages (R187, R188) -/

/-- Backup-domain time as an outage record holds it (R188). Log entry 105 (DESIGN CHOICE, unsafe). -/
def outageTime (sec frac era : Nat) : Nat := sec * 2 ^ 32 + frac * 2 ^ 16 + era

/-- An outage record goes into the log of 256, with its event record (R188, R412). Log entry 43 (DESIGN CHOICE, unsafe). -/
def State.addOutage (s : State) (o : Outage) : State :=
  let o := { o with number := s.met.outageNo + 1 }
  let log := s.met.outages ++ [o]
  ({ s with met := { s.met with outageNo := o.number, outages := log.drop (log.length - 256) } }.onCore
    (·.bump Reg.MET_OUTAGES_COUNT)).record 0x0403 0 (le o.number 8 ++ le o.flags 4 ++ le o.unmeteredMs 4 ++ le o.seq 8)

/-- The record of samples that metrology did not take from a backup-domain time until now, BLOCK_RESET set (R187, R462). Log
entry 43 (DESIGN CHOICE, unsafe). -/
def State.gapOutage (s : State) (start : Nat) : State :=
  let w := s.core.wall
  s.addOutage { number := 0, start := start, fin := outageTime w.1 w.2.1 w.2.2, warned := 0, seq := s.met.seq
                flags := if s.core.flag Reg.CAL_STATUS_OSF then 24 else 16, unmeteredMs := 0 }

/-- Milliseconds from a warning sample's WALL, in 2^-16 s of network time, to a backup-domain time (R188). Log entry 43
(DESIGN CHOICE, unsafe). -/
def State.unmetered (s : State) (warned sec frac : Nat) : Nat :=
  let t : Int := (sec + s.utcOffset + 946684800) * 65536 + frac
  min ((t - warned) * 1000 / 65536).toNat 0xFFFFFFFF

/-- The outage that ended with this cold start, when the main supply has failed since the last record (R188, R359). Log entry
43 (DESIGN CHOICE, unsafe). -/
def State.supplyOutage (s : State) : State :=
  let k := s.core
  let f := (k.fget Reg.BKP_PWR_FAIL_SEC_SEC, k.fget Reg.BKP_PWR_FAIL_SUB_FRAC, k.fget Reg.BKP_PWR_FAIL_SUB_ERA)
  let r := (k.fget Reg.BKP_PWR_RET_SEC_SEC, k.fget Reg.BKP_PWR_RET_SUB_FRAC, k.fget Reg.BKP_PWR_RET_SUB_ERA)
  let start := outageTime f.1 f.2.1 f.2.2
  if !s.plat.cold || k.fget Reg.BKP_PWR_SWITCHES = 0 || (s.met.outages.getLast?).any (·.start == start) then s
  else
    let slot := Met_slot s.met
    let final := slot.any fun c => c.flags % 2 == 1
    let torn := slot.any fun c => decide (2 ≤ c.seq) && (if c.seq % 2 = 0 then s.met.slotB.isNone else s.met.slotA.isNone)
    let wall := if final then (slot.map (·.wall)).getD 0 else 0
    let flags := (if final then 1 else if s.met.warnSeen then 0 else 2) + (if torn then 4 else 0) + (if k.flag Reg.CAL_STATUS_OSF then 8 else 0)
    let s := { s with met := { s.met with warnSeen := false } }
    s.addOutage { number := 0, start := start, fin := outageTime r.1 r.2.1 r.2.2, warned := wall, seq := (slot.map (·.seq)).getD 0
                  flags := flags, unmeteredMs := if final then s.unmetered wall f.1 f.2.1 else 0 }

/-- Step 7 ends: the index of the trend log, the recorder's scan, and the records that waited for it (R188, R404, R457, R478). -/
def State.indexDone (s : State) (info : StepInfo) : State :=
  let next := (SMap.keys s.bg.pages).foldl (fun m n => max m (n + 1)) 0
  let s := s.onCore fun k =>
    let k := if next = 0 then k else k.putPair Reg.TREND_NEXT_LO_SEQ_LO Reg.TREND_NEXT_HI_SEQ_HI next
    k.scanRecorder info.recBad
  s.reportExpiry.supplyOutage.toStep 8

/-! ### Steps 8 and 9 (R213, R223, R380, R397, R450, R457) -/

/-- Configuration slots, the higher SEQ first (R380). -/
def State.cfgOrder (s : State) : List Nat :=
  if cfgSeq (s.sec.cfg.getD 1 none) > cfgSeq (s.sec.cfg.getD 0 none) then [1, 0] else [0, 1]

/-- The first configuration slot of a list that verifies (R378, R380). Log entry 106 (DESIGN CHOICE, unsafe). -/
def State.pickConfig (s : State) (info : StepInfo) : List Nat → Option (Nat × ImageFile) × State
  | [] => (none, s)
  | i :: rest => match s.sec.cfg.getD i none with
    | none => s.pickConfig info rest
    | some x =>
      let f := readBack (info.cfgOk.any (·.val == i)) x
      let code := s.verify 3 f.header.bodyLength (some f.header.seq) f
      let s := s.noteVerify 3 code f.header
      if code = 0 then (some (i, f), s) else s.pickConfig info rest

/-- Engines that failed their self-test stay out of service under R86, and every point carries CAL_SUSPECT while the primer's
defaults stand in for its trims (R89, R149, R452). -/
def State.afterLoad (s : State) : State :=
  let s : State := (List.finRange 8).foldl (fun (s : State) (e : Fin 8) =>
    if s.core.flag Reg.TRW_STAT_IN_SERVICE e then s else s.trwOut e) s
  let s : State := (List.finRange 4).foldl (fun (s : State) (f : Fin 4) =>
    if s.core.flag Reg.FLT_STAT_IN_SERVICE f then s else s.fltOut f) s
  if s.core.flag Reg.RST_PRIMER_PRIMER_FAULT then
    let ps := s.sizedPoints.map fun (t : PointPlace × PointBlock × PointExtra) => { t.2.1 with status := t.2.1.status ||| 4 }
    { s with met := { s.met with points := ps } }
  else s

/-- The configuration image of a slot takes effect; the one that runs already stays as it is (R397). Log entry 106 (DESIGN
CHOICE, unsafe). -/
def State.applyConfig (s : State) (i : Nat) (f : ImageFile) : State :=
  let s := s.onCore (·.fput Reg.SEC_BOOT_CFG_SLOT i)
  if s.core.flag Reg.GLB_UNIT_VALID && f.header.seq = s.sec.runSeq then s
  else match f.body with
    | .configuration x => (s.loadImage f.header x).afterLoad
    | _ => s

/-- Firmware arms the watchdog (R457, R458). Log entry 98 (DEDUCED, unsafe). -/
def State.armWatchdog (s : State) : State :=
  s.onCore fun k => raiseLand ((k.setFlag Reg.WDT_STAT_ARMED true).setFlag Reg.WDT_STAT_LEVEL true) .wdtOut

/-- Start-up completes into maintenance (R397, R449). Log entry 98 (DEDUCED, unsafe). -/
def State.startMaintenance (s : State) : State :=
  let s := { s with plat := { s.plat with step := none }, net := { s.net with quiet := false } }.armWatchdog
  s.onCore (·.setState 3 s.lowestCause)

/-- Step 8 ends, step 6 of R380: the configuration has been chosen; with a cause outstanding the module enters maintenance,
else the unit takes its role. Log entry 98 (DEDUCED, unsafe). -/
def State.configDone (s : State) (info : StepInfo) : State :=
  let (x, s) := s.pickConfig info s.cfgOrder
  let s := match x with
    | some (i, f) => s.applyConfig i f
    | none => s.noteCause 4
  if s.core.fget Reg.SEC_MAINT_CAUSES ≠ 0 then s.startMaintenance else s.armWatchdog.chooseRole.toStep 9

/-- Step 9 ends: the wait of R49 begins; a grandmaster's time base, once the calendar has been written, is there (R353, R450). -/
def State.probeDone (s : State) (info : StepInfo) : State :=
  let s := { s with plat := { s.plat with step := none, cold := false }, net := { s.net with quiet := false } }
  let s := (s.joinGroups 0).joinGroups 1
  let s := s.onCore (·.fput Reg.RST_START_MS info.ms)
  let served := s.core.fget Reg.TRW_INSVC_ENGINES = 255 && s.core.fget Reg.FLT_INSVC_ENGINES = 15
  let s := if s.paired && served && !s.core.flag Reg.PTR_STAT_FENCED then s.onCore (·.drive .ptrOk true) else s
  if s.core.fget Reg.NT_STAT_STATE = 2 then { s with seq := { s.seq with base := some s.ntNs, waitFrom := none } }
  else { s with seq := { s.seq with base := none, waitFrom := some s.core.c } }

/-- A start-up step ends and the next begins (R449); step 2 ends with its primer load. Log entry 98 (DEDUCED, unsafe). -/
def State.stepDone (s : State) (info : StepInfo) : State :=
  if s.plat.por || s.plat.rstLow || s.plat.frozen then s
  else match s.plat.step with
    | some 1 => s.clocksUp.toStep 2
    | some 3 => s.toStep 4
    | some 4 => s.romDone info
    | some 5 => s.stageDone info
    | some 6 => s.keysDone
    | some 7 => s.indexDone info
    | some 8 => s.configDone info
    | some 9 => s.probeDone info
    | _ => s

/-! ### Block-alone resets (R454, R455) -/

/-- A frame port after a block-alone reset (R295): queues and buffers emptied, the link kept. -/
def State.resetPort (s : State) (p : Nat) : State :=
  let net := { s.net with txq := s.net.txq.del p, pauses := s.net.pauses.del p, macsec := s.net.macsec.del p }
  let net := { net with rx := net.rx.del p, inCycle := if p < 2 then net.inCycle else net.inCycle.del (p - 2) }
  { s with net := net }.onCore fun k =>
    ((k.setFlag Reg.FP_STAT_PAUSED false p).setFlag Reg.MS_STAT_SECURED false p).setFlag Reg.FP_STAT_TX_STOPPED s.net.fenced p

/-- A CAN FD controller after a reset (R322): descriptors that wait for its requests get an event of status 1. -/
def State.resetCan (s : State) (c : Nat) : State :=
  let s : State := (s.canCtl c).bufs.foldl (fun (s : State) b =>
    if b.2.pending || b.2.active then s.answerCan c b.1 (s.txEvent c b.1 b.2.el 1 0) else s) s
  let x := s.canCtl c
  let x := { CanCtl_reset false x with listen := x.listen, enter := x.enter }
  let s := (s.putCan c x).onCore fun k =>
    let k := (((k.fput Reg.CAN_ECR_TEC 0 c).fput Reg.CAN_ECR_REC 0 c).setFlag Reg.CAN_BUS_WARN false c).fput Reg.CAN_BUS_RECOV 0 c
    let k := (k.fput Reg.CAN_RXQ0_FILL 0 c).fput Reg.CAN_RXQ1_FILL 0 c
    k.fput Reg.CAN_BUS_STATE (if k.fget Reg.CAN_CFG_MODE c = 0 then 3 else 0) c
  s.showTx c

/-- Metrology is reset alone (R187, R455): after its final commit sampling restarts; without it the newest valid slot is
recovered. Log entry 45 (DEDUCED, unsafe). -/
def State.resetMet (s : State) (idle : Bool) : State :=
  if !s.sampling then s
  else
    let w := s.core.wall
    let s := if idle then (if s.core.flag Reg.PWR_STAT_WARN then s else s.finalCommit 5)
      else match Met_slot s.met with
        | some c => { s with met := { s.met with points := c.points, thermal := c.thermal, samples := c.samples } }
        | none => s
    let met := { s.met with products := [], wave := {}, clipCycle := [], clipWindow := [], okCycles := 0 }
    { s with met := met }.gapOutage (outageTime w.1 w.2.1 w.2.2)

/-- Records still in the FIFO are lost and counted (R405, R455). Log entry 103 (DEDUCED, unsafe). -/
def dropFifo (k : Core) : Core :=
  let n := k.evr.fifo.length
  if n = 0 then k
  else
    let e := k.evr
    let first := (e.fifo.head?.map (·.mono)).getD k.c
    let k := { k with evr := { e with fifo := [], dropped := e.dropped + n, dropLast := k.c
                                      dropFirst := if e.dropped = 0 then first else e.dropFirst } }
    (k.bump Reg.EVR_DROPPED_COUNT 0 n).signal 86

/-- The recorder is reset alone (R404, R455): its FIFO is written first, or lost; then it scans its slots. Log entry 103
(DEDUCED, unsafe). -/
def resetEvr (k : Core) (idle : Bool) : Core :=
  let k := if idle then k.evr.fifo.foldl (fun (k : Core) _ => k.writeRecord) k else dropFifo k
  k.scanRecorder []

/-- What a block's reset does to it (R455): the partner link trains again and loses no frame, and its repeats start anew. Log
entry 103 (DEDUCED, unsafe). -/
def State.resetBlock (s : State) (block : Nat) (idle : Bool) : State :=
  if block = 1 then s.resetHqe
  else if 2 ≤ block ∧ block ≤ 5 then s.resetPort (block - 2)
  else if 6 ≤ block ∧ block ≤ 9 then s.resetCan (block - 6)
  else if block = 0x0A then s.resetMet idle
  else if block = 0x0B then { s with pair := { s.pair with resends := [] } }
  else if block = 0x0C then s.onCore (resetEvr · idle)
  else s

/-- A block-alone reset is requested (R454): one at a time, of the codes 0x01 to 0x0C. Log entry 103 (DEDUCED, unsafe). -/
def State.askBlock (s : State) : State :=
  let b := s.core.fget Reg.RST_BLOCK_BLOCK
  if s.core.flag Reg.RST_BLOCK_STAT_BUSY || b = 0 || 0x0C < b then s
  else
    let s := { s with plat := { s.plat with block := some b } }.onCore fun k =>
      (k.setFlag Reg.RST_BLOCK_STAT_BUSY true).fput Reg.RST_BLOCK_STAT_LAST b
    if b = 0x0C then s.onCore fun k => { k with evr := { k.evr with scanned := false } } else s

/-- The block has gone idle, or its timeout has passed (R454). -/
def State.blockDone (s : State) (idle : Bool) : State :=
  match s.plat.block with
  | none => s
  | some b =>
    let s := { s with plat := { s.plat with block := none } }.onCore fun k =>
      ((k.setFlag Reg.RST_BLOCK_STAT_BUSY false).setFlag Reg.RST_BLOCK_STAT_HANDSHAKE idle).bump Reg.RST_BLOCK_STAT_COUNT
    (s.resetBlock b idle).record 0x0F04 0 (le b 1 ++ le (if idle then 1 else 0) 1)

/-! ### The watchdog (R457, R458) -/

/-- The watchdog expires: it resets nothing, and is not armed again before the next start-up. -/
def State.expireWatchdog (s : State) : State :=
  if !s.core.flag Reg.WDT_STAT_ARMED then s
  else
    let s := { s with plat := { s.plat with expiry := some (s.core.c, s.epoch) } }.onCore fun k =>
      let k := ((k.setFlag Reg.WDT_STAT_ARMED false).setFlag Reg.WDT_STAT_LEVEL false).drive .wdtOut false
      (k.setFlag Reg.WDT_STAT_EXPIRED true).bump Reg.WDT_STAT_EXPIRIES
    s.selfFault

/-! ### Clocks (R462) -/

/-- CLK_LOSS of a clock (R469). -/
def countLoss (k : Core) (c : Nat) : Core :=
  if c = 0 then k.bump Reg.CLK_LOSS_PLL0
  else if c ≤ 3 then k.bump Reg.CLK_LOSS_PLL123
  else if c = 4 then k.bump Reg.CLK_LOSS_PCIE_REF
  else if c = 5 then k.bump Reg.CLK_LOSS_MET
  else k

/-- A clock reads as running or lost (R469). -/
def showClock (k : Core) (c : Nat) (on : Bool) : Core :=
  if c ≤ 3 then k.setBit Reg.CLK_STAT_PLL_LOCK c on
  else if c = 4 then k.setFlag Reg.CLK_STAT_PCIE_REF_OK on
  else if c = 5 then k.setFlag Reg.CLK_STAT_MET_OK on
  else if c = 6 then k.setFlag Reg.CLK_STAT_PTNR_OK on
  else k

/-- What stops with a clock (R462). -/
def State.stopClock (s : State) (c : Nat) : State :=
  if c = 0 then
    let s := ({ s with plat := { s.plat with frozen := true } }.stopTicks).onCore fun k =>
      ((k.setFlag Reg.WDT_STAT_LEVEL false).setFlag Reg.WDT_STAT_ARMED false).drive .wdtOut false
    s.selfFault
  else if c = 1 then (List.range 4).foldl (fun (s : State) p => s.resetPort p) s
  else if c = 2 then (SMap.keys s.can.ctl).foldl (fun (s : State) c => s.resetCan c) s
  else if c = 3 then s.selfFault
  else if c = 4 then s.resetHqe.onCore fun k =>
    { (k.fput Reg.HQE_LINK_SPEED 0).fput Reg.HQE_LINK_WIDTH 0 with msixTable := [], msixPend := [] }
  else if c = 5 then { s with met := { s.met with blocked := s.core.flag Reg.MET_STAT_RUN } }.onCore
    (·.setFlag Reg.MET_STAT_RUN false)
  else if c = 6 then (if s.paired then s.linkSilent else s)
  else s.setOsf true

/-- A clock is lost (R462): counted, and kept for its record. Log entries 102 (DESIGN CHOICE, unsafe); 105 (DESIGN CHOICE,
unsafe). -/
def State.loseClock (s : State) (c : Nat) : State :=
  if s.plat.por || s.plat.lost.any (·.1 == c) then s
  else
    let w := s.core.wall
    let s := { s with plat := { s.plat with lost := s.plat.lost ++ [(c, s.core.c, outageTime w.1 w.2.1 w.2.2)] } }
    (s.onCore fun k => showClock (countLoss k c) c false).stopClock c

/-- After a PLL3 loss the sequencer re-enters (R48, R462): X is the first epoch whose T0 lies at least P after the last
LN_SYNC. Log entry 81 (DESIGN CHOICE, unsafe). -/
def State.reenterTime (s : State) (us : Nat) : State :=
  let s := { s with lane := { s.lane with syncC := s.lane.syncC - us * 250 } }
  let s := if s.paired && s.core.fget Reg.TRW_INSVC_ENGINES = 255 && s.core.fget Reg.FLT_INSVC_ENGINES = 15 then
      s.onCore (·.drive .ptrOk true) else s
  if s.running then s.followStep 0 false else s

/-- A clock is back (R462): its record, and what restarts with it. Log entries 102 (DESIGN CHOICE, unsafe); 105 (DESIGN
CHOICE, unsafe). -/
def State.returnClock (s : State) (c us : Nat) : State :=
  match s.plat.lost.find? (·.1 == c) with
  | none => s
  | some x =>
    let s := { s with plat := { s.plat with lost := s.plat.lost.filter (·.1 != c) } }.onCore (showClock · c true)
    let s := if c = 0 then ({ s with plat := { s.plat with frozen := false } }.resetBlocks false).release false else s
    let s := s.record 0x0F06 0 (le c 1 ++ le (min us 0xFFFFFFFF) 4 ++ le x.2.1 8)
    if c = 3 then s.reenterTime us
    else if c = 5 then
      ({ s with met := { s.met with blocked := false } }.onCore fun k =>
        if s.met.blocked then k.setFlag Reg.MET_STAT_RUN true else k).gapOutage x.2.2
    else s

/-! ### The junction (R467, R468) -/

/-- Book the time in stages 1 to 3 (R467). -/
def State.bookStage (s : State) : State :=
  if s.core.fget Reg.THM_STAT_STAGE = 0 then { s with plat := { s.plat with stageSince := s.core.c } }
  else
    let n := (s.core.c - s.plat.stageSince) / 250000000
    { s with plat := { s.plat with stageSince := s.plat.stageSince + n * 250000000 } }.onCore (·.bump Reg.THM_STAGE_S_SECONDS 0 n)

/-- The throttle stage changes (R467). Log entry 104 (DEDUCED, unsafe). -/
def State.setStage (s : State) (n : Nat) : State :=
  if s.core.fget Reg.THM_STAT_STAGE = n then s
  else s.bookStage.onCore fun k =>
    ((k.fput Reg.THM_STAT_STAGE n).signal 84).record 0x0F03 0 (le n 1 ++ le (bitsOf 16 (k.sget Reg.THM_STAT_TJ / 10)) 2)

/-- 110.0 °C (R468): the stop bead trips, and ordinary tasks and loops stop as well. Log entry 104 (DEDUCED, unsafe). -/
def State.thermalLimit (s : State) : State :=
  let s := s.trip 5 0
  let s := { s with cmd := { s.cmd with stopAll := true, feathering := false } }
  let s : State := (List.finRange 8).foldl (fun (s : State) (e : Fin 8) =>
    if (s.trw.engines.atD e {}).task.isSome then s.dropCycle e 0 else s) s
  let drop (m : SMap Stage) : SMap Stage := m.map fun p => (p.1, if p.2 == .due then .discarded else p.2)
  let s := { s with trw := { s.trw with stages := drop s.trw.stages }, flt := { s.flt with stages := drop s.flt.stages } }
  (if s.running then s.itemDone else s).selfFault

/-- Thresholds lie 8 °C lower while the primer's defaults stand in for the sensors' offsets (R452). Log entry 104 (DEDUCED,
unsafe). -/
def tjOffset (k : Core) : Int := if k.flag Reg.RST_PRIMER_PRIMER_FAULT then 80 else 0

/-- One measurement of the junction, in 0.1 °C (R467, R468, R397). Log entry 104 (DEDUCED, unsafe). -/
def State.junction (s : State) (t : Int) : State :=
  if !s.dieOn || s.plat.rstLow then s
  else
    let s := s.bookStage.onCore fun k =>
      let k := k.sput Reg.THM_STAT_TJ t
      if k.sget Reg.THM_MAX_TJ < t then k.sput Reg.THM_MAX_TJ t else k
    let e := t + tjOffset s.core
    let s := { s with plat := { s.plat with cool := decide (e < 1000) } }
    let old := s.core.fget Reg.THM_STAT_STAGE
    let new := if 1100 ≤ e then 3 else if 1070 ≤ e then 2 else if 1050 ≤ e then 1 else 0
    let s := if old < new then s.setStage new else if old = 3 ∧ e < 950 then s.setStage 0 else s
    let s := if old < 3 ∧ new = 3 then s.thermalLimit else s
    if e < 950 && s.hasCause 3 then { s with cmd := { s.cmd with stopAll := false } }.endCause 3 else s

end Sys2Proof.Machine
end

