-- ==== Sys2Proof/Machine/HostReg.lean ====
section
/-! DEFINITION. The host's accesses to the register map: writes by access code, the fields whose write is an action, the
MSI-X table, reads with the latch of two-register values, and bad accesses (R5 to R10, R13, R420, R428, R430, R499). -/

namespace Sys2Proof.Machine

/-- What a register access may change: everything but the queue of commands and the backup domain's running count. -/
def State.upReg (s t : State) : State :=
  { t with pending := s.pending, core := s.core.after t.core, bkp := outsideBkp s.bkp t.bkp, cfg := s.cfg
           plat := runPlat s.plat t.plat }

/-- BAR0 is 1 MiB (R11). -/
def barBytes : Nat := 0x100000

/-- The host's link is down while a reset is asserted. -/
def State.linkDown (s : State) : Bool := s.plat.por || s.plat.rstLow

/-! ### Bad accesses and the MSI-X table (R8, R417, R430) -/

/-- Count a bad access and signal vector 87 (R8, R430). Log entries 12 (DESIGN CHOICE, unsafe); 15 (DESIGN CHOICE, unsafe). -/
def State.countBad (s : State) : State := s.onCore fun k => (k.bump Reg.BG_BADACC_COUNT).signal 87

/-- Words of the MSI-X table and of its pending bits (R430). -/
def msixTableAt (addr : Nat) : Bool := decide (0x7800 ≤ addr) && decide (addr < 0x7E00)
/-- See `msixTableAt`. -/
def msixPendAt (addr : Nat) : Bool := decide (0x7E00 ≤ addr) && decide (addr < 0x7E10)

/-- Write a word of the MSI-X table: a vector unmasked while its pending bit is set is sent (R430). Log entries 12 (DESIGN
CHOICE, unsafe); 14 (PRESUMED, unsafe). -/
def msixWrite (k : Core) (addr : Nat) (v : Word) : Core :=
  let n := addr - 0x7800
  let e := n / 16
  let x := if n % 16 = 0 then v.toNat - v.toNat % 4 else if n % 16 = 12 then v.toNat % 2 else v.toNat
  let k := { k with msixTable := k.msixTable.put n x }
  if k.msixPend.contains e && !k.msixMasked e then
    { k with msixPend := k.msixPend.filter (· != e) }.emit (.msix e)
  else k

/-- A word of the MSI-X structures: a vector control word starts masked. -/
def msixRead (k : Core) (addr : Nat) : Word :=
  if msixTableAt addr then BitVec.ofNat 32 (k.msixTable.atD (addr - 0x7800) (if addr % 16 = 12 then 1 else 0))
  else
    let b := (addr - 0x7E00) * 8
    BitVec.ofNat 32 (((List.range 32).map fun i => if b + i < 96 ∧ k.msixPend.contains (b + i) then 2 ^ i else 0).sum)

/-! ### Writes -/

/-- The set-up fields of a queue at an address, which its ENABLE at 1 holds (R420); those of an event ring are not held. Log
entry 13 (DEDUCED, unsafe). -/
def heldByEnable (k : Core) (addr : Nat) : Bool :=
  let inQueue (r : Row) : Bool := match r.itemAt addr with
    | some q => k.flag Reg.HQ_CFG_ENABLE q
    | none => false
  inQueue Reg.HQ_CFG_PRIO || inQueue Reg.HQ_SQ_BASE_PAGE || inQueue Reg.HQ_CQ_BASE_PAGE || inQueue Reg.ATC_ROOT_LO_ADDR ||
    inQueue Reg.ATC_ROOT_HI_ADDR

/-- The ENABLE fields: their write is an action (R420, R428). -/
def enables (r : Row) : Bool := r == Reg.HQ_CFG_ENABLE || r == Reg.EQ_CFG_ENABLE

/-- What the write of an action field of BAR0 does once the fields beside it are stored (R192, R328, R420, R428, R433, R454).
Log entry 12 (DESIGN CHOICE, unsafe). -/
def State.actOn (s : State) (addr : Nat) (v : Word) : State :=
  if addr = Reg.MET_SNAP_CTRL_TAKE.addr then if v.getLsbD 0 then s.requestSnapshot else s
  else if addr = Reg.NT_CAP_CTRL_TAKE.addr then if v.getLsbD 0 then s.capture else s
  else if addr = Reg.RST_BLOCK_GO.addr then if v.getLsbD 31 then s.askBlock else s
  else if addr = Reg.ATC_INV_CTRL_GO.addr then if v.getLsbD 31 then s.invalidate else s
  else match Reg.HQ_CFG_ENABLE.itemAt addr, Reg.EQ_CFG_ENABLE.itemAt addr with
    | some q, _ =>
      if v.getLsbD 31 then s.enableQueue (Fin.ofNat 64 q)
      else if s.core.flag Reg.HQ_CFG_ENABLE q then s.stopQueue (Fin.ofNat 64 q) else s
    | none, some e => s.enableRing (Fin.ofNat 16 e) (v.getLsbD 31)
    | none, none => s

/-- The backup domain's window (R11). -/
def inWindow (addr : Nat) : Bool := decide (0x70000 ≤ addr) && decide (addr < 0x78000)

/-- An aligned write of a BAR0 word. Log entry 12 (DESIGN CHOICE, unsafe). -/
def State.writeReg (s : State) (addr : Nat) (v : Word) : State :=
  if msixTableAt addr then s.onCore (msixWrite · addr v)
  else if inWindow addr then
    if addr = Reg.BKP_SLEEP_KEY.addr then s.sleepKey v else if assigned addr then s.crossWrite addr v else s
  else
    let held := heldByEnable s.core addr
    (s.onCore fun k => if held then k else k.writeWhere (fun r => !enables r) addr v).actOn addr v

/-- REGISTER_WRITE (R5, R8, R10, R499). -/
def execRegisterWrite (addr : Nat) (v : Word) (s : State) : Answer :=
  .next <| s.upReg <|
    if s.linkDown || decide (barBytes ≤ addr) then s else if addr % 4 ≠ 0 then s.countBad else s.writeReg addr v

/-- SETUP_LOCK (R13). -/
def execSetupLock (s : State) : Answer :=
  .next <| s.upReg <| if s.linkDown then s else s.onCore (·.setFlag Reg.GLB_CTRL_SETUP_LOCK true)

/-- BAD_ACCESS (R8, R417): a write is discarded, and a read of BAR0 returns ones; one of BAR2 returns 0. -/
def execBadAccess (bar2 write : Bool) (s : State) : Answer :=
  .next <| s.upReg <|
    if s.linkDown then s
    else if write then s.countBad
    else s.countBad.onCore (·.emit (.readData 0 (if bar2 then 0 else 0xFFFFFFFF)))

/-! ### Reads -/

/-- Calibration ages of a channel in s (R195). -/
def State.calAge (s : State) (ch : Nat) : Nat :=
  match s.met.calC.at? ch with
  | some c => (s.core.c - c) / 250000000
  | none => 0

/-- The stamp corrections of port `p` (R292). -/
def State.stampFix (s : State) (p : Nat) : Nat :=
  if 2 ≤ p then 1240 + 65536 * 840
  else (if s.core.flag Reg.FP_STAT_MS_MASTER p then 288 else 296) + 65536 * 172

/-- The live value of a BAR0 word: the fields stored, and the values no field stores (R5, R195, R292, R303, R326, R469). -/
def State.liveWord (s : State) (addr : Nat) : Word :=
  let can (r : Row) (f : Nat → Nat) : Option Nat := (r.itemAt addr).map fun i => f (bitsOf 64 (s.canStamp i 0))
  let live : Option Nat :=
    if addr = Reg.NT_CNT_LO_C_LO.addr then some (s.core.c % 2 ^ 32)
    else if addr = Reg.NT_CNT_HI_C_HI.addr then some (s.core.c / 2 ^ 32 % 2 ^ 32)
    else if (Reg.FP_MAC_LO_ADDR_LO.itemAt addr).isSome then (Reg.FP_MAC_LO_ADDR_LO.itemAt addr).map fun p => s.mac p % 2 ^ 32
    else if (Reg.FP_MAC_HI_ADDR_HI.itemAt addr).isSome then (Reg.FP_MAC_HI_ADDR_HI.itemAt addr).map fun p => s.mac p / 2 ^ 32 % 2 ^ 16
    else if addr = Reg.PWR_STAT_VIN_MV.addr then some (powerWord s.core)
    else if addr = Reg.PWR_INPUT_PIN_MW.addr then
      some (Core.measured s.core 2 Reg.PWR_INPUT_PIN_MW + 65536 * Core.measured s.core 1 Reg.PWR_INPUT_IIN_MA)
    else (can Reg.CAN_STAMP_LO_NS_LO (· % 2 ^ 32)).orElse fun _ =>
      (can Reg.CAN_STAMP_HI_NS_HI (· / 2 ^ 32)).orElse fun _ =>
      ((Reg.MET_CH_CALAGE_SECONDS.itemAt addr).map s.calAge).orElse fun _ =>
      (Reg.FP_TS_CORR_INGRESS_NS.itemAt addr).map s.stampFix
  match live with
  | some x => BitVec.ofNat 32 x
  | none => if msixTableAt addr || msixPendAt addr then msixRead s.core addr else s.core.readWord addr

/-- The low word of a value of two registers stands at an address (R9). -/
def lowWordAt (addr : Nat) : Bool := Reg.lowWords.any fun r => (r.itemAt addr).isSome

/-- An aligned read of a BAR0 word: a low word latches its high word, and the next read of the high word takes what was
latched (R9). Log entry 12 (DESIGN CHOICE, unsafe). -/
def State.readReg (s : State) (addr : Nat) : State :=
  if (timeWord s.timeGroup addr).isSome then s.readTimeGroup addr
  else
    let s := s.showErr
    let v := (s.core.latch.at? addr).elim (s.liveWord addr) (BitVec.ofNat 32 ·)
    let k := { s.core with latch := s.core.latch.del addr }
    let k := if lowWordAt addr then { k with latch := k.latch.put (addr + 4) (s.liveWord (addr + 4)).toNat } else k
    { s with core := k.emit (.readData addr v) }

/-- LOW_WORD_READ (R9). A read at any other offset is answered as R5, R7 and R8 say. -/
def execLowWordRead (addr : Nat) (s : State) : Answer :=
  .next <| s.upReg <|
    if s.linkDown || decide (barBytes ≤ addr) then s
    else if addr % 4 ≠ 0 then s.countBad.onCore (·.emit (.readData addr 0xFFFFFFFF))
    else s.readReg addr

end Sys2Proof.Machine
end

