-- ==== Sys2Proof/Machine/ResetPower.lean ====
section
/-! DEFINITION. The rows of reset, start-up, clocks and power (R382, R442 to R468). -/

namespace Sys2Proof.Machine

/-- What a power-on reset may change: everything but the queue of commands and the backup domain's running count (R445). -/
def State.upCold (s t : State) : State := { t with pending := s.pending, bkp := outsideBkp s.bkp t.bkp }

/-- What the other rows of reset and power may change: not C either (R325). -/
def State.upPower (s t : State) : State := (s.upCold t).onCore s.core.after

/-- What a row that neither asserts a reset nor chooses a configuration may change: the running configuration stays. -/
def State.upRun (s t : State) : State := { s.upPower t with cfg := s.cfg }

/-- TRIAL_TIMEOUT (R382, R442): 600 s in the TRIAL slot without a commit; the module drives RESET_N low itself. Log entry 100
(DESIGN CHOICE, unsafe). -/
def execTrialTimeout (s : State) : Answer :=
  .next <| s.upPower <|
    if s.core.flag Reg.SEC_BOOT_TRIAL && s.sec.trial.isSome && !s.plat.por && !s.plat.rstLow then
      (s.assertWarm true).onCore (·.drive .resetN false)
    else s

/-- POWER_ON_RESET (R444). -/
def execPowerOnReset (s : State) : Answer := .next <| s.upCold s.assertPor

/-- POWER_ON_RELEASE (R444, R447). -/
def execPowerOnRelease (s : State) : Answer :=
  .next <| s.upRun <|
    if s.plat.por then { s with plat := { s.plat with por := false } }.release true else s

/-- RESET_N_ASSERT (R443). -/
def execResetNAssert (s : State) : Answer := .next <| s.upPower <| s.assertWarm false

/-- RESET_N_RELEASE (R443, R447): the cold sequence follows when power-on reset took part and its clocks do not run yet. -/
def execResetNRelease (s : State) : Answer :=
  .next <| s.upRun <|
    if !s.plat.rstLow then s
    else
      let s := { s with plat := { s.plat with rstLow := false } }.onCore (raiseLand · .resetN)
      s.release (s.core.fget Reg.CLK_STAT_PLL_LOCK = 0)

/-- START_UP_STEP_DONE (R449). -/
def execStartUpStepDone (info : StepInfo) (s : State) : Answer := .next <| s.upPower <| s.stepDone info

/-- PRIMER_LOAD_DONE (R451, R452). -/
def execPrimerLoadDone (crcOk : Bool) (us : BitVec 16) (s : State) : Answer :=
  .next <| s.upRun <| s.primerDone crcOk us.toNat

/-- BLOCK_RESET (R454): a write of RST_BLOCK.GO. -/
def execBlockReset (s : State) : Answer := .next <| s.upRun s.askBlock

/-- BLOCK_RESET_DONE (R454, R455). -/
def execBlockResetDone (idle : Bool) (s : State) : Answer := .next <| s.upRun <| s.blockDone idle

/-- WATCHDOG_SERVICE (R457): the time to the next expiry starts again, and a recorded expiry finds its record, firmware running again. -/
def execWatchdogService (s : State) : Answer :=
  .next <| s.upRun <| if s.core.evr.scanned then s.reportExpiry else s

/-- WATCHDOG_EXPIRY (R457). Log entry 9 (DESIGN CHOICE, safe). -/
def execWatchdogExpiry (s : State) : Answer := .next <| s.upRun s.expireWatchdog

/-- CLOCK_LOSS (R462): clock `k` as code 0x0F06 numbers it. -/
def execClockLoss (k : Fin 8) (s : State) : Answer := .next <| s.upRun <| s.loseClock k

/-- CLOCK_RETURN (R462). -/
def execClockReturn (k : Fin 8) (us : Word) (s : State) : Answer := .next <| s.upPower <| s.returnClock k us.toNat

/-- JUNCTION_MEASURE (R467, R468): `t` in 0.1 °C. -/
def execJunctionMeasure (t : Int) (s : State) : Answer := .next <| s.upRun <| s.junction t

/-- THROTTLE_RELEASE (R467): 10 s below 100 °C end stage 1 or 2. Log entry 9 (DESIGN CHOICE, safe). -/
def execThrottleRelease (s : State) : Answer :=
  .next <| s.upRun <|
    let n := s.core.fget Reg.THM_STAT_STAGE
    if s.plat.cool && (n = 1 || n = 2) then s.setStage 0 else s

/-- THERMAL_MAINTENANCE_ENTRY (R468): feathering has ended, or 60 s have passed since the trip. Log entry 9 (DESIGN CHOICE,
safe). -/
def execThermalMaintenanceEntry (s : State) : Answer :=
  .next <| s.upRun <| if s.cmd.stopAll && !s.hasCause 3 then s.enterMaintenance 3 else s

end Sys2Proof.Machine
end

