-- ==== Sys2Proof/Machine/Dispatch.lean ====
section
/-! DEFINITION. What each command does: one arm a constructor. -/

namespace Sys2Proof.Machine

open Sys2Proof

/-- The effect of a command on everything but the queue of commands. Log entry 1 (DESIGN CHOICE, unsafe). -/
def exec (i : Instr) (s : State) : Host.Outcome State Fault Refusal :=
  match i with
  | .registerWrite addr v => Sys2Proof.Machine.execRegisterWrite addr v s
  | .setupLock => Sys2Proof.Machine.execSetupLock s
  | .badAccess bar2 write => Sys2Proof.Machine.execBadAccess bar2 write s
  | .lowWordRead addr => Sys2Proof.Machine.execLowWordRead addr s
  | .screedInstant inputs => Sys2Proof.Machine.execScreedInstant inputs s
  | .inputSweepOverrun => Sys2Proof.Machine.execInputSweepOverrun s
  | .inputSweepHardLimit => Sys2Proof.Machine.execInputSweepHardLimit s
  | .merge => Sys2Proof.Machine.execMerge s
  | .mergeLimit unmerged => Sys2Proof.Machine.execMergeLimit unmerged s
  | .metrologyResultEntry => Sys2Proof.Machine.execMetrologyResultEntry s
  | .taskDispatch e => Sys2Proof.Machine.execTaskDispatch e s
  | .nop e => Sys2Proof.Machine.execNop e s
  | .ld e m => Sys2Proof.Machine.execLd e m s
  | .ldn e m => Sys2Proof.Machine.execLdn e m s
  | .and e m => Sys2Proof.Machine.execAnd e m s
  | .andn e m => Sys2Proof.Machine.execAndn e m s
  | .or e m => Sys2Proof.Machine.execOr e m s
  | .orn e m => Sys2Proof.Machine.execOrn e m s
  | .xor e m => Sys2Proof.Machine.execXor e m s
  | .xorn e m => Sys2Proof.Machine.execXorn e m s
  | .st e m => Sys2Proof.Machine.execSt e m s
  | .stn e m => Sys2Proof.Machine.execStn e m s
  | .set e m => Sys2Proof.Machine.execSet e m s
  | .rst e m => Sys2Proof.Machine.execRst e m s
  | .ltrue e => Sys2Proof.Machine.execLtrue e s
  | .lfalse e => Sys2Proof.Machine.execLfalse e s
  | .not e => Sys2Proof.Machine.execNot e s
  | .andOpen e => Sys2Proof.Machine.execAndOpen e s
  | .andnOpen e => Sys2Proof.Machine.execAndnOpen e s
  | .orOpen e => Sys2Proof.Machine.execOrOpen e s
  | .ornOpen e => Sys2Proof.Machine.execOrnOpen e s
  | .xorOpen e => Sys2Proof.Machine.execXorOpen e s
  | .closeParen e => Sys2Proof.Machine.execCloseParen e s
  | .push e => Sys2Proof.Machine.execPush e s
  | .read e => Sys2Proof.Machine.execRead e s
  | .pop e => Sys2Proof.Machine.execPop e s
  | .lda e m => Sys2Proof.Machine.execLda e m s
  | .ldb e m => Sys2Proof.Machine.execLdb e m s
  | .sta e m => Sys2Proof.Machine.execSta e m s
  | .stac e m => Sys2Proof.Machine.execStac e m s
  | .swap e => Sys2Proof.Machine.execSwap e s
  | .movab e => Sys2Proof.Machine.execMovab e s
  | .selw e => Sys2Proof.Machine.execSelw e s
  | .qok e m => Sys2Proof.Machine.execQok e m s
  | .ldql e m => Sys2Proof.Machine.execLdql e m s
  | .addi e => Sys2Proof.Machine.execAddi e s
  | .subi e => Sys2Proof.Machine.execSubi e s
  | .muli e => Sys2Proof.Machine.execMuli e s
  | .divi e => Sys2Proof.Machine.execDivi e s
  | .modi e => Sys2Proof.Machine.execModi e s
  | .divu e => Sys2Proof.Machine.execDivu e s
  | .negi e => Sys2Proof.Machine.execNegi e s
  | .absi e => Sys2Proof.Machine.execAbsi e s
  | .andw e => Sys2Proof.Machine.execAndw e s
  | .orw e => Sys2Proof.Machine.execOrw e s
  | .xorw e => Sys2Proof.Machine.execXorw e s
  | .notw e => Sys2Proof.Machine.execNotw e s
  | .shl e => Sys2Proof.Machine.execShl e s
  | .shr e => Sys2Proof.Machine.execShr e s
  | .sar e => Sys2Proof.Machine.execSar e s
  | .addf e => Sys2Proof.Machine.execAddf e s
  | .subf e => Sys2Proof.Machine.execSubf e s
  | .mulf e => Sys2Proof.Machine.execMulf e s
  | .divf e => Sys2Proof.Machine.execDivf e s
  | .sqrtf e => Sys2Proof.Machine.execSqrtf e s
  | .negf e => Sys2Proof.Machine.execNegf e s
  | .absf e => Sys2Proof.Machine.execAbsf e s
  | .minf e => Sys2Proof.Machine.execMinf e s
  | .maxf e => Sys2Proof.Machine.execMaxf e s
  | .itof e => Sys2Proof.Machine.execItof e s
  | .utof e => Sys2Proof.Machine.execUtof e s
  | .ftoi e => Sys2Proof.Machine.execFtoi e s
  | .eqi e => Sys2Proof.Machine.execEqi e s
  | .nei e => Sys2Proof.Machine.execNei e s
  | .gti e => Sys2Proof.Machine.execGti e s
  | .gei e => Sys2Proof.Machine.execGei e s
  | .lti e => Sys2Proof.Machine.execLti e s
  | .lei e => Sys2Proof.Machine.execLei e s
  | .gtu e => Sys2Proof.Machine.execGtu e s
  | .ltu e => Sys2Proof.Machine.execLtu e s
  | .eqf e => Sys2Proof.Machine.execEqf e s
  | .nef e => Sys2Proof.Machine.execNef e s
  | .gtf e => Sys2Proof.Machine.execGtf e s
  | .gef e => Sys2Proof.Machine.execGef e s
  | .ltf e => Sys2Proof.Machine.execLtf e s
  | .lef e => Sys2Proof.Machine.execLef e s
  | .jmp e addr => Sys2Proof.Machine.execJmp e addr s
  | .jc e addr => Sys2Proof.Machine.execJc e addr s
  | .jcn e addr => Sys2Proof.Machine.execJcn e addr s
  | .ldovf e => Sys2Proof.Machine.execLdovf e s
  | .clovf e => Sys2Proof.Machine.execClovf e s
  | .ldchk e => Sys2Proof.Machine.execLdchk e s
  | .endCycle e => Sys2Proof.Machine.execEndCycle e s
  | .ton e m => Sys2Proof.Machine.execTon e m s
  | .tof e m => Sys2Proof.Machine.execTof e m s
  | .tp e m => Sys2Proof.Machine.execTp e m s
  | .ctu e m => Sys2Proof.Machine.execCtu e m s
  | .ctd e m => Sys2Proof.Machine.execCtd e m s
  | .cres e m => Sys2Proof.Machine.execCres e m s
  | .cload e m => Sys2Proof.Machine.execCload e m s
  | .cpset e m => Sys2Proof.Machine.execCpset e m s
  | .ldq e m => Sys2Proof.Machine.execLdq e m s
  | .letv e m => Sys2Proof.Machine.execLetv e m s
  | .edgr e m => Sys2Proof.Machine.execEdgr e m s
  | .edgf e m => Sys2Proof.Machine.execEdgf e m s
  | .loopSample f slot health => Sys2Proof.Machine.execLoopSample f slot health s
  | .outputSweepWindowStart => Sys2Proof.Machine.execOutputSweepWindowStart s
  | .outputSweepAbort => Sys2Proof.Machine.execOutputSweepAbort s
  | .publishAbandon => Sys2Proof.Machine.execPublishAbandon s
  | .nearLimit scanUs => Sys2Proof.Machine.execNearLimit scanUs s
  | .pinExpiry who epoch => Sys2Proof.Machine.execPinExpiry who epoch s
  | .lockWaitExpiry => Sys2Proof.Machine.execLockWaitExpiry s
  | .forceSet r cell persist v => Sys2Proof.Machine.execForceSet r cell persist v s
  | .forceRemove r cell => Sys2Proof.Machine.execForceRemove r cell s
  | .touchUp r items => Sys2Proof.Machine.execTouchUp r items s
  | .recoatArm r swap => Sys2Proof.Machine.execRecoatArm r swap s
  | .recoatCancel r => Sys2Proof.Machine.execRecoatCancel r s
  | .revertArm r swap => Sys2Proof.Machine.execRevertArm r swap s
  | .slotUpdate r descs => Sys2Proof.Machine.execSlotUpdate r descs s
  | .stop r => Sys2Proof.Machine.execStop r s
  | .restart r trip current sigValid => Sys2Proof.Machine.execRestart r trip current sigValid s
  | .loopReset r engine slot fault => Sys2Proof.Machine.execLoopReset r engine slot fault s
  | .traceSetUp r engine t => Sys2Proof.Machine.execTraceSetUp r engine t s
  | .meterSnapshot r resetMax mask => Sys2Proof.Machine.execMeterSnapshot r resetMax mask s
  | .switchover r current sigValid => Sys2Proof.Machine.execSwitchover r current sigValid s
  | .recorderClear r sg upto => Sys2Proof.Machine.execRecorderClear r sg upto s
  | .maintenanceEnter r => Sys2Proof.Machine.execMaintenanceEnter r s
  | .maintenanceLeave r => Sys2Proof.Machine.execMaintenanceLeave r s
  | .claim r serial owner => Sys2Proof.Machine.execClaim r serial owner s
  | .ownerTransfer r sg owner => Sys2Proof.Machine.execOwnerTransfer r sg owner s
  | .keyImport r sg slot alg parent use tag key unwraps => Sys2Proof.Machine.execKeyImport r sg slot alg parent use tag key unwraps s
  | .keyDestroy r sg slot => Sys2Proof.Machine.execKeyDestroy r sg slot s
  | .coatRenew r sg brown => Sys2Proof.Machine.execCoatRenew r sg brown s
  | .exchangeKeyRoll r sg keyGen swap => Sys2Proof.Machine.execExchangeKeyRoll r sg keyGen swap s
  | .tamperClear r sg timeSec gen => Sys2Proof.Machine.execTamperClear r sg timeSec gen s
  | .recommission r sg => Sys2Proof.Machine.execRecommission r sg s
  | .firmwareCommit r sg slot => Sys2Proof.Machine.execFirmwareCommit r sg slot s
  | .configurationCommit r sg seq => Sys2Proof.Machine.execConfigurationCommit r sg seq s
  | .metrologySample volts amps spare => Sys2Proof.Machine.execMetrologySample volts amps spare s
  | .registerCommit => Sys2Proof.Machine.execRegisterCommit s
  | .rovePhaseEnd result => Sys2Proof.Machine.execRovePhaseEnd result s
  | .demandIntervalEnd => Sys2Proof.Machine.execDemandIntervalEnd s
  | .dailySnapshot n => Sys2Proof.Machine.execDailySnapshot n s
  | .snapshotTake => Sys2Proof.Machine.execSnapshotTake s
  | .pulseEdge input reverse => Sys2Proof.Machine.execPulseEdge input reverse s
  | .powerFailWarning pfw => Sys2Proof.Machine.execPowerFailWarning pfw s
  | .warningClear => Sys2Proof.Machine.execWarningClear s
  | .dataRd carrier channel words w => Sys2Proof.Machine.execDataRd carrier channel words w s
  | .dataWr carrier channel words w => Sys2Proof.Machine.execDataWr carrier channel words w s
  | .idRd carrier ans w => Sys2Proof.Machine.execIdRd carrier ans w s
  | .statRd carrier channel words raised w => Sys2Proof.Machine.execStatRd carrier channel words raised w s
  | .cfgWr carrier silence enable w => Sys2Proof.Machine.execCfgWr carrier silence enable w s
  | .echoRd carrier channel words w => Sys2Proof.Machine.execEchoRd carrier channel words w s
  | .statClr carrier channel bits w => Sys2Proof.Machine.execStatClr carrier channel bits w s
  | .carrierProbe carrier ans w => Sys2Proof.Machine.execCarrierProbe carrier ans w s
  | .standbyTickStart epoch => Sys2Proof.Machine.execStandbyTickStart epoch s
  | .partnerReady => Sys2Proof.Machine.execPartnerReady s
  | .inputFrame seq epoch items => Sys2Proof.Machine.execInputFrame seq epoch items s
  | .closeFrame seq epoch items fallbacks digest => Sys2Proof.Machine.execCloseFrame seq epoch items fallbacks digest s
  | .closeDeadline => Sys2Proof.Machine.execCloseDeadline s
  | .commandFrame seq epoch c apply => Sys2Proof.Machine.execCommandFrame seq epoch c apply s
  | .ackFrame id st cause => Sys2Proof.Machine.execAckFrame id st cause s
  | .digestFrame seq epoch d => Sys2Proof.Machine.execDigestFrame seq epoch d s
  | .meterFrame seq m => Sys2Proof.Machine.execMeterFrame seq m s
  | .queryFrame seq kind item => Sys2Proof.Machine.execQueryFrame seq kind item s
  | .replyFrame seq kind item data => Sys2Proof.Machine.execReplyFrame seq kind item data s
  | .stateFrame seq part => Sys2Proof.Machine.execStateFrame seq part s
  | .roleFrame seq m => Sys2Proof.Machine.execRoleFrame seq m s
  | .partnerFrameTimeout seq => Sys2Proof.Machine.execPartnerFrameTimeout seq s
  | .partnerLinkSilence => Sys2Proof.Machine.execPartnerLinkSilence s
  | .ptrOkFall => Sys2Proof.Machine.execPtrOkFall s
  | .heartbeatTimeout => Sys2Proof.Machine.execHeartbeatTimeout s
  | .lnSyncMissing => Sys2Proof.Machine.execLnSyncMissing s
  | .takeover => Sys2Proof.Machine.execTakeover s
  | .fenceAssert => Sys2Proof.Machine.execFenceAssert s
  | .fenceRelease => Sys2Proof.Machine.execFenceRelease s
  | .partnerTrip => Sys2Proof.Machine.execPartnerTrip s
  | .roleStartWaitExpiry => Sys2Proof.Machine.execRoleStartWaitExpiry s
  | .holdoffExpiry => Sys2Proof.Machine.execHoldoffExpiry s
  | .takeback => Sys2Proof.Machine.execTakeback s
  | .exchangeDatagramReceive d tagOk fragmented => Sys2Proof.Machine.execExchangeDatagramReceive d tagOk fragmented s
  | .levelTimeout sub => Sys2Proof.Machine.execLevelTimeout sub s
  | .tlsHandshake n h => Sys2Proof.Machine.execTlsHandshake n h s
  | .sessionIdleTimeout n => Sys2Proof.Machine.execSessionIdleTimeout n s
  | .sessionClose n => Sys2Proof.Machine.execSessionClose n s
  | .info r => Sys2Proof.Machine.execInfo r s
  | .snapshot r epoch pin ranges => Sys2Proof.Machine.execSnapshot r epoch pin ranges s
  | .unpin r epoch => Sys2Proof.Machine.execUnpin r epoch s
  | .write r cell v => Sys2Proof.Machine.execWrite r cell v s
  | .subscribe r k ranges => Sys2Proof.Machine.execSubscribe r k ranges s
  | .unsubscribe r n => Sys2Proof.Machine.execUnsubscribe r n s
  | .meter r sealed number domain => Sys2Proof.Machine.execMeter r sealed number domain s
  | .trace r engine => Sys2Proof.Machine.execTrace r engine s
  | .recorder r first count => Sys2Proof.Machine.execRecorder r first count s
  | .attest r nonce => Sys2Proof.Machine.execAttest r nonce s
  | .challenge r bytes => Sys2Proof.Machine.execChallenge r bytes s
  | .trend r first count => Sys2Proof.Machine.execTrend r first count s
  | .ping r bytes => Sys2Proof.Machine.execPing r bytes s
  | .imageBegin r kind total => Sys2Proof.Machine.execImageBegin r kind total s
  | .imageChunk r offset length => Sys2Proof.Machine.execImageChunk r offset length s
  | .imageEnd r => Sys2Proof.Machine.execImageEnd r s
  | .imageAbort r => Sys2Proof.Machine.execImageAbort r s
  | .imageVerifyDone files => Sys2Proof.Machine.execImageVerifyDone files s
  | .frameReceive p f => Sys2Proof.Machine.execFrameReceive p f s
  | .frameBindingStale binding => Sys2Proof.Machine.execFrameBindingStale binding s
  | .pauseFrame p quanta => Sys2Proof.Machine.execPauseFrame p quanta s
  | .pauseExpiry p => Sys2Proof.Machine.execPauseExpiry p s
  | .frameTransmit p collided => Sys2Proof.Machine.execFrameTransmit p collided s
  | .mkaSaInstall sa => Sys2Proof.Machine.execMkaSaInstall sa s
  | .mkaPeerLoss p => Sys2Proof.Machine.execMkaPeerLoss p s
  | .linkDown p => Sys2Proof.Machine.execLinkDown p s
  | .linkUp p master => Sys2Proof.Machine.execLinkUp p master s
  | .plcaBeaconSend g => Sys2Proof.Machine.execPlcaBeaconSend g s
  | .beaconLoss g => Sys2Proof.Machine.execBeaconLoss g s
  | .canFrameReceive c el age resRecessive => Sys2Proof.Machine.execCanFrameReceive c el age resRecessive s
  | .canBindingStale c binding => Sys2Proof.Machine.execCanBindingStale c binding s
  | .canTxAttemptEnd c buffer ok age loop => Sys2Proof.Machine.execCanTxAttemptEnd c buffer ok age loop s
  | .canBusError c kind tx dataPhase => Sys2Proof.Machine.execCanBusError c kind tx dataPhase s
  | .busoffRecovery c => Sys2Proof.Machine.execBusoffRecovery c s
  | .canStampAdjust c => Sys2Proof.Machine.execCanStampAdjust c s
  | .ttReferenceTime c begun => Sys2Proof.Machine.execTtReferenceTime c begun s
  | .ttSlotDue c idx ok age => Sys2Proof.Machine.execTtSlotDue c idx ok age s
  | .ttReferenceLoss c => Sys2Proof.Machine.execTtReferenceLoss c s
  | .ptpMessageReceive p m => Sys2Proof.Machine.execPtpMessageReceive p m s
  | .ptpMessageSend p => Sys2Proof.Machine.execPtpMessageSend p s
  | .holdoverEntry => Sys2Proof.Machine.execHoldoverEntry s
  | .ppsInEdge => Sys2Proof.Machine.execPpsInEdge s
  | .ppsOutEdge => Sys2Proof.Machine.execPpsOutEdge s
  | .ntCapture => Sys2Proof.Machine.execNtCapture s
  | .rtcCompare => Sys2Proof.Machine.execRtcCompare s
  | .leapSecond insert => Sys2Proof.Machine.execLeapSecond insert s
  | .goSec => Sys2Proof.Machine.execGoSec s
  | .goCal => Sys2Proof.Machine.execGoCal s
  | .offsetWrite v => Sys2Proof.Machine.execOffsetWrite v s
  | .localSecond => Sys2Proof.Machine.execLocalSecond s
  | .timeGroupRead addr => Sys2Proof.Machine.execTimeGroupRead addr s
  | .shadowRelease => Sys2Proof.Machine.execShadowRelease s
  | .crystalStop => Sys2Proof.Machine.execCrystalStop s
  | .supplyToVbat => Sys2Proof.Machine.execSupplyToVbat s
  | .supplyReturn => Sys2Proof.Machine.execSupplyReturn s
  | .backupPowerUp => Sys2Proof.Machine.execBackupPowerUp s
  | .vbatMeasure mv => Sys2Proof.Machine.execVbatMeasure mv s
  | .tamperSample n level => Sys2Proof.Machine.execTamperSample n level s
  | .meshPeriod in0 in1 => Sys2Proof.Machine.execMeshPeriod in0 in1 s
  | .tmpCfgWrite n v => Sys2Proof.Machine.execTmpCfgWrite n v s
  | .meshCfgWrite v => Sys2Proof.Machine.execMeshCfgWrite v s
  | .sleepKeyWrite v => Sys2Proof.Machine.execSleepKeyWrite v s
  | .sleepEntry => Sys2Proof.Machine.execSleepEntry s
  | .sleepFail => Sys2Proof.Machine.execSleepFail s
  | .pwronLowEnd => Sys2Proof.Machine.execPwronLowEnd s
  | .wakeNLow => Sys2Proof.Machine.execWakeNLow s
  | .keyOperationDone => Sys2Proof.Machine.execKeyOperationDone s
  | .trialTimeout => Sys2Proof.Machine.execTrialTimeout s
  | .recordWrite => Sys2Proof.Machine.execRecordWrite s
  | .recordsDropped => Sys2Proof.Machine.execRecordsDropped s
  | .sqTail q v => Sys2Proof.Machine.execSqTail q v s
  | .cqHead q v => Sys2Proof.Machine.execCqHead q v s
  | .controlResume q w => Sys2Proof.Machine.execControlResume q w s
  | .controlAbandon q w => Sys2Proof.Machine.execControlAbandon q w s
  | .eqHead q v => Sys2Proof.Machine.execEqHead q v s
  | .queueEnable q => Sys2Proof.Machine.execQueueEnable q s
  | .queueDisable q => Sys2Proof.Machine.execQueueDisable q s
  | .eventRingEnable ring on => Sys2Proof.Machine.execEventRingEnable ring on s
  | .descriptorFetch q w d => Sys2Proof.Machine.execDescriptorFetch q w d s
  | .hqNop q w => Sys2Proof.Machine.execHqNop q w s
  | .msg q m w => Sys2Proof.Machine.execMsg q m w s
  | .updateWait q n => Sys2Proof.Machine.execUpdateWait q n s
  | .canRx q ctl rxq max => Sys2Proof.Machine.execCanRx q ctl rxq max s
  | .canAck q ctl rxq last w => Sys2Proof.Machine.execCanAck q ctl rxq last w s
  | .canTxSend q ctl buffer el w => Sys2Proof.Machine.execCanTxSend q ctl buffer el w s
  | .canTxCancel q ctl buffer w => Sys2Proof.Machine.execCanTxCancel q ctl buffer w s
  | .laneEcho q carrier channel words => Sys2Proof.Machine.execLaneEcho q carrier channel words s
  | .dmaChunk q w err => Sys2Proof.Machine.execDmaChunk q w err s
  | .atcInvalidate => Sys2Proof.Machine.execAtcInvalidate s
  | .atcInvalidateDone => Sys2Proof.Machine.execAtcInvalidateDone s
  | .pePerst => Sys2Proof.Machine.execPePerst s
  | .d3hotEntry => Sys2Proof.Machine.execD3hotEntry s
  | .powerOnReset => Sys2Proof.Machine.execPowerOnReset s
  | .powerOnRelease => Sys2Proof.Machine.execPowerOnRelease s
  | .resetNAssert => Sys2Proof.Machine.execResetNAssert s
  | .resetNRelease => Sys2Proof.Machine.execResetNRelease s
  | .startUpStepDone info => Sys2Proof.Machine.execStartUpStepDone info s
  | .primerLoadDone crcOk us => Sys2Proof.Machine.execPrimerLoadDone crcOk us s
  | .blockReset => Sys2Proof.Machine.execBlockReset s
  | .blockResetDone idle => Sys2Proof.Machine.execBlockResetDone idle s
  | .watchdogService => Sys2Proof.Machine.execWatchdogService s
  | .watchdogExpiry => Sys2Proof.Machine.execWatchdogExpiry s
  | .clockLoss k => Sys2Proof.Machine.execClockLoss k s
  | .clockReturn k us => Sys2Proof.Machine.execClockReturn k us s
  | .junctionMeasure t => Sys2Proof.Machine.execJunctionMeasure t s
  | .throttleRelease => Sys2Proof.Machine.execThrottleRelease s
  | .thermalMaintenanceEntry => Sys2Proof.Machine.execThermalMaintenanceEntry s
  | .skimAccess mem line r => Sys2Proof.Machine.execSkimAccess mem line r s
  | .trendPageWrite => Sys2Proof.Machine.execTrendPageWrite s
  | .keySlotSweep bad => Sys2Proof.Machine.execKeySlotSweep bad s
  | .recorderSweep bad => Sys2Proof.Machine.execRecorderSweep bad s
  | .fallbackStoreWrite => Sys2Proof.Machine.execFallbackStoreWrite s
  | .ptrMstIRise => Sys2Proof.Machine.execPtrMstIRise s
  | .ptrOkIRise => Sys2Proof.Machine.execPtrOkIRise s
  | .heartbeatToggle => Sys2Proof.Machine.execHeartbeatToggle s
  | .partnerLinkReturn => Sys2Proof.Machine.execPartnerLinkReturn s
  | .partnerLinkLaneLoss k => Sys2Proof.Machine.execPartnerLinkLaneLoss k s
  | .partnerFrameBadCrc => Sys2Proof.Machine.execPartnerFrameBadCrc s
  | .fencedSelfTestDone ok => Sys2Proof.Machine.execFencedSelfTestDone ok s
  | .beaconReceive g => Sys2Proof.Machine.execBeaconReceive g s
  | .canBusIntegration c => Sys2Proof.Machine.execCanBusIntegration c s
  | .bkpWriteCrossed => Sys2Proof.Machine.execBkpWriteCrossed s

end Sys2Proof.Machine
end

