-- ==== Sys2Proof/Machine/Idle.lean ====
section
/-! DEFINITION. Time passing: what a step does while no command waits. One such step is one TIME clock of 4 ns (R325, R345). -/

namespace Sys2Proof.Machine

/-- C counts while its clock runs and no power-on reset holds it (R325, R444, R462). Log entry 2 (DESIGN CHOICE, unsafe). -/
def State.ticking (s : State) : Bool := !s.plat.por && s.core.pllOk 3

/-- HOLDOFF_LEFT_S counts the hold-off down (R242). -/
def State.holdOff (s : State) : State :=
  match s.pair.holdFrom with
  | none => s
  | some t =>
    if (s.core.c - t) % 250000000 = 0 then
      s.onCore fun k => k.fput Reg.PTR_STAT_HOLDOFF_LEFT_S (k.fget Reg.PTR_CFG_HOLDOFF_S - (k.c - t) / 250000000)
    else s

/-- One TIME clock: C counts one, and the crystal moves on against it (R325, R345). Log entry 2 (DESIGN CHOICE, unsafe). -/
def State.passClock (s : State) : State :=
  (if s.ticking then (s.onCore fun k => { k with c := k.c + 1 }).holdOff.carriersSilence else s).crystalPhase

end Sys2Proof.Machine
end

