-- ==== Sys2Proof/Machine/Step.lean ====
section
/-! DEFINITION. One step: the command at the front of the queue, or one TIME clock while none waits. -/

namespace Sys2Proof.Machine

/-- The state a command acts on: the queue's rest waits. -/
def State.rest (s : State) (cs : List Instr) : State := { s with pending := cs }

/-- One step. Log entries 1 (DESIGN CHOICE, unsafe); 2 (DESIGN CHOICE, unsafe). -/
def step (s : State) : Host.Outcome State Fault Refusal :=
  match s.pending with
  | [] => .next s.passClock
  | c :: cs => exec c (s.rest cs)

/-- `s` with the command that a word spells at the front of its queue; no row of the table gives bits, so `s`. Log entry 112
(DESIGN CHOICE, safe). -/
def State.withFetchWord (s : State) (nbits w : Nat) : State :=
  match decodeTableWord nbits w with
  | some c => { s with pending := c :: s.pending }
  | none => s

end Sys2Proof.Machine
end

