-- ==== Sys2Proof/Machine/TrowelWord.lean ====
section
/-! DEFINITION. The words of the trowel instructions (R62 to R81): which command an engine's instruction word spells, and the word
of a command. -/

namespace Sys2Proof.Machine

/-- The space of an SP code (R57). -/
def spaceOf : Nat → Option Space
  | 0 => some .cell
  | 1 => some .retained
  | 2 => some .const
  | 3 => some .record
  | 4 => some .edge
  | _ => none

/-- The SP code of a space (R57). -/
def spaceCode : Space → Nat
  | .cell => 0 | .retained => 1 | .const => 2 | .record => 3 | .edge => 4

/-- Instructions of format N, by opcode (R65 to R74). -/
def formatN (e : Fin 8) : Nat → Option Instr
  | 0x00 => some (.nop e)
  | 0x0D => some (.ltrue e)
  | 0x0E => some (.lfalse e)
  | 0x0F => some (.not e)
  | 0x10 => some (.andOpen e)
  | 0x11 => some (.andnOpen e)
  | 0x12 => some (.orOpen e)
  | 0x13 => some (.ornOpen e)
  | 0x14 => some (.xorOpen e)
  | 0x15 => some (.closeParen e)
  | 0x16 => some (.push e)
  | 0x17 => some (.read e)
  | 0x18 => some (.pop e)
  | 0x44 => some (.swap e)
  | 0x45 => some (.movab e)
  | 0x46 => some (.selw e)
  | 0x50 => some (.addi e)
  | 0x51 => some (.subi e)
  | 0x52 => some (.muli e)
  | 0x53 => some (.divi e)
  | 0x54 => some (.modi e)
  | 0x55 => some (.divu e)
  | 0x56 => some (.negi e)
  | 0x57 => some (.absi e)
  | 0x58 => some (.andw e)
  | 0x59 => some (.orw e)
  | 0x5A => some (.xorw e)
  | 0x5B => some (.notw e)
  | 0x5C => some (.shl e)
  | 0x5D => some (.shr e)
  | 0x5E => some (.sar e)
  | 0x60 => some (.addf e)
  | 0x61 => some (.subf e)
  | 0x62 => some (.mulf e)
  | 0x63 => some (.divf e)
  | 0x64 => some (.sqrtf e)
  | 0x65 => some (.negf e)
  | 0x66 => some (.absf e)
  | 0x67 => some (.minf e)
  | 0x68 => some (.maxf e)
  | 0x69 => some (.itof e)
  | 0x6A => some (.utof e)
  | 0x6B => some (.ftoi e)
  | 0x70 => some (.eqi e)
  | 0x71 => some (.nei e)
  | 0x72 => some (.gti e)
  | 0x73 => some (.gei e)
  | 0x74 => some (.lti e)
  | 0x75 => some (.lei e)
  | 0x76 => some (.gtu e)
  | 0x77 => some (.ltu e)
  | 0x78 => some (.eqf e)
  | 0x79 => some (.nef e)
  | 0x7A => some (.gtf e)
  | 0x7B => some (.gef e)
  | 0x7C => some (.ltf e)
  | 0x7D => some (.lef e)
  | 0x88 => some (.ldovf e)
  | 0x89 => some (.clovf e)
  | 0x8A => some (.ldchk e)
  | 0x8F => some (.endCycle e)
  | _ => none

/-- Instructions of format M, by opcode (R65, R68, R79 to R81). -/
def formatM (e : Fin 8) (m : MemOp) : Nat → Option Instr
  | 0x01 => some (.ld e m)
  | 0x02 => some (.ldn e m)
  | 0x03 => some (.and e m)
  | 0x04 => some (.andn e m)
  | 0x05 => some (.or e m)
  | 0x06 => some (.orn e m)
  | 0x07 => some (.xor e m)
  | 0x08 => some (.xorn e m)
  | 0x09 => some (.st e m)
  | 0x0A => some (.stn e m)
  | 0x0B => some (.set e m)
  | 0x0C => some (.rst e m)
  | 0x20 => some (.edgr e m)
  | 0x21 => some (.edgf e m)
  | 0x28 => some (.ton e m)
  | 0x29 => some (.tof e m)
  | 0x2A => some (.tp e m)
  | 0x2B => some (.ctu e m)
  | 0x2C => some (.ctd e m)
  | 0x2D => some (.cres e m)
  | 0x2E => some (.cload e m)
  | 0x2F => some (.cpset e m)
  | 0x30 => some (.ldq e m)
  | 0x31 => some (.letv e m)
  | 0x40 => some (.lda e m)
  | 0x41 => some (.ldb e m)
  | 0x42 => some (.sta e m)
  | 0x43 => some (.stac e m)
  | 0x47 => some (.qok e m)
  | 0x48 => some (.ldql e m)
  | _ => none

/-- Instructions of format J, by opcode (R74). -/
def formatJ (e : Fin 8) (a : BitVec 18) : Nat → Option Instr
  | 0x80 => some (.jmp e a)
  | 0x81 => some (.jc e a)
  | 0x82 => some (.jcn e a)
  | _ => none

/-- The command that an instruction word on engine `e` spells (R62): none for an opcode the chapter does not list, a reserved bit
at 1, or a reserved SP. -/
def decodeTrowel (e : Fin 8) (w : Word) : Option Instr :=
  let op := wordOp w
  match formOf op with
  | none => none
  | some .none => if w.toNat % 2 ^ 24 = 0 then formatN e op else none
  | some .jump => if w.toNat / 2 ^ 18 % 64 = 0 then formatJ e (BitVec.ofNat 18 (wordAddr w)) op else none
  | some _ =>
    if w.toNat / 2 ^ 18 % 2 = 0 then
      (spaceOf (wordSp w)).bind fun sp => formatM e ⟨sp, wordIdx w, ⟨wordBit w, Nat.mod_lt _ (by decide)⟩⟩ op
    else none

/-- The word of a format N instruction (R62). -/
def wordN (op : Nat) : Word := BitVec.ofNat 32 (op * 0x1000000)

/-- The word of a format M instruction: opcode × 0x0100_0000 + BIT × 0x8_0000 + SP × 0x8000 + IDX (R62). -/
def wordM (op : Nat) (m : MemOp) : Word :=
  BitVec.ofNat 32 (op * 0x1000000 + m.bit.val * 0x80000 + spaceCode m.sp * 0x8000 + m.idx % 0x8000)

/-- The word of a format J instruction (R62). -/
def wordJ (op : Nat) (a : BitVec 18) : Word := BitVec.ofNat 32 (op * 0x1000000 + a.toNat)

/-- The instruction word of a command, where it is a trowel instruction (R62). -/
def encodeTrowel : Instr → Option Word
  | .nop _ => some (wordN 0x00)
  | .ld _ m => some (wordM 0x01 m)
  | .ldn _ m => some (wordM 0x02 m)
  | .and _ m => some (wordM 0x03 m)
  | .andn _ m => some (wordM 0x04 m)
  | .or _ m => some (wordM 0x05 m)
  | .orn _ m => some (wordM 0x06 m)
  | .xor _ m => some (wordM 0x07 m)
  | .xorn _ m => some (wordM 0x08 m)
  | .st _ m => some (wordM 0x09 m)
  | .stn _ m => some (wordM 0x0A m)
  | .set _ m => some (wordM 0x0B m)
  | .rst _ m => some (wordM 0x0C m)
  | .ltrue _ => some (wordN 0x0D)
  | .lfalse _ => some (wordN 0x0E)
  | .not _ => some (wordN 0x0F)
  | .andOpen _ => some (wordN 0x10)
  | .andnOpen _ => some (wordN 0x11)
  | .orOpen _ => some (wordN 0x12)
  | .ornOpen _ => some (wordN 0x13)
  | .xorOpen _ => some (wordN 0x14)
  | .closeParen _ => some (wordN 0x15)
  | .push _ => some (wordN 0x16)
  | .read _ => some (wordN 0x17)
  | .pop _ => some (wordN 0x18)
  | .edgr _ m => some (wordM 0x20 m)
  | .edgf _ m => some (wordM 0x21 m)
  | .ton _ m => some (wordM 0x28 m)
  | .tof _ m => some (wordM 0x29 m)
  | .tp _ m => some (wordM 0x2A m)
  | .ctu _ m => some (wordM 0x2B m)
  | .ctd _ m => some (wordM 0x2C m)
  | .cres _ m => some (wordM 0x2D m)
  | .cload _ m => some (wordM 0x2E m)
  | .cpset _ m => some (wordM 0x2F m)
  | .ldq _ m => some (wordM 0x30 m)
  | .letv _ m => some (wordM 0x31 m)
  | .lda _ m => some (wordM 0x40 m)
  | .ldb _ m => some (wordM 0x41 m)
  | .sta _ m => some (wordM 0x42 m)
  | .stac _ m => some (wordM 0x43 m)
  | .swap _ => some (wordN 0x44)
  | .movab _ => some (wordN 0x45)
  | .selw _ => some (wordN 0x46)
  | .qok _ m => some (wordM 0x47 m)
  | .ldql _ m => some (wordM 0x48 m)
  | .addi _ => some (wordN 0x50)
  | .subi _ => some (wordN 0x51)
  | .muli _ => some (wordN 0x52)
  | .divi _ => some (wordN 0x53)
  | .modi _ => some (wordN 0x54)
  | .divu _ => some (wordN 0x55)
  | .negi _ => some (wordN 0x56)
  | .absi _ => some (wordN 0x57)
  | .andw _ => some (wordN 0x58)
  | .orw _ => some (wordN 0x59)
  | .xorw _ => some (wordN 0x5A)
  | .notw _ => some (wordN 0x5B)
  | .shl _ => some (wordN 0x5C)
  | .shr _ => some (wordN 0x5D)
  | .sar _ => some (wordN 0x5E)
  | .addf _ => some (wordN 0x60)
  | .subf _ => some (wordN 0x61)
  | .mulf _ => some (wordN 0x62)
  | .divf _ => some (wordN 0x63)
  | .sqrtf _ => some (wordN 0x64)
  | .negf _ => some (wordN 0x65)
  | .absf _ => some (wordN 0x66)
  | .minf _ => some (wordN 0x67)
  | .maxf _ => some (wordN 0x68)
  | .itof _ => some (wordN 0x69)
  | .utof _ => some (wordN 0x6A)
  | .ftoi _ => some (wordN 0x6B)
  | .eqi _ => some (wordN 0x70)
  | .nei _ => some (wordN 0x71)
  | .gti _ => some (wordN 0x72)
  | .gei _ => some (wordN 0x73)
  | .lti _ => some (wordN 0x74)
  | .lei _ => some (wordN 0x75)
  | .gtu _ => some (wordN 0x76)
  | .ltu _ => some (wordN 0x77)
  | .eqf _ => some (wordN 0x78)
  | .nef _ => some (wordN 0x79)
  | .gtf _ => some (wordN 0x7A)
  | .gef _ => some (wordN 0x7B)
  | .ltf _ => some (wordN 0x7C)
  | .lef _ => some (wordN 0x7D)
  | .jmp _ a => some (wordJ 0x80 a)
  | .jc _ a => some (wordJ 0x81 a)
  | .jcn _ a => some (wordJ 0x82 a)
  | .ldovf _ => some (wordN 0x88)
  | .clovf _ => some (wordN 0x89)
  | .ldchk _ => some (wordN 0x8A)
  | .endCycle _ => some (wordN 0x8F)
  | _ => none

/-- The command that the word at an engine's program counter spells, an address the bank does not list holding 0 (NOP). -/
def State.spelled (s : State) (e : Fin 8) : Option Instr :=
  decodeTrowel e (s.trw.bank.code.atD (s.engine e).a.pc.toNat 0)

end Sys2Proof.Machine
end

