-- ==== Sys2Proof/WellFormed.lean ====
section
/-! DEFINITION. Which commands the outside can give: the operands within the widths the spec gives their fields. -/

namespace Sys2Proof

/-- A cell number (R2). -/
def cellOk (n : Nat) : Bool := decide (n < 4096)

/-- A burst of 1 to 64 words within a carrier's 128 channels (R199, R200). -/
def burstOk (channel : Fin 128) (words : Nat) : Bool :=
  decide (1 ≤ words) && decide (words ≤ 64) && decide (channel.val + words ≤ 128)

/-- A 64-bit epoch (R36). -/
def epochOk (n : Nat) : Bool := decide (n < 2 ^ 64)

/-- A key slot (R387). -/
def slotOk (n : Nat) : Bool := decide (n < 256)

/-- The two bytes by which a descriptor names a controller and its buffer or queue (R422). -/
def canPlaceOk (ctl buffer : Nat) : Bool := decide (ctl < 256) && decide (buffer < 256)

/-- Ranges of cells: a first cell and a count, of two bytes each (R266). -/
def rangesOk (rs : List (Nat × Nat)) : Bool := rs.all fun r => decide (r.1 < 2 ^ 16) && decide (r.2 < 2 ^ 16)

/-- The IDX of a memory operand (R57, R62). -/
def operandOk (m : MemOp) : Bool := decide (m.idx < 2 ^ 15)

/-- The command's operands lie within their fields. -/
def Instr.wf : Instr → Bool
  | .ld _ m | .ldn _ m | .and _ m | .andn _ m | .or _ m | .orn _ m | .xor _ m | .xorn _ m | .st _ m | .stn _ m | .set _ m | .rst _ m
  | .edgr _ m | .edgf _ m | .ton _ m | .tof _ m | .tp _ m | .ctu _ m | .ctd _ m | .cres _ m | .cload _ m | .cpset _ m | .ldq _ m
  | .letv _ m | .lda _ m | .ldb _ m | .sta _ m | .stac _ m | .qok _ m | .ldql _ m => operandOk m
  | .registerWrite addr _ => decide (addr < 2 ^ 20)
  | .lowWordRead addr => decide (addr < 2 ^ 20)
  | .timeGroupRead addr => decide (addr < 2 ^ 20)
  | .forceSet _ cell _ _ => cellOk cell
  | .forceRemove _ cell => cellOk cell
  | .write _ cell _ => cellOk cell
  | .recoatArm _ at_ => epochOk at_
  | .revertArm _ at_ => epochOk at_
  | .snapshot _ epoch _ ranges => epochOk epoch && rangesOk ranges
  | .unpin _ epoch => epochOk epoch
  | .pinExpiry _ epoch => epochOk epoch
  | .subscribe _ _ ranges => rangesOk ranges
  | .dataRd _ channel words _ => burstOk channel words
  | .dataWr _ channel words _ => burstOk channel words
  | .statRd _ channel words _ _ => burstOk channel words
  | .echoRd _ channel words _ => burstOk channel words
  | .statClr _ channel bits _ => burstOk channel bits.length
  | .keyImport _ _ slot _ _ _ _ _ _ => slotOk slot
  | .metrologySample volts amps _ => decide (volts.length = 4) && decide (amps.length = 24)
  | .keyDestroy _ _ slot => slotOk slot
  | .coatRenew _ _ brown => slotOk brown
  | .canTxAttemptEnd _ buffer _ _ _ => decide (buffer < 3)
  | .canTxSend _ ctl buffer _ _ => canPlaceOk ctl buffer
  | .canTxCancel _ ctl buffer _ => canPlaceOk ctl buffer
  | .canRx _ ctl rxq _ => canPlaceOk ctl rxq
  | .canAck _ ctl rxq _ _ => canPlaceOk ctl rxq
  | .attest _ nonce => decide (nonce.length ≤ 48)
  | .standbyTickStart epoch => epochOk epoch
  | .vbatMeasure mv => decide (mv < 2 ^ 16)
  | _ => true

end Sys2Proof
end

