-- ==== Sys2Proof/Safety.lean ====
section
/-! DEFINITION. What the statements mean by a good state: the queue holds commands the outside can give, and the crystal's phase
lies within one of its cycles. -/

namespace Sys2Proof

/-- `k` differs from `k₀` at most in the register fields of these keys: everything else of the shared core is as it was. -/
def Core.only (k₀ k : Core) (keys : List Nat) : Prop :=
  k = { k₀ with regs := k.regs } ∧ ∀ j, j ∉ keys → k.regs.at? j = k₀.regs.at? j

/-! ### The families of commands, by what a command of one may reach -/

/-- Families of commands. -/
inductive Group
  | registers | tick | trowel | command | metrology | security | lane | pair | exchange | message | key | port | can | time | backup | reset | recorder | queue | background
  deriving DecidableEq, Repr

/-- The family of a command. -/
def Instr.group : Instr → Group
  | .registerWrite .. | .setupLock | .badAccess .. | .lowWordRead .. => .registers
  | .screedInstant .. | .inputSweepOverrun | .inputSweepHardLimit | .merge | .mergeLimit .. | .metrologyResultEntry
  | .outputSweepWindowStart | .outputSweepAbort | .publishAbandon | .nearLimit .. | .pinExpiry .. | .lockWaitExpiry => .tick
  | .taskDispatch .. | .nop .. | .ld .. | .ldn .. | .and .. | .andn .. | .or .. | .orn .. | .xor .. | .xorn .. | .st ..
  | .stn .. | .set .. | .rst .. | .ltrue .. | .lfalse .. | .not .. | .andOpen .. | .andnOpen .. | .orOpen ..
  | .ornOpen .. | .xorOpen .. | .closeParen .. | .push .. | .read .. | .pop .. | .lda .. | .ldb .. | .sta .. | .stac ..
  | .swap .. | .movab .. | .selw .. | .qok .. | .ldql .. | .addi .. | .subi .. | .muli .. | .divi .. | .modi ..
  | .divu .. | .negi .. | .absi .. | .andw .. | .orw .. | .xorw .. | .notw .. | .shl .. | .shr .. | .sar .. | .addf ..
  | .subf .. | .mulf .. | .divf .. | .sqrtf .. | .negf .. | .absf .. | .minf .. | .maxf .. | .itof .. | .utof ..
  | .ftoi .. | .eqi .. | .nei .. | .gti .. | .gei .. | .lti .. | .lei .. | .gtu .. | .ltu .. | .eqf .. | .nef ..
  | .gtf .. | .gef .. | .ltf .. | .lef .. | .jmp .. | .jc .. | .jcn .. | .ldovf .. | .clovf .. | .ldchk ..
  | .endCycle .. | .ton .. | .tof .. | .tp .. | .ctu .. | .ctd .. | .cres .. | .cload .. | .cpset .. | .ldq ..
  | .letv .. | .edgr .. | .edgf .. | .loopSample .. => .trowel
  | .forceSet .. | .forceRemove .. | .touchUp .. | .recoatArm .. | .recoatCancel .. | .revertArm .. | .slotUpdate ..
  | .stop .. | .restart .. | .loopReset .. | .traceSetUp .. | .switchover .. => .command
  | .meterSnapshot .. | .metrologySample .. | .registerCommit | .rovePhaseEnd .. | .demandIntervalEnd
  | .dailySnapshot .. | .snapshotTake | .pulseEdge .. | .powerFailWarning .. | .warningClear => .metrology
  | .recorderClear .. | .maintenanceEnter .. | .maintenanceLeave .. | .claim .. | .ownerTransfer .. | .keyImport ..
  | .keyDestroy .. | .coatRenew .. | .exchangeKeyRoll .. | .tamperClear .. | .recommission .. | .firmwareCommit ..
  | .configurationCommit .. => .security
  | .dataRd .. | .dataWr .. | .idRd .. | .statRd .. | .cfgWr .. | .echoRd .. | .statClr .. | .carrierProbe .. => .lane
  | .standbyTickStart .. | .partnerReady | .inputFrame .. | .closeFrame .. | .closeDeadline | .commandFrame ..
  | .ackFrame .. | .digestFrame .. | .meterFrame .. | .queryFrame .. | .replyFrame .. | .stateFrame .. | .roleFrame ..
  | .partnerFrameTimeout .. | .partnerLinkSilence | .ptrOkFall | .heartbeatTimeout | .lnSyncMissing | .takeover
  | .fenceAssert | .fenceRelease | .partnerTrip | .roleStartWaitExpiry | .holdoffExpiry | .takeback | .ptrMstIRise
  | .ptrOkIRise | .heartbeatToggle | .partnerLinkReturn | .partnerLinkLaneLoss .. | .partnerFrameBadCrc
  | .fencedSelfTestDone .. => .pair
  | .exchangeDatagramReceive .. | .levelTimeout .. => .exchange
  | .tlsHandshake .. | .sessionIdleTimeout .. | .sessionClose .. | .info .. | .snapshot .. | .unpin .. | .write ..
  | .subscribe .. | .unsubscribe .. | .meter .. | .trace .. | .recorder .. | .trend .. | .ping .. => .message
  | .attest .. | .challenge .. | .imageBegin .. | .imageChunk .. | .imageEnd .. | .imageAbort .. | .imageVerifyDone ..
  | .keyOperationDone => .key
  | .frameReceive .. | .frameBindingStale .. | .pauseFrame .. | .pauseExpiry .. | .frameTransmit .. | .mkaSaInstall ..
  | .mkaPeerLoss .. | .linkDown .. | .linkUp .. | .plcaBeaconSend .. | .beaconLoss .. | .beaconReceive .. => .port
  | .canFrameReceive .. | .canBindingStale .. | .canTxAttemptEnd .. | .canBusError .. | .busoffRecovery ..
  | .canStampAdjust .. | .ttReferenceTime .. | .ttSlotDue .. | .ttReferenceLoss .. | .canBusIntegration .. => .can
  | .ptpMessageReceive .. | .ptpMessageSend .. | .holdoverEntry | .ppsInEdge | .ppsOutEdge | .ntCapture | .rtcCompare
  | .leapSecond .. => .time
  | .goSec | .goCal | .offsetWrite .. | .localSecond | .timeGroupRead .. | .shadowRelease | .crystalStop
  | .supplyToVbat | .supplyReturn | .backupPowerUp | .vbatMeasure .. | .tamperSample .. | .meshPeriod ..
  | .tmpCfgWrite .. | .meshCfgWrite .. | .sleepKeyWrite .. | .sleepEntry | .sleepFail | .pwronLowEnd | .wakeNLow
  | .bkpWriteCrossed => .backup
  | .trialTimeout | .powerOnReset | .powerOnRelease | .resetNAssert | .resetNRelease | .startUpStepDone ..
  | .primerLoadDone .. | .blockReset | .blockResetDone .. | .watchdogService | .watchdogExpiry | .clockLoss ..
  | .clockReturn .. | .junctionMeasure .. | .throttleRelease | .thermalMaintenanceEntry => .reset
  | .recordWrite | .recordsDropped | .recorderSweep .. => .recorder
  | .sqTail .. | .cqHead .. | .controlResume .. | .controlAbandon .. | .eqHead .. | .queueEnable .. | .queueDisable ..
  | .eventRingEnable .. | .descriptorFetch .. | .hqNop .. | .msg .. | .updateWait .. | .canRx .. | .canAck ..
  | .canTxSend .. | .canTxCancel .. | .laneEcho .. | .dmaChunk .. | .atcInvalidate | .atcInvalidateDone | .pePerst
  | .d3hotEntry => .queue
  | .skimAccess .. | .trendPageWrite .. | .keySlotSweep .. | .fallbackStoreWrite => .background

end Sys2Proof

namespace Sys2Proof.Machine

/-- The phase of the crystal against C lies within one cycle: 32,768 cycles in 250,000,000 counts (R345, R325). -/
def State.phaseOk (s : State) : Prop := s.bkp.phase < 3906250

/-- Start-up stands at one of its steps, and primer loads that failed in a row are at most three (R448, R449). -/
def State.stepOk (s : State) : Prop := (s.plat.step.all fun n => decide (1 ≤ n ∧ n ≤ 9)) = true ∧ s.plat.fails ≤ 3

/-- Every command that waits is well-formed. -/
def State.queueOk (s : State) : Prop := s.pending.all Instr.wf = true

/-- The invariant of every step. -/
def State.Inv (s : State) : Prop := s.queueOk ∧ s.phaseOk ∧ s.stepOk

/-! ### Trowel engines: what the statements about one instruction start from and end in -/

/-- Engine `e` executes task `d`, its two lanes hold the same, and the instruction word at the program counter is sound. -/
def State.runs (s : State) (e : Fin 8) (d : TaskDef) : Prop :=
  (s.engine e).task = some d.id ∧ s.taskDef d.id = some d ∧ (s.engine e).b = (s.engine e).a ∧
    s.trw.codeBad.contains (s.engine e).a.pc.toNat = false

/-- What the lanes of engine `e` hold. -/
def State.lanes (s : State) (e : Fin 8) : LaneRegs := (s.engine e).a

/-- `s` with both lanes of engine `e` holding `r` and `clk` more clocks used: nothing else changes. -/
def State.lanesTo (s : State) (e : Fin 8) (r : LaneRegs) (clk : Nat) : State :=
  s.putEngine e { s.engine e with a := r, b := r, clocks := (s.engine e).clocks + clk }

/-- `s.lanesTo` with one more entry in the engine's commit buffer: nothing else changes. -/
def State.storesTo (s : State) (e : Fin 8) (r : LaneRegs) (x : Entry) (clk : Nat) : State :=
  s.putEngine e { s.engine e with a := r, b := r, clocks := (s.engine e).clocks + clk, buf := Machine.addEntry (s.engine e).buf x }

/-- The operand reads as `w` with quality `q`, its check good and its constant sound, and the read changes nothing. -/
def State.sees (s : State) (e : Fin 8) (m : MemOp) (w : Word) (q : Nat) : Prop :=
  s.fetch e m = ({ value := w, qual := q }, s) ∧ (m.sp = .const → s.trw.constBad.contains m.idx = false)

/-- A store of this entry is not dropped by a force and finds room in the commit buffer (R83, R109). -/
def State.takes (s : State) (e : Fin 8) (x : Entry) : Prop :=
  (Machine.addEntry (s.engine e).buf x).size ≤ 4096 ∧ match x with
    | .cell a _ => s.isForced a = false
    | _ => True

/-! ### What the statements about the other commands start from and end in -/

/-- A register word of BAR0 whose write is a plain write of its fields: aligned, outside the MSI-X table and the backup
domain's window, no action field (R192, R328, R420, R428, R433, R454), and no set-up field that an ENABLE holds. -/
def State.plainWord (s : State) (addr : Nat) : Prop :=
  s.linkDown = false ∧ addr % 4 = 0 ∧ addr < barBytes ∧ msixTableAt addr = false ∧ inWindow addr = false ∧
    heldByEnable s.core addr = false ∧ Reg.HQ_CFG_ENABLE.itemAt addr = none ∧ Reg.EQ_CFG_ENABLE.itemAt addr = none ∧
    addr ∉ [Reg.MET_SNAP_CTRL_TAKE.addr, Reg.NT_CAP_CTRL_TAKE.addr, Reg.RST_BLOCK_GO.addr, Reg.ATC_INV_CTRL_GO.addr]

/-- Nothing waits for the next screed instant: no force, touch-up, recoat, slot update, restart or key switch (R39). -/
def State.quiet (s : State) : Prop :=
  s.cmd.forceDue = [] ∧ s.cmd.touchDue = [] ∧ s.cmd.slotDue = [] ∧ s.cmd.restartDue = false ∧ s.cmd.forces = [] ∧
    s.armed = false ∧ s.xch.keySwitch = none ∧ s.pair.cmds = [] ∧ s.pair.agreed = [] ∧ s.lane.faulty = [] ∧ s.lane.joinNext = []

/-- Task `t` is due and unfinished, so that the output sweep does not start yet (R41), and no cell asks for sleep. -/
def State.unfinished (s : State) (t : Nat) : Prop := s.cfg.sleepCell = none ∧ s.trw.stages.at? t = some .due

/-! ### Requests -/

/-- What a request must be given for a COMMAND of gate `g` (R264, R269, R391). -/
def commandOf (g : Gate) : Gate := { g with writes := !g.unit, kept := true, command := true, type := 0x80 }

/-- A request of class `g` reaches its service under domain `d`: its session has room and no remembered answer to it, or its
queue has it in progress; and neither recovery, the standby role, an unclaimed module nor maintenance refuses it (R264, R271,
R381, R396). -/
def State.hears (s : State) (r : Req) (g : Gate) (d : Nat) : Prop :=
  s.plat.frozen = false ∧ s.domainOf r.src = some d ∧ s.core.fget Reg.SEC_BOOT_STAGE ≠ 3 ∧ (g.writes = true → s.standby = false) ∧
    (s.unclaimed = true → g.unclaimed = true) ∧ (s.core.state = 3 → g.maint = true) ∧ match r.src with
    | .session n => ∃ x, s.svc.sessions.at? n = some x ∧ x.line.length < 16 ∧
        (g.kept = true → (∀ m ∈ x.memory, m.1 ≠ r.reqId) ∧ ∀ e ∈ x.line, e.id = r.reqId → e.kept = false)
    | .queue q => ∃ p, (s.queue q).cur = some p ∧ p.answer = none ∧ p.applied = false

/-- `s` with the request taken up: it stands last in its session's line, or its descriptor is applied. -/
def State.taken (s : State) (r : Req) (g : Gate) : State :=
  match r.src with
  | .session n => match s.svc.sessions.at? n with
    | some x => s.putSession n { x with line := x.line ++ [{ id := r.reqId, type := g.type, kept := g.kept }] }
    | none => s
  | .queue q => match (s.queue q).cur with
    | some p => s.putQueue q { s.queue q with cur := some { p with applied := true } }
    | none => s

/-- The COMMAND of `r` answered OK with its application epoch (R266, R269). -/
def State.doneAt (s : State) (r : Req) (epoch : Nat) : State := s.answerKept r .ok (commandBody epoch .none)

/-- The COMMAND of `r` refused. -/
def State.refused (s : State) (r : Req) (st : Status) (c : Cause) : State := s.answerKept r st (commandBody 0 c)

/-- The unit serves alone: no standby in step, none joining (R232). -/
def State.alone (s : State) : Prop := s.inStep = false ∧ s.joins = false

/-- A signed command stands under the rules of R269 and R391: this module's SERIAL, a valid signature, an epoch in its window. -/
def State.signs (s : State) (code : Nat) (sg : Signed) : Prop :=
  sg.serial = s.sec.otp.serial ∧ sg.sigValid = true ∧ s.epochOk code sg.epoch = true

/-- A frame of the partner link that has not been seen arrives on a link that is not silent (R228). -/
def State.newFrame (s : State) (seq : Nat) : Prop := s.paired = true ∧ s.pair.silent = false ∧ s.pair.rxSeen.contains seq = false

/-- The standby executes the tick of this epoch: its inputs are not closed, and it does not buffer (R229, R230). -/
def State.follows (s : State) (epoch : Nat) : Prop :=
  s.standby = true ∧ s.buffers = false ∧ s.epoch = epoch ∧ s.idle = false

/-- Neither maintenance, nor an unclaimed module, nor recovery refuses what a queue asks for (R381, R396). -/
def State.serves (s : State) : Prop := s.core.state ≠ 3 ∧ s.unclaimed = false ∧ s.core.fget Reg.SEC_BOOT_STAGE ≠ 3

/-- Queue `q` has no completion entry waiting, room for one, and a translation for it; its descriptor `g` asks for no message. -/
def State.closes (s : State) (q : Fin 64) (g : Progress) (w : Walk) : Prop :=
  (s.queue q).entries = [] ∧ (s.queue q).cqUsed < s.cqSize q ∧ g.d.irq = false ∧
    let x := (s.translate q (s.core.fget Reg.HQ_CQ_BASE_PAGE q * 4096 + s.core.fget Reg.HQ_CQ_TAIL q * 16) 16 true (some w)).1
    x.walk = false ∧ x.cause = 0

/-- `t` is `s` after the completion of descriptor `g` of queue `q` with this status: DONE, in the entry at the ring's tail (R425,
R426). -/
def State.closed (s t : State) (q : Fin 64) (g : Progress) (status : Nat) : Prop :=
  (t.queue q).cur = none ∧ (t.queue q).cqUsed = (s.queue q).cqUsed + 1 ∧
    t.core.fget Reg.HQ_DONE_COUNT q = satAdd Reg.HQ_DONE_COUNT.width (s.core.fget Reg.HQ_DONE_COUNT q) 1 ∧
    ∃ c : Completion, .completion q (s.core.fget Reg.HQ_CQ_TAIL q) c ∈ t.core.out ∧ c.tag = g.d.tag.toNat ∧ c.status = status ∧
      c.kind = 0 ∧ c.phase = s.core.flag Reg.HQ_CQ_PHASE q

/-- Descriptor `g` of queue `q` is the one in progress, of this opcode, its body read and nothing decided about it. -/
def State.runsOp (s : State) (q : Fin 64) (op : Nat) (g : Progress) : Prop :=
  (s.queue q).cur = some g ∧ s.atOpcode q op = true

end Sys2Proof.Machine
end

