-- ==== Sys2Proof/Certificates/Slice0/Obligations.lean ====
section
/-! DEFINITION. The statements for the provers. -/

open Sys2Proof Sys2Proof.Machine

/-! ### The trowel engines (R55 to R83) -/

/-- R65, R68, R74: an instruction on the engine's registers alone. -/
def Obligations.RegisterInstructions : Prop :=
  ∀ (s : State) (e : Fin 8) (d : TaskDef), s.runs e d →
    let g := s.lanes e
    let n := g.pc + 1
    exec (.nop e) s = .next (s.lanesTo e { g with pc := n } 1) ∧
    exec (.ltrue e) s = .next (s.lanesTo e { g with lacc := true, pc := n } 1) ∧
    exec (.lfalse e) s = .next (s.lanesTo e { g with lacc := false, pc := n } 1) ∧
    exec (.not e) s = .next (s.lanesTo e { g with lacc := !g.lacc, pc := n } 1) ∧
    exec (.swap e) s = .next (s.lanesTo e { g with wa := g.wb, wb := g.wa, pc := n } 1) ∧
    exec (.movab e) s = .next (s.lanesTo e { g with wb := g.wa, pc := n } 1) ∧
    exec (.selw e) s = .next (s.lanesTo e { g with wa := if g.lacc then g.wa else g.wb, pc := n } 1) ∧
    exec (.ldovf e) s = .next (s.lanesTo e { g with lacc := g.ovf, pc := n } 1) ∧
    exec (.clovf e) s = .next (s.lanesTo e { g with ovf := false, pc := n } 1) ∧
    exec (.ldchk e) s = .next (s.lanesTo e { g with lacc := g.chk, pc := n } 1)

/-- R69: the integer instructions. Sums, differences and products wrap; OVF is set where the signed result does not fit, and
stays set otherwise. -/
def Obligations.IntegerInstructions : Prop :=
  ∀ (s : State) (e : Fin 8) (d : TaskDef), s.runs e d →
    let g := s.lanes e
    let low : Word := BitVec.ofInt 32 (-(2 ^ 31))
    let gives (c : Instr) (w : Word) (clk : Nat) (o : Prop) [Decidable o] : Prop :=
      exec c s = .next (s.lanesTo e { g with wa := w, ovf := g.ovf || decide o, pc := g.pc + 1 } clk)
    gives (.addi e) (g.wa + g.wb) 1 ((g.wa + g.wb).toInt ≠ g.wa.toInt + g.wb.toInt) ∧
    gives (.subi e) (g.wa - g.wb) 1 ((g.wa - g.wb).toInt ≠ g.wa.toInt - g.wb.toInt) ∧
    gives (.muli e) (g.wa * g.wb) 2 ((g.wa * g.wb).toInt ≠ g.wa.toInt * g.wb.toInt) ∧
    gives (.divi e) (if g.wb = 0 then 0 else g.wa.sdiv g.wb) 12 (g.wb = 0 ∨ (g.wa = low ∧ g.wb = -1)) ∧
    gives (.modi e) (if g.wb = 0 then 0 else g.wa.srem g.wb) 12 (g.wb = 0) ∧
    gives (.divu e) (if g.wb = 0 then 0 else g.wa / g.wb) 12 (g.wb = 0) ∧
    gives (.negi e) (-g.wa) 1 (g.wa = low) ∧
    gives (.absi e) (if g.wa.toInt < 0 then -g.wa else g.wa) 1 (g.wa = low) ∧
    gives (.andw e) (g.wa &&& g.wb) 1 False ∧
    gives (.orw e) (g.wa ||| g.wb) 1 False ∧
    gives (.xorw e) (g.wa ^^^ g.wb) 1 False ∧
    gives (.notw e) (~~~g.wa) 1 False ∧
    gives (.shl e) (g.wa <<< (g.wb.toNat % 32)) 1 False ∧
    gives (.shr e) (g.wa >>> (g.wb.toNat % 32)) 1 False ∧
    gives (.sar e) (g.wa.sshiftRight (g.wb.toNat % 32)) 1 False

/-- R70 to R73: the binary32 instructions and the compares. The arithmetic is the model's binary32; NEGF and ABSF change bit
31 alone, and MINF, MAXF, NEGF, ABSF, ITOF and UTOF never set OVF. A compare loads LACC and changes nothing else; with a NaN
operand every binary32 compare gives 0 but NEF, which gives 1. -/
def Obligations.BinaryAndCompareInstructions : Prop :=
  ∀ (s : State) (e : Fin 8) (d : TaskDef), s.runs e d →
    let g := s.lanes e
    let gives (c : Instr) (x : Word × Bool) (clk : Nat) : Prop :=
      exec c s = .next (s.lanesTo e { g with wa := x.1, ovf := g.ovf || x.2, pc := g.pc + 1 } clk)
    gives (.addf e) (F32.add g.wa g.wb) 2 ∧
    gives (.subf e) (F32.sub g.wa g.wb) 2 ∧
    gives (.mulf e) (F32.mul g.wa g.wb) 2 ∧
    gives (.divf e) (F32.div g.wa g.wb) 10 ∧
    gives (.sqrtf e) (F32.sqrt g.wa) 10 ∧
    gives (.negf e) (g.wa ^^^ 0x80000000, false) 1 ∧
    gives (.absf e) (g.wa &&& 0x7FFFFFFF, false) 1 ∧
    gives (.minf e) (F32.min g.wa g.wb, false) 1 ∧
    gives (.maxf e) (F32.max g.wa g.wb, false) 1 ∧
    gives (.itof e) (F32.ofInt g.wa.toInt, false) 2 ∧
    gives (.utof e) (F32.ofInt g.wa.toNat, false) 2 ∧
    gives (.ftoi e) (F32.toInt g.wa) 2 ∧
    (let tells (c : Instr) (b : Bool) : Prop := exec c s = .next (s.lanesTo e { g with lacc := b, pc := g.pc + 1 } 1)
     let nan := F32.isNan g.wa || F32.isNan g.wb
     tells (.eqi e) (g.wa == g.wb) ∧ tells (.nei e) (g.wa != g.wb) ∧
     tells (.gti e) (g.wb.slt g.wa) ∧ tells (.gei e) (g.wb.sle g.wa) ∧ tells (.lti e) (g.wa.slt g.wb) ∧
     tells (.lei e) (g.wa.sle g.wb) ∧ tells (.gtu e) (g.wb.ult g.wa) ∧ tells (.ltu e) (g.wa.ult g.wb) ∧
     tells (.eqf e) (!nan && F32.eq g.wa g.wb) ∧ tells (.nef e) (nan || !F32.eq g.wa g.wb) ∧
     tells (.gtf e) (!nan && F32.lt g.wb g.wa) ∧ tells (.gef e) (!nan && F32.le g.wb g.wa) ∧
     tells (.ltf e) (!nan && F32.lt g.wa g.wb) ∧ tells (.lef e) (!nan && F32.le g.wa g.wb))

/-- R65, R68: loads from memory. A mirror slot costs one clock more (R64). That the word is the row's own, not the bank's, is
the model's choice (entry 18). -/
def Obligations.LoadInstructions : Prop :=
  ∀ (s : State) (e : Fin 8) (d : TaskDef) (m : MemOp) (w : Word) (q : Nat), s.runs e d → s.sees e m w q →
    let g := s.lanes e
    let b := w.getLsbD m.bit
    let gives (c : Instr) (r : LaneRegs) : Prop :=
      exec c s = .next (s.lanesTo e { r with pc := g.pc + 1 } (1 + mirrorClock m))
    (s.okBitRead m = true →
      gives (.ld e m) { g with lacc := b } ∧ gives (.ldn e m) { g with lacc := !b } ∧
      gives (.and e m) { g with lacc := g.lacc && b } ∧ gives (.andn e m) { g with lacc := g.lacc && !b } ∧
      gives (.or e m) { g with lacc := g.lacc || b } ∧ gives (.orn e m) { g with lacc := g.lacc || !b } ∧
      gives (.xor e m) { g with lacc := g.lacc ^^ b } ∧ gives (.xorn e m) { g with lacc := g.lacc ^^ !b }) ∧
    (s.okWordRead m = true → gives (.lda e m) { g with wa := w } ∧ gives (.ldb e m) { g with wb := w }) ∧
    (s.okCell m = true →
      gives (.qok e m) { g with lacc := q == 0 || q == 1 } ∧ gives (.ldql e m) { g with wa := BitVec.ofNat 32 q })

/-- R59, R65, R68: stores put one entry into the commit buffer. A bool cell takes bit 0 and clears the rest; a bit of a packed
cell or a retained word changes alone; a conditional store whose condition fails writes nothing. -/
def Obligations.StoreInstructions : Prop :=
  ∀ (s : State) (e : Fin 8) (d : TaskDef) (m : MemOp), s.runs e d →
    let g := s.lanes e
    let r := { g with pc := g.pc + 1 }
    let bool := m.sp = .cell ∧ s.cellKind m.idx = some .bool
    let skips (c : Instr) (clk : Nat) : Prop := exec c s = .next (s.lanesTo e r clk)
    let puts (c : Instr) (x : Entry) (clk : Nat) : Prop := exec c s = .next (s.storesTo e r x clk)
    (s.okBitStore d m = true → bool →
      let ent (b : Bool) : Entry := .cell m.idx (if b then 1 else 0)
      (∀ b, s.takes e (ent b)) →
        puts (.st e m) (ent g.lacc) 1 ∧ puts (.stn e m) (ent (!g.lacc)) 1 ∧
        (g.lacc = true → puts (.set e m) (ent true) 1 ∧ puts (.rst e m) (ent false) 1) ∧
        (g.lacc = false → skips (.set e m) 1 ∧ skips (.rst e m) 1)) ∧
    (∀ w q, s.okBitStore d m = true → ¬bool → s.sees e m w q →
      let ent (b : Bool) : Entry :=
        if m.sp = .cell then .cell m.idx (putBit w m.bit b) else .ret m.idx (putBit w m.bit b)
      (∀ b, s.takes e (ent b)) →
        puts (.st e m) (ent g.lacc) (1 + mirrorClock m) ∧ puts (.stn e m) (ent (!g.lacc)) (1 + mirrorClock m) ∧
        (g.lacc = true → puts (.set e m) (ent true) (1 + mirrorClock m) ∧ puts (.rst e m) (ent false) (1 + mirrorClock m)) ∧
        (g.lacc = false → skips (.set e m) (1 + mirrorClock m) ∧ skips (.rst e m) (1 + mirrorClock m))) ∧
    (s.okWordStore d m = true →
      let ent : Entry := if m.sp = .cell then .cell m.idx (if s.cellKind m.idx = some .bool then g.wa &&& 1 else g.wa)
        else .ret m.idx g.wa
      s.takes e ent →
        puts (.sta e m) ent 1 ∧ (g.lacc = true → puts (.stac e m) ent 1) ∧ (g.lacc = false → skips (.stac e m) 1))

/-- R66, R67: the nesting stack. An opening instruction and PUSH save LACC with their tag; a closing parenthesis combines by
the tag; READ and POP take a pushed bit. -/
def Obligations.NestingInstructions : Prop :=
  ∀ (s : State) (e : Fin 8) (d : TaskDef), s.runs e d →
    let g := s.lanes e
    let gives (c : Instr) (b : Bool) (st : List (Bool × Tag)) : Prop :=
      exec c s = .next (s.lanesTo e { g with lacc := b, stack := st, pc := g.pc + 1 } 1)
    (g.stack.length < 16 →
      gives (.andOpen e) g.lacc ((g.lacc, .and) :: g.stack) ∧ gives (.andnOpen e) g.lacc ((g.lacc, .andn) :: g.stack) ∧
      gives (.orOpen e) g.lacc ((g.lacc, .or) :: g.stack) ∧ gives (.ornOpen e) g.lacc ((g.lacc, .orn) :: g.stack) ∧
      gives (.xorOpen e) g.lacc ((g.lacc, .xor) :: g.stack) ∧ gives (.push e) g.lacc ((g.lacc, .push) :: g.stack)) ∧
    (∀ b st, (g.stack = (b, .and) :: st → gives (.closeParen e) (b && g.lacc) st) ∧
      (g.stack = (b, .andn) :: st → gives (.closeParen e) (b && !g.lacc) st) ∧
      (g.stack = (b, .or) :: st → gives (.closeParen e) (b || g.lacc) st) ∧
      (g.stack = (b, .orn) :: st → gives (.closeParen e) (b || !g.lacc) st) ∧
      (g.stack = (b, .xor) :: st → gives (.closeParen e) (b ^^ g.lacc) st) ∧
      (g.stack = (b, .push) :: st → gives (.read e) b g.stack ∧ gives (.pop e) b st))

/-- R62, R74: instruction words, and jumps. The command a word spells has that word and no other; every instruction of the
formats N, M and J has its word, which spells it. A jump within the task's code goes to its address in 3 clocks, or falls
through in 1. -/
def Obligations.JumpInstructions : Prop :=
  (∀ (e : Fin 8) (w : Word) (c : Instr), decodeTrowel e w = some c → encodeTrowel c = some w) ∧
  (∀ (e : Fin 8) (op : Nat) (c : Instr),
    let words (w : Word) : Prop := encodeTrowel c = some w ∧ decodeTrowel e w = some c
    (formatN e op = some c → words (wordN op)) ∧
    (∀ m, operandOk m = true → formatM e m op = some c → words (wordM op m)) ∧
    (∀ a, formatJ e a op = some c → words (wordJ op a))) ∧
  ∀ (s : State) (e : Fin 8) (d : TaskDef) (a : BitVec 18), s.runs e d → d.codeStart ≤ a.toNat → a.toNat ≤ d.codeEnd →
    let g := s.lanes e
    let jumps (c : Instr) : Prop := exec c s = .next (s.lanesTo e { g with pc := a } 3)
    let falls (c : Instr) : Prop := exec c s = .next (s.lanesTo e { g with pc := g.pc + 1 } 1)
    jumps (.jmp e a) ∧ (g.lacc = true → jumps (.jc e a) ∧ falls (.jcn e a)) ∧
      (g.lacc = false → falls (.jc e a) ∧ jumps (.jcn e a))

/-- R76, R79, R80, R81: records and edge bits. Timers and counters execute their record and leave its Q (for CTD its QD) in
LACC; the settings of a counter leave LACC; LDQ and LET read; EDGR and EDGF compare LACC with the bit's last value, and the
first execution sees no edge. That the settings of a counter set LAST is the model's reading (entry 16). -/
def Obligations.RecordInstructions : Prop :=
  ∀ (s : State) (e : Fin 8) (d : TaskDef) (m : MemOp), s.runs e d →
    let g := s.lanes e
    let n := ep32 s.epoch
    let x := s.recSeen e m.idx
    let puts (c : Instr) (y : TRec) (b o : Bool) (clk : Nat) : Prop := s.takes e (.record m.idx y) →
      exec c s = .next (s.storesTo e { g with lacc := b, ovf := g.ovf || o, pc := g.pc + 1 } (.record m.idx y) clk)
    let timer (c : Instr) (y : TRec) : Prop := puts c y y.q false 4
    (∀ t, s.okRecord d m t = true →
      (t = 1 → timer (.ton e m) (ton g.lacc g.wa n s.period x)) ∧
      (t = 2 → timer (.tof e m) (tof g.lacc g.wa n s.period x)) ∧
      (t = 3 → timer (.tp e m) (tp g.lacc g.wa n s.period x)) ∧
      (t = 4 →
        puts (.ctu e m) (ctu g.lacc n x).1 (ctu g.lacc n x).1.q (ctu g.lacc n x).2.2 3 ∧
        puts (.ctd e m) (ctd g.lacc n x).1 (ctd g.lacc n x).1.qd (ctd g.lacc n x).2.2 3 ∧
        puts (.cres e m) (recount { x with et := if g.lacc then 0 else x.et, last := n }) g.lacc false 2 ∧
        puts (.cload e m) (recount { x with et := if g.lacc then g.wa else x.et, last := n }) g.lacc false 2 ∧
        puts (.cpset e m) (recount { x with pt := g.wa, last := n }) g.lacc false 2)) ∧
    (s.okRecordRead m true = true →
      exec (.ldq e m) s = .next (s.lanesTo e { g with lacc := if m.bit = 0 then x.q else x.qd, pc := g.pc + 1 } 1)) ∧
    (s.okRecordRead m false = true → exec (.letv e m) s = .next (s.lanesTo e { g with wa := x.et, pc := g.pc + 1 } 1)) ∧
    (okEdge d m = true →
      let old := ((s.engine e).buf.edges.at? m.idx).getD (s.trw.edges.atD m.idx {})
      let ent : Entry := .edge m.idx { m := g.lacc, init := false }
      s.takes e ent →
        exec (.edgr e m) s =
          .next (s.storesTo e { g with lacc := !old.init && g.lacc && !old.m, pc := g.pc + 1 } ent 2) ∧
        exec (.edgf e m) s =
          .next (s.storesTo e { g with lacc := !old.init && !g.lacc && old.m, pc := g.pc + 1 } ent 2))

/-- R95, R74, R83: the start and the end of a task cycle, while another due task `u` is unfinished. A dispatch starts the
ready due task of lowest PRIO at its first word; END with equal lanes and an empty stack commits the buffer. That END commits
at once is the model's choice (entry 21). -/
def Obligations.TaskCycle : Prop :=
  ∀ (s : State) (e : Fin 8),
    (∀ d, s.trw.scanning = true → s.core.flag Reg.TRW_STAT_IN_SERVICE e = true → (s.engine e).task = none →
      s.nextTask e = some d →
      let r : LaneRegs := { pc := BitVec.ofNat 18 d.codeStart }
      let g : Engine := { s.engine e with a := r, b := r, task := some d.id, buf := {}, clocks := 4 }
      ∃ k, exec (.taskDispatch e) s = .next { s with core := k, trw := { s.trw with
          engines := s.trw.engines.put e g, stages := s.trw.stages.put d.id .running } } ∧
        s.core.only k [Reg.TRW_STAT_TASK.key e, Reg.TRW_STAT_STATE.key e] ∧
        k.fget Reg.TRW_STAT_TASK e = d.id ∧ k.fget Reg.TRW_STAT_STATE e = 1) ∧
    (∀ d u, s.runs e d → (s.lanes e).stack = [] → s.unfinished u → u ≠ d.id →
      let b := (s.engine e).buf
      ∃ t, exec (.endCycle e) s = .next t ∧ (t.engine e).task = none ∧ (t.engine e).buf = {} ∧
        t.trw.stages.at? d.id = some .done ∧ t.core.fget Reg.TRW_MISM_CONSEC e = 0 ∧
        t.core.fget Reg.TRW_OVF_CNT_COUNT e =
          (if (s.lanes e).ovf then satAdd 32 (s.core.fget Reg.TRW_OVF_CNT_COUNT e) 1
            else s.core.fget Reg.TRW_OVF_CNT_COUNT e) ∧
        (b.ret.wf → ∀ i w, b.ret.at? i = some w → t.trw.ret.at? i = some w) ∧
        (b.recs.wf → ∀ i x, b.recs.at? i = some x → t.trw.recs.at? i = some x) ∧
        (b.edges.wf → ∀ i x, b.edges.at? i = some x → t.trw.edges.at? i = some x) ∧
        (∀ a w, b.cells = [(a, w)] → (s.img.working.at? a).isSome → s.isForced a = false →
          (t.img.working.at? a).any fun c => c.src == 4 && c.epoch == ep32 s.epoch &&
            c.value == if s.cellKind a = some .bool then w &&& 1 else w))

/-! ### The float engines (R127 to R149) -/

/-- R127, R131, R141, R147, R149: a due sample of a slot, while a due task `u` is unfinished. In an untripped slot with finite
results the estimate, the applied values and the decayed bias move on, and the output cell takes its applied value; a result
that is not finite faults the slot and writes no cell; a lane mismatch discards the sample and keeps the slot. A descriptor
whose code word fails faults the slot with cause 0x11. A faulted slot holds or feathers, its observer standing; a guarded slot
of a tripped bead runs its observer on what stands at its outputs and writes no cell. The rounding of a slew step is the
model's choice (entry 23). -/
def Obligations.LoopSample : Prop :=
  ∀ (s : State) (f : Fin 4) (slot : Fin 128) (l : Loop) (u : Nat),
    s.loopAt f slot = some l → s.trw.scanning = true → s.core.flag Reg.FLT_STAT_IN_SERVICE f = true →
    s.nextLoop f = some slot → s.unfinished u →
    let j := f.val * 128 + slot.val
    let stopped := l.desc.guarded = true ∧ s.core.flag Reg.SBD_STAT_TRIPPED = true
    let s0 := (s.loopClocks f l).onCore (·.fput Reg.FLT_STAT_SLOT slot f)
    let p := (s0.plan f slot l).1
    let s1 := (s0.plan f slot l).2
    (s.flt.descBad.contains j = false → s.core.fget Reg.LP_STAT_STATE j ≠ 3 → ¬stopped →
      let w := s1.law l p none
      (w.finite = true → ∃ t, exec (.loopSample f slot .agree) s = .next t ∧ t.flt.stages.at? j = some .done ∧
        t.core.fget Reg.FLT_MISM_CONSEC f = 0 ∧
        ((t.flt.slots.at? j).any fun l' => l'.xhat == w.x && l'.uprev == w.uappl && l'.uappl == w.uappl &&
          l'.ucmd == w.ucmd && l'.e == w.e && l'.bias == w.bias.map (fun b => (F32.mul l.desc.decay b).1) &&
          l'.desc == l.desc) = true ∧
        (∀ a v, l.desc.uCell = [a] → w.uappl = [v] → (s1.img.working.at? a).isSome → s.isForced a = false →
          (t.img.working.at? a).any fun c => c.src == 5 && c.epoch == ep32 s.epoch &&
            c.value == if kindOf (s1.kindDomain a).1 = .bool then v &&& 1 else v)) ∧
      (w.finite = false → ∃ t, exec (.loopSample f slot .agree) s = .next t ∧ t.flt.stages.at? j = some .done ∧
        t.core.fget Reg.LP_STAT_STATE j = 3 ∧ t.core.fget Reg.FLT_FAULT_CAUSE f = 0x10 ∧
        t.flt.slots.at? j = some { l with faultEpoch := s.epoch } ∧ t.img = s1.img) ∧
      (s.core.fget Reg.FLT_MISM_CONSEC f < 2 → ∃ t, exec (.loopSample f slot .mismatch) s = .next t ∧
        t.flt.stages.at? j = some .discarded ∧ t.core.fget Reg.FLT_MISM_CONSEC f = s.core.fget Reg.FLT_MISM_CONSEC f + 1 ∧
        t.flt.slots.at? j = some l)) ∧
    (∃ t, exec (.loopSample f slot .eccError) s = .next t ∧ t.flt.stages.at? j = some .done ∧
      t.core.fget Reg.LP_STAT_STATE j = 3 ∧ t.core.fget Reg.FLT_FAULT_CAUSE f = 0x11 ∧
      t.flt.slots.at? j = some { l with faultEpoch := s.epoch } ∧ t.img = s.img) ∧
    (s.core.fget Reg.LP_STAT_STATE j = 3 → ¬stopped → ∃ t, exec (.loopSample f slot .agree) s = .next t ∧
      t.flt.stages.at? j = some .done ∧ t.core.fget Reg.LP_STAT_STATE j = 3 ∧
      t.core.fget Reg.LP_STAT_FB j = (if l.desc.fallback = 1 then 3 else 2) ∧
      ((t.flt.slots.at? j).any fun l' => l'.xhat == l.xhat && l'.desc == l.desc) = true) ∧
    (s.flt.descBad.contains j = false → s.core.fget Reg.LP_STAT_STATE j ≠ 3 → stopped →
      let w := s1.law l p (some (s1.feathered l))
      w.e.all F32.isFinite = true → w.x.all F32.isFinite = true →
      ∃ t, exec (.loopSample f slot .agree) s = .next t ∧ t.flt.stages.at? j = some .done ∧ t.img = s1.img ∧
        ((t.flt.slots.at? j).any fun l' => l'.xhat == w.x && l'.uprev == s1.feathered l && l'.ucmd == l.ucmd) = true)

/-! ### The screed tick (R28 to R51, R97 to R99) -/

/-- R39, R41, R48: with nothing waiting for it, a screed instant starts the tick of the next epoch: TICK_EPOCH, RUNNING and
PHASE say so, L is C at this LN_SYNC, and the bursts of the input list to joined carriers wait to be sent. -/
def Obligations.ScreedInstant : Prop :=
  ∀ (s : State) (inputs : List LaneInput), s.canTick = true → s.standby = false → s.quiet →
    ∃ t, exec (.screedInstant inputs) s = .next t ∧ t.epoch = s.nextEpoch % 2 ^ 64 ∧
      t.core.flag Reg.TICK_STATUS_RUNNING = true ∧ t.core.fget Reg.TICK_STATUS_PHASE = 1 ∧
      t.seq.syncC = s.core.c ∧ t.seq.started = true ∧ t.seq.outStarted = false ∧ t.seq.metDone = false ∧
      t.seq.inLeft = t.sweepOf t.cfg.inputSweep ∧ t.trw.scanning = false

/-- R41, R44, R168, R256: the merge of a module without subscriptions, while a due task `u` is unfinished: scan and control
opens. MERGE_LIMIT sets MERGE_OVR too. A metrology result enters its cell once a tick. The merge as one instant is the model's
choice (entry 108), and so is when a result is due (entry 38). -/
def Obligations.MergeAndResults : Prop :=
  ∀ (s : State), s.canMerge = true → s.standby = false →
    (∀ u cut, s.unfinished u → s.xch.subs = [] → s.xch.triggers = [] → s.net.inbox = [] → s.feeds = false →
      s.core.flag Reg.SBD_STAT_TRIPPED = false →
      (∃ t, exec .merge s = .next t ∧ t.trw.scanning = true ∧ t.core.fget Reg.TICK_STATUS_PHASE = 3 ∧
        t.xch.mergedEpoch = some s.epoch ∧ t.met.due = (if s.seq.metDone then s.met.due else [])) ∧
      (∃ t, exec (.mergeLimit cut) s = .next t ∧ t.trw.scanning = true ∧ t.core.fget Reg.TICK_STATUS_PHASE = 3 ∧
        t.xch.mergedEpoch = some s.epoch ∧ t.core.flag Reg.TICK_OVR_MERGE_OVR = true)) ∧
    (s.seq.metDone = false → ∃ t, exec .metrologyResultEntry s = .next t ∧ t.seq.metDone = true ∧ t.met.due = [] ∧
      ∀ a v q, s.met.due = [(a, v, q)] → (s.img.working.at? a).isSome → s.isForced a = false →
        (t.img.working.at? a).any fun c => c.src == 3 && c.epoch == ep32 s.epoch &&
          c.value == if kindOf (s.kindDomain a).1 = .bool then v &&& 1 else v)

/-- R31, R43 to R45, R49, R97: the limits of a tick, of a pin and of the wait for lock. An input sweep that overruns is told,
and given up at its hard limit; an output sweep past its window is cut; a publish still unsent is abandoned; a scan time over
90 % of its window counts towards NEAR_LIMIT; a pin that expires holds its epoch no more; and a module that has waited for
lock has its time base, on the seeded time. That such a row comes at its time is the model's choice (entry 9). -/
def Obligations.TickLimits : Prop :=
  ∀ (s : State),
    (s.running = true → s.seq.inDone = false →
      (∃ k, exec .inputSweepOverrun s = .next { s with core := k } ∧ s.core.only k [Reg.TICK_OVR_IN_SWEEP_OVR.key 0] ∧
        k.flag Reg.TICK_OVR_IN_SWEEP_OVR = true) ∧
      (s.seq.inLeft ≠ [] → ∃ t, exec .inputSweepHardLimit s = .next t ∧ t.seq.inDone = true ∧ t.seq.inLeft = [] ∧
        t.core.flag Reg.TICK_OVR_IN_HARD_LIMIT = true)) ∧
    (s.running = true → s.core.fget Reg.TICK_STATUS_PHASE = 3 → s.seq.outStarted = false → s.plat.hold = false →
      s.cfg.sleepCell = none → s.standby = false → s.pair.resolve = none → s.allDone = true →
      s.closeScan.outBursts.1 ≠ [] →
      ∃ t, exec .outputSweepWindowStart s = .next t ∧ t.seq.outStarted = true ∧ t.trw.scanning = false ∧
        t.seq.outLeft = s.closeScan.outBursts.1 ∧ t.core.fget Reg.TICK_STATUS_PHASE = 4) ∧
    (s.seq.outStarted = true → s.seq.swapped = false → s.seq.outLeft ≠ [] → s.paired = false → s.joins = false →
      ∃ t, exec .outputSweepAbort s = .next t ∧ t.seq.outLeft = [] ∧ t.seq.swapped = true) ∧
    ((∃ p ∈ s.net.txq, ∃ d, TxItem.exchange d ∈ p.2 ∧ d.epoch < s.epoch) →
      ∃ k n x, exec .publishAbandon s = .next { s with core := k, net := n, xch := x } ∧
        s.core.only k [Reg.TICK_OVR_PUBLISH_ABANDON.key 0] ∧ k.flag Reg.TICK_OVR_PUBLISH_ABANDON = true ∧
        ∀ p ∈ n.txq, ∀ d, TxItem.exchange d ∈ p.2 → s.epoch ≤ d.epoch) ∧
    (∀ us, 10 * us > 9 * s.core.fget Reg.TICK_SCAN_WIN_WIN_US → s.seq.near < 63 →
      s.core.flag Reg.TICK_STATUS_NEAR_LIMIT = false →
      ∃ k, exec (.nearLimit us) s = .next { s with core := k, seq := { s.seq with
          scans := (us :: s.seq.scans).take 1024, near := s.seq.near + 1, far := 0 } } ∧
        s.core.only k [Reg.TICK_SCAN_MAX_MAX_US.key 0] ∧
        k.fget Reg.TICK_SCAN_MAX_MAX_US = ((us :: s.seq.scans).take 1024).foldl max 0 % 2 ^ 32) ∧
    (∀ who epoch, s.holds who epoch = true → ∃ t, exec (.pinExpiry who epoch) s = .next t ∧ t.holds who epoch = false) ∧
    (s.seq.waitFrom.isSome = true → s.seq.base = none → s.core.flag Reg.NT_STAT_SEED_INVALID = false → ∃ k,
      exec .lockWaitExpiry s = .next { s with core := k, seq := { s.seq with base := some s.ntNs, waitFrom := none } } ∧
      s.core.only k [Reg.TICK_STATUS_TIME_DEGRADED.key 0] ∧ k.flag Reg.TICK_STATUS_TIME_DEGRADED = true)

/-! ### Commands (R100 to R118, R141, R151 to R154, R232, R266 to R271, R391 to R397) -/

/-- R107 to R112, R151: forces, touch-ups and slot updates accepted of a unit that serves alone: each waits for the next
screed instants and is answered with the epoch at which it is applied; a cell that is no owned user cell is NO_ACCESS and
counted. The order of waiting forces and updates is the model's choice (entry 27). -/
def Obligations.ForceAndUpdateCommands : Prop :=
  ∀ (s : State) (r : Req), s.hears r (commandOf {}) 0 → s.alone →
    let t := s.taken r (commandOf {})
    (∀ cell persist v, s.userCell cell = true → s.forceUse.length < 1024 →
      exec (.forceSet r cell persist v) s = .next (({ t with cmd := { t.cmd with forceDue :=
        s.cmd.forceDue ++ [(cell, some (persist, if s.cellKind cell = some .bool then v &&& 1 else v))] } } : State).doneAt r
          (s.epoch + 1))) ∧
    (∀ cell, s.userCell cell = true → exec (.forceRemove r cell) s =
      .next (({ t with cmd := { t.cmd with forceDue := s.cmd.forceDue ++ [(cell, none)] } } : State).doneAt r (s.epoch + 1))) ∧
    (∀ cell persist v, s.userCell cell = false →
      exec (.forceSet r cell persist v) s = .next ((t.deny 0).refused r .noAccess .none) ∧
      exec (.forceRemove r cell) s = .next ((t.deny 0).refused r .noAccess .none)) ∧
    (∀ items, s.cmd.touchDue.length < 5 → s.armed = false → s.touchOk items = true →
      exec (.touchUp r items) s = .next ((({ t with cmd := { t.cmd with touchDue := s.cmd.touchDue ++ [items] } } : State).onCore
        (·.fput Reg.TUP_STAT_QUEUED (s.cmd.touchDue.length + 1))).doneAt r (s.epoch + 1 + s.cmd.touchDue.length))) ∧
    (∀ items, 5 ≤ s.cmd.touchDue.length → exec (.touchUp r items) s = .next (t.refused r .busy .none)) ∧
    (∀ descs, 1 ≤ descs.length → descs.length ≤ 128 →
      s.names.loopsOk s.floatCells ((s.slotsDue.filter fun o => !descs.any fun n =>
        n.engine == o.engine && n.slot == o.slot) ++ descs) = true →
      exec (.slotUpdate r descs) s = .next (({ t with cmd := { t.cmd with slotDue := s.cmd.slotDue ++ [descs] } } : State).doneAt r
        (s.epoch + 1 + s.cmd.slotDue.length)))

/-- R116 to R118: on a unit that serves alone a recoat is armed from the verified state and a revert from the swapped state, for
a swap at least 8 epochs off; a nearer one is refused; a cancel before tick S − 1 gives the verified state back. -/
def Obligations.RecoatCommands : Prop :=
  ∀ (s : State) (r : Req) (swap : Nat), s.hears r (commandOf {}) 0 → s.alone → swap < 2 ^ 64 →
    let st := s.core.fget Reg.RCT_STAT_STATE
    let armed (c : Instr) : Prop := ∃ t, exec c s = .next t ∧ t.core.fget Reg.RCT_STAT_STATE = 3 ∧ t.swapEpoch = swap
    (s.epoch + 8 ≤ swap → st = 2 → armed (.recoatArm r swap)) ∧
    (s.epoch + 8 ≤ swap → st = 4 → armed (.revertArm r swap)) ∧
    (swap < s.epoch + 8 → ∃ t, exec (.recoatArm r swap) s = .next t ∧ exec (.revertArm r swap) s = .next t ∧
      t.core.fget Reg.RCT_STAT_STATE = st ∧ t.core.fget Reg.RCT_STAT_RESULT = 6) ∧
    (st = 3 → s.epoch + 1 < s.swapEpoch → ∃ t, exec (.recoatCancel r) s = .next t ∧ t.core.fget Reg.RCT_STAT_STATE = 2 ∧
      t.core.fget Reg.RCT_STAT_RESULT = 8)

/-- R100, R101, R105, R141, R153: STOP trips the bead with cause 7; a restart of the trip is accepted once it is signed, cool
and served; a reset takes a faulted loop slot back; a trace set-up starts its unit with no rows. -/
def Obligations.StopAndLoopCommands : Prop :=
  ∀ (s : State) (r : Req), s.hears r (commandOf {}) 0 → s.alone →
    (s.core.flag Reg.SBD_STAT_TRIPPED = false → ∃ t, exec (.stop r) s = .next t ∧
      t.core.flag Reg.SBD_STAT_TRIPPED = true ∧ t.core.fget Reg.SBD_STAT_CAUSE = 7 ∧
      t.core.pair Reg.SBD_TRIP_EPOCH_LO_EPOCH_LO Reg.SBD_TRIP_EPOCH_HI_EPOCH_HI = s.epoch % 2 ^ 64 ∧
      t.cmd.tripC = s.core.c ∧
      ∀ d ∈ s.trw.bank.tasks, d.guarded = true → t.core.fget Reg.TSK_STAT_STATE d.id = 4) ∧
    (∀ trip cur, s.epochOk 9 cur = true → s.core.flag Reg.SBD_STAT_TRIPPED = true → s.cmd.restartDue = false →
      trip = s.core.pair Reg.SBD_TRIP_EPOCH_LO_EPOCH_LO Reg.SBD_TRIP_EPOCH_HI_EPOCH_HI →
      s.core.sget Reg.THM_STAT_TJ < 950 → s.guardedServed = true →
      ∃ t, exec (.restart r trip cur true) s = .next t ∧ t.cmd.restartDue = true ∧ t.sec.replay.at? 9 = some cur) ∧
    (∀ trip cur, ∃ t, exec (.restart r trip cur false) s = .next t ∧ t.cmd.restartDue = s.cmd.restartDue ∧
      t.sec.replay = s.sec.replay) ∧
    (∀ e slot fault l, e < 4 → slot < 128 → s.flt.slots.at? (e * 128 + slot) = some l → l.faultEpoch = fault →
      s.core.fget Reg.LP_STAT_STATE (e * 128 + slot) = 3 →
      ∃ t, exec (.loopReset r e slot fault) s = .next t ∧
        t.flt.slots.at? (e * 128 + slot) = some { l with transfer := true } ∧
        t.core.fget Reg.LP_STAT_STATE (e * 128 + slot) =
          if l.desc.guarded && s.core.flag Reg.SBD_STAT_TRIPPED then 4 else 1) ∧
    (∀ (e : Nat) (x : TraceSetup), e ≤ 3 → x.ch.length = 8 → x.pre ≤ 4095 → x.trigMode.val ≤ 4 →
      x.ch.all (·.2.2.1.val ≤ 6) = true →
      ∃ t, exec (.traceSetUp r e x) s = .next t ∧ (t.flt.traces.atD e {}).setup = some x ∧
        t.core.fget Reg.TRC_STAT_STATE e = (if x.pre = 0 then 2 else 1) ∧ t.core.fget Reg.TRC_STAT_ROWS e = 0)

/-- R189, R232, R237, R397, R410: a meter snapshot waits for the next commit; maintenance is entered with cause 5 and left to
a new start of the sequencer; with a standby in step a switchover goes to the standby and waits for it; a recorder clear is
admitted as its own record. Which commands a pair passes on is the model's choice (entry 28). -/
def Obligations.ModuleCommands : Prop :=
  ∀ (s : State) (r : Req),
    (∀ rm m, s.hears r (commandOf {}) 0 → s.alone → ∃ t, exec (.meterSnapshot r rm m) s = .next t ∧
      t.met.snapsDue = s.met.snapsDue ++ [{ trigger := 2, resetMax := rm, mask := m.toNat }]) ∧
    (∀ cur, s.hears r (commandOf {}) 0 → s.inStep = true → s.epochOk 0xD cur = true →
      let c : Passed := .command (.switchover cur true)
      ∃ t, exec (.switchover r cur true) s = .next t ∧ t.pair.txSeq = s.pair.txSeq + 1 ∧
        t.pair.cmds = s.pair.cmds ++ [⟨s.pair.txSeq, r, c⟩] ∧
        t.pair.sent = { seq := s.pair.txSeq, epoch := s.epoch, frame := .command c s.epoch } :: s.pair.sent ∧
        t.core.out = s.core.out ∧ t.pair.declared = s.pair.declared) ∧
    (s.hears r (commandOf maintGate) 0 →
      (∃ t, exec (.maintenanceEnter r) s = .next t ∧ t.core.state = 3 ∧
        (t.core.fget Reg.SEC_MAINT_CAUSES).testBit 4 = true) ∧
      (s.core.state = 3 → s.core.fget Reg.SEC_MAINT_CAUSES = 16 → s.core.flag Reg.TMP_STAT_FULL = true →
        ∃ t, exec (.maintenanceLeave r) s = .next t ∧ t.core.state = 0 ∧ t.core.fget Reg.SEC_MAINT_CAUSES = 0 ∧
          t.plat.step = some 8)) ∧
    (∀ sg upto, s.hears r (commandOf unitGate) 0 → s.signs 0xE sg → s.core.evr.next ≤ upto → s.core.evr.scanned = true →
      s.core.evrRoom 0x0D01 = true →
      ∃ t, exec (.recorderClear r sg upto) s = .next t ∧ t.core.evr.next = s.core.evr.next + 1 ∧
        t.core.evr.fifo.length = s.core.evr.fifo.length + 1 ∧ (t.core.evr.fifo.getLast?).any fun x =>
          x.code == 0x0D01 && x.seq == s.core.evr.next && x.domain == 0)

/-- R376, R386, R391 to R393, R398: the key commands. A claim writes OWNER_HASH[0], the hash of the owner's public key; a transfer
writes the next hash and revokes the current one, and is refused once four stand; an import makes slot `slot` hold the unwrapped
key, wrapped again, at the next GEN under its parent's GEN; a destroy empties a slot; a coat renewal derives the brown slot at
its next GEN under the scratch coat, and its fixed finish slots under it. What a destroyed slot holds is the model's choice
(entry 32). -/
def Obligations.KeyCommands : Prop :=
  ∀ (s : State) (r : Req),
    (∀ h, s.hears r (commandOf { unitGate with unclaimed := true }) 0 → s.unclaimed = true →
      ∃ t, exec (.claim r s.sec.otp.serial h) s = .next t ∧ t.sec.otp.ownerHash = [Config.sha384 h] ∧
        t.core.flag Reg.SEC_OWNER_CLAIMED = true) ∧
    (s.hears r (commandOf unitGate) 0 →
      (∀ sg h, s.signs 0x11 sg → s.sec.otp.ownerHash.length < 4 →
        ∃ t, exec (.ownerTransfer r sg h) s = .next t ∧ t.sec.otp.ownerHash = s.sec.otp.ownerHash ++ [Config.sha384 h] ∧
          t.sec.otp.ownerRevoked = s.sec.otp.ownerRevoked ++ s.ownerIndex.toList ∧
          t.sec.replay.at? 0x11 = some sg.epoch) ∧
      (∀ sg h, s.signs 0x11 sg → 4 ≤ s.sec.otp.ownerHash.length →
        ∃ t, exec (.ownerTransfer r sg h) s = .next t ∧ t.sec = s.sec ∧
          t.core.fget Reg.SEC_REFUSED_COUNT = satAdd 32 (s.core.fget Reg.SEC_REFUSED_COUNT) 1) ∧
      (∀ sg slot alg par use tag key, s.signs 0x12 sg → 10 ≤ slot → slot ≤ 255 → 1 ≤ par → par ≤ 5 → 1 ≤ alg → alg ≤ 5 →
        s.keyCause 6 = none → s.keyCause par = none →
        ∃ t, exec (.keyImport r sg slot alg par use tag key true) s = .next t ∧
          t.slot slot = { active := true, coat := 3, purpose := par - 1, alg := alg, parent := par, use := use,
                          gen := (s.slot slot).gen + 1, parentGen := (s.slot par).gen, tag := tag, imported := true,
                          material := s.importMaterial sg.epoch slot alg par key.ephemeral key.wrapped } ∧
          ∀ x, x ≠ slot → t.slot x = s.slot x) ∧
      (∀ sg slot, s.signs 0x13 sg → 10 ≤ slot → slot ≤ 255 → s.sec.slots.wf →
        ∃ t, exec (.keyDestroy r sg slot) s = .next t ∧ (t.slot slot).active = false ∧ ∀ x, x ≠ slot → t.slot x = s.slot x) ∧
      (∀ sg b, s.signs 0x14 sg → 1 ≤ b → b ≤ 5 → s.keyCause 0 = none → s.keyCause b = none →
        ∃ t, exec (.coatRenew r sg b) s = .next t ∧ (t.slot b).gen = (s.slot b).gen + 1 ∧
          (t.slot b).parentGen = (s.slot 0).gen ∧
          (∀ x ∈ fixedSlots b, (t.slot x).gen = (s.slot x).gen + 1 ∧ (t.slot x).parentGen = (s.slot b).gen + 1) ∧
          ∀ x, x ≠ b → x ∉ fixedSlots b → t.slot x = s.slot x))

/-- R253, R365, R375, R382, R383, R391, R393: an exchange key roll waits for its epoch; a tamper clear that names what is latched
clears TMP_STAT and the stamp; a recommission derives the scratch coat, the brown slots and the fixed finish slots anew; the
commits burn their image headers' counts into OTP, where the larger count stands. What a recommission records, and statuses the spec does not name, are the
model's choice (entries 31, 32). -/
def Obligations.CustodyCommands : Prop :=
  ∀ (s : State) (r : Req), s.hears r (commandOf unitGate) 0 →
    (∀ sg g x j, s.signs 0x15 sg → s.exchangeSlot g = some j → s.keyCause j = none →
      ∃ t, exec (.exchangeKeyRoll r sg g x) s = .next t ∧ t.xch.keySwitch = some (g, x) ∧
        t.core.fget Reg.XCH_CFG_KEYGEN_TX = s.core.fget Reg.XCH_CFG_KEYGEN_TX) ∧
    (∀ sg sec gen, s.signs 0x16 sg → s.core.fget Reg.TMP_TIME_SEC_SEC = BitVec.toNat (w := 32) sec →
      s.core.fget Reg.TMP_GEN_GEN = BitVec.toNat (w := 32) gen →
      ∃ t, exec (.tamperClear r sg sec gen) s = .next t ∧ t.core.flag Reg.TMP_STAT_FULL = false ∧
        t.core.flag Reg.TMP_STAT_SUPPLY = false ∧ t.core.flag Reg.TMP_STAT_MESH = false ∧
        t.core.fget Reg.TMP_STAT_INPUTS = 0 ∧ t.core.fget Reg.TMP_TIME_SEC_SEC = 0 ∧
        t.core.fget Reg.TMP_GEN_GEN = s.core.fget Reg.TMP_GEN_GEN) ∧
    (∀ sg, s.signs 0x17 sg → s.core.flag Reg.TMP_STAT_FULL = false → s.importedSlots = [] →
      ∃ t, exec (.recommission r sg) s = .next t ∧ (t.slot 0).active = true ∧
        (t.slot 0).gen = s.core.fget Reg.TMP_GEN_GEN ∧
        (∀ x, 1 ≤ x → x ≤ 5 → (t.slot x).active = true ∧ (t.slot x).gen = (s.slot x).gen + 1 ∧
          (t.slot x).parentGen = s.core.fget Reg.TMP_GEN_GEN) ∧
        (∀ x, 6 ≤ x → x ≤ 9 → (t.slot x).active = true ∧ (t.slot x).gen = (s.slot x).gen + 1)) ∧
    (∀ sg slot w, s.signs 0x18 sg → s.core.flag Reg.SEC_BOOT_TRIAL = true → s.core.fget Reg.SEC_BOOT_FW_SLOT = slot →
      s.sec.trial.any (·.1 == slot) = true → s.cameUp = true → s.sec.fw.getD slot none = some w →
      ∃ t, exec (.firmwareCommit r sg slot) s = .next t ∧ t.sec.fwPref = slot ∧ t.sec.trial = none ∧
        t.core.flag Reg.SEC_BOOT_TRIAL = false ∧
        t.sec.otp.svnFw = (if w.firmware.header.advance then burnTo s.sec.otp.svnFw w.firmware.header.svn else s.sec.otp.svnFw) ∧
        t.sec.otp.svnBl = (if w.stage1.header.advance then burnTo s.sec.otp.svnBl w.stage1.header.svn else s.sec.otp.svnBl)) ∧
    (∀ sg, s.signs 0x19 sg → s.cameUp = true →
      ∃ t, exec (.configurationCommit r sg s.sec.runSeq) s = .next t ∧
        t.sec.otp.svnCfg = if s.sec.runAdvance then burnTo s.sec.otp.svnCfg s.sec.runSvn else s.sec.otp.svnCfg) ∧
    (∀ (b : BitVec 64) (v : Nat), v ≤ 64 → svnValue (burnTo b v) = max (svnValue b) v)

/-! ### Metrology (R158 to R195) -/

/-- R158, R165, R169, R172, R174: a sample of a module outside a warning, whose converters deliver `raw`: the products of a phase
enter its window, a channel at full scale is counted and marked, and every point's registers take what R172 routes to them. The
conditioning of the samples and the rounding of the energies are presumed (entries 36, 116). -/
def Obligations.MetrologySample : Prop :=
  ∀ (s : State) (volts amps : List Int) (spare : Int), s.sampling = true → s.met.warnDue = false → s.pendingOn = false → s.standby = false →
    let s0 : State := { s with met := { s.met with samples := s.met.samples + 1, lastC := s.core.c, lastWall := s.wallNow } }
    let s1 := (s0.noteRaw (converters volts amps spare)).trackCycle
    let s2 := (s1.noteClips s1.clippedNow).noteProducts
    ∃ t, exec (.metrologySample volts amps spare) s = .next t ∧ t.met.samples = s.met.samples + 1 ∧
      t.met.lastC = s.core.c ∧ t.met.lastWall = s.wallNow ∧
      t.met.points.map (·.regs) = s2.sizedPoints.map (fun x => addAll x.2.1.regs (s2.pointSample x.1).adds) ∧
      (∀ el ch, s.met.cfg.elements = [el] → el.phases = [ch] → t.met.products.atD (phaseKey 0 0) [] =
        (s1.phaseProducts ch :: s.met.products.atD (phaseKey 0 0) []).take keptProducts) ∧
      (∀ ch, s1.clippedNow = [ch] → t.core.fget Reg.MET_OVR_COUNT = satAdd 32 (s.core.fget Reg.MET_OVR_COUNT) 1 ∧
        t.core.flag Reg.MET_CH_STAT_OVERRANGE ch = true)

/-- R176, R177, R180 to R182, R189, R192: a commit writes the next image, numbered one higher, into slot A when its number is
even and B when it is odd, and leaves the other; the triggers that waited are served; a demand interval of a due element
closes with the energy it gained; daily times and TAKE raise triggers. Its free value of LAST_US is entry 37, its snapshots
entry 38. -/
def Obligations.CommitsAndSnapshots : Prop :=
  ∀ (s : State),
    (s.sampling = true → s.core.flag Reg.PWR_STAT_WARN = false → s.standby = false →
      ∃ t, exec .registerCommit s = .next t ∧ t.met.seq = s.met.seq + 1 ∧ t.met.snapsDue = [] ∧
        t.core.pair Reg.MET_SEQ_LO_SEQ_LO Reg.MET_SEQ_HI_SEQ_HI = (s.met.seq + 1) % 2 ^ 64 ∧
        t.core.fget Reg.MET_COMMIT_LAST_US ≤ 35 ∧
        ((if (s.met.seq + 1) % 2 = 0 then t.met.slotA else t.met.slotB).any fun c => c.seq == s.met.seq + 1 && c.flags == 0 &&
          c.samples == s.met.samples && c.counter == s.met.lastC) = true ∧
        (if (s.met.seq + 1) % 2 = 0 then t.met.slotB = s.met.slotB else t.met.slotA = s.met.slotA)) ∧
    (∃ t, exec .demandIntervalEnd s = .next t ∧ t.met.points.length = s.sizedPoints.length ∧
      ∀ (n : Nat) (x : PointPlace × PointBlock × PointExtra) (el : ElementDef), s.sizedPoints[n]? = some x → s.met.cfg.elements[x.1.element]? = some el →
        (s.demandDue el = false → t.met.points[n]? = some x.2.1) ∧
        (s.demandDue el = true → x.2.2.irregular = false →
          let imp := (x.2.1.regs.getD 0 {}).count
          let d := demandOf (imp - x.2.1.impStart) (el.demMin * 60000000000)
          ∃ b : PointBlock, t.met.points[n]? = some b ∧ b.impStart = imp ∧ b.regs = x.2.1.regs ∧
            b.impMax = if x.2.1.impMax < d then d else x.2.1.impMax)) ∧
    (∀ n, n < s.met.cfg.daily.length → n < 4 → exec (.dailySnapshot n) s =
      .next { s with met := { s.met with snapsDue := s.met.snapsDue ++ [{ trigger := 1 }] } }) ∧
    (s.core.flag Reg.MET_SNAP_STAT_NOT_READY = false → ∃ k, exec .snapshotTake s =
        .next { s with core := k, met := { s.met with snapsDue := s.met.snapsDue ++ [{ trigger := 4 }] } } ∧
      s.core.only k [Reg.MET_SNAP_STAT_NOT_READY.key 0] ∧ k.flag Reg.MET_SNAP_STAT_NOT_READY = true) ∧
    (s.core.flag Reg.MET_SNAP_STAT_NOT_READY = true → exec .snapshotTake s = .next s)

/-- R163, R164, R179: the visits of the roving spare. A visit runs through phases 1, 2 and 3, the transfer of the first one kept
for its second, and leaves its channel to the next; new coefficients within 200 and 50 are taken and stored, others are rejected
and counted. What an idle spare shows is the model's choice (entry 42). -/
def Obligations.RovingSpare : Prop :=
  ∀ (s : State) (r : RoveResult), s.sampling = true → s.plat.hold = false →
    let ch := s.core.fget Reg.MET_STAT_ROVE_CH
    let ph := s.core.fget Reg.MET_STAT_ROVE_PHASE
    (ph = 1 → r.saturated = false → ∃ k, exec (.rovePhaseEnd r) s = .next { s with
        core := k, met := { s.met with wave := { s.met.wave with ratio := r.ratio, delay := r.delay } } } ∧
      s.core.only k [Reg.MET_STAT_ROVE_PHASE.key 0, Reg.MET_CH_STAT_SUBSTITUTED.key ch] ∧
      k.fget Reg.MET_STAT_ROVE_PHASE = 2 ∧ k.flag Reg.MET_CH_STAT_SUBSTITUTED ch = true) ∧
    (ph = 2 → ∃ k, exec (.rovePhaseEnd r) s = .next { s with core := k } ∧ s.core.only k [Reg.MET_STAT_ROVE_PHASE.key 0] ∧
      k.fget Reg.MET_STAT_ROVE_PHASE = 3) ∧
    (ph = 3 → r.saturated = false → ch < 27 → r.gainDiff ≤ 200 → r.phaseDiff ≤ 50 →
      ∃ t, exec (.rovePhaseEnd r) s = .next t ∧ t.met.gains.at? ch = some r.newGain ∧ t.met.rejects.at? ch = some 0 ∧
        newestCal t.met = some (((newestCal s.met).map (·.1)).getD 0 + 1, t.met.gains) ∧
        t.core.flag Reg.MET_CH_STAT_SUBSTITUTED ch = false ∧ t.core.flag Reg.MET_CH_STAT_CAL_SUSPECT ch = false ∧
        t.core.fget Reg.MET_STAT_ROVE_CH = ch + 1 ∧ t.core.fget Reg.MET_STAT_ROVE_PHASE = 1) ∧
    (ph = 3 → r.saturated = false → 200 < r.gainDiff ∨ 50 < r.phaseDiff → ∃ t, exec (.rovePhaseEnd r) s = .next t ∧
      t.met.gains = s.met.gains ∧ t.met.rejects.at? ch = some (s.met.rejects.atD ch 0 + 1) ∧
      t.core.fget Reg.MET_CAL_REJECTS = satAdd Reg.MET_CAL_REJECTS.width (s.core.fget Reg.MET_CAL_REJECTS) 1) ∧
    (ph = 4 → ∃ t, exec (.rovePhaseEnd r) s = .next t ∧ t.core.fget Reg.MET_STAT_ROVE_CH = 0 ∧
      t.core.fget Reg.MET_STAT_ROVE_PHASE = 1)

/-- R184, R185, R194, R464, R465: a power-fail warning brings the module into warning hold, its uplinks down; one that stands
already only shows its source. Its end takes the module out of the hold, and where the warning sample has been taken folds the
pending energy into the registers and commits it. A pulse edge adds a volume and its energy to its channel. The credit and the
record's counts are the model's choice (entries 40, 41). -/
def Obligations.WarningHold : Prop :=
  ∀ (s : State) (pfw : Bool),
    (s.core.flag Reg.PWR_STAT_WARN = false → ∃ t, exec (.powerFailWarning pfw) s = .next t ∧
      t.core.flag Reg.PWR_STAT_WARN = true ∧ t.core.flag Reg.PWR_STAT_HOLD = true ∧ t.plat.hold = true ∧
      t.core.flag Reg.MET_STAT_PFW_ACTIVE = true ∧ t.trw.scanning = false ∧
      t.core.fget Reg.MET_PFW_WARNINGS = satAdd 16 (s.core.fget Reg.MET_PFW_WARNINGS) 1 ∧
      t.met.warnDue = (s.sampling && !s.plat.asleep) ∧
      t.core.flag Reg.FP_STAT_LINK 0 = false ∧ t.core.flag Reg.FP_STAT_LINK 1 = false) ∧
    (s.core.flag Reg.PWR_STAT_WARN = true → ∃ k, exec (.powerFailWarning pfw) s = .next { s with core := k } ∧
      s.core.only k [(if pfw then Reg.PWR_STAT_PFW_LEVEL else Reg.PWR_STAT_DETECTOR).key 0] ∧
      k.flag (if pfw then Reg.PWR_STAT_PFW_LEVEL else Reg.PWR_STAT_DETECTOR) = true) ∧
    (s.core.flag Reg.PWR_STAT_WARN = true → ∃ t, exec .warningClear s = .next t ∧
      t.core.flag Reg.PWR_STAT_WARN = false ∧ t.core.flag Reg.PWR_STAT_HOLD = false ∧ t.plat.hold = false ∧
      t.core.flag Reg.MET_STAT_PFW_ACTIVE = false ∧ t.core.flag Reg.TICK_STATUS_RUNNING = false ∧ t.met.warnDue = false ∧
      t.met.warned = none ∧
      t.core.fget Reg.MET_PFW_RECOVERED = satAdd 16 (s.core.fget Reg.MET_PFW_RECOVERED) 1 ∧
      (s.met.warned = none → t.met.points = s.met.points ∧ t.met.seq = s.met.seq) ∧
      (s.met.warned.isSome = true → t.met.seq = s.met.seq + 1 ∧ t.met.pend = [] ∧
        t.met.points.map (·.regs) = s.foldPending.met.points.map (·.regs) ∧
        ((if t.met.seq % 2 = 0 then t.met.slotA else t.met.slotB).any fun c => c.flags == 2 && c.seq == t.met.seq) = true ∧
        ∀ b ps, s.met.points = [b] → s.met.pend = [ps] → t.met.points.map (·.regs) = [b.regs.zipIdx.map fun p =>
          let d := ps.getD p.2 {}
          { AccAdd p.1 d.rest with count := (AccAdd p.1 d.rest).count + d.count }])) ∧
    (∀ (input : Fin 8) (rev : Bool) (d : ThermalDef) (x : ThermalExtra) (b : ThermalBlock) (u : Nat) (sup ret : Cell),
      s.sampling = true → s.standby = false → s.pendingOn = false → s.met.cfg.thermal = [d] → d.input = input →
      s.met.thermal = [b] → s.met.thermalExtra = [x] → edgeReverse d x rev = x.dir → x.supply = some sup → x.ret = some ret →
      fineCell (some sup) = true → fineCell (some ret) = true → edgeUnits d sup.value ret.value = some u →
      ∃ t, exec (.pulseEdge input rev) s = .next t ∧
        t.met.thermal = [if x.dir then { b with revVol := b.revVol + d.volEdge, rev := AccAdd b.rev u }
          else { b with fwdVol := b.fwdVol + d.volEdge, fwd := AccAdd b.fwd u }])

/-! ### The lane (R196 to R220) -/

/-- R203 to R206, R215, R218: the bursts of the sweeps on a single unit's lane. Each takes its place from the sweep's list with
its lane cycles. A read's repeats are counted; one that failed is counted and marks its cells BAD_COMM, every value
kept; one that passed enters its cell. A write puts its words into the carrier but for the channels that are left out; one that
failed is counted and leaves the pending words; no cell is written; and the last one ends the sweep with the swap. How repeats
count is the model's reading (entry 47), and the carrier's own state its choice (entry 46). -/
def Obligations.SweepBursts : Prop :=
  ∀ (s : State) (b : BurstDef) (rest : List BurstDef) (carrier : Fin 32) (ch : Fin 128) (words : Nat) (w : Wire),
    s.onLane = true → s.standby = false → s.paired = false →
    b.carrier.val = carrier.val → b.channel = ch.val → b.words = words →
    (s.seq.inLeft = b :: rest →
      let n := s.burstFails carrier ch words 0 w
      let lost := s.burstLost n w
      ∃ t, exec (.dataRd carrier ch words w) s = .next t ∧ t.seq.inLeft = rest ∧
        t.seq.inDone = (s.seq.inDone || rest.isEmpty) ∧ t.seq.inCycles = s.seq.inCycles + s.burstCycles words n ∧
        t.core.fget Reg.LANE_RETRIES_COUNT =
          satAdd 32 (s.core.fget Reg.LANE_RETRIES_COUNT) (min n (s.core.fget Reg.LANE_CFG_RETRY)) ∧
        t.core.fget Reg.LANE_CRC_FAIL_RD = (if lost then satAdd 16 (s.core.fget Reg.LANE_CRC_FAIL_RD) 1
          else s.core.fget Reg.LANE_CRC_FAIL_RD) ∧
        (lost = true → (∀ a, (t.img.working.at? a).map (fun c => (c.value, c.epoch)) =
            (s.img.working.at? a).map (fun c => (c.value, c.epoch))) ∧
          ∀ bnd c, words = 1 → s.bindings carrier ch = [bnd] → outKind (s.channelKind carrier ch) = false →
            s.img.working.at? bnd.cell = some c → c.check = checkOf (s.pointId bnd.cell) c →
            (t.conds bnd.cell).contains Qual.comm = true) ∧
        (∀ bnd x, lost = false → words = 1 → s.bindings carrier ch = [bnd] → s.readWords carrier ch 1 w = [x] →
          outKind (s.channelKind carrier ch) = false → kindOf (s.kindDomain bnd.cell).1 = .uint32 → x ≠ 0x8000 →
          s.lane.faulty = [] → (s.img.working.at? bnd.cell).isSome → s.isForced bnd.cell = false →
          (t.img.working.at? bnd.cell).any fun c => c.epoch == ep32 s.epoch && c.src == 0 &&
            c.value == laneIn (s.channelKind carrier ch) bnd .uint32 0 (s.lane.refs.at? (carrier.val * 128 + ch.val)) x)) ∧
    (s.seq.outLeft = b :: rest → rest ≠ [] →
      let n := s.burstFails carrier ch words 1 w
      let lost := s.burstLost n w
      let own := (s.ownWords carrier ch words).1
      ∃ t, exec (.dataWr carrier ch words w) s = .next t ∧ t.seq.outLeft = rest ∧
        t.seq.outCycles = s.seq.outCycles + s.burstCycles words n ∧ t.img = (s.ownWords carrier ch words).2.img ∧
        t.core.fget Reg.LANE_CRC_FAIL_WR = (if lost then satAdd 16 (s.core.fget Reg.LANE_CRC_FAIL_WR) 1
          else s.core.fget Reg.LANE_CRC_FAIL_WR) ∧
        ∀ c, s.lane.carriers.at? carrier = some c →
          let heard : Carrier := if c.lastWord 1 < ch + words - 1 then c else c.writeFails n
          t.lane.carriers.at? carrier = some (if lost then heard else heard.takeWords ch (leftOut own) (own.map (·.getD 0)))) ∧
    (s.seq.outLeft = [b] → ∃ t, exec (.dataWr carrier ch words w) s = .next t ∧ t.seq.outLeft = [] ∧ t.seq.swapped = true)

/-- R211, R213, R214: a carrier joins. A read of its identity that finds what the image expects makes it wait for its CFG_WR, one
that finds something else is a mismatch, and without an answer it stays absent, the failed read counted; a probe in the service
window is repeated 1,024 ticks later at the earliest. The CFG_WR gives the carrier its silence time and enable, and lets it join at
the next tick, or at once before the first; a carrier that waits for none is not written. That a read of the identity and then
CFG_WR join a carrier is the model's choice (entry 51). -/
def Obligations.CarrierJoin : Prop :=
  ∀ (s : State) (carrier : Fin 32) (ws : List LWord) (w : Wire) (d : CarrierDef), s.onLane = true →
    s.cfg.carriers.find? (·.address == carrier) = some d → w.failures = 0 →
    let absent (t : State) : Prop := t.joined carrier = false ∧ t.lane.joining = s.lane.joining
    let found (c : Option (List LWord) → Instr) : Prop :=
      (s.probeFinds d ws false = 2 → ∃ t, exec (c (some ws)) s = .next t ∧ t.lane.joining.at? carrier = some (false, false) ∧
        ((t.lane.carriers.at? carrier).any (·.ident == ws)) = true) ∧
      (s.probeFinds d ws false = 1 → ∃ t, exec (c (some ws)) s = .next t ∧ absent t ∧
        (t.core.fget Reg.LANE_MISMATCH_CARRIERS).testBit carrier = true) ∧
      (s.probeFinds d ws false = 0 → ∃ t, exec (c (some ws)) s = .next t ∧ absent t) ∧
      (∃ t, exec (c none) s = .next t ∧ absent t ∧
        t.core.fget Reg.LANE_CRC_FAIL_RD = satAdd 16 (s.core.fget Reg.LANE_CRC_FAIL_RD) 1)
    (s.core.flag Reg.LANE_CFG_VALID = true → s.core.flag Reg.TICK_STATUS_RUNNING = false → found (.idRd carrier · w)) ∧
    (s.probeDue carrier = true → found (.carrierProbe carrier · w) ∧
      ∀ x, ∃ t, exec (.carrierProbe carrier x w) s = .next t ∧ t.lane.nextProbe.at? carrier = some (s.epoch + 1024)) ∧
    (s.epoch < s.lane.nextProbe.atD carrier 0 → ∀ x, exec (.carrierProbe carrier x w) s = .next s) ∧
    (∀ c, s.lane.carriers.at? carrier = some c → s.core.fget Reg.LANE_CFG_SILENCE_MS ≠ 0 →
      s.core.fget Reg.LANE_CFG_SILENCE_MS < 2 ^ 16 → (s.lane.joining.at? carrier).isSome →
      (s.core.flag Reg.TICK_STATUS_RUNNING = true → s.windowOpen 2 = true) →
      let ms : LWord := BitVec.ofNat 16 (s.core.fget Reg.LANE_CFG_SILENCE_MS)
      ∃ t, exec (.cfgWr carrier ms true w) s = .next t ∧
        t.lane.carriers.at? carrier = some { c with silence := ms.toNat, enabled := true } ∧
        (s.core.flag Reg.TICK_STATUS_RUNNING = true → t.lane.joinNext = s.lane.joinNext ++ [carrier.val]) ∧
        (s.core.flag Reg.TICK_STATUS_RUNNING = false → t.joined carrier = true)) ∧
    (s.lane.joining.at? carrier = none → ∀ ms enable, exec (.cfgWr carrier ms enable w) s = .next s)

/-- R200, R219, R220: service bursts of a joined carrier in the service window. The carrier whose turn it is gives its four status
words once a tick: bits 2 and 3 make it faulty, and the bits that were set wait for their clear, which comes before the next
status read and names exactly them; an echo answers the descriptors that wait. The words of an echo of a failed burst are free
(entry 49). -/
def Obligations.ServiceBursts : Prop :=
  ∀ (s : State) (carrier : Fin 32) (c : Carrier) (w : Wire), w.failures = 0 → s.lane.carriers.at? carrier = some c →
    (∀ raised : LWord,
      (s.windowOpen 3 = true → s.statTurn = some carrier.val → s.lane.clearDue.at? carrier = none →
        let c' : Carrier := { c with status := c.status ||| (raised &&& 0x1E) }
        let bits := c'.statusWord &&& 0x1F
        ∃ t, exec (.statRd carrier 0 4 raised w) s = .next t ∧ t.lane.carriers.at? carrier = some c' ∧
          t.lane.faulty.contains carrier.val = (bits.getLsbD 2 || bits.getLsbD 3) ∧
          (bits ≠ 0 → t.lane.clearDue.at? carrier = some bits) ∧ t.windowOpen 3 = false ∧
          t.lane.turn = (carrier.val + 1) % 32 ∧ t.img = s.img) ∧
      ((s.lane.clearDue.at? carrier).isSome → exec (.statRd carrier 0 4 raised w) s = .next s)) ∧
    (∀ bits : LWord,
      (s.windowOpen 4 = true → s.joined carrier = true → s.lane.clearDue.at? carrier = some bits →
        ∃ t, exec (.statClr carrier 0 [bits] w) s = .next t ∧
          t.lane.carriers.at? carrier = some { c with status := c.status &&& ~~~bits } ∧
          t.lane.clearDue = s.lane.clearDue.del carrier) ∧
      (s.lane.clearDue.at? carrier ≠ some bits → exec (.statClr carrier 0 [bits] w) s = .next s)) ∧
    (∀ (ch : Fin 128) (x : LWord) (q : Fin 64) (g : Progress), s.windowOpen 5 = true → ch.val ≤ c.lastWord 5 →
      c.waiting.at? ch = some x → s.lane.echoes = [(carrier.val, ch.val, 1)] → (s.queue q).cur = some g →
      g.waitEcho = some (carrier.val, ch.val, 1) → g.answer = none →
      ∃ t, exec (.echoRd carrier ch 1 w) s = .next t ∧ t.lane.echoes = [] ∧
        (t.queue q).cur = some { g with answer := some (.ok, le x.toNat 2), waitEcho := none })

/-! ### The redundant pair (R222 to R246) -/

/-- R228 to R232, R245: what a standby in step does with the duty's frames: it starts the tick it sees, takes inputs, closes them
and starts scan and control when the digest is its own, checks a COMMAND, answers it by ACK and keeps one that takes effect later
for its application epoch, and mirrors a commit image once both its frames have come; without CLOSE in time it is out of step. What
the frames carry beside their names is the model's choice (entry 54). -/
def Obligations.StandbyFollows : Prop :=
  ∀ (s : State) (seq : Nat),
    (∀ n, s.canSnoop = true → s.inStep = true → s.quiet → ∃ t, exec (.standbyTickStart n) s = .next t ∧
      t.epoch = n % 2 ^ 64 ∧ t.core.flag Reg.TICK_STATUS_RUNNING = true ∧ t.core.fget Reg.TICK_STATUS_PHASE = 1 ∧
      t.seq.syncC = s.core.c) ∧
    (∀ n items, s.newFrame seq → s.follows n → exec (.inputFrame seq n items) s =
      .next { s with pair := { s.pair with acks := seq :: s.pair.acks, rxSeen := (seq :: s.pair.rxSeen).take 64
                                           inputs := s.pair.inputs ++ items } }) ∧
    (∀ n u, s.newFrame seq → s.follows n → s.unfinished u → s.pair.inputs = [] → s.xch.subs = [] → s.xch.triggers = [] →
      s.core.flag Reg.SBD_STAT_TRIPPED = false → s.core.fget Reg.TICK_STATUS_PHASE = 1 →
      ∃ t, exec (.closeFrame seq n [] [] (crc32c s.pair.inBytes)) s = .next t ∧ t.trw.scanning = true ∧
        t.core.fget Reg.TICK_STATUS_PHASE = 3 ∧ t.pair.closed = some n ∧ t.pairState = s.pairState) ∧
    (s.standby = true → s.inStep = true → s.core.flag Reg.TICK_STATUS_RUNNING = true →
      s.core.fget Reg.TICK_STATUS_PHASE = 1 → ∃ t, exec .closeDeadline s = .next t ∧ t.pairState = 2 ∧ t.pair.stage = 1 ∧
        t.core.flag Reg.PTR_STAT_HOLD_AUTH = false) ∧
    (∀ cell n, s.newFrame seq → s.standby = true → s.inStep = true →
      let frame := Instr.commandFrame seq s.epoch (.command (.forceRemove cell)) n
      let acked (t : State) (st : Status) : Prop :=
        t.pair.sent = { seq := s.pair.txSeq, epoch := s.epoch, frame := .ack seq st .none } :: s.pair.sent
      (s.userCell cell = true → ∃ t, exec frame s = .next t ∧ acked t .ok ∧ t.pair.accepted = seq ∧
        (s.epoch + 1 < n → t.pair.agreed = s.pair.agreed ++ [(.forceRemove cell, n)] ∧ t.cmd = s.cmd) ∧
        (n ≤ s.epoch + 1 → t.pair.agreed = s.pair.agreed ∧ t.cmd.forceDue = s.cmd.forceDue ++ [(cell, none)])) ∧
      (s.userCell cell = false → ∃ t, exec frame s = .next t ∧ acked t .noAccess ∧ t.cmd = s.cmd ∧
        t.pair.agreed = s.pair.agreed)) ∧
    (∀ img, s.newFrame seq → s.standby = true →
      (∃ t, exec (.meterFrame seq ⟨0, img⟩) s = .next t ∧ t.pair.half = some img ∧ t.met = s.met) ∧
      (s.pair.half = some img → ∃ t, exec (.meterFrame seq ⟨1, img⟩) s = .next t ∧ t.met.mirror = some img ∧
        t.pair.half = none ∧ t.met.seq = img.seq ∧
        (if img.seq % 2 = 0 then t.met.slotA = some img ∧ t.met.slotB = s.met.slotB
          else t.met.slotB = some img ∧ t.met.slotA = s.met.slotA)))

/-- R228, R232 to R235, R241, R243: answers on the partner link. A repeated frame is acknowledged and not taken again; a COMMAND the
standby accepts is applied and one it refuses answered with its result; equal digests leave the pair in step; a query of engine
items gets them; a reply of the one engine asked locates the item that differs; a part of the snapshot is taken; a takeback
proposed eight epochs ahead is acknowledged. How a divergence is resolved is in part free (entry 55), and the takeback's eight
epochs are the model's choice (entry 57). -/
def Obligations.PartnerFrames : Prop :=
  ∀ (s : State) (seq : Nat),
    let sends (t : State) (f : PFrame) : Prop :=
      t.pair.sent = { seq := s.pair.txSeq, epoch := s.epoch, frame := f } :: s.pair.sent
    (s.paired = true → s.pair.silent = false → s.pair.rxSeen.contains seq = true → ∀ n k x d,
      let same : State := { s with pair := { s.pair with acks := seq :: s.pair.acks } }
      exec (.digestFrame seq n d) s = .next same ∧ exec (.queryFrame seq k x) s = .next same) ∧
    (∀ w c, s.pair.cmds = [w] → w.c = .command c →
      (∀ st x, st ≠ .ok → exec (.ackFrame w.id st x) s =
        .next (({ s with pair := { s.pair with cmds := [] } } : State).answerKept w.r st (commandBody 0 x))) ∧
      (∀ cell x, c = .forceRemove cell → s.userCell cell = true → ∃ t, exec (.ackFrame w.id .ok x) s = .next t ∧
        t.pair.cmds = [] ∧ t.pair.accepted = w.id ∧ t.cmd.forceDue = s.cmd.forceDue ++ [(cell, none)])) ∧
    (∀ n d, s.newFrame seq → s.inStep = true → s.buffers = false → s.pair.own = some (n, d) → s.pair.resolve = none →
      ∃ t, exec (.digestFrame seq n d) s = .next t ∧ t.pair.own = none ∧ t.pair.peer = none ∧ t.core = s.core) ∧
    (∀ e, s.newFrame seq → ∃ t, exec (.queryFrame seq 2 e) s = .next t ∧ sends t (.reply 2 e (s.engineItems e))) ∧
    (∀ r e data x, s.newFrame seq → s.pair.resolve = some r → r.asked = [e] → r.theirs = [] →
      firstDiffering (wordPairs (s.engineItems e)) (wordPairs data) = some x →
      ∃ t, exec (.replyFrame seq 2 e data) s = .next t ∧ sends t (.query 3 x) ∧
        t.pair.resolve = some { r with theirs := [(e, data)], step := 3, engine := e, item := x }) ∧
    (∀ xs, s.newFrame seq → s.standby = true → s.pairState = 2 → ∃ t, exec (.stateFrame seq (.retained xs)) s = .next t ∧
      t.trw.ret = xs.foldl (fun (m : SMap Word) x => m.put x.1 x.2) []) ∧
    (∀ k, s.newFrame seq → s.standby = false → s.inStep = true → s.pairState = 3 →
      s.core.flag Reg.PTR_STAT_PAIR_SUSPECT = false → s.epoch + 8 ≤ k →
      ∃ t, exec (.roleFrame seq (.takebackPropose k)) s = .next t ∧ t.pair.takeback = some k ∧
        sends t (.role (.takebackAck k)))

/-- R223 to R228, R237, R240, R242: the partner link and the sideband. A frame is sent again up to 8 times, and then the link
is silent; a duty whose link is silent runs alone; a standby in step declares a duty failure for the line, the heartbeat or LN_SYNC; lines and lanes show in PTR_STAT;
a unit that waited for its role takes it. PAIR_STATE without a partner is the model's choice (entry 59). -/
def Obligations.LinkAndSideband : Prop :=
  ∀ (s : State), s.paired = true →
    let declares (c : Instr) (cause : Nat) : Prop := ∃ t, exec c s = .next t ∧ t.pair.declared.isSome ∧
      t.core.fget Reg.PTR_DECLARE_CAUSE = cause ∧ (t.pair.declared.any fun k => s.epoch + 1 ≤ k) = true
    (∀ q f, s.pair.silent = false → s.pair.sent.find? (·.seq == q) = some f →
      (s.pair.resends.atD q 0 < 8 → ∃ k, exec (.partnerFrameTimeout q) s = .next { s with
          core := k, pair := { s.pair with sent := { f with again := true } :: s.pair.sent
                                           resends := s.pair.resends.put q (s.pair.resends.atD q 0 + 1) } } ∧
        s.core.only k [Reg.PTR_LINK_ERR_RESENT.key 0] ∧
        k.fget Reg.PTR_LINK_ERR_RESENT = satAdd Reg.PTR_LINK_ERR_RESENT.width (s.core.fget Reg.PTR_LINK_ERR_RESENT) 1) ∧
      (8 ≤ s.pair.resends.atD q 0 → ∃ t, exec (.partnerFrameTimeout q) s = .next t ∧ t.pair.silent = true)) ∧
    (∃ t, exec .partnerLinkSilence s = .next t ∧ t.pair.silent = true ∧ t.core.fget Reg.PTR_STAT_LINK_LANES = 0 ∧
      t.core.flag Reg.CLK_STAT_PTNR_OK = false ∧ (s.standby = false → s.pairState = 3 → t.pairState = 0)) ∧
    (s.standby = true → s.inStep = true → s.pair.declared = none → s.plat.hold = false →
      declares .ptrOkFall 2 ∧ declares .heartbeatTimeout 3 ∧ (s.pair.reentry = none → declares .lnSyncMissing 4)) ∧
    (∃ t, exec .ptrOkIRise s = .next t ∧ t.pair.okIn = true ∧
      (s.core.landLevel .ptrFenceN = false → s.pair.okFell = true → t.core.landLevel .ptrFenceN = true)) ∧
    (∃ k, exec .heartbeatToggle s = .next { s with core := k } ∧ s.core.only k [Reg.PTR_STAT_PARTNER_OK.key 0] ∧
      k.flag Reg.PTR_STAT_PARTNER_OK = s.pair.okIn) ∧
    (∃ t, exec .partnerLinkReturn s = .next t ∧ t.pair.silent = false ∧ t.core.fget Reg.PTR_STAT_LINK_LANES = 3 ∧
      t.core.flag Reg.CLK_STAT_PTNR_OK = true) ∧
    (∀ l : Fin 2, ∃ t, exec (.partnerLinkLaneLoss l) s = .next t ∧
      (t.core.fget Reg.PTR_STAT_LINK_LANES).testBit l = false ∧
      t.core.fget Reg.PTR_STAT_HOLDOFF_LEFT_S = s.core.fget Reg.PTR_CFG_HOLDOFF_S % 2 ^ Reg.PTR_STAT_HOLDOFF_LEFT_S.width) ∧
    (∃ k, exec .partnerFrameBadCrc s = .next { s with core := k } ∧ s.core.only k [Reg.PTR_LINK_ERR_CRC.key 0] ∧
      k.fget Reg.PTR_LINK_ERR_CRC = satAdd Reg.PTR_LINK_ERR_CRC.width (s.core.fget Reg.PTR_LINK_ERR_CRC) 1) ∧
    (s.core.flag Reg.PTR_STAT_FENCED = true → ∃ k, exec (.fencedSelfTestDone true) s = .next { s with core := k } ∧
      k.landLevel .ptrOk = true ∧ k.regs = s.core.regs) ∧
    (s.pair.waiting = true →
      (∃ t, exec .ptrMstIRise s = .next t ∧ t.core.fget Reg.GLB_UNIT_ROLE = 2 ∧ t.pairState = 2 ∧ t.pair.waiting = false ∧
        t.core.flag Reg.LANE_STAT_MASTER = false) ∧
      (∃ t, exec .roleStartWaitExpiry s = .next t ∧ t.core.fget Reg.GLB_UNIT_ROLE = 1 ∧ t.pair.waiting = false ∧
        t.core.flag Reg.LANE_STAT_MASTER = true ∧ t.core.landLevel .ptrMst = true))

/-- R100, R227, R233, R239, R240, R242 to R244: the roles change. A standby that has declared takes the position at its epoch
with the fence asserted; a takeback swaps the roles without a fence; a fenced unit stops its ticks, its lane and its ports, and
comes back as standby; the partner's trip trips this unit with cause 6; the standby's readiness starts the output sweep; the
hold-off's end proposes a takeback. ROLE while fenced is the model's choice (entry 58). -/
def Obligations.RoleChanges : Prop :=
  ∀ (s : State), s.paired = true →
    (∀ k, s.standby = true → s.pair.declared = some k → ∃ t, exec .takeover s = .next t ∧
      t.core.fget Reg.GLB_UNIT_ROLE = 1 ∧ t.core.flag Reg.LANE_STAT_MASTER = true ∧ t.core.landLevel .ptrFenceN = false ∧
      t.core.landLevel .ptrMst = true ∧ t.seq.next = some k ∧ t.pair.declared = none ∧ t.xch.fullDue = true ∧
      t.core.pair Reg.PTR_ROLE_EPOCH_LO_EPOCH_LO Reg.PTR_ROLE_EPOCH_HI_EPOCH_HI = k % 2 ^ 64) ∧
    (s.pair.takeback = some (s.epoch + 1) → s.inStep = true → s.pairState = 3 →
      (s.standby = true → ∃ t, exec .takeback s = .next t ∧ t.core.fget Reg.GLB_UNIT_ROLE = 1 ∧ t.pairState = 3 ∧
        t.pair.takeback = none ∧ t.core.landLevel .ptrFenceN = s.core.landLevel .ptrFenceN) ∧
      (s.standby = false → ∃ t, exec .takeback s = .next t ∧ t.core.fget Reg.GLB_UNIT_ROLE = 2 ∧ t.pairState = 3 ∧
        t.pair.takeback = none ∧ t.core.flag Reg.PTR_STAT_HOLD_AUTH = true)) ∧
    (∃ t, exec .fenceAssert s = .next t ∧ t.core.flag Reg.PTR_STAT_FENCED = true ∧
      t.core.flag Reg.LANE_STAT_MASTER = false ∧ t.core.flag Reg.TICK_STATUS_RUNNING = false ∧
      t.core.landLevel .ptrOk = false ∧ t.core.landLevel .lnClk = false ∧ t.img.pins = [] ∧ ∀ p < 4, t.core.flag Reg.FP_STAT_TX_STOPPED p = true) ∧
    (s.core.flag Reg.PTR_STAT_FENCED = true → ∃ t, exec .fenceRelease s = .next t ∧
      t.core.flag Reg.PTR_STAT_FENCED = false ∧ t.core.fget Reg.GLB_UNIT_ROLE = 2 ∧ t.pairState = 2 ∧ t.net.fenced = false) ∧
    (s.core.flag Reg.SBD_STAT_TRIPPED = false → ∃ t, exec .partnerTrip s = .next t ∧
      t.core.flag Reg.SBD_STAT_TRIPPED = true ∧ t.core.fget Reg.SBD_STAT_CAUSE = 6 ∧
      t.core.landLevel .ptrTrip = s.core.landLevel .ptrTrip) ∧
    (s.standby = false → s.inStep = true → s.cfg.sleepCell = none → s.trw.scanning = true → s.allDone = true →
      s.seq.outStarted = false → ({ s with pair := { s.pair with rdyIn := true } } : State).closeScan.outBursts.1 ≠ [] →
      ∃ t, exec .partnerReady s = .next t ∧ t.seq.outStarted = true ∧ t.pair.rdyIn = true ∧
        t.core.fget Reg.TICK_STATUS_PHASE = 4) ∧
    (s.standby = true → s.core.flag Reg.GLB_UNIT_PREFERRED = true → s.core.flag Reg.PTR_CFG_REVERTIVE = true →
      s.pairState = 3 → s.core.flag Reg.PTR_STAT_PAIR_SUSPECT = false → s.core.state = 1 → s.pair.holdFrom.isSome →
      s.pair.proposed = none → ∃ t, exec .holdoffExpiry s = .next t ∧ t.pair.proposed = some (s.epoch + 8) ∧
        t.pair.sent =
          { seq := s.pair.txSeq, epoch := s.epoch, frame := .role (.takebackPropose (s.epoch + 8)) } :: s.pair.sent)

/-! ### The exchange and the point service (R247 to R276) -/

/-- R249 to R253, R255, R259: an exchange datagram of a publisher that is subscribed: one that passes every check is counted
and held for its merge, and its counter is used up; a fragment is a REPLAY discard and one whose tag fails an AUTH discard.
The end of a LEVEL wait ends it for its subscription. The order of the checks is the model's choice (entry 60), and validity
of a tag an operand (entry 7). -/
def Obligations.ExchangeReceive : Prop :=
  ∀ (s : State) (sub : SubDef), s.standby = false →
    (∀ (d : Datagram), s.xch.subs.find? (·.pubPos == d.senderPos) = some sub → s.checkDatagram d true false = .ok →
      s.xch.pubIds.atD sub.pubPos sub.pubId.toNat = d.pubId.toNat → s.xch.mergedEpoch.all (· < d.epoch + 1) = true →
      ∃ t, exec (.exchangeDatagramReceive d true false) s = .next t ∧ t.xch.held = s.xch.held ++ [d] ∧
        t.core.fget Reg.XCH_RX_DG_COUNT = satAdd Reg.XCH_RX_DG_COUNT.width (s.core.fget Reg.XCH_RX_DG_COUNT) 1 ∧
        (t.xch.windows.at? (Datagram_sender d)).any (fun w => w.hi == d.ctr || w.seen.contains d.ctr) = true ∧
        t.checkDatagram d true false = .replay) ∧
    (∀ (d : Datagram) (b : Bool), s.xch.subs.find? (·.pubPos == d.senderPos) = some sub →
      ∃ k, exec (.exchangeDatagramReceive d b true) s = .next { s with core := k } ∧
        s.core.only k [Reg.XCH_RX_DROP_REPLAY.key 0] ∧ k.fget Reg.XCH_RX_DROP_REPLAY =
          satAdd Reg.XCH_RX_DROP_REPLAY.width (s.core.fget Reg.XCH_RX_DROP_REPLAY) 1) ∧
    (∀ (d : Datagram), s.xch.subs.find? (·.pubPos == d.senderPos) = some sub →
      ∃ k, exec (.exchangeDatagramReceive d false false) s = .next { s with core := k } ∧
        s.core.only k [Reg.XCH_RX_DROP_AUTH.key 0] ∧ k.fget Reg.XCH_RX_DROP_AUTH =
          satAdd Reg.XCH_RX_DROP_AUTH.width (s.core.fget Reg.XCH_RX_DROP_AUTH) 1) ∧
    (∀ w : LevelWait, s.xch.waits = [w] → s.xch.subs.find? (·.id == w.sub) = some sub → sub.errorTask = none → s.feeds = false →
      s.subSlots sub.id = [] →
      ∃ t, exec (.levelTimeout w.sub) s = .next t ∧ t.xch.waits = [] ∧ t.core.fget Reg.XCH_LEVEL_TIMEOUTS =
        satAdd Reg.XCH_LEVEL_TIMEOUTS.width (s.core.fget Reg.XCH_LEVEL_TIMEOUTS) 1)

/-- R262 to R264, R274: a handshake that passes opens its session under the domain its certificate names, with the session
certificate or, where slot 9 has no usable key, the identity certificate; one that does not pass is counted; a session that idles
or is closed is gone, and with it its pins, its open transfer and what it had still to send. What the handshake's certificates hold
is an operand (entry 7). -/
def Obligations.Sessions : Prop :=
  ∀ (s : State) (n : Fin 32),
    (s.core.fget Reg.SEC_BOOT_STAGE ≠ 3 → s.net.quiet = false → s.plat.frozen = false →
      (∀ h d, s.handshakeDomain h = some d → s.svc.sessions.at? n = none →
        ∃ t, exec (.tlsHandshake n h) s = .next t ∧
          t.svc.sessions.at? n = some { domain := d, port := h.port, identity := !s.usable 9 }) ∧
      (∀ h, s.handshakeDomain h = none →
        ∃ k, exec (.tlsHandshake n h) s = .next { s with core := k } ∧ s.core.only k [Reg.PS_HANDSHAKE_FAIL_COUNT.key 0] ∧
          k.fget Reg.PS_HANDSHAKE_FAIL_COUNT =
            satAdd Reg.PS_HANDSHAKE_FAIL_COUNT.width (s.core.fget Reg.PS_HANDSHAKE_FAIL_COUNT) 1)) ∧
    (s.svc.sessions.wf = true → (s.svc.sessions.at? n).isSome →
      ∃ t, exec (.sessionIdleTimeout n) s = .next t ∧ exec (.sessionClose n) s = .next t ∧ t.svc.sessions.at? n = none ∧
        t.core.out = .sessionClosed n :: s.core.out ∧ (∀ p ∈ t.img.pins, ∀ h ∈ p.holds, h.who ≠ .session n) ∧
        (t.svc.transfer.all fun x => x.src != .session n) = true ∧
        (∀ q ∈ t.net.txq, ∀ i ∈ q.2, ofSession n i = false))

/-- R30 to R33, R266, R270, R272, R273: messages that read and write the image. INFO and PING are answered; a write waits for the
next tick and is answered with its epoch, is NO_ACCESS outside the requester's domain, and FORCED and counted while the cell is
forced; a snapshot of one cell of the published epoch gives its content; a subscription takes the lowest free number and is gone
once it is cancelled; an unpin ends the requester's hold. -/
def Obligations.ImageMessages : Prop :=
  ∀ (s : State) (r : Req) (d : Nat),
    (let g : Gate := { maint := true, unclaimed := true, type := 0x01 };
      s.hears r g d → exec (.info r) s = .next ((s.taken r g).answer r .ok (s.infoBody d))) ∧
    (let g : Gate := { maint := true, type := 0xF0 }
      ∀ xs, s.hears r g d → xs.length ≤ 64 → exec (.ping r xs) s = .next ((s.taken r g).answer r .ok xs)) ∧
    (let g : Gate := { writes := true, kept := true, type := 0x20 }
      let t := s.taken r g
      ∀ cell v, s.hears r g d →
        (s.mayWrite d cell = true → s.isForced cell = false → exec (.write r cell v) s = .next (({ t with img := { t.img with
          writes := s.img.writes ++ [⟨cell, if s.cellKind cell = some .bool then v &&& 1 else v, s.epoch⟩] } } : State).answerKept
            r .ok (le (s.epoch + 1) 8))) ∧
        (s.mayWrite d cell = true → s.isForced cell = true → exec (.write r cell v) s =
          .next ((t.onCore (·.bump Reg.MSK_REFUSED_COUNT)).answerKept r .forced [])) ∧
        (s.mayWrite d cell = false → exec (.write r cell v) s = .next ((t.deny d).answerKept r .noAccess []))) ∧
    (∀ a c p,
      let g : Gate := { maint := systemOnly [(a, 1)], type := 0x10 }
      let t := s.taken r g
      s.hears r g d → s.img.pubEpoch = some p → a < 0x5000 → t.mayRead d a = true →
      t.readPublished a (exitPlace r.src) = (some c, t) → exec (.snapshot r 0 false [(a, 1)]) s =
        .next ((t.noteEpoch r p).answer r .ok (le p 8 ++ le 1 4 ++ le 0 4 ++ c.image ++ le 1 4))) ∧
    (∀ e, s.hears r { type := 0x11 } d → ∃ u, exec (.unpin r e) s = .next u ∧
      ∀ p ∈ u.img.pins, ∀ h ∈ p.holds, p.epoch = e → h.who = r.src → h.snap = true) ∧
    (let g : Gate := { type := 0x30 }
      let t := s.taken r g
      ∀ k rs, s.hears r g d → 1 ≤ k → k ≤ 1000 → Machine.rangesOk rs = true → (t.subsOf r.src).length < 8 →
        subCells (t.subsOf r.src) + (rs.map (·.2)).sum ≤ 4096 →
        exec (.subscribe r k rs) s = .next ((t.withSubs r.src
          (· ++ [{ number := freeNumber (t.subsOf r.src), k := k, ranges := rs }])).answer r .ok
            (le (freeNumber (t.subsOf r.src)) 1))) ∧
    (let g : Gate := { type := 0x31 }
      ∀ x, s.hears r g d → x ∈ (s.taken r g).subsOf r.src → ∃ u, exec (.unsubscribe r x.number) s = .next u ∧
        ∀ y ∈ u.subsOf r.src, y.number ≠ x.number)

/-- R155, R156, R191, R394, R395, R407, R479: messages that read what the module keeps, each for a requester of domain 0: the
latest commit image, a captured trace, event records, trend pages; attestations and challenges wait for the security core,
whose next completion answers an attestation that is alone. What a trend request counts is the model's choice (entry 64). -/
def Obligations.RecordMessages : Prop :=
  ∀ (s : State) (r : Req),
    (let g : Gate := { maint := true, type := 0x40 }
      ∀ c n x, s.hears r g 0 → s.latestCommit = some c →
        exec (.meter r false n x) s = .next ((s.taken r g).answer r .ok (filteredCommit 0 c))) ∧
    (let g : Gate := { type := 0x50 }
      ∀ e, s.hears r g 0 → e < 4 →
        (s.core.fget Reg.TRC_STAT_STATE e = 4 →
          exec (.trace r e) s = .next ((s.taken r g).answer r .ok (s.traceBody e))) ∧
        (s.core.fget Reg.TRC_STAT_STATE e ≠ 4 → exec (.trace r e) s = .next ((s.taken r g).answer r .notReady []))) ∧
    (let g : Gate := { maint := true, type := 0x60 }
      ∀ first n, s.hears r g 0 → 1 ≤ n → n ≤ 1024 → exec (.recorder r first n) s =
        .next (((s.taken r g).onCore (·.bump Reg.EVR_CORRUPT_COUNT 0 (s.core.evr.read 0 first n).2)).answer r .ok
          (s.core.evr.read 0 first n).1)) ∧
    (let g : Gate := { type := trendType }
      ∀ first n, s.hears r g 0 → 1 ≤ n → n ≤ 16 → s.bg.pages = [] → exec (.trend r first n) s =
        .next ((s.taken r g).answer r .ok (le s.trendNext 8 ++ le s.trendNext 8 ++ le 0 2 ++ le 0 6))) ∧
    (let g : Gate := { maint := true, unclaimed := true, type := 0x70 }
      let t := s.taken r g
      ∀ nonce, s.hears r g 0 → nonce.length = 48 → exec (.attest r nonce) s =
        .next { t with sec := { t.sec with ops := s.sec.ops ++ [.attest r nonce] } }) ∧
    (let g : Gate := { maint := true, type := 0x71 }
      let t := s.taken r g
      ∀ xs, s.hears r g 0 → xs.length = 48 → s.challengeCause 0 = none → exec (.challenge r xs) s =
        .next { t with sec := { t.sec with ops := s.sec.ops ++ [.challenge r xs] } }) ∧
    (∀ nonce, s.sec.ops = [.attest r nonce] → ∃ u, exec .keyOperationDone s = .next u ∧ u.sec.ops = [] ∧
      u = (({ s with sec := { s.sec with ops := [] } } : State).onCore (·.opDone)).answer r .ok
        (s.attestation nonce))

/-- R274, R378, R379: an image transfer. One is open at a time, of domain 0; its bytes come in order; its end is answered once
the image has been verified, and an abort closes it; an accepted configuration image takes the slot with the lower SEQ. When END is
answered is the model's choice (entry 34). -/
def Obligations.ImageTransfer : Prop :=
  ∀ (s : State) (r : Req), s.hears r imageGate 0 →
    let t := s.taken r imageGate
    let opens (u : State) (x : Option Transfer) : State := { u with svc := { u.svc with transfer := x } }
    (∀ total kind, s.svc.transfer = none → kind = 1 ∨ kind = 3 → exec (.imageBegin r kind total) s =
      .next ((opens t (some { src := r.src, kind := kind, total := total })).answerKept r .ok [])) ∧
    (∀ total x, s.svc.transfer = some x → exec (.imageBegin r 1 total) s = .next (t.answerKept r .busy [])) ∧
    (∀ x n, s.svc.transfer = some x → x.src = r.src → x.ended = none → x.kind ≠ 2 →
      (1 ≤ n → n ≤ 65536 → x.received + n ≤ x.total → exec (.imageChunk r x.received n) s =
        .next ((opens t (some { x with received := x.received + n })).answerKept r .ok [])) ∧
      (x.received + n > x.total → exec (.imageChunk r x.received n) s = .next (t.answerKept r .badRequest [])) ∧
      (x.received = x.total → exec (.imageEnd r) s = .next (opens t (some { x with ended := some r })).retireFailed) ∧
      exec (.imageAbort r) s = .next ((opens t none).answerKept r .ok [])) ∧
    (∀ x f, s.svc.transfer = some x → x.ended = some r → x.kind = 1 → s.verify 3 (x.total - 512) none f = 0 →
      ∃ u, exec (.imageVerifyDone [f]) s = .next u ∧ u.svc.transfer = none ∧
        u.core.fget Reg.SEC_IMG_RESULT_RESULT = 0 ∧ u.sec.seqMax = max s.sec.seqMax f.header.seq ∧
        (s.sec.cfg = [none, none] → u.sec.cfg = [some f, none]))

/-! ### The frame ports (R277 to R296) -/

/-- R278, R282 to R284, R287, R289, R291, R293, R294: frames in and out. A short, long or damaged frame is counted and gone, an
unprotected one on a protected port too, and one whose class finds no room in the receive buffer; a frame that finds room is
counted; one that matches a binding starts the binding's age again; the frame of the highest queue leaves with its stamp, the first
segment of a long send leaves the rest at the head, and after a collision the frame stays queued; a binding that nothing matched goes
stale. The order of the checks is the model's choice (entry 65), and so is what a frame takes of the receive buffer (entry 66). -/
def Obligations.FramesInAndOut : Prop :=
  ∀ (s : State) (p : Fin 4) (f : RxFrame),
    let up (r : Row) (k : Core) : Prop := s.core.only k [r.key p] ∧ k.fget r p = satAdd r.width (s.core.fget r p) 1
    let free : RxRoom := RxRoom_taken (s.net.rx.atD p {}) f.taken
    let with_ (x : RxRoom) (k : Core) : State := { s with core := k, net := { s.net with rx := (s.net.rx.put p free).put p x } }
    let gone (r : Row) : Prop := ∃ k, exec (.frameReceive p f) s =
      .next { s with core := k, net := { s.net with rx := s.net.rx.put p free } } ∧ up r k
    (s.core.flag Reg.FP_STAT_LINK p = true → s.core.pllOk 1 = true →
      (f.fcsOk = false ∨ frameLen f < 64 ∨ s.longest p < frameLen f → gone Reg.FP_RX_ERR_FCS) ∧
      (f.fcsOk = true → 64 ≤ frameLen f → frameLen f ≤ s.longest p → f.etype ≠ 0x8808#16 → f.sec = .unprotected →
        (s.isMacsec p = true → isMka f = false → gone Reg.MS_UNPROT_COUNT) ∧
        (s.isMacsec p = false → s.accepts p f.dst = false → gone Reg.FP_RX_FILT_COUNT) ∧
        (s.isMacsec p = false → s.accepts p f.dst = true → frameBadSum f = true → gone Reg.FP_RX_ERR_CSUM) ∧
        (s.isMacsec p = false → s.accepts p f.dst = true → frameBadSum f = false →
          (∀ c, s.classOf p f = some c → RxRoom_put p c (frameLen f) free = none →
            gone (if c ≤ 1 then Reg.FP_RX_OVF_PRIORITY else Reg.FP_RX_OVF_OTHER)) ∧
          (∀ c x, s.classOf p f = some c → RxRoom_put p c (frameLen f) free = some x →
            (c ≠ 2 → ∃ k, exec (.frameReceive p f) s = .next (with_ x k) ∧ up Reg.FP_RX_OK_COUNT k) ∧
            (∀ b, c = 2 → s.bindingOf p f = some b → s.standby = false →
              ∃ t, exec (.frameReceive p f) s = .next t ∧ t.net.matched.at? b.id = some s.epoch ∧
                t.net.stale.contains b.id = false ∧
                t.core.fget Reg.FP_RX_OK_COUNT p = satAdd Reg.FP_RX_OK_COUNT.width (s.core.fget Reg.FP_RX_OK_COUNT p) 1 ∧
                t.core.fget Reg.FP_BIND_RX_COUNT p =
                  satAdd Reg.FP_BIND_RX_COUNT.width (s.core.fget Reg.FP_BIND_RX_COUNT p) 1))))) ∧
    (∀ xs rest, s.canSend p = true → s.isMacsec p = false → s.net.txq.at? p = some xs →
      (takeItem s.epoch (s.maySend p) xs.length xs = (0, some .ptp, rest) →
        (p < 2 → ∃ t, exec (.frameTransmit p false) s = .next t ∧ t.net.txq.at? p = some rest ∧
          t.net.sent = { port := p, item := .ptp, data := s.frameOf p .ptp, stamp := s.txStamp p } :: s.net.sent ∧
          t.nt.sentAt.at? p = some (s.txStamp p) ∧
          t.core.fget Reg.FP_TX_OK_COUNT p = satAdd Reg.FP_TX_OK_COUNT.width (s.core.fget Reg.FP_TX_OK_COUNT p) 1) ∧
        (2 ≤ p → ∃ t, exec (.frameTransmit p true) s = .next t ∧ t.net.txq.at? p = some (.ptp :: rest) ∧
          t.net.sent = s.net.sent ∧ t.core.fget Reg.PLCA_COLL_COUNT (p - 2) =
            satAdd Reg.PLCA_COLL_COUNT.width (s.core.fget Reg.PLCA_COLL_COUNT (p - 2)) 1)) ∧
      (∀ n u x, takeItem s.epoch (s.maySend p) xs.length xs = (0, some (.service n u x 0), rest) → sendLast x 0 = false →
        ∃ t, exec (.frameTransmit p false) s = .next t ∧
          t.net.txq.at? p = some (.service n u x (sendSize x) :: rest) ∧
          t.net.sent = { port := p, item := .service n u x 0, data := padFrame (segmentFrame x 0), stamp := s.txStamp p } :: s.net.sent ∧
          t.core.fget Reg.FP_SEG_COUNT p = satAdd Reg.FP_SEG_COUNT.width (s.core.fget Reg.FP_SEG_COUNT p) 1)) ∧
    (∀ b : FrameBinding, s.cfg.frameBindings.find? (·.id == b.id) = some b → b.staleTicks ≠ 0 → s.standby = false →
      (s.net.matched.at? b.id).all (fun e => decide (e + b.staleTicks ≤ s.epoch)) = true → s.net.stale.contains b.id = false →
      ∃ t, exec (.frameBindingStale b.id) s = .next t ∧ t.net.stale = b.id :: s.net.stale)

/-- R279, R281, R285, R289, R290, R295: PAUSE, links, key agreement and PLCA. A PAUSE stops its uplink until it ends; a link falls
with its queue, and comes up; a new SA secures its port and stands on the channels of its live peers, and a lost peer ends that; a
BEACON starts a PLCA cycle, and its absence the fall-back. AN of an SA and the start of STALE are the model's choice (entries 67,
68). -/
def Obligations.PortStates : Prop :=
  ∀ (s : State) (u : Fin 2),
    let p : Fin 4 := u.castLE (by decide)
    (∀ q : BitVec 16, q ≠ 0 → s.core.flag Reg.FP_STAT_LINK p = true → s.net.pauses.at? p = none →
      ∃ t, exec (.pauseFrame u q) s = .next t ∧ t.core.flag Reg.FP_STAT_PAUSED p = true ∧
        t.net.pauses.at? p = some (s.core.c, q.toNat * 128) ∧ t.canSend p = false) ∧
    (∀ c n, s.net.pauses.wf = true → s.net.pauses.at? p = some (c, n) → ∃ t, exec (.pauseExpiry u) s = .next t ∧
      t.core.flag Reg.FP_STAT_PAUSED p = false ∧ t.net.pauses.at? p = none ∧
      t.core.fget Reg.FP_PAUSE_US_US p = satAdd Reg.FP_PAUSE_US_US.width (s.core.fget Reg.FP_PAUSE_US_US p) (n / 250)) ∧
    (∀ x : Fin 4, s.core.flag Reg.FP_STAT_LINK x = true → s.net.txq.wf = true → ∃ t, exec (.linkDown x) s = .next t ∧
      t.core.flag Reg.FP_STAT_LINK x = false ∧ t.net.txq.at? x = none ∧ t.core.fget Reg.FP_LINK_DOWNS_COUNT x =
        satAdd Reg.FP_LINK_DOWNS_COUNT.width (s.core.fget Reg.FP_LINK_DOWNS_COUNT x) 1) ∧
    (∀ (x : Fin 4) (m : Bool), s.plat.por = false → s.plat.rstLow = false → s.plat.hold = false →
      s.core.flag Reg.FP_STAT_LINK x = false → ∃ t, exec (.linkUp x m) s = .next t ∧
        t.core.flag Reg.FP_STAT_LINK x = true ∧ t.core.flag Reg.FP_STAT_MS_MASTER x = (m && decide (x < 2))) ∧
    (∀ peers, s.isMacsec p = true → s.hasCak = true → ∃ t, exec (.mkaSaInstall ⟨u, peers⟩) s = .next t ∧
      let an := if (s.net.macsec.at? p).isNone then 0 else (s.core.fget Reg.MS_STAT_TX_AN p + 1) % 4
      t.core.flag Reg.MS_STAT_SECURED p = true ∧ t.core.fget Reg.MS_STAT_TX_AN p = an ∧
      t.net.macsec.at? p = some { rx := installRx (s.net.macsec.atD p {}).rx an peers } ∧
      (∀ sci ∈ peers.take 4, t.nextPn p sci (Fin.ofNat 4 an) = some 1)) ∧
    (∃ k, exec (.mkaPeerLoss u) s = .next { s with core := k } ∧ s.core.only k [Reg.MS_STAT_SECURED.key p] ∧
      k.flag Reg.MS_STAT_SECURED p = false) ∧
    (s.plcaRole u true = true → s.core.flag Reg.FP_STAT_TX_STOPPED (2 + u) = false → s.net.quiet = false →
      s.plat.hold = false → ∃ t, exec (.plcaBeaconSend u) s = .next t ∧ t.core.flag Reg.PLCA_STAT_ACTIVE u = true ∧
        t.net.beaconC.at? u = some s.core.c ∧ t.net.inCycle.at? u = some 0) ∧
    (s.plcaRole u false = true →
      (∃ t, exec (.beaconReceive u) s = .next t ∧ t.core.flag Reg.PLCA_STAT_ACTIVE u = true ∧
        t.core.flag Reg.PLCA_STAT_CSMA_FALLBACK u = false ∧ t.net.beaconC.at? u = some s.core.c) ∧
      (s.core.flag Reg.PLCA_STAT_CSMA_FALLBACK u = false → ∃ t, exec (.beaconLoss u) s = .next t ∧
        t.core.flag Reg.PLCA_STAT_ACTIVE u = false ∧ t.core.flag Reg.PLCA_STAT_CSMA_FALLBACK u = true))

/-! ### The host's accesses to the register map (R5 to R13) -/

/-- R5, R10, R499: a host write to a register of BAR0 gives each field at that offset its new value by its access code; a
value out of a field's range is discarded for that field alone; a write of an RWL field under the set-up lock leaves it and
sets LOCK_VIOL; every other field keeps its value, and nothing but registers changes. -/
def Obligations.RegisterWriteByAccess : Prop :=
  ∀ (s : State) (addr : Nat) (v : Word), s.plainWord addr →
    let locked := s.core.flag Reg.GLB_CTRL_SETUP_LOCK
    ∃ k, exec (.registerWrite addr v) s = .next { s with core := k } ∧ k = { s.core with regs := k.regs } ∧
      (∀ r ∈ Reg.all, r ≠ Reg.GLB_CTRL_LOCK_VIOL ∨ addr = Reg.GLB_CTRL_LOCK_VIOL.addr → ∀ i < r.count,
        let old := s.core.fget r i
        let x := r.part v
        (r.itemAt addr = some i → match r.acc with
          | .rw => k.fget r i = if r.takes x then x else old
          | .rwl => k.fget r i = if !locked && r.takes x then x else old
          | .w1c => k.fget r i = (old - (old &&& x)) % 2 ^ r.width
          | .w1s => k.fget r i = (old ||| x) % 2 ^ r.width
          | .ro => k.fget r i = old
          | .wo => k.fget r i = old
          | .ros => k.fget r i = old) ∧
        (r.itemAt addr ≠ some i → k.fget r i = old)) ∧
      (addr ≠ Reg.GLB_CTRL_LOCK_VIOL.addr → k.flag Reg.GLB_CTRL_LOCK_VIOL =
        (s.core.flag Reg.GLB_CTRL_LOCK_VIOL || (locked && locks addr)))

/-- R8, R9, R13, R417, R430: the set-up lock is set; a bad access is counted and signals vector 87, its write discarded and
its read answered with ones (BAR2: 0); a read of a value's low word latches the high word for its next read. The answer of
BAR2 and the address in a bad read's answer are the model's choice (entries 12, 15). -/
def Obligations.RegisterAccesses : Prop :=
  ∀ (s : State), s.linkDown = false →
    (∃ k, exec .setupLock s = .next { s with core := k } ∧ s.core.only k [Reg.GLB_CTRL_SETUP_LOCK.key 0] ∧
      k.flag Reg.GLB_CTRL_SETUP_LOCK = true) ∧
    (∀ bar2 write : Bool, ∃ k, exec (.badAccess bar2 write) s = .next { s with core := k } ∧
      k.fget Reg.BG_BADACC_COUNT = satAdd Reg.BG_BADACC_COUNT.width (s.core.fget Reg.BG_BADACC_COUNT) 1 ∧
      (∀ j, j ≠ Reg.BG_BADACC_COUNT.key 0 → k.regs.at? j = s.core.regs.at? j) ∧
      (s.core.msixMasked 87 = true → 87 ∈ k.msixPend) ∧
      (s.core.msixMasked 87 = false → .msix 87 ∈ k.out) ∧
      (write = false → k.out.head? = some (.readData 0 (if bar2 then 0 else 0xFFFFFFFF)))) ∧
    (∀ addr, addr % 4 = 0 → addr + 4 < barBytes → timeWord s.timeGroup addr = none → timeWord s.timeGroup (addr + 4) = none →
      s.core.latch.wf = true → s.core.latch.at? addr = none → ∃ t, exec (.lowWordRead addr) s = .next t ∧
        t.core.out = .readData addr (s.showErr.liveWord addr) :: s.core.out ∧
        (lowWordAt addr = true → ∀ c, ∃ u, exec (.lowWordRead (addr + 4)) { t with core := { t.core with c := c } } = .next u ∧
          u.core.out.head? = some (.readData (addr + 4) (s.showErr.liveWord (addr + 4)))))

/-- R10: a host write to an RWL field while the set-up lock is set, in the map or in the backup domain's window, is discarded
and sets LOCK_VIOL; nothing else changes. -/
def Obligations.SetupLockHolds : Prop :=
  ∀ (s : State), s.linkDown = false → s.core.flag Reg.GLB_CTRL_SETUP_LOCK = true →
    let violates (c : Instr) : Prop := ∃ k, exec c s = .next { s with core := k } ∧
      s.core.only k [Reg.GLB_CTRL_LOCK_VIOL.key 0] ∧ k.flag Reg.GLB_CTRL_LOCK_VIOL = true
    (∀ (addr : Nat) (v : Word), ∀ r ∈ Reg.all, r.acc = .rwl → (r.itemAt addr).isSome = true → violates (.registerWrite addr v)) ∧
    (∀ (i : Fin 4) (v : Word), violates (.tmpCfgWrite i v)) ∧ (∀ v : Word, violates (.meshCfgWrite v))

/-! ### Network time (R325 to R344) -/

/-- R291, R327, R329 to R336: measurements. A delay response, of the end-to-end or the peer mechanism, gives a delay that joins the
last 16; a Sync within PLB_STEP_NS steers RATE by the PI law, network time going on from where it stands, and one within
PLB_LOCK_NS keeps a locked servo locked; a larger offset is a spike while the servo runs, and steps network time out of FREE; an
Announce gives the ports their states, at most one of them slave; a unit with a link sends a message of its ports' states, a
locked grandmaster with its class; losing the measurements is HOLDOVER at the rate of the integral term. Rounding and which spikes
count are the model's choice (entries 77, 78), the port states are presumed from IEEE 1588 (entry 80). -/
def Obligations.PlumbServo : Prop :=
  ∀ (s : State) (p : Fin 2),
    (s.ptpHears p = true →
      (∀ t1 t2 t3 t4, s.core.fget Reg.NT_CFG_PROFILE = 0 → s.nt.syncs.at? p = some (t1, t2) → s.nt.sentAt.at? p = some t3 →
        ∃ t, exec (.ptpMessageReceive p (.delayResp t4)) s = .next t ∧ t.core = s.core ∧
          t.nt.delays.at? p = some (((t2 - t1 + (t4 - t3)) * 32768 :: s.nt.delays.atD p []).take 16)) ∧
      (∀ t1 t2 t3 age, s.core.fget Reg.NT_CFG_PROFILE ≠ 0 → s.nt.sentAt.at? p = some t1 →
        (s.mapAt (s.core.c - age)).isSome → ∃ t, exec (.ptpMessageReceive p (.peerResp t2 t3 age)) s = .next t ∧ t.core = s.core ∧
          t.nt.delays.at? p = some (((s.rxStamp p age - t1 - (t3 - t2)) * 32768 :: s.nt.delays.atD p []).take 16)) ∧
      (∀ (t1 d : Int) (age : Nat), s.grandmaster = false → s.core.fget Reg.NT_STAT_SLAVE = p + 1 →
        (s.mapAt (s.core.c - age)).isSome → s.meanDelay p = some d →
        let x := (s.rxStamp p age - t1 - s.asymmetry p) * 65536 - d
        let step : Nat := s.core.fget Reg.PLB_STEP_NS_NS * 65536
        (-(2 ^ 47) ≤ x → x < 2 ^ 47 → x.natAbs ≤ step → x.natAbs ≤ s.core.fget Reg.PLB_LOCK_NS_NS * 65536 →
          s.core.fget Reg.NT_STAT_STATE = 2 → ∃ t, exec (.ptpMessageReceive p (.sync t1 age)) s = .next t ∧
            t.core.sget Reg.NT_OFFSET_LAST_NS = x / 65536 ∧ t.core.fget Reg.NT_STAT_STATE = 2 ∧ t.nt.good = s.nt.good + 1 ∧
            t.nt.poor = 0 ∧ t.nt.spikes = 0 ∧ t.nt16 = s.nt16 ∧ t.nt.map.rate =
              rateOf (s.clampPpb (gainTimes (s.core.fget Reg.PLB_KP_KP) x s.cfg.time.logInterval + s.nt.integ))) ∧
        (step < x.natAbs → s.core.fget Reg.NT_STAT_STATE ≠ 0 → s.nt.spikes < 2 →
          ∃ t, exec (.ptpMessageReceive p (.sync t1 age)) s = .next t ∧ t.nt.spikes = s.nt.spikes + 1 ∧
            t.nt.map = s.nt.map ∧ t.core.fget Reg.NT_SPIKES_COUNT =
              satAdd Reg.NT_SPIKES_COUNT.width (s.core.fget Reg.NT_SPIKES_COUNT) 1) ∧
        (step < x.natAbs → s.core.fget Reg.NT_STAT_STATE = 0 →
          ∃ t, exec (.ptpMessageReceive p (.sync t1 age)) s = .next t ∧ t.nt16 = s.nt16 - x ∧
            t.nt.map.rate = s.nt.map.rate ∧ t.core.fget Reg.NT_STAT_STATE = 1)) ∧
      (∀ q utc, s.grandmaster = false → p = 0 → ∃ t, exec (.ptpMessageReceive p (.announce 9 q utc)) s = .next t ∧
        t.core.fget Reg.NT_STAT_SLAVE = 1 ∧ t.core.fget Reg.NT_STAT_PORT0 = 9 ∧ t.core.fget Reg.NT_STAT_PORT1 ≠ 9 ∧
        t.nt.utcRx = utc ∧ t.core.flag Reg.NT_UTC_RX_VALID = utc.isSome)) ∧
    (s.ptpOn = true → s.core.flag Reg.FP_STAT_LINK p = true → s.core.flag Reg.PTR_STAT_FENCED = false →
      let sends (o : PtpOut) : Prop := ∃ t, exec (.ptpMessageSend p) s = .next t ∧ t.nt.sent = o :: s.nt.sent ∧
        t.net.txq = s.net.txq.put p (s.net.txq.atD p [] ++ [.ptp])
      (s.grandmaster = false → sends { port := p, master := s.core.fget (portRow p) == 6, clockClass := none
                                       utc := s.utcOffset, leap59 := false, leap61 := false }) ∧
      (s.grandmaster = true → s.core.fget Reg.NT_STAT_STATE = 2 →
        sends { port := p, master := s.core.fget (portRow p) == 6, clockClass := some s.cfg.time.lockedClass
                priority1 := some s.cfg.time.priority1, priority2 := some s.cfg.time.priority2
                accuracy := some s.cfg.time.clockAccuracy, utc := s.utcOffset
                leap59 := s.core.flag Reg.NT_UTC_LEAP59, leap61 := s.core.flag Reg.NT_UTC_LEAP61 })) ∧
    ((s.grandmaster = true → s.core.flag Reg.NT_PPS_CFG_IN_EN = true) → s.core.fget Reg.NT_STAT_STATE = 2 →
      ∃ t, exec .holdoverEntry s = .next t ∧ t.core.fget Reg.NT_STAT_STATE = 3 ∧ t.core.flag Reg.NT_STAT_TIME_DEGRADED = true ∧
        t.nt16 = s.nt16 ∧ t.nt.holdC = s.core.c ∧ t.nt.holdErr = s.nt.lastX.natAbs ∧
        t.nt.map.rate = rateOf (s.clampPpb s.nt.integ))

/-- R328, R338, R339, R340, R342: a pulse in shows its offset from the nearest whole second; one out pulses its land; a
capture takes C and NT at one clock; a comparison trims the backup domain's crystal, or steps its count where it is far off; a
leap second moves the count by a second. That a pulse is high and low within its command, and F at a leap second, are the
model's choice (entry 82). -/
def Obligations.PulsesAndComparisons : Prop :=
  ∀ (s : State),
    (s.plat.por = false → s.plat.rstLow = false → s.grandmaster = false → ∃ k,
      exec .ppsInEdge s = .next { s with core := k } ∧ s.core.only k [Reg.NT_PPS_IN_OFS_NS.key 0] ∧
      k.sget Reg.NT_PPS_IN_OFS_NS = secondOffset s.nt16 / 65536) ∧
    (s.core.fget Reg.NT_PPS_CFG_OUT_MODE ≠ 0 → ∃ k, exec .ppsOutEdge s = .next { s with core := k } ∧
      k.regs = s.core.regs ∧ k.landLevel .ppsOut = false ∧
      k.out = .land .ppsOut false :: .land .ppsOut true :: s.core.out) ∧
    (∃ k, exec .ntCapture s = .next { s with core := k } ∧ k.pair Reg.NT_CAP_CNT_LO_C_LO Reg.NT_CAP_CNT_HI_C_HI =
        s.core.c % 2 ^ 64 ∧
      k.pair Reg.NT_CAP_NS_LO_NS_LO Reg.NT_CAP_NS_HI_NS_HI = bitsOf 64 s.ntNs ∧
      k.fget Reg.NT_CAP_STAT_GEN = s.nt.map.gen % 2 ^ Reg.NT_CAP_STAT_GEN.width ∧ k.flag Reg.NT_CAP_STAT_NOT_READY = false) ∧
    (s.core.fget Reg.NT_STAT_STATE = 2 →
      let d := s.backup16 - s.nt16
      (d.natAbs < s.core.fget Reg.NT_RTC_RTC_STEP_MS * 65536000000 → s.core.fget Reg.NT_RTC_RTC_STEP_MS ≤ 60000 →
        s.nt.prev = none → ∃ t, exec .rtcCompare s = .next t ∧ t.core.sget Reg.NT_RTC_DIFF_US = rneDiv d 65536000 ∧
          t.core.sget Reg.BKP_TRIM_TRIM =
            (if d.natAbs < 100000 * 65536 then s.neededTrim
             else clampTrim (s.neededTrim - if 0 < d then 1677 else -1677)) ∧
          t.nt.prev = some (s.nt16, d, t.core.sget Reg.BKP_TRIM_TRIM) ∧ t.core.secB = s.core.secB) ∧
      (∀ b : Nat, s.core.fget Reg.NT_RTC_RTC_STEP_MS * 65536000000 ≤ d.natAbs →
        s.nt16 / 65536000000000 - s.utcOffset - 946684800 = b → b ≤ rangeMax →
        s.core.fget Reg.ALM_CTRL_EN 0 = 0 → s.core.fget Reg.ALM_CTRL_EN 1 = 0 →
        ∃ t, exec .rtcCompare s = .next t ∧ t.core.secB = b ∧ t.nt.prev = none)) ∧
    (∀ insert, s.core.fget Reg.ALM_CTRL_EN 0 = 0 → s.core.fget Reg.ALM_CTRL_EN 1 = 0 → s.core.secB < 2 ^ 32 →
      ∃ t, exec (.leapSecond insert) s = .next t ∧ t.core.fget Reg.BKP_FRAC_FRAC = s.core.fget Reg.BKP_FRAC_FRAC % 65536 ∧
        t.core.secB = (if insert then s.core.secB - 1 else min (s.core.secB + 1) rangeMax) ∧
        t.core.fget Reg.BKP_ERA_ERA = (s.core.fget Reg.BKP_ERA_ERA + 1) % 65536)

/-! ### The CAN FD controllers (R297 to R324) -/

/-- R297, R308 to R311: reception. The first matching stencil entry decides a frame: it is stored with its stamp in the queue
the entry names, lost and counted where that is full, handed to a binding, or discarded; a binding that no frame matched in
its ticks goes stale; 11 recessive bits bring the controller into the bus. -/
def Obligations.CanReception : Prop :=
  ∀ (s : State) (c : Fin 4), let x := s.canCtl c
    (∀ (el : CanElement) (age i : Nat) (e : Stencil), s.canJoined c = true → s.core.fget Reg.CAN_CFG_MODE c ≠ 3 →
      CanCfg_decide x.cfg (CanElement_norm el) = some (e, i) →
      let up (r : Row) (t : State) : Prop := t.core.fget r c = satAdd r.width (s.core.fget r c) 1
      let put (seq : Nat) : RxElement := { el := CanElement_norm el, stencil := i, stamp := s.canStamp c age, seq := seq }
      (e.bindEn = false → e.dest = 0 → x.q0.length < 64 → ∃ t, exec (.canFrameReceive c el age false) s = .next t ∧
        (t.canCtl c).q0 = x.q0 ++ [put x.seq0] ∧ (t.canCtl c).q1 = x.q1 ∧ up Reg.CAN_RX_OK_COUNT t) ∧
      (e.bindEn = false → e.dest = 1 → x.q1.length < 32 → ∃ t, exec (.canFrameReceive c el age false) s = .next t ∧
        (t.canCtl c).q1 = x.q1 ++ [put x.seq1] ∧ (t.canCtl c).q0 = x.q0 ∧ up Reg.CAN_RX_OK_COUNT t) ∧
      (e.bindEn = false → e.dest = 0 → 64 ≤ x.q0.length → ∃ t, exec (.canFrameReceive c el age false) s = .next t ∧
        (t.canCtl c).q0 = x.q0 ∧ (t.canCtl c).q1 = x.q1 ∧ up Reg.CAN_RXQ0_LOST t) ∧
      (e.dest = 2 → ∃ t, exec (.canFrameReceive c el age false) s = .next t ∧ (t.canCtl c).q0 = x.q0 ∧
        (t.canCtl c).q1 = x.q1 ∧ t.core.fget Reg.CAN_RX_OK_COUNT c = s.core.fget Reg.CAN_RX_OK_COUNT c) ∧
      (∀ b, e.dest = 3 → e.bindEn = true → el.rmt = false → x.cfg.rxBindings.find? (·.id == e.bind) = some b →
        s.standby = false → ∃ t, exec (.canFrameReceive c el age false) s = .next t ∧
          (t.canCtl c).matched.at? b.id = some s.epoch ∧ (t.canCtl c).stale.contains b.id.val = false ∧
          (t.canCtl c).q0 = x.q0 ∧ (t.canCtl c).q1 = x.q1 ∧ up Reg.CAN_RX_OK_COUNT t ∧
          ((CanElement_norm el).data.length < b.dlcMin → up Reg.CAN_RX_LATE_SHORT t))) ∧
    (∀ b : CanRxBinding, x.cfg.rxBindings.find? (·.id == b.id) = some b → b.staleTicks ≠ 0 → s.standby = false →
      (x.matched.at? b.id).all (fun e => decide (e + b.staleTicks ≤ s.epoch)) = true → x.stale.contains b.id.val = false →
      ∃ t, exec (.canBindingStale c b.id) s = .next t ∧ (t.canCtl c).stale = b.id.val :: x.stale) ∧
    (s.canOn c = true → s.net.quiet = false → s.core.fget Reg.CAN_BUS_STATE c < 2 →
      ∃ t, exec (.canBusIntegration c) s = .next t ∧ t.canJoined c = true)

/-- R303, R313, R315 to R317: transmission and errors. A frame that has been sent is logged with its stamp and counted; a
failed attempt keeps its request, or ends a cancelled one; an error counts as ISO 11898-1 counts a form error, and a TEC above
255 is bus-off, which the recovery ends; a stamp counter stays within 25 ns of network time. The counting of errors is
presumed from ISO 11898-1 (entry 70); the stamp's difference is free (entry 75). -/
def Obligations.CanTransmission : Prop :=
  ∀ (s : State) (c : Fin 4), let x := s.canCtl c
    (∀ (b age : Nat) (loop : BitVec 7), let q := x.bufs.atD b {}
      b < 3 → q.active = true → q.pending = true → q.next = none →
      (s.core.flag Reg.CAN_CFG_SSP_EN c = false ∨ q.el.fd = false) →
      (∃ t, exec (.canTxAttemptEnd c b true age loop) s = .next t ∧
        (t.canCtl c).log.head?.map (fun e => (e.el, e.status, e.buffer, e.stamp)) = some (q.el, 0, b, s.canStamp c age) ∧
        (t.canCtl c).sent = (b, q.el) :: x.sent ∧ ((t.canCtl c).bufs.atD b {}).pending = false ∧
        t.core.fget Reg.CAN_TX_OK_COUNT c = satAdd Reg.CAN_TX_OK_COUNT.width (s.core.fget Reg.CAN_TX_OK_COUNT c) 1) ∧
      (q.cancel = false → ∃ t, exec (.canTxAttemptEnd c b false age loop) s = .next t ∧ (t.canCtl c).log = x.log ∧
        (t.canCtl c).sent = x.sent ∧ ((t.canCtl c).bufs.atD b {}).pending = true) ∧
      (q.cancel = true → ∃ t, exec (.canTxAttemptEnd c b false age loop) s = .next t ∧
        (t.canCtl c).log.head?.map (fun e => (e.el, e.status, e.buffer)) = some (q.el, 1, b) ∧
        (t.canCtl c).sent = x.sent ∧ ((t.canCtl c).bufs.atD b {}).pending = false)) ∧
    (s.canJoined c = true → s.canSilent c = false →
      let tec := s.core.fget Reg.CAN_ECR_TEC c
      (tec + 8 ≤ 255 → ∃ t, exec (.canBusError c .form true false) s = .next t ∧
        t.core.fget Reg.CAN_ECR_TEC c = tec + 8 ∧ t.core.fget Reg.CAN_BUS_ERR_LAST c = 2) ∧
      (255 < tec + 8 → tec ≤ 255 → ∃ t, exec (.canBusError c .form true false) s = .next t ∧
        t.core.fget Reg.CAN_BUS_STATE c = 2 ∧ (∀ b, ((t.canCtl c).bufs.atD b {}).pending = true ∨
          (x.bufs.atD b {}).pending = false ∨ (x.bufs.atD b {}).cancel = true) ∧
        t.core.fget Reg.CAN_BUSOFF_ENTRIES c =
          satAdd Reg.CAN_BUSOFF_ENTRIES.width (s.core.fget Reg.CAN_BUSOFF_ENTRIES c) 1) ∧
      (∃ t, exec (.canBusError c .form false false) s = .next t ∧
        (tec ≤ 255 → t.core.fget Reg.CAN_ECR_TEC c = tec ∧
          t.core.fget Reg.CAN_ECR_REC c = min (s.core.fget Reg.CAN_ECR_REC c + 1) 255))) ∧
    (s.core.fget Reg.CAN_BUS_STATE c = 2 → ∃ t, exec (.busoffRecovery c) s = .next t ∧
      t.core.fget Reg.CAN_BUS_STATE c = 0 ∧ t.core.fget Reg.CAN_ECR_TEC c = 0 ∧ t.core.fget Reg.CAN_ECR_REC c = 0 ∧
      t.core.fget Reg.CAN_BUSOFF_RECOVERIES c =
        satAdd Reg.CAN_BUSOFF_RECOVERIES.width (s.core.fget Reg.CAN_BUSOFF_RECOVERIES c) 1) ∧
    (∃ t, exec (.canStampAdjust c) s = .next t ∧ t = s.putCan c { x with adjusts := x.adjusts + 1 } ∧
      ∀ age, (t.canStamp c age - t.stampNs age).natAbs ≤ 25)

/-- R318 to R321: the time-triggered schedule. A time master sends its reference at the start of a basic cycle, with the stamp
of the one before; a slot that is due sends its buffer's request or is missed, and KEEP decides what becomes of it; a follower
that hears no reference suspends its schedule. Content of the reference is in part the model's choice (entry 74). -/
def Obligations.TimeTriggeredCan : Prop :=
  ∀ (s : State) (c : Fin 4), s.core.fget Reg.CAN_CFG_MODE c = 3 → let x := s.canCtl c
    (s.core.flag Reg.CAN_CFG_TIME_MASTER c = true →
      (∃ t, exec (.ttReferenceTime c false) s = .next t ∧ t = s.putCan c { x with disc := true }) ∧
      (∀ sof, s.canDrive c = true → x.disc = false → x.refSof = some sof → 0 < x.cfg.ncyc → x.cfg.ncyc ≤ 32 →
        let cycle := (s.core.fget Reg.CAN_TT_STAT_CYCLE c + 1) % x.cfg.ncyc
        ∃ t, exec (.ttReferenceTime c true) s = .next t ∧ (t.canCtl c).refSof = some (s.canStamp c 0) ∧
          t.core.fget Reg.CAN_TT_STAT_CYCLE c = cycle ∧ t.core.flag Reg.CAN_TT_STAT_REF_OK c = true ∧
          (t.canCtl c).sent = (256, ⟨x.cfg.refId, x.cfg.refExt, false, false, false, false, 8,
            le (cycle + if s.core.fget Reg.NT_STAT_STATE = 3 then 64 else 0) 1 ++ le (bitsOf 56 sof) 7⟩) :: x.sent)) ∧
    (∀ (idx : Fin 256) (e : TtSlot) (age : Nat) (ok : Bool), x.cfg.slots.find? (·.idx == idx.val) = some e → s.canOn c = true →
      e.type < 2 → s.core.fget Reg.CAN_TT_STAT_CYCLE c % 2 ^ e.rep.val = e.base →
      let b := 128 + e.buf.val
      let q := x.bufs.atD b {}
      q.pending = true → q.next = none →
      let sends := s.core.flag Reg.CAN_TT_STAT_REF_OK c && ok && s.canDrive c
      (sends = true → ∃ t, exec (.ttSlotDue c idx ok age) s = .next t ∧ (t.canCtl c).sent = (b, q.el) :: x.sent ∧
        ((t.canCtl c).bufs.atD b {}).pending = false ∧
        (t.canCtl c).log.head?.map (fun o => (o.el, o.status, o.stamp)) = some (q.el, 0, s.canStamp c age)) ∧
      (sends = false → ∃ t, exec (.ttSlotDue c idx ok age) s = .next t ∧ (t.canCtl c).sent = x.sent ∧
        (t.core.fget (missRow e.idx) c).testBit (e.idx % 32) = true ∧
        ((t.canCtl c).bufs.atD b {}).pending = e.keep ∧
        (e.keep = false → (t.canCtl c).log.head?.map (fun o => (o.el, o.status)) = some (q.el, 2)))) ∧
    (s.core.flag Reg.CAN_CFG_TIME_MASTER c = false → s.core.flag Reg.CAN_TT_STAT_REF_OK c = true →
      ∃ t, exec (.ttReferenceLoss c) s = .next t ∧ t.core.flag Reg.CAN_TT_STAT_REF_OK c = false ∧
        t.core.fget Reg.CAN_TT_STAT_REF_LOSSES c =
          satAdd Reg.CAN_TT_STAT_REF_LOSSES.width (s.core.fget Reg.CAN_TT_STAT_REF_LOSSES c) 1)

/-! ### The host queues (R415 to R441) -/

/-- R415, R416, R418, R420, R428, R429, R437: doorbells and enables. A tail and a head take their value; one out of range
halts the queue, or stops the ring; enabling starts a queue or a ring at its first entry, with its phase at 1; disabling drops
what it holds; a halt ends by a resume or by giving the failed fetch up; D3hot and PERST disable every queue. The width of a
doorbell's value is the model's choice (entry 15). -/
def Obligations.DoorbellsAndRings : Prop :=
  ∀ (s : State) (q : Fin 64), let x := s.queue q
    (s.core.flag Reg.HQ_CFG_ENABLE q = true → ∀ v : BitVec 12,
      (v.toNat < s.sqSize q → exec (.sqTail q v) s = .next (s.putQueue q { x with sqTail := v.toNat })) ∧
      (s.sqSize q ≤ v.toNat → s.core.flag Reg.HQ_STAT_HALTED q = false → ∃ t, exec (.sqTail q v) s = .next t ∧
        t.core.flag Reg.HQ_STAT_HALTED q = true ∧ t.core.fget Reg.HQ_STAT_CAUSE q = 7 ∧ (t.queue q).halt = some .doorbell) ∧
      (x.entries = [] → v.toNat < s.cqSize q →
        let freed := (v.toNat + s.cqSize q - x.cqHead) % s.cqSize q
        (freed ≤ x.cqUsed →
          exec (.cqHead q v) s = .next (s.putQueue q { x with cqHead := v.toNat, cqUsed := x.cqUsed - freed })) ∧
        (x.cqUsed < freed → s.core.flag Reg.HQ_STAT_HALTED q = false → ∃ t, exec (.cqHead q v) s = .next t ∧
          t.core.flag Reg.HQ_STAT_HALTED q = true ∧ t.core.fget Reg.HQ_STAT_CAUSE q = 7))) ∧
    (∀ (e : Nat) (v : BitVec 12), s.ownedRing q = some e →
      let r := s.core.rings.atD e {}
      let n := 2 ^ s.core.fget Reg.EQ_CFG_LOG2 e
      let freed := (v.toNat + n - r.head) % n
      (v.toNat < n → freed ≤ r.used → r.lost = 0 → ∃ t, exec (.eqHead q v) s = .next t ∧ t.core.regs = s.core.regs ∧
        t.core.rings.at? e = some { head := v.toNat, used := r.used - freed, lost := 0 }) ∧
      (n ≤ v.toNat ∨ r.used < freed → ∃ t, exec (.eqHead q v) s = .next t ∧ t.core.flag Reg.EQ_STAT_STOPPED e = true ∧
        t.core.rings = s.core.rings)) ∧
    (s.core.flag Reg.HQ_CFG_ENABLE q = false → s.core.flag Reg.HQ_CFG_BOUND q = true → s.linkDown = false →
      Machine.sizeOk (s.core.fget Reg.HQ_CFG_SQ_LOG2 q) = true → Machine.sizeOk (s.core.fget Reg.HQ_CFG_CQ_LOG2 q) = true →
      ∃ t, exec (.queueEnable q) s = .next t ∧ t.queue q = {} ∧ t.core.flag Reg.HQ_CFG_ENABLE q = true ∧
        t.core.fget Reg.HQ_STAT_SQ_HEAD q = 0 ∧ t.core.fget Reg.HQ_CQ_TAIL q = 0 ∧ t.core.flag Reg.HQ_CQ_PHASE q = true) ∧
    (s.core.flag Reg.HQ_CFG_ENABLE q = true → s.hq.queues.wf = true → ∃ t, exec (.queueDisable q) s = .next t ∧
      t.core.flag Reg.HQ_CFG_ENABLE q = false ∧ t.core.flag Reg.HQ_STAT_HALTED q = false ∧ t.queue q = {} ∧
      ∀ p ∈ t.img.pins, ∀ h ∈ p.holds, h.who ≠ .queue q) ∧
    (∀ ring : Fin 16,
      (s.core.flag Reg.EQ_CFG_ENABLE ring = false → s.core.flag Reg.HQ_CFG_BOUND (s.core.fget Reg.EQ_CFG_OWNER_Q ring) = true →
        s.core.fget Reg.HQ_CFG_DOMAIN (s.core.fget Reg.EQ_CFG_OWNER_Q ring) = s.core.fget Reg.EQ_CFG_DOMAIN ring →
        Machine.sizeOk (s.core.fget Reg.EQ_CFG_LOG2 ring) = true → s.linkDown = false →
        ∃ k, exec (.eventRingEnable ring true) s = .next { s with core := k } ∧ k.flag Reg.EQ_CFG_ENABLE ring = true ∧
          k.flag Reg.EQ_STAT_STOPPED ring = false ∧ k.fget Reg.EQ_STAT_TAIL ring = 0 ∧ k.flag Reg.EQ_STAT_PHASE ring = true ∧
          k.rings.at? ring = some {}) ∧
      (∃ k, exec (.eventRingEnable ring false) s = .next { s with core := k } ∧ k.flag Reg.EQ_CFG_ENABLE ring = false)) ∧
    (s.core.flag Reg.HQ_STAT_HALTED q = true → x.entries = [] →
      (∀ w, ∃ t, exec (.controlResume q w) s = .next t ∧ t.core.flag Reg.HQ_STAT_HALTED q = false ∧ (t.queue q).halt = none ∧
        (t.queue q).cur = x.cur) ∧
      (∀ w, x.halt = some .fetch → ∃ t, exec (.controlAbandon q w) s = .next t ∧ t.core.flag Reg.HQ_STAT_HALTED q = false ∧
        (t.queue q).halt = none ∧ t.core.fget Reg.HQ_STAT_SQ_HEAD q =
          (s.core.fget Reg.HQ_STAT_SQ_HEAD q + 1) % s.sqSize q % 2 ^ Reg.HQ_STAT_SQ_HEAD.width)) ∧
    (∃ t, exec .d3hotEntry s = .next t ∧ t.core.flag Reg.HQ_CFG_ENABLE q = false) ∧
    (∃ t, exec .pePerst s = .next t ∧ t.core.flag Reg.HQ_CFG_ENABLE q = false ∧ t.hq = {} ∧ t.core.msixTable = [] ∧
      t.core.msixPend = [])

/-- R219, R421 to R426, R309, R313: descriptors. One is fetched while the completion ring has room, and holds the fields its bytes
spell; a fetch that fails halts the queue; a NOP and an acknowledgement are DONE at once; a malformed message is DONE as a bad
request, and an INFO is answered as a session's is; an update that waits is delivered; CAN elements are read without being consumed
and released by their number; a transmit request takes its buffer, and a cancel empties it; an echo waits for the lane. Refusals by the state of the module are in part the model's choice (entry 95). -/
def Obligations.Descriptors : Prop :=
  ∀ (s : State) (q : Fin 64) (w : Walk), let x := s.queue q
    (∀ b : List Byte, s.queueRuns q = true → s.plat.hold = false → x.cur = none → x.entries = [] → x.cqUsed < s.cqSize q →
      let d := descriptorOf b
      let head := s.core.fget Reg.HQ_STAT_SQ_HEAD q
      let at_ := (s.translate q (s.core.fget Reg.HQ_SQ_BASE_PAGE q * 4096 + head * 64) 64 false (some w)).1
      head ≠ x.sqTail →
      (at_.cause = 0 → ∃ t g, exec (.descriptorFetch q w (some b)) s = .next t ∧ (t.queue q).cur = some g ∧ g.d = d ∧
        g.answer = (Descriptor_status d (s.core.fget Reg.HQ_CFG_DOMAIN q)).map (fun st => (st, [])) ∧
        t.core.flag Reg.HQ_STAT_ACTIVE q = true ∧
        t.core.fget Reg.HQ_STAT_SQ_HEAD q = (head + 1) % s.sqSize q % 2 ^ Reg.HQ_STAT_SQ_HEAD.width) ∧
      (at_.cause = 0 → ∃ t, exec (.descriptorFetch q w none) s = .next t ∧ t.core.flag Reg.HQ_STAT_HALTED q = true ∧
        t.core.fget Reg.HQ_STAT_CAUSE q = 6) ∧
      (at_.cause ≠ 0 → ∃ t, exec (.descriptorFetch q w (some b)) s = .next t ∧ t.core.flag Reg.HQ_STAT_HALTED q = true ∧
        t.core.fget Reg.HQ_STAT_CAUSE q = 6 ∧ (t.queue q).halt = some .fetch)) ∧
    (∀ g, s.runsOp q 0 g → s.closes q g w → ∃ t, exec (.hqNop q w) s = .next t ∧ s.closed t q g 0) ∧
    (∀ g, s.runsOp q 1 g → s.closes q g w → ∃ t, exec (.msg q none w) s = .next t ∧ s.closed t q g Status.badRequest.code) ∧
    (∀ g d, s.runsOp q 1 g → g.d.type = 1 → s.hears (queueReq q) { maint := true, unclaimed := true, type := 0x01 } d →
      (s.infoBody d).length ≤ g.d.rspLen → g.sent < (s.infoBody d).length → ∃ t h, exec (.msg q (some .info) w) s = .next t ∧
        (t.queue q).cur = some h ∧ h.answer = some (.ok, s.infoBody d)) ∧
    (s.serves →
      (∀ g n, s.runsOp q 2 g → x.subs.any (·.number == n) = true →
        (∀ u, x.updates.find? (·.1 == n) = some u → ∃ t, exec (.updateWait q n) s = .next t ∧
          t.queue q = { x with updates := x.updates.erase u, buffered := x.buffered - (u.2.length + 16)
                               cur := some { g with answer := some (.ok, u.2) } }) ∧
        (x.updates.find? (·.1 == n) = none → ∃ t, exec (.updateWait q n) s = .next t ∧
          t.queue q = { x with cur := some { g with waitSub := some n } })) ∧
      (∀ g ctl rxq max e es, s.runsOp q 3 g → ctl ≤ 3 → rxq ≤ 1 → 1 ≤ max → max ≤ 64 →
        (s.rxHeld ctl rxq).take max = e :: es → exec (.canRx q ctl rxq max) s =
          .next (s.putQueue q { x with cur := some { g with answer := some (.ok, le ctl 1 ++ le rxq 1 ++
            le (es.length + 1) 1 ++ le 0 1 ++ le e.seq 4 ++ (e :: es).flatMap RxElement_bytes) } })) ∧
      (∀ g ctl rxq (last : Word) gone rest e, s.runsOp q 4 g → s.closes q g w → ctl ≤ 3 → rxq ≤ 1 →
        s.rxHeld ctl rxq = gone ++ e :: rest → e.seq = last.toNat → (∀ y ∈ gone, y.seq ≠ e.seq) →
        ∃ t, exec (.canAck q ctl rxq last w) s = .next t ∧ t.rxHeld ctl rxq = rest ∧ s.closed t q g 0) ∧
      (s.standby = false →
        (∀ g ctl b el, s.runsOp q 5 g → ctl ≤ 3 → b ≤ 2 → s.bindingOwns ctl b = false →
          let buf := (s.canCtl ctl).bufs.atD b {}
          (elementOk el = true → buf.active = false → ∃ t h, exec (.canTxSend q ctl b el w) s = .next t ∧
            (t.queue q).cur = some h ∧ h.waitCan = some (ctl, b, false) ∧
            (t.canCtl ctl).bufs.at? b = some { buf with el := elementKept el, pending := true, cancel := false }) ∧
          (buf.active = false → buf.pending = true → ∃ t, exec (.canTxCancel q ctl b w) s = .next t ∧
            ((t.canCtl ctl).bufs.atD b {}).pending = false ∧
            (t.canCtl ctl).log.head?.map (fun e => (e.el, e.status, e.buffer)) = some (buf.el, 1, b))) ∧
        (∀ g carrier ch n, s.runsOp q 6 g → carrier ≤ 31 → 1 ≤ n → n ≤ 64 → ch + n ≤ 128 →
          ∃ t, exec (.laneEcho q carrier ch n) s = .next t ∧ (carrier, ch, n) ∈ t.lane.echoes ∧
            t.queue q = { x with cur := some { g with waitEcho := some (carrier, ch, n) } })))

/-- R427, R431 to R436: the data mover and the translation cache. The queue the arbitration chooses moves a chunk of its
request or of its response; a fault of a request's chunk halts it, with its own cause, or with that of a fault which its completion
entry meets in turn; an invalidation, when it is done, leaves no entry of the pages it names, and every other entry stays. When a
completion entry waits is the model's reading (entry 92). -/
def Obligations.DataMover : Prop :=
  ∀ (s : State) (q : Fin 64) (w : Walk) (g : Progress), (s.queue q).cur = some g →
    (s.moves q = true → s.moverNext = some q →
      (Progress_reply g = none →
        let iova := g.d.reqAddr + g.reqRead
        let n := chunkBytes iova (g.d.reqLen - g.reqRead)
        let x := (s.translate q iova n false (some w)).1
        (x.cause = 0 → ∃ t, exec (.dmaChunk q w false) s = .next t ∧ t.hq.last = some q.val ∧
          t.queue q = { s.queue q with cur := some { g with reqRead := g.reqRead + n } }) ∧
        (x.cause ≠ 0 → ∃ t, exec (.dmaChunk q w false) s = .next t ∧ t.core.flag Reg.HQ_STAT_HALTED q = true ∧
          (t.core.fget Reg.HQ_STAT_CAUSE q = x.cause ∨ t.core.fget Reg.HQ_STAT_CAUSE q = 6)) ∧
        (x.cause = 0 → ∃ t, exec (.dmaChunk q w true) s = .next t ∧ t.core.flag Reg.HQ_STAT_HALTED q = true ∧
          (t.core.fget Reg.HQ_STAT_CAUSE q = 5 ∨ t.core.fget Reg.HQ_STAT_CAUSE q = 6))) ∧
      (∀ st (body : List Byte) done, Progress_reply g = some (st, body, done) →
        let iova := g.d.rspAddr + g.sent
        let n := chunkBytes iova (body.length - g.sent)
        let x := (s.translate q iova n true (some w)).1
        x.cause = 0 → g.sent + n < body.length → ∃ t, exec (.dmaChunk q w false) s = .next t ∧
          t.queue q = { s.queue q with cur := some { g with sent := g.sent + n } } ∧
          t.core.out = .hostWrite q x.host ((body.drop g.sent).take n) :: s.core.out)) ∧
    (s.core.flag Reg.ATC_INV_STAT_BUSY = false → ∃ t, exec .atcInvalidate s = .next t ∧
      t.core.flag Reg.ATC_INV_STAT_BUSY = true ∧ t.hq.inv = some (s.core.fget Reg.ATC_INV_CTRL_QUEUE,
        s.core.flag Reg.ATC_INV_CTRL_ALL, s.core.fget Reg.ATC_INV_PAGE_FIRST, s.core.fget Reg.ATC_INV_COUNT_PAGES)) ∧
    (∀ p all first n, s.hq.inv = some (p, all, first, n) → ∃ t, exec .atcInvalidateDone s = .next t ∧
      t.core.flag Reg.ATC_INV_STAT_BUSY = false ∧ t.hq.inv = none ∧
      (∀ e ∈ t.hq.atc, e ∈ s.hq.atc ∧ ¬(e.q = p ∧ (all = true ∨ first ≤ e.page ∧ e.page < first + n))) ∧
      ∀ e ∈ s.hq.atc, e.q ≠ p ∨ (all = false ∧ (e.page < first ∨ first + n ≤ e.page)) → e ∈ t.hq.atc)

/-! ### The backup domain (R345 to R373) -/

/-- R345, R346, R348 to R350, R352, R354, R363, R364, R372: a write of the backup window crosses once no other is crossing,
and takes effect when it has crossed; a staged count is taken where it is in range, else INVALID tells of it; the count goes
into the next second, and stops at the end of its range; the time group reads as one snapshot; a stopped crystal sets OSF.
When the lock is checked is the model's reading (entry 83). -/
def Obligations.BackupTime : Prop :=
  ∀ (s : State),
    let crossing (c : Instr) (addr : Nat) (v : Word) : Prop :=
      s.core.flag Reg.GLB_CTRL_SETUP_LOCK = false →
      (s.core.flag Reg.CAL_STATUS_BUSY = true → exec c s = .next s) ∧
      (s.core.flag Reg.CAL_STATUS_BUSY = false → ∃ k, exec c s = .next { s with core := k, bkp := { s.bkp with crossing := some (addr, v) } } ∧
          s.core.only k [Reg.CAL_STATUS_BUSY.key 0] ∧ k.flag Reg.CAL_STATUS_BUSY = true)
    let go : Word := BitVec.ofNat 32 (256 * s.core.fget Reg.BKP_SET_CTRL_LOCAL)
    crossing .goSec Reg.BKP_SET_CTRL_LOCAL.addr (go + 1) ∧ crossing .goCal Reg.BKP_SET_CTRL_LOCAL.addr (go + 2) ∧
    (∀ v : BitVec 16, crossing (.offsetWrite v) Reg.BKP_OFFSET_MIN.addr (v.setWidth 32)) ∧
    (∀ (i : Fin 4) (v : Word), crossing (.tmpCfgWrite i v) (Reg.TMP_CFG_EN.addr + 4 * i) v) ∧
    (∀ v : Word, crossing (.meshCfgWrite v) Reg.MESH_CFG_EN.addr v) ∧
    (s.core.flag Reg.CAL_STATUS_BUSY = true → ∀ v : Word,
      (s.bkp.crossing = some (Reg.BKP_SET_CTRL_LOCAL.addr, v) → v.getLsbD 0 = true →
        s.core.fget Reg.ALM_CTRL_EN 0 = 0 → s.core.fget Reg.ALM_CTRL_EN 1 = 0 →
        (v.getLsbD 1 = false → s.core.fget Reg.BKP_SET_SEC_SEC ≤ rangeMax → ∃ t, exec .bkpWriteCrossed s = .next t ∧
          t.core.secB = s.core.fget Reg.BKP_SET_SEC_SEC ∧
          t.core.fget Reg.BKP_FRAC_FRAC = s.core.fget Reg.BKP_SET_FRAC_FRAC % 65536 ∧
          t.core.fget Reg.BKP_ERA_ERA = (s.core.fget Reg.BKP_ERA_ERA + 1) % 65536 ∧
          t.core.flag Reg.CAL_STATUS_OSF = false ∧ t.core.flag Reg.CAL_STATUS_RANGE_END = false ∧
          t.core.flag Reg.CAL_STATUS_BUSY = false ∧ t.bkp.crossing = none) ∧
        (v.getLsbD 1 = true ∨ rangeMax < s.core.fget Reg.BKP_SET_SEC_SEC → ∃ t, exec .bkpWriteCrossed s = .next t ∧
          t.core.secB = s.core.secB ∧ t.core.flag Reg.CAL_STATUS_INVALID = true ∧
          t.core.flag Reg.CAL_STATUS_BUSY = false ∧ t.bkp.crossing = none)) ∧
      (s.bkp.crossing = some (Reg.BKP_OFFSET_MIN.addr, v) →
        let o := Reg.BKP_OFFSET_MIN.part v
        ∃ t, exec .bkpWriteCrossed s = .next t ∧ t.core.flag Reg.CAL_STATUS_BUSY = false ∧ t.core.fget Reg.BKP_OFFSET_MIN =
          if Reg.BKP_OFFSET_MIN.takes o then o else s.core.fget Reg.BKP_OFFSET_MIN)) ∧
    (s.core.flag Reg.CAL_STATUS_RANGE_END = false → s.core.fget Reg.ALM_CTRL_EN 0 = 0 → s.core.fget Reg.ALM_CTRL_EN 1 = 0 →
      (s.core.secB < rangeMax → ∃ t, exec .localSecond s = .next t ∧ t.core.secB = s.core.secB + 1 ∧
        t.core.fget Reg.BKP_FRAC_FRAC = 0) ∧
      (rangeMax ≤ s.core.secB → ∃ t, exec .localSecond s = .next t ∧ t.core.secB = s.core.secB ∧
        t.core.fget Reg.BKP_FRAC_FRAC = 0xFFFF ∧ t.core.flag Reg.CAL_STATUS_RANGE_END = true)) ∧
    (∀ g addr v, s.bkp.shadow.getD s.timeGroup = g → timeWord g addr = some v → ∃ t, exec (.timeGroupRead addr) s = .next t ∧
      t.core.out = .readData addr v :: s.core.out ∧
      t.bkp.shadow = if addr = Reg.BKP_ERA_ERA.addr then none else some g) ∧
    exec .shadowRelease s = .next { s with bkp := { s.bkp with shadow := none } } ∧
    (∃ k, exec .crystalStop s = .next { s with core := k } ∧
      s.core.only k [Reg.CAL_STATUS_OSF.key 0, Reg.CLK_STAT_BKP_OK.key 0] ∧ k.flag Reg.CAL_STATUS_OSF = true ∧
      k.flag Reg.CLK_STAT_BKP_OK = false)

/-- R359, R361 to R366: supplies and tamper sources. The switch to the backup supply is stamped and counted, and the return
stamped; a backup power-up gives every register of the domain its value and a full tamper; a low battery shows; a source that
has been active for its filter's samples makes an event, and with its response a full tamper; the mesh drives its next bits.
The mesh's shift register is presumed (entry 86), one event for a run of samples the model's choice (entry 85). -/
def Obligations.SuppliesAndTamper : Prop :=
  ∀ (s : State),
    (s.core.flag Reg.BKP_PWR_ON_VBAT = false → ∃ k, exec .supplyToVbat s = .next { s with core := k } ∧
      s.core.only k [Reg.BKP_PWR_ON_VBAT.key 0, Reg.BKP_PWR_SWITCHES.key 0, Reg.BKP_PWR_FAIL_SEC_SEC.key 0,
        Reg.BKP_PWR_FAIL_SUB_FRAC.key 0, Reg.BKP_PWR_FAIL_SUB_ERA.key 0] ∧ k.flag Reg.BKP_PWR_ON_VBAT = true ∧
      k.fget Reg.BKP_PWR_FAIL_SEC_SEC = s.core.secB % 2 ^ 32 ∧
      k.fget Reg.BKP_PWR_SWITCHES = satAdd Reg.BKP_PWR_SWITCHES.width (s.core.fget Reg.BKP_PWR_SWITCHES) 1) ∧
    (s.core.flag Reg.BKP_PWR_ON_VBAT = true → ∃ k, exec .supplyReturn s = .next { s with core := k } ∧
      s.core.only k [Reg.BKP_PWR_ON_VBAT.key 0, Reg.BKP_PWR_RET_SEC_SEC.key 0, Reg.BKP_PWR_RET_SUB_FRAC.key 0,
        Reg.BKP_PWR_RET_SUB_ERA.key 0] ∧ k.flag Reg.BKP_PWR_ON_VBAT = false ∧
      k.fget Reg.BKP_PWR_RET_SEC_SEC = s.core.secB % 2 ^ 32) ∧
    (∃ t, exec .backupPowerUp s = .next t ∧ t.core.secB = 0 ∧ t.core.flag Reg.CAL_STATUS_OSF = true ∧
      t.core.flag Reg.TMP_STAT_FULL = true ∧ t.core.flag Reg.TMP_STAT_SUPPLY = true ∧ t.core.landLevel .pwron = true ∧
      ∀ i < 32, t.core.fget Reg.BKP_BYTES_DATA i = 0) ∧
    (∀ mv, ∃ k, exec (.vbatMeasure mv) s = .next { s with core := k } ∧ s.core.only k [Reg.BKP_PWR_VBAT_LOW.key 0] ∧
      k.flag Reg.BKP_PWR_VBAT_LOW =
        if mv < 2200 then true else if 2300 ≤ mv then false else s.core.flag Reg.BKP_PWR_VBAT_LOW) ∧
    (∀ (i : Fin 4) (level : Bool), let w := s.bkp.inputs.atD i {}
      (s.core.flag Reg.TMP_CFG_EN i = false → exec (.tamperSample i level) s = .next s) ∧
      (s.core.flag Reg.TMP_CFG_EN i = true → level ≠ s.core.flag Reg.TMP_CFG_LEVEL i → exec (.tamperSample i level) s =
        .next { s with bkp := { s.bkp with inputs := s.bkp.inputs.put i {} } }) ∧
      (s.core.flag Reg.TMP_CFG_EN i = true → level = s.core.flag Reg.TMP_CFG_LEVEL i → w.tripped = false →
        (w.count + 1 < s.core.fget Reg.TMP_CFG_FILTER i → exec (.tamperSample i level) s =
          .next { s with bkp := { s.bkp with inputs := s.bkp.inputs.put i { count := w.count + 1 } } }) ∧
        (s.core.fget Reg.TMP_CFG_FILTER i ≤ w.count + 1 → ∃ t, exec (.tamperSample i level) s = .next t ∧
          (t.core.fget Reg.TMP_STAT_INPUTS).testBit i = true ∧
          t.bkp.inputs.at? i = some { count := w.count + 1, tripped := true } ∧
          (s.core.flag Reg.TMP_CFG_RESP i = true → t.core.flag Reg.TMP_STAT_FULL = true ∧
            (s.core.flag Reg.TMP_STAT_FULL = false →
              t.core.fget Reg.TMP_GEN_GEN = (s.core.fget Reg.TMP_GEN_GEN + 1) % 2 ^ 32 ∧
              ∀ b < 8, (s.core.fget Reg.BKP_WIPE_BANKS).testBit b = true →
                ∀ j < 4, t.core.fget Reg.BKP_BYTES_DATA (4 * b + j) = 0))))) ∧
    (s.core.flag Reg.MESH_CFG_EN = true → ∃ t,
      exec (.meshPeriod (s.bkp.lfsr0.getLsbD 0) (s.bkp.lfsr1.getLsbD 0)) s = .next t ∧ t.core.regs = s.core.regs ∧
      t.core.landLevel .mesh0 = s.bkp.lfsr0.getLsbD 0 ∧ t.core.landLevel .mesh1 = s.bkp.lfsr1.getLsbD 0 ∧
      t.bkp = { s.bkp with mesh := {}, lfsr0 := lfsrNext s.bkp.lfsr0, lfsr1 := lfsrNext s.bkp.lfsr1 })

/-- R368 to R371: sleep and wake. The key asks for sleep, and another value does nothing; the module enters sleep once its
last tick is over: PWRON low, its retained words saved; where the supply does not fall, it goes on with SLEEP_FAIL set; a wake
cause raises PWRON, at the end of its 250 ms at the earliest. The one tick after an accepted sleep is the model's choice
(entry 109). -/
def Obligations.SleepAndWake : Prop :=
  ∀ (s : State),
    (s.core.flag Reg.CAL_STATUS_BUSY = false →
      (∀ v : Word, v ≠ 0x51EE0A17 → ∃ k, exec (.sleepKeyWrite v) s = .next { s with core := k } ∧
        s.core.only k [Reg.CAL_STATUS_BUSY.key 0] ∧ k.flag Reg.CAL_STATUS_BUSY = true) ∧
      (s.plat.sleepReq = none → s.sleepRefusal = none → ∃ t, exec (.sleepKeyWrite 0x51EE0A17) s = .next t ∧
        t.plat.sleepReq = some s.epoch ∧ t.core.state = 4)) ∧
    (s.sleepDue = true → s.sampling = false → ∃ t, exec .sleepEntry s = .next t ∧ t.plat.asleep = true ∧
      t.plat.sleepReq = none ∧ t.core.landLevel .pwron = false ∧ t.core.fget Reg.BKP_WAKE_CAUSE = 0 ∧ t.bkp.lowMin = true ∧
      t.core.flag Reg.TICK_STATUS_RUNNING = false ∧ max t.trw.copyA.seq t.trw.copyB.seq = max s.trw.copyA.seq s.trw.copyB.seq + 1) ∧
    (s.plat.por = false → s.core.state = 4 → s.plat.sleepReq = none → s.seq.base = none → ∃ t,
      exec .sleepFail s = .next t ∧ t.plat.asleep = false ∧ t.core.flag Reg.BKP_WAKE_SLEEP_FAIL = true ∧
      t.core.landLevel .pwron = true ∧ t.seq.base = some s.ntNs) ∧
    (s.bkp.lowMin = true → ∃ t, exec .pwronLowEnd s = .next t ∧ t.bkp.lowMin = false ∧ t.bkp.wake = false ∧
      (s.bkp.wake = true → s.plat.asleep = true → t.plat.asleep = false ∧ t.core.landLevel .pwron = true) ∧
      (s.bkp.wake = false → t.plat = s.plat ∧ t.core = s.core)) ∧
    (s.core.flag Reg.BKP_WAKE_WAKE_N_EN = true → s.plat.asleep = true → ∃ t, exec .wakeNLow s = .next t ∧
      t.core.fget Reg.BKP_WAKE_CAUSE = (if s.core.fget Reg.BKP_WAKE_CAUSE = 0 then 4 else s.core.fget Reg.BKP_WAKE_CAUSE) ∧
      (s.bkp.lowMin = true → t.bkp.wake = true ∧ t.plat.asleep = true) ∧
      (s.bkp.lowMin = false → t.plat.asleep = false ∧ t.core.landLevel .pwron = true)) ∧
    (s.core.flag Reg.BKP_WAKE_WAKE_N_EN = false → exec .wakeNLow s = .next s)

/-! ### Resets, start-up, clocks and power (R442 to R469) -/

/-- R325, R442 to R447, R454, R455, R457: resets. A power-on reset gives every register field outside the backup domain its
cold value and the lands their levels, and C starts again; RESET_N leaves C and the fields marked Keeps; the release of the
last source begins start-up; a block alone is reset once it is idle; the watchdog resets nothing. The values are the field
rows' own; OTP and MRAM keep theirs. What is kept beside the registers is the model's choice (entries 100, 102), block resets
its reading (entry 103). -/
def Obligations.Resets : Prop :=
  ∀ (s : State),
    let main (r : Row) : Prop := r ∈ Reg.all ∧ r.bkp = false ∧ r ∉ heldRows ∧ r ≠ Reg.PTR_STAT_FENCED ∧ r ≠ Reg.FP_STAT_TX_STOPPED ∧
      r ≠ Reg.CLK_STAT_BKP_OK
    (s.plat.por = false → ∃ t, exec .powerOnReset s = .next t ∧ t.plat.por = true ∧ t.plat.srcCold = true ∧ t.core.c = 0 ∧
      (∀ r, main r → ∀ i < r.count, t.core.fget r i = r.cold) ∧
      (∀ r ∈ Reg.all, r.bkp = true → r.addr < Reg.BKP_RST_SEC_SEC.addr ∨ Reg.BKP_RST_KIND_KIND.addr < r.addr →
        r ≠ Reg.CAL_STATUS_BUSY → ∀ i < r.count, t.core.fget r i = s.core.fget r i) ∧
      (∀ l ∈ [Land.ptrOk, .ptrMst, .ptrRdy, .ptrTrip, .lnSync, .wdtOut, .lnClk, .ptrHb, .ppsOut], t.core.landLevel l = false) ∧
      t.core.landLevel .ptrFenceN = true) ∧
    (s.plat.por = false → s.plat.rstLow = false → (∀ q < 64, s.core.flag Reg.HQ_CFG_ENABLE q = false) →
      ∃ t, exec .resetNAssert s = .next t ∧ t.plat.rstLow = true ∧ t.plat.srcWarm = true ∧ t.core.c = s.core.c ∧
        ∀ r, main r → ∀ i < r.count, t.core.fget r i = if r.keeps then s.core.fget r i else r.cold) ∧
    (s.plat.por = true → ∃ t, exec .powerOnRelease s = .next t ∧ t.plat.por = false ∧
      t.plat.step = if s.plat.rstLow then s.plat.step else some 1) ∧
    (s.plat.rstLow = true → s.plat.por = false → s.core.fget Reg.CLK_STAT_PLL_LOCK ≠ 0 →
      s.core.flag Reg.RST_PRIMER_PRIMER_FAULT = false → ∃ t, exec .resetNRelease s = .next t ∧ t.plat.rstLow = false ∧
        t.plat.step = some 2 ∧ t.core.landLevel .resetN = true) ∧
    (s.core.flag Reg.SEC_BOOT_TRIAL = true → s.sec.trial.isSome = true → s.plat.por = false → s.plat.rstLow = false →
      ∃ t, exec .trialTimeout s = .next t ∧ t.plat.rstLow = true ∧ t.plat.srcSelf = true ∧ t.core.landLevel .resetN = false) ∧
    (let b := s.core.fget Reg.RST_BLOCK_BLOCK
     s.core.flag Reg.RST_BLOCK_STAT_BUSY = false → 1 ≤ b → b ≤ 0x0C → ∃ t, exec .blockReset s = .next t ∧
       t.plat.block = some b ∧ t.core.flag Reg.RST_BLOCK_STAT_BUSY = true ∧ t.core.fget Reg.RST_BLOCK_STAT_LAST = b) ∧
    (∀ b idle, s.plat.block = some b → ∃ t, exec (.blockResetDone idle) s = .next t ∧ t.plat.block = none ∧
      t.core.flag Reg.RST_BLOCK_STAT_BUSY = false ∧ t.core.flag Reg.RST_BLOCK_STAT_HANDSHAKE = idle ∧
      (b = 1 → t.hq = {} ∧ ∀ q < 64, t.core.flag Reg.HQ_CFG_ENABLE q = false) ∧
      (6 ≤ b → b ≤ 9 → (t.canCtl (b - 6)).bufs = [] ∧ (t.canCtl (b - 6)).q0 = [] ∧ t.core.fget Reg.CAN_ECR_TEC (b - 6) = 0)) ∧
    (s.core.evr.scanned = true → ∃ t, exec .watchdogService s = .next t ∧ t.plat.expiry = none ∧
      (s.plat.expiry = none → t = s)) ∧
    (s.core.flag Reg.WDT_STAT_ARMED = true → ∃ t, exec .watchdogExpiry s = .next t ∧
      t.core.flag Reg.WDT_STAT_ARMED = false ∧ t.core.flag Reg.WDT_STAT_EXPIRED = true ∧ t.core.landLevel .wdtOut = false ∧
      t.plat = { s.plat with expiry := some (s.core.c, s.epoch) } ∧ t.core.evr = s.core.evr ∧
      t.core.fget Reg.WDT_STAT_EXPIRIES = satAdd Reg.WDT_STAT_EXPIRIES.width (s.core.fget Reg.WDT_STAT_EXPIRIES) 1)

/-- R341, R380, R381, R397, R404, R448 to R452: start-up runs its steps in order. The primer load ends valid, is tried again,
or after three failures leaves PRIMER_FAULT; the ROM boots the first slot that verifies, or recovers; without a configuration
the module starts in maintenance. Maintenance at the end of step 8 is the model's reading (entry 98). -/
def Obligations.StartUp : Prop :=
  ∀ (s : State), s.plat.por = false → s.plat.rstLow = false → s.plat.frozen = false →
    (s.plat.step = some 2 → ∀ us : BitVec 16,
      (∃ t, exec (.primerLoadDone true us) s = .next t ∧ t.plat.step = some 3 ∧
        t.core.flag Reg.RST_PRIMER_VALID = true ∧ t.core.flag Reg.RST_CAUSE_COLD = s.plat.srcCold ∧
        t.core.flag Reg.RST_CAUSE_WARM = s.plat.srcWarm ∧ t.core.flag Reg.RST_CAUSE_SELF = s.plat.srcSelf ∧
        t.plat.srcCold = false ∧ t.plat.srcWarm = false ∧ t.plat.srcSelf = false) ∧
      (s.plat.fails + 1 < 3 → ∃ t, exec (.primerLoadDone false us) s = .next t ∧ t.plat.step = some 2 ∧
        t.plat.fails = s.plat.fails + 1) ∧
      (3 ≤ s.plat.fails + 1 → ∃ t, exec (.primerLoadDone false us) s = .next t ∧ t.plat.step = some 3 ∧
        t.core.flag Reg.RST_PRIMER_PRIMER_FAULT = true ∧ t.hasCause 1 = true)) ∧
    (∀ info : StepInfo,
      (s.plat.step = some 1 → ∃ t, exec (.startUpStepDone info) s = .next t ∧ t.plat.step = some 2 ∧
        t.core.fget Reg.CLK_STAT_PLL_LOCK = 15 ∧ t.core.fget Reg.NT_STAT_STATE = 0 ∧ t.nt16 = s.backup16) ∧
      (s.plat.step = some 3 → exec (.startUpStepDone info) s = .next { s with plat := { s.plat with step := some 4 } }) ∧
      (s.plat.step = some 4 → s.core.flag Reg.TMP_STAT_FULL = false → s.sec.trial = none → s.sec.fwPref < 2 →
        ((s.verifyFw info s.sec.fwPref true).1 = true → ∃ t, exec (.startUpStepDone info) s = .next t ∧
          t.plat.step = some 5 ∧ t.core.fget Reg.SEC_BOOT_STAGE = 1 ∧ t.core.fget Reg.SEC_BOOT_FW_SLOT = s.sec.fwPref) ∧
        (s.sec.fw = [none, none] → ∃ t, exec (.startUpStepDone info) s = .next t ∧ t.plat.step = none ∧
          t.core.fget Reg.SEC_BOOT_STAGE = 3)) ∧
      (s.plat.step = some 6 → ∃ t, exec (.startUpStepDone info) s = .next t ∧ t.plat.step = some 7 ∧
        t.core.flag Reg.SEC_BOOT_KEYS_RELEASED = true) ∧
      (s.plat.step = some 7 → ∃ t, exec (.startUpStepDone info) s = .next t ∧ t.plat.step = some 8 ∧
        t.core.flag Reg.EVR_STAT_READY = true ∧ t.core.evr.scanned = true ∧ t.plat.expiry = none) ∧
      (s.plat.step = some 8 → s.sec.cfg = [none, none] → ∃ t, exec (.startUpStepDone info) s = .next t ∧
        t.plat.step = none ∧ t.core.state = 3 ∧ t.hasCause 4 = true ∧ t.core.flag Reg.WDT_STAT_ARMED = true) ∧
      (s.plat.step = some 9 → ∃ t, exec (.startUpStepDone info) s = .next t ∧ t.plat.step = none ∧ t.plat.cold = false ∧
        t.core.fget Reg.RST_START_MS = info.ms % 2 ^ Reg.RST_START_MS.width))

/-- R459, R462, R467, R468: clocks and heat. A lost clock reads as lost and is kept until it returns; metrology stops and runs on with its clock; the
throttle stage follows the junction; 110 °C stops tasks and loops; ten seconds below 100 °C end stages 1 and 2; maintenance
follows the trip. Stage 3 left below 95 °C for stage 0 is the model's reading (entry 104), the record at the clock's return
its choice (entry 105). -/
def Obligations.ClocksAndHeat : Prop :=
  ∀ (s : State),
    (∀ c : Fin 8, s.plat.por = false → s.plat.lost.any (·.1 == c.val) = false → ∃ t x, exec (.clockLoss c) s = .next t ∧
      t.plat.lost = s.plat.lost ++ [(c.val, s.core.c, x)] ∧
      (c.val ≤ 3 → t.core.pllOk c = false) ∧ (c = 0 → t.plat.frozen = true) ∧
      (c = 4 → t.core.flag Reg.CLK_STAT_PCIE_REF_OK = false ∧ ∀ q < 64, t.core.flag Reg.HQ_CFG_ENABLE q = false) ∧
      (c = 5 → t.core.flag Reg.CLK_STAT_MET_OK = false ∧ t.met.blocked = s.core.flag Reg.MET_STAT_RUN ∧
        t.core.flag Reg.MET_STAT_RUN = false) ∧
      (c = 6 → t.core.flag Reg.CLK_STAT_PTNR_OK = false) ∧ (c = 7 → t.core.flag Reg.CAL_STATUS_OSF = true)) ∧
    (∀ (c : Fin 8) (us : Word), s.plat.lost.any (·.1 == c.val) = true → ∃ t, exec (.clockReturn c us) s = .next t ∧
      t.plat.lost.any (·.1 == c.val) = false ∧ (c.val ≤ 3 → t.core.pllOk c = true) ∧ (c = 0 → t.plat.frozen = false) ∧
      (c = 4 → t.core.flag Reg.CLK_STAT_PCIE_REF_OK = true) ∧
      (c = 5 → t.core.flag Reg.CLK_STAT_MET_OK = true ∧ t.met.blocked = false ∧
        (s.met.blocked = true → t.core.flag Reg.MET_STAT_RUN = true))) ∧
    (∀ t₀ : Int, s.dieOn = true → s.plat.rstLow = false → s.core.flag Reg.RST_PRIMER_PRIMER_FAULT = false →
      -(2 ^ 15) ≤ t₀ → t₀ < 2 ^ 15 → let old := s.core.fget Reg.THM_STAT_STAGE
      ∃ t, exec (.junctionMeasure t₀) s = .next t ∧ t.core.sget Reg.THM_STAT_TJ = t₀ ∧
        (1050 ≤ t₀ → t₀ < 1070 → t.core.fget Reg.THM_STAT_STAGE = max old 1) ∧
        (1070 ≤ t₀ → t₀ < 1100 → t.core.fget Reg.THM_STAT_STAGE = max old 2) ∧
        (1100 ≤ t₀ → old < 3 → t.core.fget Reg.THM_STAT_STAGE = 3 ∧ t.cmd.stopAll = true) ∧
        (t₀ < 950 → old = 3 → t.core.fget Reg.THM_STAT_STAGE = 0) ∧
        (950 ≤ t₀ → t₀ < 1050 → t.core.fget Reg.THM_STAT_STAGE = old)) ∧
    (s.plat.cool = true → s.core.fget Reg.THM_STAT_STAGE = 1 ∨ s.core.fget Reg.THM_STAT_STAGE = 2 → ∃ t,
      exec .throttleRelease s = .next t ∧ t.core.fget Reg.THM_STAT_STAGE = 0) ∧
    (s.cmd.stopAll = true → s.hasCause 3 = false → ∃ t, exec .thermalMaintenanceEntry s = .next t ∧ t.core.state = 3 ∧
      t.hasCause 3 = true ∧ (s.core.state ≠ 3 → t.core.flag Reg.TICK_STATUS_RUNNING = false))

/-! ### The recorder and background work (R399 to R413, R470 to R484) -/

/-- R403, R405, R411, R472 to R474, R476, R477, R481, R482: background work. The oldest admitted record takes its slot, and a clear
record empties the others; dropped events are reported; sweeps count; the skim pass counts a corrected word, and marks what an
uncorrectable line has lost; the oldest staged entries go out as a trend page; a block that fails is retired and a
spare replaces it; the fall-back store holds what its check
covers. Counts of the sweeps and the skim pass are in part the model's choice (entries 88 to 91). -/
def Obligations.BackgroundWork : Prop :=
  ∀ (s : State), let e := s.core.evr
    (e.fifo = [] → exec .recordWrite s = .next s) ∧
    (∀ r rest, e.fifo = r :: rest → ∃ k, exec .recordWrite s = .next { s with core := k } ∧ k.evr.fifo = rest ∧
      (r.code ≠ 0x0D01 → k.evr.slots = e.slots.put (slotOf e.f0 r.seq) r ∧ k.evr.f0 = e.f0) ∧
      (r.code = 0x0D01 → k.evr.slots = [(0, r)] ∧ k.evr.f0 = r.seq ∧ k.evr.clears = e.clears + 1)) ∧
    (e.scanned = true → e.dropped ≠ 0 → s.core.evrRoom 0x0D02 = true → ∃ k r, exec .recordsDropped s = .next { s with core := k } ∧
      k.evr.dropped = 0 ∧ k.evr.fifo = e.fifo ++ [r] ∧ r.code = 0x0D02 ∧ r.seq = e.next) ∧
    (s.plat.hold = false →
      (∀ bad, ∃ k, exec (.recorderSweep bad) s = .next { s with core := k } ∧
        k.evr.slots.keys = e.slots.keys ∧ (∀ i ∈ bad, ∀ r, (i, r) ∈ k.evr.slots → r.ok = false) ∧
        k.fget Reg.SWEEP_EVR_PASSES = satAdd Reg.SWEEP_EVR_PASSES.width (s.core.fget Reg.SWEEP_EVR_PASSES) 1) ∧
      (∀ (m : Fin 3) line n b, exec (.skimAccess m line .clean) s = .next s ∧
        (∃ k, exec (.skimAccess m line (.corrected n b)) s = .next { s with core := k } ∧
          s.core.only k [(skimRow m false).key 0] ∧
          k.fget (skimRow m false) = satAdd (skimRow m false).width (s.core.fget (skimRow m false)) n)) ∧
      (∀ (m : Fin 3) line addrs, ∃ t, exec (.skimAccess m line (.bad (.code addrs false))) s = .next t ∧
        (∀ a ∈ addrs, t.trw.codeBad.contains a = true) ∧ t.img = s.img ∧
        t.core.fget (skimRow m true) = satAdd (skimRow m true).width (s.core.fget (skimRow m true)) 1) ∧
      (s.bg.staged ≠ [] → s.bg.pages.wf = true →
        let n := s.core.pair Reg.TREND_NEXT_LO_SEQ_LO Reg.TREND_NEXT_HI_SEQ_HI
        let failed := Config.failedBlocks s.core.fresh
        ∃ t, exec .trendPageWrite s = .next t ∧ t.bg.staged = s.bg.staged.drop 203 ∧
          t.core.pair Reg.TREND_NEXT_LO_SEQ_LO Reg.TREND_NEXT_HI_SEQ_HI = (n + 1) % 2 ^ 64 ∧
          t.bg.retired = s.bg.retired + failed.length ∧
          (failed ≠ [] → t.core.fget Reg.FLASH_STAT_SPARE = spareBlocks - t.bg.retired) ∧
          (0 < t.logPages → t.bg.pages.at? n = some (s.bg.staged.take 203))) ∧
      (∀ (i : Fin 256) (a b : Bool), ∃ t, exec (.keySlotSweep [(i, a, b)]) s = .next t ∧
        (t.slot i).okA = ((s.slot i).okA && !a) ∧ (t.slot i).okB = ((s.slot i).okB && !b) ∧
        t.core.fget Reg.SWEEP_KEYS_PASSES = satAdd Reg.SWEEP_KEYS_PASSES.width (s.core.fget Reg.SWEEP_KEYS_PASSES) 1)) ∧
    (∃ k, exec .fallbackStoreWrite s = .next { s with core := k } ∧ k.bankOk 0 = true ∧ k.bankOk 1 = true ∧
      s.core.only k ((List.range 8).map Reg.BKP_BYTES_DATA.key) ∧ (k.bankBytes 0).take 8 = le e.next 8)

/-! ### The whole machine -/

/-- A step runs the command at the front of the queue on the rest of it; on an empty queue one TIME clock passes (the model's
own choice, entry 2). -/
def Obligations.StepRunsFront : Prop :=
  ∀ (s : State),
    (∀ (c : Instr) (cs : List Instr), step { s with pending := c :: cs } = exec c { s with pending := cs }) ∧
    (s.pending = [] → step s = .next s.passClock ∧ s.passClock.pending = [] ∧
      s.passClock.core.c = if s.ticking then s.core.c + 1 else s.core.c)

/-- R5, R325, R444: after reset no command waits, every register field outside the backup domain has its row's cold value, C
is 0, the reset lines are released and start-up stands at its first step; the invariant holds. The cold values the spec does
not give, and those of the backup domain, are the model's (entries 3 to 5). -/
def Obligations.ResetState : Prop :=
  State.reset.pending = [] ∧ State.reset.Inv ∧ State.reset.core.c = 0 ∧ State.reset.plat.por = false ∧
    State.reset.plat.rstLow = false ∧ State.reset.plat.step = some 1 ∧ step State.reset = .next State.reset.passClock ∧
    ∀ r ∈ Reg.all, r.bkp = false → ∀ i < r.count, State.reset.core.fget r i = r.cold

/-- Every step keeps the invariant, from every state that has it: the waiting commands stay well-formed, the crystal's phase
stays within one of its cycles (R345), and start-up stands at one of its steps, after at most three failed primer loads (R448,
R449). -/
def Obligations.EveryStepKeepsTheInvariant : Prop :=
  ∀ (s t : State), s.Inv → step s = .next t → t.Inv

/-- R325: every command answers with a next state, from every state; none touches the queue that waits, nor the crystal's
phase; none but a power-on reset changes C; and none but a reset and the start-up step that follows changes the running
configuration. -/
def Obligations.EveryCommandAnswersNext : Prop :=
  ∀ (c : Instr) (s : State), ∃ t, exec c s = .next t ∧ t.pending = s.pending ∧ t.bkp.phase = s.bkp.phase ∧
    (c ≠ .powerOnReset → t.core.c = s.core.c) ∧
    (c ≠ .powerOnReset → c ≠ .resetNAssert → c ≠ .trialTimeout → (∀ i, c ≠ .startUpStepDone i) →
      (∀ k us, c ≠ .clockReturn k us) → t.cfg = s.cfg)

/-- R445 and the frames of the families: the backup domain's own state is not reached by a reset, a start-up step, a clock or
a supply; and a command of each family changes no part of the module but those named. -/
def Obligations.FamilyFrames : Prop :=
  ∀ (c : Instr) (s t : State), exec c s = .next t → match c.group with
    | .registers => t.bkp = outsideBkp s.bkp t.bkp ∧ t.plat = runPlat s.plat t.plat
    | .trowel => t = { s with core := t.core, img := t.img, seq := t.seq, trw := t.trw, flt := t.flt, cmd := t.cmd, lane := t.lane
                              pair := t.pair, xch := t.xch, svc := t.svc, hq := t.hq, net := t.net, can := t.can
                              plat := runPlat s.plat t.plat, bg := t.bg }
    | .tick => t.cfg = s.cfg ∧ t.bkp = s.bkp ∧ t.plat = runPlat s.plat t.plat
    | .command => t = { s with core := t.core, img := t.img, trw := t.trw, flt := t.flt, cmd := t.cmd, svc := t.svc, hq := t.hq
                               net := t.net, pair := t.pair, sec := t.sec }
    | .metrology => t.img = s.img ∧ t.cmd = s.cmd ∧ t.lane = s.lane ∧ t.xch = s.xch ∧ t.can = s.can ∧ t.bkp = s.bkp ∧
        t.bg = s.bg ∧ t.plat = runPlat s.plat t.plat
    | .security => t.met = s.met ∧ t.lane = s.lane ∧ t.cmd = s.cmd ∧ t.can = s.can ∧ t.nt = s.nt ∧ t.bkp = s.bkp ∧ t.bg = s.bg ∧
        t.plat = runPlat s.plat t.plat
    | .key => t.img = s.img ∧ t.lane = s.lane ∧ t.can = s.can ∧ t.nt = s.nt ∧ t.bkp = s.bkp ∧
        t.plat = runPlat s.plat t.plat
    | .lane => t.flt = s.flt ∧ t.nt = s.nt ∧ t.bkp = s.bkp ∧ t.sec = s.sec ∧ t.plat = s.plat
    | .pair => t.bkp = s.bkp ∧ t.cfg = s.cfg ∧ t.plat = runPlat s.plat t.plat
    | .exchange => t = { s with core := t.core, img := t.img, xch := t.xch, pair := t.pair }
    | .message => t = { s with core := t.core, img := t.img, svc := t.svc, hq := t.hq, net := t.net }
    | .port => t = { s with core := t.core, img := t.img, net := t.net, svc := t.svc, pair := t.pair, nt := t.nt, seq := t.seq }
    | .can => t = { s with core := t.core, img := t.img, net := t.net, can := t.can, hq := t.hq, pair := t.pair, svc := t.svc }
    | .time => t.img = s.img ∧ t.trw = s.trw ∧ t.flt = s.flt ∧ t.cmd = s.cmd ∧ t.lane = s.lane ∧ t.hq = s.hq ∧ t.svc = s.svc ∧
        t.plat = runPlat s.plat t.plat
    | .backup => t.lane = s.lane ∧ t.xch = s.xch ∧ t.can = s.can ∧ t.plat = runPlat s.plat t.plat
    | .queue => t.nt = s.nt ∧ t.bkp = s.bkp ∧ t.plat = runPlat s.plat t.plat
    | .recorder => t = { s with core := t.core }
    | .background => t.seq = s.seq ∧ t.cmd = s.cmd ∧ t.lane = s.lane ∧ t.xch = s.xch ∧ t.can = s.can ∧
        t.nt = s.nt ∧ t.bkp = s.bkp ∧ t.plat = s.plat
    | .reset => t.bkp = outsideBkp s.bkp t.bkp
end

