-- ==== Sys2Proof/Laws/Maps.lean ====
section
/-! SUPPORT. Sparse arrays and register fields: what a read gives after a write, and that every write keeps the keys rising. -/

namespace Sys2Proof

theorem SMap.at?_put {α : Type} (m : SMap α) (k j : Nat) (x : α) :
    (m.put k x).at? j = if k = j then some x else m.at? j := by
  induction m with
  | nil => simp [SMap.put, SMap.at?]
  | cons p m ih =>
    obtain ⟨a, y⟩ := p
    by_cases h1 : a = k
    · subst h1; simp only [SMap.put, if_true, SMap.at?]; split <;> rfl
    · by_cases h2 : k < a
      · simp only [SMap.put, if_neg h1, if_pos h2, SMap.at?]
      · simp only [SMap.put, if_neg h1, if_neg h2, SMap.at?, ih]
        by_cases h3 : a = j
        · have : k ≠ j := fun h => h1 (h3.trans h.symm)
          simp [h3, this]
        · simp [h3]

/-- What a place holds after a write of a place. -/
theorem SMap.atD_put {α : Type} (m : SMap α) (k j : Nat) (x d : α) :
    (m.put k x).atD j d = if k = j then x else m.atD j d := by
  unfold SMap.atD; rw [SMap.at?_put]; split <;> rfl

@[simp] theorem SMap.atD_put_self {α : Type} (m : SMap α) (k : Nat) (x d : α) : (m.put k x).atD k d = x := by
  simp [SMap.atD_put]

@[simp] theorem SMap.atD_nil {α : Type} (k : Nat) (d : α) : SMap.atD [] k d = d := rfl

theorem SMap.wf_tail {α : Type} {p : Nat × α} {m : SMap α} (h : SMap.wf (p :: m) = true) : SMap.wf m = true := by
  cases m with
  | nil => rfl
  | cons q m => obtain ⟨a, x⟩ := p; obtain ⟨b, y⟩ := q; simp [SMap.wf] at h; exact h.2

/-- Putting a value keeps the keys rising. -/
theorem SMap.wf_put {α : Type} (m : SMap α) (k : Nat) (x : α) (h : m.wf = true) : (m.put k x).wf = true := by
  induction m with
  | nil => rfl
  | cons p m ih =>
    obtain ⟨a, y⟩ := p
    by_cases h1 : a = k
    · subst h1
      cases m with
      | nil => simp [SMap.put, SMap.wf]
      | cons q m => obtain ⟨b, z⟩ := q; simpa [SMap.put, SMap.wf] using h
    · by_cases h2 : k < a
      · simp only [SMap.put, if_neg h1, if_pos h2]; simp only [SMap.wf, Bool.and_eq_true, decide_eq_true_eq]; exact ⟨h2, h⟩
      · simp only [SMap.put, if_neg h1, if_neg h2]
        have hw := ih (SMap.wf_tail h)
        cases m with
        | nil => simp [SMap.put, SMap.wf]; omega
        | cons q m =>
          obtain ⟨b, z⟩ := q
          simp only [SMap.wf, Bool.and_eq_true, decide_eq_true_eq] at h
          by_cases h3 : b = k
          · simp only [SMap.put, if_pos h3, SMap.wf, Bool.and_eq_true, decide_eq_true_eq] at hw ⊢
            exact ⟨by omega, hw⟩
          · by_cases h4 : k < b
            · simp only [SMap.put, if_neg h3, if_pos h4, SMap.wf, Bool.and_eq_true, decide_eq_true_eq] at hw ⊢
              exact ⟨by omega, hw⟩
            · simp only [SMap.put, if_neg h3, if_neg h4, SMap.wf, Bool.and_eq_true, decide_eq_true_eq] at hw ⊢
              exact ⟨h.1, hw⟩

/-! ### Register fields -/

/-- What a field reads after a write of a field. -/
theorem Core.fget_fput (k : Core) (r r' : Row) (v i i' : Nat) :
    (k.fput r v i).fget r' i' = if r.key i = r'.key i' then v % 2 ^ r.width else k.fget r' i' := by
  unfold Core.fget Core.fput; rw [SMap.atD_put]

@[simp] theorem Core.fget_fput_self (k : Core) (r : Row) (v i : Nat) : (k.fput r v i).fget r i = v % 2 ^ r.width := by
  simp [Core.fget_fput]

@[simp] theorem Core.fput_c (k : Core) (r : Row) (v i : Nat) : (k.fput r v i).c = k.c := rfl
@[simp] theorem Core.fput_out (k : Core) (r : Row) (v i : Nat) : (k.fput r v i).out = k.out := rfl
@[simp] theorem Core.fput_evr (k : Core) (r : Row) (v i : Nat) : (k.fput r v i).evr = k.evr := rfl
@[simp] theorem Core.fput_rings (k : Core) (r : Row) (v i : Nat) : (k.fput r v i).rings = k.rings := rfl
@[simp] theorem Core.fput_lands (k : Core) (r : Row) (v i : Nat) : (k.fput r v i).lands = k.lands := rfl
@[simp] theorem Core.fput_latch (k : Core) (r : Row) (v i : Nat) : (k.fput r v i).latch = k.latch := rfl
@[simp] theorem Core.fput_fresh (k : Core) (r : Row) (v i : Nat) : (k.fput r v i).fresh = k.fresh := rfl

/-- What a flag reads after a flag is set. -/
theorem Core.flag_setFlag (k : Core) (r : Row) (b : Bool) (i : Nat) (h : 0 < r.width) : (k.setFlag r b i).flag r i = b := by
  have h2 : (1 : Nat) % 2 ^ r.width = 1 := Nat.mod_eq_of_lt (Nat.one_lt_two_pow (by omega))
  unfold Core.setFlag Core.flag
  rw [Core.fget_fput_self]
  cases b <;> simp [h2]

@[simp] theorem Core.after_c (a b : Core) : (a.after b).c = a.c := rfl
@[simp] theorem Core.after_regs (a b : Core) : (a.after b).regs = b.regs := rfl
@[simp] theorem Core.after_out (a b : Core) : (a.after b).out = b.out := rfl
@[simp] theorem Core.after_evr (a b : Core) : (a.after b).evr = b.evr := rfl
@[simp] theorem Core.after_lands (a b : Core) : (a.after b).lands = b.lands := rfl
@[simp] theorem Core.after_latch (a b : Core) : (a.after b).latch = b.latch := rfl
@[simp] theorem Core.fget_after (a b : Core) (r : Row) (i : Nat) : (a.after b).fget r i = b.fget r i := rfl
@[simp] theorem Core.flag_after (a b : Core) (r : Row) (i : Nat) : (a.after b).flag r i = b.flag r i := rfl

@[simp] theorem Core.emit_regs (k : Core) (o : Out) : (k.emit o).regs = k.regs := rfl
@[simp] theorem Core.emit_c (k : Core) (o : Out) : (k.emit o).c = k.c := rfl
@[simp] theorem Core.emit_out (k : Core) (o : Out) : (k.emit o).out = o :: k.out := rfl
@[simp] theorem Core.fget_emit (k : Core) (o : Out) (r : Row) (i : Nat) : (k.emit o).fget r i = k.fget r i := rfl
@[simp] theorem Core.flag_emit (k : Core) (o : Out) (r : Row) (i : Nat) : (k.emit o).flag r i = k.flag r i := rfl

/-- A land reads the level it was last driven to. -/
theorem Core.landLevel_drive (k : Core) (l : Land) (v : Bool) : (k.drive l v).landLevel l = v := by
  simp [Core.drive, Core.landLevel, Core.emit]

end Sys2Proof
end

