-- ==== Sys2Proof/Laws/State.lean ====
section
/-! SUPPORT. One lemma per field per update of State, true by rfl: what each family of commands may change, and what it
leaves. -/

namespace Sys2Proof.Machine

@[simp] theorem State.onCore_pending (s : State) (f : Core → Core) : (s.onCore f).pending = s.pending := rfl
@[simp] theorem State.onCore_core (s : State) (f : Core → Core) : (s.onCore f).core = f s.core := rfl
@[simp] theorem State.onCore_cfg (s : State) (f : Core → Core) : (s.onCore f).cfg = s.cfg := rfl
@[simp] theorem State.onCore_img (s : State) (f : Core → Core) : (s.onCore f).img = s.img := rfl
@[simp] theorem State.onCore_seq (s : State) (f : Core → Core) : (s.onCore f).seq = s.seq := rfl
@[simp] theorem State.onCore_trw (s : State) (f : Core → Core) : (s.onCore f).trw = s.trw := rfl
@[simp] theorem State.onCore_flt (s : State) (f : Core → Core) : (s.onCore f).flt = s.flt := rfl
@[simp] theorem State.onCore_cmd (s : State) (f : Core → Core) : (s.onCore f).cmd = s.cmd := rfl
@[simp] theorem State.onCore_met (s : State) (f : Core → Core) : (s.onCore f).met = s.met := rfl
@[simp] theorem State.onCore_lane (s : State) (f : Core → Core) : (s.onCore f).lane = s.lane := rfl
@[simp] theorem State.onCore_pair (s : State) (f : Core → Core) : (s.onCore f).pair = s.pair := rfl
@[simp] theorem State.onCore_xch (s : State) (f : Core → Core) : (s.onCore f).xch = s.xch := rfl
@[simp] theorem State.onCore_svc (s : State) (f : Core → Core) : (s.onCore f).svc = s.svc := rfl
@[simp] theorem State.onCore_hq (s : State) (f : Core → Core) : (s.onCore f).hq = s.hq := rfl
@[simp] theorem State.onCore_net (s : State) (f : Core → Core) : (s.onCore f).net = s.net := rfl
@[simp] theorem State.onCore_can (s : State) (f : Core → Core) : (s.onCore f).can = s.can := rfl
@[simp] theorem State.onCore_nt (s : State) (f : Core → Core) : (s.onCore f).nt = s.nt := rfl
@[simp] theorem State.onCore_bkp (s : State) (f : Core → Core) : (s.onCore f).bkp = s.bkp := rfl
@[simp] theorem State.onCore_sec (s : State) (f : Core → Core) : (s.onCore f).sec = s.sec := rfl
@[simp] theorem State.onCore_plat (s : State) (f : Core → Core) : (s.onCore f).plat = s.plat := rfl
@[simp] theorem State.onCore_bg (s : State) (f : Core → Core) : (s.onCore f).bg = s.bg := rfl
@[simp] theorem State.onBkp_pending (s : State) (f : Bkp → Bkp) : (s.onBkp f).pending = s.pending := rfl
@[simp] theorem State.onBkp_core (s : State) (f : Bkp → Bkp) : (s.onBkp f).core = s.core := rfl
@[simp] theorem State.onBkp_cfg (s : State) (f : Bkp → Bkp) : (s.onBkp f).cfg = s.cfg := rfl
@[simp] theorem State.onBkp_img (s : State) (f : Bkp → Bkp) : (s.onBkp f).img = s.img := rfl
@[simp] theorem State.onBkp_seq (s : State) (f : Bkp → Bkp) : (s.onBkp f).seq = s.seq := rfl
@[simp] theorem State.onBkp_trw (s : State) (f : Bkp → Bkp) : (s.onBkp f).trw = s.trw := rfl
@[simp] theorem State.onBkp_flt (s : State) (f : Bkp → Bkp) : (s.onBkp f).flt = s.flt := rfl
@[simp] theorem State.onBkp_cmd (s : State) (f : Bkp → Bkp) : (s.onBkp f).cmd = s.cmd := rfl
@[simp] theorem State.onBkp_met (s : State) (f : Bkp → Bkp) : (s.onBkp f).met = s.met := rfl
@[simp] theorem State.onBkp_lane (s : State) (f : Bkp → Bkp) : (s.onBkp f).lane = s.lane := rfl
@[simp] theorem State.onBkp_pair (s : State) (f : Bkp → Bkp) : (s.onBkp f).pair = s.pair := rfl
@[simp] theorem State.onBkp_xch (s : State) (f : Bkp → Bkp) : (s.onBkp f).xch = s.xch := rfl
@[simp] theorem State.onBkp_svc (s : State) (f : Bkp → Bkp) : (s.onBkp f).svc = s.svc := rfl
@[simp] theorem State.onBkp_hq (s : State) (f : Bkp → Bkp) : (s.onBkp f).hq = s.hq := rfl
@[simp] theorem State.onBkp_net (s : State) (f : Bkp → Bkp) : (s.onBkp f).net = s.net := rfl
@[simp] theorem State.onBkp_can (s : State) (f : Bkp → Bkp) : (s.onBkp f).can = s.can := rfl
@[simp] theorem State.onBkp_nt (s : State) (f : Bkp → Bkp) : (s.onBkp f).nt = s.nt := rfl
@[simp] theorem State.onBkp_bkp (s : State) (f : Bkp → Bkp) : (s.onBkp f).bkp = f s.bkp := rfl
@[simp] theorem State.onBkp_sec (s : State) (f : Bkp → Bkp) : (s.onBkp f).sec = s.sec := rfl
@[simp] theorem State.onBkp_plat (s : State) (f : Bkp → Bkp) : (s.onBkp f).plat = s.plat := rfl
@[simp] theorem State.onBkp_bg (s : State) (f : Bkp → Bkp) : (s.onBkp f).bg = s.bg := rfl
@[simp] theorem State.rest_pending (s : State) (cs : List Instr) : (s.rest cs).pending = cs := rfl
@[simp] theorem State.rest_core (s : State) (cs : List Instr) : (s.rest cs).core = s.core := rfl
@[simp] theorem State.rest_cfg (s : State) (cs : List Instr) : (s.rest cs).cfg = s.cfg := rfl
@[simp] theorem State.rest_img (s : State) (cs : List Instr) : (s.rest cs).img = s.img := rfl
@[simp] theorem State.rest_seq (s : State) (cs : List Instr) : (s.rest cs).seq = s.seq := rfl
@[simp] theorem State.rest_trw (s : State) (cs : List Instr) : (s.rest cs).trw = s.trw := rfl
@[simp] theorem State.rest_flt (s : State) (cs : List Instr) : (s.rest cs).flt = s.flt := rfl
@[simp] theorem State.rest_cmd (s : State) (cs : List Instr) : (s.rest cs).cmd = s.cmd := rfl
@[simp] theorem State.rest_met (s : State) (cs : List Instr) : (s.rest cs).met = s.met := rfl
@[simp] theorem State.rest_lane (s : State) (cs : List Instr) : (s.rest cs).lane = s.lane := rfl
@[simp] theorem State.rest_pair (s : State) (cs : List Instr) : (s.rest cs).pair = s.pair := rfl
@[simp] theorem State.rest_xch (s : State) (cs : List Instr) : (s.rest cs).xch = s.xch := rfl
@[simp] theorem State.rest_svc (s : State) (cs : List Instr) : (s.rest cs).svc = s.svc := rfl
@[simp] theorem State.rest_hq (s : State) (cs : List Instr) : (s.rest cs).hq = s.hq := rfl
@[simp] theorem State.rest_net (s : State) (cs : List Instr) : (s.rest cs).net = s.net := rfl
@[simp] theorem State.rest_can (s : State) (cs : List Instr) : (s.rest cs).can = s.can := rfl
@[simp] theorem State.rest_nt (s : State) (cs : List Instr) : (s.rest cs).nt = s.nt := rfl
@[simp] theorem State.rest_bkp (s : State) (cs : List Instr) : (s.rest cs).bkp = s.bkp := rfl
@[simp] theorem State.rest_sec (s : State) (cs : List Instr) : (s.rest cs).sec = s.sec := rfl
@[simp] theorem State.rest_plat (s : State) (cs : List Instr) : (s.rest cs).plat = s.plat := rfl
@[simp] theorem State.rest_bg (s : State) (cs : List Instr) : (s.rest cs).bg = s.bg := rfl

@[simp] theorem State.upBack_pending (s t : State) : (s.upBack t).pending = s.pending := rfl
@[simp] theorem State.upBack_core (s t : State) : (s.upBack t).core = s.core.after t.core := rfl
@[simp] theorem State.upBack_cfg (s t : State) : (s.upBack t).cfg = s.cfg := rfl
@[simp] theorem State.upBack_img (s t : State) : (s.upBack t).img = t.img := rfl
@[simp] theorem State.upBack_seq (s t : State) : (s.upBack t).seq = s.seq := rfl
@[simp] theorem State.upBack_trw (s t : State) : (s.upBack t).trw = t.trw := rfl
@[simp] theorem State.upBack_flt (s t : State) : (s.upBack t).flt = t.flt := rfl
@[simp] theorem State.upBack_cmd (s t : State) : (s.upBack t).cmd = s.cmd := rfl
@[simp] theorem State.upBack_met (s t : State) : (s.upBack t).met = t.met := rfl
@[simp] theorem State.upBack_lane (s t : State) : (s.upBack t).lane = s.lane := rfl
@[simp] theorem State.upBack_pair (s t : State) : (s.upBack t).pair = t.pair := rfl
@[simp] theorem State.upBack_xch (s t : State) : (s.upBack t).xch = s.xch := rfl
@[simp] theorem State.upBack_svc (s t : State) : (s.upBack t).svc = t.svc := rfl
@[simp] theorem State.upBack_hq (s t : State) : (s.upBack t).hq = t.hq := rfl
@[simp] theorem State.upBack_net (s t : State) : (s.upBack t).net = t.net := rfl
@[simp] theorem State.upBack_can (s t : State) : (s.upBack t).can = s.can := rfl
@[simp] theorem State.upBack_nt (s t : State) : (s.upBack t).nt = s.nt := rfl
@[simp] theorem State.upBack_bkp (s t : State) : (s.upBack t).bkp = s.bkp := rfl
@[simp] theorem State.upBack_sec (s t : State) : (s.upBack t).sec = t.sec := rfl
@[simp] theorem State.upBack_plat (s t : State) : (s.upBack t).plat = s.plat := rfl
@[simp] theorem State.upBack_bg (s t : State) : (s.upBack t).bg = t.bg := rfl

@[simp] theorem State.upBkp_pending (s t : State) : (s.upBkp t).pending = s.pending := rfl
@[simp] theorem State.upBkp_core (s t : State) : (s.upBkp t).core = s.core.after t.core := rfl
@[simp] theorem State.upBkp_cfg (s t : State) : (s.upBkp t).cfg = s.cfg := rfl
@[simp] theorem State.upBkp_img (s t : State) : (s.upBkp t).img = t.img := rfl
@[simp] theorem State.upBkp_seq (s t : State) : (s.upBkp t).seq = t.seq := rfl
@[simp] theorem State.upBkp_trw (s t : State) : (s.upBkp t).trw = t.trw := rfl
@[simp] theorem State.upBkp_flt (s t : State) : (s.upBkp t).flt = t.flt := rfl
@[simp] theorem State.upBkp_cmd (s t : State) : (s.upBkp t).cmd = t.cmd := rfl
@[simp] theorem State.upBkp_met (s t : State) : (s.upBkp t).met = t.met := rfl
@[simp] theorem State.upBkp_lane (s t : State) : (s.upBkp t).lane = s.lane := rfl
@[simp] theorem State.upBkp_pair (s t : State) : (s.upBkp t).pair = t.pair := rfl
@[simp] theorem State.upBkp_xch (s t : State) : (s.upBkp t).xch = s.xch := rfl
@[simp] theorem State.upBkp_svc (s t : State) : (s.upBkp t).svc = t.svc := rfl
@[simp] theorem State.upBkp_hq (s t : State) : (s.upBkp t).hq = t.hq := rfl
@[simp] theorem State.upBkp_net (s t : State) : (s.upBkp t).net = t.net := rfl
@[simp] theorem State.upBkp_can (s t : State) : (s.upBkp t).can = s.can := rfl
@[simp] theorem State.upBkp_nt (s t : State) : (s.upBkp t).nt = t.nt := rfl
@[simp] theorem State.upBkp_bkp (s t : State) : (s.upBkp t).bkp = duringBkp s.bkp t.bkp := rfl
@[simp] theorem State.upBkp_sec (s t : State) : (s.upBkp t).sec = t.sec := rfl
@[simp] theorem State.upBkp_plat (s t : State) : (s.upBkp t).plat = runPlat s.plat t.plat := rfl
@[simp] theorem State.upBkp_bg (s t : State) : (s.upBkp t).bg = t.bg := rfl

@[simp] theorem State.upCan_pending (s t : State) : (s.upCan t).pending = s.pending := rfl
@[simp] theorem State.upCan_core (s t : State) : (s.upCan t).core = s.core.after t.core := rfl
@[simp] theorem State.upCan_cfg (s t : State) : (s.upCan t).cfg = s.cfg := rfl
@[simp] theorem State.upCan_img (s t : State) : (s.upCan t).img = t.img := rfl
@[simp] theorem State.upCan_seq (s t : State) : (s.upCan t).seq = s.seq := rfl
@[simp] theorem State.upCan_trw (s t : State) : (s.upCan t).trw = s.trw := rfl
@[simp] theorem State.upCan_flt (s t : State) : (s.upCan t).flt = s.flt := rfl
@[simp] theorem State.upCan_cmd (s t : State) : (s.upCan t).cmd = s.cmd := rfl
@[simp] theorem State.upCan_met (s t : State) : (s.upCan t).met = s.met := rfl
@[simp] theorem State.upCan_lane (s t : State) : (s.upCan t).lane = s.lane := rfl
@[simp] theorem State.upCan_pair (s t : State) : (s.upCan t).pair = t.pair := rfl
@[simp] theorem State.upCan_xch (s t : State) : (s.upCan t).xch = s.xch := rfl
@[simp] theorem State.upCan_svc (s t : State) : (s.upCan t).svc = t.svc := rfl
@[simp] theorem State.upCan_hq (s t : State) : (s.upCan t).hq = t.hq := rfl
@[simp] theorem State.upCan_net (s t : State) : (s.upCan t).net = t.net := rfl
@[simp] theorem State.upCan_can (s t : State) : (s.upCan t).can = t.can := rfl
@[simp] theorem State.upCan_nt (s t : State) : (s.upCan t).nt = s.nt := rfl
@[simp] theorem State.upCan_bkp (s t : State) : (s.upCan t).bkp = s.bkp := rfl
@[simp] theorem State.upCan_sec (s t : State) : (s.upCan t).sec = s.sec := rfl
@[simp] theorem State.upCan_plat (s t : State) : (s.upCan t).plat = s.plat := rfl
@[simp] theorem State.upCan_bg (s t : State) : (s.upCan t).bg = s.bg := rfl

@[simp] theorem State.upCmd_pending (s t : State) : (s.upCmd t).pending = s.pending := rfl
@[simp] theorem State.upCmd_core (s t : State) : (s.upCmd t).core = s.core.after t.core := rfl
@[simp] theorem State.upCmd_cfg (s t : State) : (s.upCmd t).cfg = s.cfg := rfl
@[simp] theorem State.upCmd_img (s t : State) : (s.upCmd t).img = t.img := rfl
@[simp] theorem State.upCmd_seq (s t : State) : (s.upCmd t).seq = s.seq := rfl
@[simp] theorem State.upCmd_trw (s t : State) : (s.upCmd t).trw = t.trw := rfl
@[simp] theorem State.upCmd_flt (s t : State) : (s.upCmd t).flt = t.flt := rfl
@[simp] theorem State.upCmd_cmd (s t : State) : (s.upCmd t).cmd = t.cmd := rfl
@[simp] theorem State.upCmd_met (s t : State) : (s.upCmd t).met = s.met := rfl
@[simp] theorem State.upCmd_lane (s t : State) : (s.upCmd t).lane = s.lane := rfl
@[simp] theorem State.upCmd_pair (s t : State) : (s.upCmd t).pair = t.pair := rfl
@[simp] theorem State.upCmd_xch (s t : State) : (s.upCmd t).xch = s.xch := rfl
@[simp] theorem State.upCmd_svc (s t : State) : (s.upCmd t).svc = t.svc := rfl
@[simp] theorem State.upCmd_hq (s t : State) : (s.upCmd t).hq = t.hq := rfl
@[simp] theorem State.upCmd_net (s t : State) : (s.upCmd t).net = t.net := rfl
@[simp] theorem State.upCmd_can (s t : State) : (s.upCmd t).can = s.can := rfl
@[simp] theorem State.upCmd_nt (s t : State) : (s.upCmd t).nt = s.nt := rfl
@[simp] theorem State.upCmd_bkp (s t : State) : (s.upCmd t).bkp = s.bkp := rfl
@[simp] theorem State.upCmd_sec (s t : State) : (s.upCmd t).sec = t.sec := rfl
@[simp] theorem State.upCmd_plat (s t : State) : (s.upCmd t).plat = s.plat := rfl
@[simp] theorem State.upCmd_bg (s t : State) : (s.upCmd t).bg = s.bg := rfl

@[simp] theorem State.upCold_pending (s t : State) : (s.upCold t).pending = s.pending := rfl
@[simp] theorem State.upCold_core (s t : State) : (s.upCold t).core = t.core := rfl
@[simp] theorem State.upCold_cfg (s t : State) : (s.upCold t).cfg = t.cfg := rfl
@[simp] theorem State.upCold_img (s t : State) : (s.upCold t).img = t.img := rfl
@[simp] theorem State.upCold_seq (s t : State) : (s.upCold t).seq = t.seq := rfl
@[simp] theorem State.upCold_trw (s t : State) : (s.upCold t).trw = t.trw := rfl
@[simp] theorem State.upCold_flt (s t : State) : (s.upCold t).flt = t.flt := rfl
@[simp] theorem State.upCold_cmd (s t : State) : (s.upCold t).cmd = t.cmd := rfl
@[simp] theorem State.upCold_met (s t : State) : (s.upCold t).met = t.met := rfl
@[simp] theorem State.upCold_lane (s t : State) : (s.upCold t).lane = t.lane := rfl
@[simp] theorem State.upCold_pair (s t : State) : (s.upCold t).pair = t.pair := rfl
@[simp] theorem State.upCold_xch (s t : State) : (s.upCold t).xch = t.xch := rfl
@[simp] theorem State.upCold_svc (s t : State) : (s.upCold t).svc = t.svc := rfl
@[simp] theorem State.upCold_hq (s t : State) : (s.upCold t).hq = t.hq := rfl
@[simp] theorem State.upCold_net (s t : State) : (s.upCold t).net = t.net := rfl
@[simp] theorem State.upCold_can (s t : State) : (s.upCold t).can = t.can := rfl
@[simp] theorem State.upCold_nt (s t : State) : (s.upCold t).nt = t.nt := rfl
@[simp] theorem State.upCold_bkp (s t : State) : (s.upCold t).bkp = outsideBkp s.bkp t.bkp := rfl
@[simp] theorem State.upCold_sec (s t : State) : (s.upCold t).sec = t.sec := rfl
@[simp] theorem State.upCold_plat (s t : State) : (s.upCold t).plat = t.plat := rfl
@[simp] theorem State.upCold_bg (s t : State) : (s.upCold t).bg = t.bg := rfl

@[simp] theorem State.upEnd_pending (s t : State) : (s.upEnd t).pending = s.pending := rfl
@[simp] theorem State.upEnd_core (s t : State) : (s.upEnd t).core = s.core.after t.core := rfl
@[simp] theorem State.upEnd_cfg (s t : State) : (s.upEnd t).cfg = s.cfg := rfl
@[simp] theorem State.upEnd_img (s t : State) : (s.upEnd t).img = t.img := rfl
@[simp] theorem State.upEnd_seq (s t : State) : (s.upEnd t).seq = s.seq := rfl
@[simp] theorem State.upEnd_trw (s t : State) : (s.upEnd t).trw = s.trw := rfl
@[simp] theorem State.upEnd_flt (s t : State) : (s.upEnd t).flt = s.flt := rfl
@[simp] theorem State.upEnd_cmd (s t : State) : (s.upEnd t).cmd = s.cmd := rfl
@[simp] theorem State.upEnd_met (s t : State) : (s.upEnd t).met = s.met := rfl
@[simp] theorem State.upEnd_lane (s t : State) : (s.upEnd t).lane = s.lane := rfl
@[simp] theorem State.upEnd_pair (s t : State) : (s.upEnd t).pair = s.pair := rfl
@[simp] theorem State.upEnd_xch (s t : State) : (s.upEnd t).xch = s.xch := rfl
@[simp] theorem State.upEnd_svc (s t : State) : (s.upEnd t).svc = t.svc := rfl
@[simp] theorem State.upEnd_hq (s t : State) : (s.upEnd t).hq = s.hq := rfl
@[simp] theorem State.upEnd_net (s t : State) : (s.upEnd t).net = t.net := rfl
@[simp] theorem State.upEnd_can (s t : State) : (s.upEnd t).can = s.can := rfl
@[simp] theorem State.upEnd_nt (s t : State) : (s.upEnd t).nt = s.nt := rfl
@[simp] theorem State.upEnd_bkp (s t : State) : (s.upEnd t).bkp = s.bkp := rfl
@[simp] theorem State.upEnd_sec (s t : State) : (s.upEnd t).sec = s.sec := rfl
@[simp] theorem State.upEnd_plat (s t : State) : (s.upEnd t).plat = s.plat := rfl
@[simp] theorem State.upEnd_bg (s t : State) : (s.upEnd t).bg = s.bg := rfl

@[simp] theorem State.upFlt_pending (s t : State) : (s.upFlt t).pending = s.pending := rfl
@[simp] theorem State.upFlt_core (s t : State) : (s.upFlt t).core = s.core.after t.core := rfl
@[simp] theorem State.upFlt_cfg (s t : State) : (s.upFlt t).cfg = s.cfg := rfl
@[simp] theorem State.upFlt_img (s t : State) : (s.upFlt t).img = t.img := rfl
@[simp] theorem State.upFlt_seq (s t : State) : (s.upFlt t).seq = t.seq := rfl
@[simp] theorem State.upFlt_trw (s t : State) : (s.upFlt t).trw = t.trw := rfl
@[simp] theorem State.upFlt_flt (s t : State) : (s.upFlt t).flt = t.flt := rfl
@[simp] theorem State.upFlt_cmd (s t : State) : (s.upFlt t).cmd = t.cmd := rfl
@[simp] theorem State.upFlt_met (s t : State) : (s.upFlt t).met = s.met := rfl
@[simp] theorem State.upFlt_lane (s t : State) : (s.upFlt t).lane = t.lane := rfl
@[simp] theorem State.upFlt_pair (s t : State) : (s.upFlt t).pair = t.pair := rfl
@[simp] theorem State.upFlt_xch (s t : State) : (s.upFlt t).xch = t.xch := rfl
@[simp] theorem State.upFlt_svc (s t : State) : (s.upFlt t).svc = t.svc := rfl
@[simp] theorem State.upFlt_hq (s t : State) : (s.upFlt t).hq = t.hq := rfl
@[simp] theorem State.upFlt_net (s t : State) : (s.upFlt t).net = t.net := rfl
@[simp] theorem State.upFlt_can (s t : State) : (s.upFlt t).can = t.can := rfl
@[simp] theorem State.upFlt_nt (s t : State) : (s.upFlt t).nt = s.nt := rfl
@[simp] theorem State.upFlt_bkp (s t : State) : (s.upFlt t).bkp = s.bkp := rfl
@[simp] theorem State.upFlt_sec (s t : State) : (s.upFlt t).sec = s.sec := rfl
@[simp] theorem State.upFlt_plat (s t : State) : (s.upFlt t).plat = runPlat s.plat t.plat := rfl
@[simp] theorem State.upFlt_bg (s t : State) : (s.upFlt t).bg = t.bg := rfl

@[simp] theorem State.upHq_pending (s t : State) : (s.upHq t).pending = s.pending := rfl
@[simp] theorem State.upHq_core (s t : State) : (s.upHq t).core = s.core.after t.core := rfl
@[simp] theorem State.upHq_cfg (s t : State) : (s.upHq t).cfg = s.cfg := rfl
@[simp] theorem State.upHq_img (s t : State) : (s.upHq t).img = t.img := rfl
@[simp] theorem State.upHq_seq (s t : State) : (s.upHq t).seq = t.seq := rfl
@[simp] theorem State.upHq_trw (s t : State) : (s.upHq t).trw = t.trw := rfl
@[simp] theorem State.upHq_flt (s t : State) : (s.upHq t).flt = t.flt := rfl
@[simp] theorem State.upHq_cmd (s t : State) : (s.upHq t).cmd = t.cmd := rfl
@[simp] theorem State.upHq_met (s t : State) : (s.upHq t).met = t.met := rfl
@[simp] theorem State.upHq_lane (s t : State) : (s.upHq t).lane = t.lane := rfl
@[simp] theorem State.upHq_pair (s t : State) : (s.upHq t).pair = t.pair := rfl
@[simp] theorem State.upHq_xch (s t : State) : (s.upHq t).xch = t.xch := rfl
@[simp] theorem State.upHq_svc (s t : State) : (s.upHq t).svc = t.svc := rfl
@[simp] theorem State.upHq_hq (s t : State) : (s.upHq t).hq = t.hq := rfl
@[simp] theorem State.upHq_net (s t : State) : (s.upHq t).net = t.net := rfl
@[simp] theorem State.upHq_can (s t : State) : (s.upHq t).can = t.can := rfl
@[simp] theorem State.upHq_nt (s t : State) : (s.upHq t).nt = s.nt := rfl
@[simp] theorem State.upHq_bkp (s t : State) : (s.upHq t).bkp = s.bkp := rfl
@[simp] theorem State.upHq_sec (s t : State) : (s.upHq t).sec = t.sec := rfl
@[simp] theorem State.upHq_plat (s t : State) : (s.upHq t).plat = runPlat s.plat t.plat := rfl
@[simp] theorem State.upHq_bg (s t : State) : (s.upHq t).bg = t.bg := rfl

@[simp] theorem State.upKey_pending (s t : State) : (s.upKey t).pending = s.pending := rfl
@[simp] theorem State.upKey_core (s t : State) : (s.upKey t).core = s.core.after t.core := rfl
@[simp] theorem State.upKey_cfg (s t : State) : (s.upKey t).cfg = s.cfg := rfl
@[simp] theorem State.upKey_img (s t : State) : (s.upKey t).img = s.img := rfl
@[simp] theorem State.upKey_seq (s t : State) : (s.upKey t).seq = s.seq := rfl
@[simp] theorem State.upKey_trw (s t : State) : (s.upKey t).trw = t.trw := rfl
@[simp] theorem State.upKey_flt (s t : State) : (s.upKey t).flt = s.flt := rfl
@[simp] theorem State.upKey_cmd (s t : State) : (s.upKey t).cmd = t.cmd := rfl
@[simp] theorem State.upKey_met (s t : State) : (s.upKey t).met = t.met := rfl
@[simp] theorem State.upKey_lane (s t : State) : (s.upKey t).lane = s.lane := rfl
@[simp] theorem State.upKey_pair (s t : State) : (s.upKey t).pair = t.pair := rfl
@[simp] theorem State.upKey_xch (s t : State) : (s.upKey t).xch = s.xch := rfl
@[simp] theorem State.upKey_svc (s t : State) : (s.upKey t).svc = t.svc := rfl
@[simp] theorem State.upKey_hq (s t : State) : (s.upKey t).hq = t.hq := rfl
@[simp] theorem State.upKey_net (s t : State) : (s.upKey t).net = t.net := rfl
@[simp] theorem State.upKey_can (s t : State) : (s.upKey t).can = s.can := rfl
@[simp] theorem State.upKey_nt (s t : State) : (s.upKey t).nt = s.nt := rfl
@[simp] theorem State.upKey_bkp (s t : State) : (s.upKey t).bkp = s.bkp := rfl
@[simp] theorem State.upKey_sec (s t : State) : (s.upKey t).sec = t.sec := rfl
@[simp] theorem State.upKey_plat (s t : State) : (s.upKey t).plat = runPlat s.plat t.plat := rfl
@[simp] theorem State.upKey_bg (s t : State) : (s.upKey t).bg = t.bg := rfl

@[simp] theorem State.upLane_pending (s t : State) : (s.upLane t).pending = s.pending := rfl
@[simp] theorem State.upLane_core (s t : State) : (s.upLane t).core = s.core.after t.core := rfl
@[simp] theorem State.upLane_cfg (s t : State) : (s.upLane t).cfg = s.cfg := rfl
@[simp] theorem State.upLane_img (s t : State) : (s.upLane t).img = t.img := rfl
@[simp] theorem State.upLane_seq (s t : State) : (s.upLane t).seq = t.seq := rfl
@[simp] theorem State.upLane_trw (s t : State) : (s.upLane t).trw = t.trw := rfl
@[simp] theorem State.upLane_flt (s t : State) : (s.upLane t).flt = s.flt := rfl
@[simp] theorem State.upLane_cmd (s t : State) : (s.upLane t).cmd = t.cmd := rfl
@[simp] theorem State.upLane_met (s t : State) : (s.upLane t).met = t.met := rfl
@[simp] theorem State.upLane_lane (s t : State) : (s.upLane t).lane = t.lane := rfl
@[simp] theorem State.upLane_pair (s t : State) : (s.upLane t).pair = t.pair := rfl
@[simp] theorem State.upLane_xch (s t : State) : (s.upLane t).xch = t.xch := rfl
@[simp] theorem State.upLane_svc (s t : State) : (s.upLane t).svc = t.svc := rfl
@[simp] theorem State.upLane_hq (s t : State) : (s.upLane t).hq = t.hq := rfl
@[simp] theorem State.upLane_net (s t : State) : (s.upLane t).net = t.net := rfl
@[simp] theorem State.upLane_can (s t : State) : (s.upLane t).can = t.can := rfl
@[simp] theorem State.upLane_nt (s t : State) : (s.upLane t).nt = s.nt := rfl
@[simp] theorem State.upLane_bkp (s t : State) : (s.upLane t).bkp = s.bkp := rfl
@[simp] theorem State.upLane_sec (s t : State) : (s.upLane t).sec = s.sec := rfl
@[simp] theorem State.upLane_plat (s t : State) : (s.upLane t).plat = s.plat := rfl
@[simp] theorem State.upLane_bg (s t : State) : (s.upLane t).bg = t.bg := rfl

@[simp] theorem State.upMet_pending (s t : State) : (s.upMet t).pending = s.pending := rfl
@[simp] theorem State.upMet_core (s t : State) : (s.upMet t).core = s.core.after t.core := rfl
@[simp] theorem State.upMet_cfg (s t : State) : (s.upMet t).cfg = s.cfg := rfl
@[simp] theorem State.upMet_img (s t : State) : (s.upMet t).img = s.img := rfl
@[simp] theorem State.upMet_seq (s t : State) : (s.upMet t).seq = t.seq := rfl
@[simp] theorem State.upMet_trw (s t : State) : (s.upMet t).trw = t.trw := rfl
@[simp] theorem State.upMet_flt (s t : State) : (s.upMet t).flt = t.flt := rfl
@[simp] theorem State.upMet_cmd (s t : State) : (s.upMet t).cmd = s.cmd := rfl
@[simp] theorem State.upMet_met (s t : State) : (s.upMet t).met = t.met := rfl
@[simp] theorem State.upMet_lane (s t : State) : (s.upMet t).lane = s.lane := rfl
@[simp] theorem State.upMet_pair (s t : State) : (s.upMet t).pair = t.pair := rfl
@[simp] theorem State.upMet_xch (s t : State) : (s.upMet t).xch = s.xch := rfl
@[simp] theorem State.upMet_svc (s t : State) : (s.upMet t).svc = t.svc := rfl
@[simp] theorem State.upMet_hq (s t : State) : (s.upMet t).hq = t.hq := rfl
@[simp] theorem State.upMet_net (s t : State) : (s.upMet t).net = t.net := rfl
@[simp] theorem State.upMet_can (s t : State) : (s.upMet t).can = s.can := rfl
@[simp] theorem State.upMet_nt (s t : State) : (s.upMet t).nt = t.nt := rfl
@[simp] theorem State.upMet_bkp (s t : State) : (s.upMet t).bkp = s.bkp := rfl
@[simp] theorem State.upMet_sec (s t : State) : (s.upMet t).sec = t.sec := rfl
@[simp] theorem State.upMet_plat (s t : State) : (s.upMet t).plat = runPlat s.plat t.plat := rfl
@[simp] theorem State.upMet_bg (s t : State) : (s.upMet t).bg = s.bg := rfl

@[simp] theorem State.upNt_pending (s t : State) : (s.upNt t).pending = s.pending := rfl
@[simp] theorem State.upNt_core (s t : State) : (s.upNt t).core = s.core.after t.core := rfl
@[simp] theorem State.upNt_cfg (s t : State) : (s.upNt t).cfg = s.cfg := rfl
@[simp] theorem State.upNt_img (s t : State) : (s.upNt t).img = s.img := rfl
@[simp] theorem State.upNt_seq (s t : State) : (s.upNt t).seq = t.seq := rfl
@[simp] theorem State.upNt_trw (s t : State) : (s.upNt t).trw = s.trw := rfl
@[simp] theorem State.upNt_flt (s t : State) : (s.upNt t).flt = s.flt := rfl
@[simp] theorem State.upNt_cmd (s t : State) : (s.upNt t).cmd = s.cmd := rfl
@[simp] theorem State.upNt_met (s t : State) : (s.upNt t).met = t.met := rfl
@[simp] theorem State.upNt_lane (s t : State) : (s.upNt t).lane = s.lane := rfl
@[simp] theorem State.upNt_pair (s t : State) : (s.upNt t).pair = t.pair := rfl
@[simp] theorem State.upNt_xch (s t : State) : (s.upNt t).xch = s.xch := rfl
@[simp] theorem State.upNt_svc (s t : State) : (s.upNt t).svc = s.svc := rfl
@[simp] theorem State.upNt_hq (s t : State) : (s.upNt t).hq = s.hq := rfl
@[simp] theorem State.upNt_net (s t : State) : (s.upNt t).net = t.net := rfl
@[simp] theorem State.upNt_can (s t : State) : (s.upNt t).can = t.can := rfl
@[simp] theorem State.upNt_nt (s t : State) : (s.upNt t).nt = t.nt := rfl
@[simp] theorem State.upNt_bkp (s t : State) : (s.upNt t).bkp = duringBkp s.bkp t.bkp := rfl
@[simp] theorem State.upNt_sec (s t : State) : (s.upNt t).sec = t.sec := rfl
@[simp] theorem State.upNt_plat (s t : State) : (s.upNt t).plat = runPlat s.plat t.plat := rfl
@[simp] theorem State.upNt_bg (s t : State) : (s.upNt t).bg = s.bg := rfl

@[simp] theorem State.upPair_pending (s t : State) : (s.upPair t).pending = s.pending := rfl
@[simp] theorem State.upPair_core (s t : State) : (s.upPair t).core = s.core.after t.core := rfl
@[simp] theorem State.upPair_cfg (s t : State) : (s.upPair t).cfg = s.cfg := rfl
@[simp] theorem State.upPair_img (s t : State) : (s.upPair t).img = t.img := rfl
@[simp] theorem State.upPair_seq (s t : State) : (s.upPair t).seq = t.seq := rfl
@[simp] theorem State.upPair_trw (s t : State) : (s.upPair t).trw = t.trw := rfl
@[simp] theorem State.upPair_flt (s t : State) : (s.upPair t).flt = t.flt := rfl
@[simp] theorem State.upPair_cmd (s t : State) : (s.upPair t).cmd = t.cmd := rfl
@[simp] theorem State.upPair_met (s t : State) : (s.upPair t).met = t.met := rfl
@[simp] theorem State.upPair_lane (s t : State) : (s.upPair t).lane = t.lane := rfl
@[simp] theorem State.upPair_pair (s t : State) : (s.upPair t).pair = t.pair := rfl
@[simp] theorem State.upPair_xch (s t : State) : (s.upPair t).xch = t.xch := rfl
@[simp] theorem State.upPair_svc (s t : State) : (s.upPair t).svc = t.svc := rfl
@[simp] theorem State.upPair_hq (s t : State) : (s.upPair t).hq = t.hq := rfl
@[simp] theorem State.upPair_net (s t : State) : (s.upPair t).net = t.net := rfl
@[simp] theorem State.upPair_can (s t : State) : (s.upPair t).can = t.can := rfl
@[simp] theorem State.upPair_nt (s t : State) : (s.upPair t).nt = t.nt := rfl
@[simp] theorem State.upPair_bkp (s t : State) : (s.upPair t).bkp = s.bkp := rfl
@[simp] theorem State.upPair_sec (s t : State) : (s.upPair t).sec = t.sec := rfl
@[simp] theorem State.upPair_plat (s t : State) : (s.upPair t).plat = runPlat s.plat t.plat := rfl
@[simp] theorem State.upPair_bg (s t : State) : (s.upPair t).bg = t.bg := rfl

@[simp] theorem State.upPort_pending (s t : State) : (s.upPort t).pending = s.pending := rfl
@[simp] theorem State.upPort_core (s t : State) : (s.upPort t).core = s.core.after t.core := rfl
@[simp] theorem State.upPort_cfg (s t : State) : (s.upPort t).cfg = s.cfg := rfl
@[simp] theorem State.upPort_img (s t : State) : (s.upPort t).img = t.img := rfl
@[simp] theorem State.upPort_seq (s t : State) : (s.upPort t).seq = t.seq := rfl
@[simp] theorem State.upPort_trw (s t : State) : (s.upPort t).trw = s.trw := rfl
@[simp] theorem State.upPort_flt (s t : State) : (s.upPort t).flt = s.flt := rfl
@[simp] theorem State.upPort_cmd (s t : State) : (s.upPort t).cmd = s.cmd := rfl
@[simp] theorem State.upPort_met (s t : State) : (s.upPort t).met = s.met := rfl
@[simp] theorem State.upPort_lane (s t : State) : (s.upPort t).lane = s.lane := rfl
@[simp] theorem State.upPort_pair (s t : State) : (s.upPort t).pair = t.pair := rfl
@[simp] theorem State.upPort_xch (s t : State) : (s.upPort t).xch = s.xch := rfl
@[simp] theorem State.upPort_svc (s t : State) : (s.upPort t).svc = t.svc := rfl
@[simp] theorem State.upPort_hq (s t : State) : (s.upPort t).hq = s.hq := rfl
@[simp] theorem State.upPort_net (s t : State) : (s.upPort t).net = t.net := rfl
@[simp] theorem State.upPort_can (s t : State) : (s.upPort t).can = s.can := rfl
@[simp] theorem State.upPort_nt (s t : State) : (s.upPort t).nt = t.nt := rfl
@[simp] theorem State.upPort_bkp (s t : State) : (s.upPort t).bkp = s.bkp := rfl
@[simp] theorem State.upPort_sec (s t : State) : (s.upPort t).sec = s.sec := rfl
@[simp] theorem State.upPort_plat (s t : State) : (s.upPort t).plat = s.plat := rfl
@[simp] theorem State.upPort_bg (s t : State) : (s.upPort t).bg = s.bg := rfl

@[simp] theorem State.upPower_pending (s t : State) : (s.upPower t).pending = s.pending := rfl
@[simp] theorem State.upPower_core (s t : State) : (s.upPower t).core = s.core.after t.core := rfl
@[simp] theorem State.upPower_cfg (s t : State) : (s.upPower t).cfg = t.cfg := rfl
@[simp] theorem State.upPower_img (s t : State) : (s.upPower t).img = t.img := rfl
@[simp] theorem State.upPower_seq (s t : State) : (s.upPower t).seq = t.seq := rfl
@[simp] theorem State.upPower_trw (s t : State) : (s.upPower t).trw = t.trw := rfl
@[simp] theorem State.upPower_flt (s t : State) : (s.upPower t).flt = t.flt := rfl
@[simp] theorem State.upPower_cmd (s t : State) : (s.upPower t).cmd = t.cmd := rfl
@[simp] theorem State.upPower_met (s t : State) : (s.upPower t).met = t.met := rfl
@[simp] theorem State.upPower_lane (s t : State) : (s.upPower t).lane = t.lane := rfl
@[simp] theorem State.upPower_pair (s t : State) : (s.upPower t).pair = t.pair := rfl
@[simp] theorem State.upPower_xch (s t : State) : (s.upPower t).xch = t.xch := rfl
@[simp] theorem State.upPower_svc (s t : State) : (s.upPower t).svc = t.svc := rfl
@[simp] theorem State.upPower_hq (s t : State) : (s.upPower t).hq = t.hq := rfl
@[simp] theorem State.upPower_net (s t : State) : (s.upPower t).net = t.net := rfl
@[simp] theorem State.upPower_can (s t : State) : (s.upPower t).can = t.can := rfl
@[simp] theorem State.upPower_nt (s t : State) : (s.upPower t).nt = t.nt := rfl
@[simp] theorem State.upPower_bkp (s t : State) : (s.upPower t).bkp = outsideBkp s.bkp t.bkp := rfl
@[simp] theorem State.upPower_sec (s t : State) : (s.upPower t).sec = t.sec := rfl
@[simp] theorem State.upPower_plat (s t : State) : (s.upPower t).plat = t.plat := rfl
@[simp] theorem State.upPower_bg (s t : State) : (s.upPower t).bg = t.bg := rfl

@[simp] theorem State.upReg_pending (s t : State) : (s.upReg t).pending = s.pending := rfl
@[simp] theorem State.upReg_core (s t : State) : (s.upReg t).core = s.core.after t.core := rfl
@[simp] theorem State.upReg_cfg (s t : State) : (s.upReg t).cfg = s.cfg := rfl
@[simp] theorem State.upReg_img (s t : State) : (s.upReg t).img = t.img := rfl
@[simp] theorem State.upReg_seq (s t : State) : (s.upReg t).seq = t.seq := rfl
@[simp] theorem State.upReg_trw (s t : State) : (s.upReg t).trw = t.trw := rfl
@[simp] theorem State.upReg_flt (s t : State) : (s.upReg t).flt = t.flt := rfl
@[simp] theorem State.upReg_cmd (s t : State) : (s.upReg t).cmd = t.cmd := rfl
@[simp] theorem State.upReg_met (s t : State) : (s.upReg t).met = t.met := rfl
@[simp] theorem State.upReg_lane (s t : State) : (s.upReg t).lane = t.lane := rfl
@[simp] theorem State.upReg_pair (s t : State) : (s.upReg t).pair = t.pair := rfl
@[simp] theorem State.upReg_xch (s t : State) : (s.upReg t).xch = t.xch := rfl
@[simp] theorem State.upReg_svc (s t : State) : (s.upReg t).svc = t.svc := rfl
@[simp] theorem State.upReg_hq (s t : State) : (s.upReg t).hq = t.hq := rfl
@[simp] theorem State.upReg_net (s t : State) : (s.upReg t).net = t.net := rfl
@[simp] theorem State.upReg_can (s t : State) : (s.upReg t).can = t.can := rfl
@[simp] theorem State.upReg_nt (s t : State) : (s.upReg t).nt = t.nt := rfl
@[simp] theorem State.upReg_bkp (s t : State) : (s.upReg t).bkp = outsideBkp s.bkp t.bkp := rfl
@[simp] theorem State.upReg_sec (s t : State) : (s.upReg t).sec = t.sec := rfl
@[simp] theorem State.upReg_plat (s t : State) : (s.upReg t).plat = runPlat s.plat t.plat := rfl
@[simp] theorem State.upReg_bg (s t : State) : (s.upReg t).bg = t.bg := rfl

@[simp] theorem State.upRun_pending (s t : State) : (s.upRun t).pending = s.pending := rfl
@[simp] theorem State.upRun_core (s t : State) : (s.upRun t).core = s.core.after t.core := rfl
@[simp] theorem State.upRun_cfg (s t : State) : (s.upRun t).cfg = s.cfg := rfl
@[simp] theorem State.upRun_img (s t : State) : (s.upRun t).img = t.img := rfl
@[simp] theorem State.upRun_seq (s t : State) : (s.upRun t).seq = t.seq := rfl
@[simp] theorem State.upRun_trw (s t : State) : (s.upRun t).trw = t.trw := rfl
@[simp] theorem State.upRun_flt (s t : State) : (s.upRun t).flt = t.flt := rfl
@[simp] theorem State.upRun_cmd (s t : State) : (s.upRun t).cmd = t.cmd := rfl
@[simp] theorem State.upRun_met (s t : State) : (s.upRun t).met = t.met := rfl
@[simp] theorem State.upRun_lane (s t : State) : (s.upRun t).lane = t.lane := rfl
@[simp] theorem State.upRun_pair (s t : State) : (s.upRun t).pair = t.pair := rfl
@[simp] theorem State.upRun_xch (s t : State) : (s.upRun t).xch = t.xch := rfl
@[simp] theorem State.upRun_svc (s t : State) : (s.upRun t).svc = t.svc := rfl
@[simp] theorem State.upRun_hq (s t : State) : (s.upRun t).hq = t.hq := rfl
@[simp] theorem State.upRun_net (s t : State) : (s.upRun t).net = t.net := rfl
@[simp] theorem State.upRun_can (s t : State) : (s.upRun t).can = t.can := rfl
@[simp] theorem State.upRun_nt (s t : State) : (s.upRun t).nt = t.nt := rfl
@[simp] theorem State.upRun_bkp (s t : State) : (s.upRun t).bkp = outsideBkp s.bkp t.bkp := rfl
@[simp] theorem State.upRun_sec (s t : State) : (s.upRun t).sec = t.sec := rfl
@[simp] theorem State.upRun_plat (s t : State) : (s.upRun t).plat = t.plat := rfl
@[simp] theorem State.upRun_bg (s t : State) : (s.upRun t).bg = t.bg := rfl

@[simp] theorem State.upSec_pending (s t : State) : (s.upSec t).pending = s.pending := rfl
@[simp] theorem State.upSec_core (s t : State) : (s.upSec t).core = s.core.after t.core := rfl
@[simp] theorem State.upSec_cfg (s t : State) : (s.upSec t).cfg = s.cfg := rfl
@[simp] theorem State.upSec_img (s t : State) : (s.upSec t).img = t.img := rfl
@[simp] theorem State.upSec_seq (s t : State) : (s.upSec t).seq = t.seq := rfl
@[simp] theorem State.upSec_trw (s t : State) : (s.upSec t).trw = t.trw := rfl
@[simp] theorem State.upSec_flt (s t : State) : (s.upSec t).flt = t.flt := rfl
@[simp] theorem State.upSec_cmd (s t : State) : (s.upSec t).cmd = s.cmd := rfl
@[simp] theorem State.upSec_met (s t : State) : (s.upSec t).met = s.met := rfl
@[simp] theorem State.upSec_lane (s t : State) : (s.upSec t).lane = s.lane := rfl
@[simp] theorem State.upSec_pair (s t : State) : (s.upSec t).pair = t.pair := rfl
@[simp] theorem State.upSec_xch (s t : State) : (s.upSec t).xch = t.xch := rfl
@[simp] theorem State.upSec_svc (s t : State) : (s.upSec t).svc = t.svc := rfl
@[simp] theorem State.upSec_hq (s t : State) : (s.upSec t).hq = t.hq := rfl
@[simp] theorem State.upSec_net (s t : State) : (s.upSec t).net = t.net := rfl
@[simp] theorem State.upSec_can (s t : State) : (s.upSec t).can = s.can := rfl
@[simp] theorem State.upSec_nt (s t : State) : (s.upSec t).nt = s.nt := rfl
@[simp] theorem State.upSec_bkp (s t : State) : (s.upSec t).bkp = s.bkp := rfl
@[simp] theorem State.upSec_sec (s t : State) : (s.upSec t).sec = t.sec := rfl
@[simp] theorem State.upSec_plat (s t : State) : (s.upSec t).plat = runPlat s.plat t.plat := rfl
@[simp] theorem State.upSec_bg (s t : State) : (s.upSec t).bg = s.bg := rfl

@[simp] theorem State.upSvc_pending (s t : State) : (s.upSvc t).pending = s.pending := rfl
@[simp] theorem State.upSvc_core (s t : State) : (s.upSvc t).core = s.core.after t.core := rfl
@[simp] theorem State.upSvc_cfg (s t : State) : (s.upSvc t).cfg = s.cfg := rfl
@[simp] theorem State.upSvc_img (s t : State) : (s.upSvc t).img = t.img := rfl
@[simp] theorem State.upSvc_seq (s t : State) : (s.upSvc t).seq = s.seq := rfl
@[simp] theorem State.upSvc_trw (s t : State) : (s.upSvc t).trw = s.trw := rfl
@[simp] theorem State.upSvc_flt (s t : State) : (s.upSvc t).flt = s.flt := rfl
@[simp] theorem State.upSvc_cmd (s t : State) : (s.upSvc t).cmd = s.cmd := rfl
@[simp] theorem State.upSvc_met (s t : State) : (s.upSvc t).met = s.met := rfl
@[simp] theorem State.upSvc_lane (s t : State) : (s.upSvc t).lane = s.lane := rfl
@[simp] theorem State.upSvc_pair (s t : State) : (s.upSvc t).pair = s.pair := rfl
@[simp] theorem State.upSvc_xch (s t : State) : (s.upSvc t).xch = s.xch := rfl
@[simp] theorem State.upSvc_svc (s t : State) : (s.upSvc t).svc = t.svc := rfl
@[simp] theorem State.upSvc_hq (s t : State) : (s.upSvc t).hq = t.hq := rfl
@[simp] theorem State.upSvc_net (s t : State) : (s.upSvc t).net = t.net := rfl
@[simp] theorem State.upSvc_can (s t : State) : (s.upSvc t).can = s.can := rfl
@[simp] theorem State.upSvc_nt (s t : State) : (s.upSvc t).nt = s.nt := rfl
@[simp] theorem State.upSvc_bkp (s t : State) : (s.upSvc t).bkp = s.bkp := rfl
@[simp] theorem State.upSvc_sec (s t : State) : (s.upSvc t).sec = s.sec := rfl
@[simp] theorem State.upSvc_plat (s t : State) : (s.upSvc t).plat = s.plat := rfl
@[simp] theorem State.upSvc_bg (s t : State) : (s.upSvc t).bg = s.bg := rfl

@[simp] theorem State.upSwitch_pending (s t : State) : (s.upSwitch t).pending = s.pending := rfl
@[simp] theorem State.upSwitch_core (s t : State) : (s.upSwitch t).core = s.core.after t.core := rfl
@[simp] theorem State.upSwitch_cfg (s t : State) : (s.upSwitch t).cfg = s.cfg := rfl
@[simp] theorem State.upSwitch_img (s t : State) : (s.upSwitch t).img = s.img := rfl
@[simp] theorem State.upSwitch_seq (s t : State) : (s.upSwitch t).seq = s.seq := rfl
@[simp] theorem State.upSwitch_trw (s t : State) : (s.upSwitch t).trw = s.trw := rfl
@[simp] theorem State.upSwitch_flt (s t : State) : (s.upSwitch t).flt = s.flt := rfl
@[simp] theorem State.upSwitch_cmd (s t : State) : (s.upSwitch t).cmd = s.cmd := rfl
@[simp] theorem State.upSwitch_met (s t : State) : (s.upSwitch t).met = s.met := rfl
@[simp] theorem State.upSwitch_lane (s t : State) : (s.upSwitch t).lane = s.lane := rfl
@[simp] theorem State.upSwitch_pair (s t : State) : (s.upSwitch t).pair = t.pair := rfl
@[simp] theorem State.upSwitch_xch (s t : State) : (s.upSwitch t).xch = s.xch := rfl
@[simp] theorem State.upSwitch_svc (s t : State) : (s.upSwitch t).svc = t.svc := rfl
@[simp] theorem State.upSwitch_hq (s t : State) : (s.upSwitch t).hq = t.hq := rfl
@[simp] theorem State.upSwitch_net (s t : State) : (s.upSwitch t).net = t.net := rfl
@[simp] theorem State.upSwitch_can (s t : State) : (s.upSwitch t).can = s.can := rfl
@[simp] theorem State.upSwitch_nt (s t : State) : (s.upSwitch t).nt = s.nt := rfl
@[simp] theorem State.upSwitch_bkp (s t : State) : (s.upSwitch t).bkp = s.bkp := rfl
@[simp] theorem State.upSwitch_sec (s t : State) : (s.upSwitch t).sec = t.sec := rfl
@[simp] theorem State.upSwitch_plat (s t : State) : (s.upSwitch t).plat = s.plat := rfl
@[simp] theorem State.upSwitch_bg (s t : State) : (s.upSwitch t).bg = s.bg := rfl

@[simp] theorem State.upTick_pending (s t : State) : (s.upTick t).pending = s.pending := rfl
@[simp] theorem State.upTick_core (s t : State) : (s.upTick t).core = s.core.after t.core := rfl
@[simp] theorem State.upTick_cfg (s t : State) : (s.upTick t).cfg = s.cfg := rfl
@[simp] theorem State.upTick_img (s t : State) : (s.upTick t).img = t.img := rfl
@[simp] theorem State.upTick_seq (s t : State) : (s.upTick t).seq = t.seq := rfl
@[simp] theorem State.upTick_trw (s t : State) : (s.upTick t).trw = t.trw := rfl
@[simp] theorem State.upTick_flt (s t : State) : (s.upTick t).flt = t.flt := rfl
@[simp] theorem State.upTick_cmd (s t : State) : (s.upTick t).cmd = t.cmd := rfl
@[simp] theorem State.upTick_met (s t : State) : (s.upTick t).met = t.met := rfl
@[simp] theorem State.upTick_lane (s t : State) : (s.upTick t).lane = t.lane := rfl
@[simp] theorem State.upTick_pair (s t : State) : (s.upTick t).pair = t.pair := rfl
@[simp] theorem State.upTick_xch (s t : State) : (s.upTick t).xch = t.xch := rfl
@[simp] theorem State.upTick_svc (s t : State) : (s.upTick t).svc = t.svc := rfl
@[simp] theorem State.upTick_hq (s t : State) : (s.upTick t).hq = t.hq := rfl
@[simp] theorem State.upTick_net (s t : State) : (s.upTick t).net = t.net := rfl
@[simp] theorem State.upTick_can (s t : State) : (s.upTick t).can = t.can := rfl
@[simp] theorem State.upTick_nt (s t : State) : (s.upTick t).nt = t.nt := rfl
@[simp] theorem State.upTick_bkp (s t : State) : (s.upTick t).bkp = s.bkp := rfl
@[simp] theorem State.upTick_sec (s t : State) : (s.upTick t).sec = t.sec := rfl
@[simp] theorem State.upTick_plat (s t : State) : (s.upTick t).plat = runPlat s.plat t.plat := rfl
@[simp] theorem State.upTick_bg (s t : State) : (s.upTick t).bg = t.bg := rfl

@[simp] theorem State.upTrw_pending (s t : State) : (s.upTrw t).pending = s.pending := rfl
@[simp] theorem State.upTrw_core (s t : State) : (s.upTrw t).core = s.core.after t.core := rfl
@[simp] theorem State.upTrw_cfg (s t : State) : (s.upTrw t).cfg = s.cfg := rfl
@[simp] theorem State.upTrw_img (s t : State) : (s.upTrw t).img = t.img := rfl
@[simp] theorem State.upTrw_seq (s t : State) : (s.upTrw t).seq = t.seq := rfl
@[simp] theorem State.upTrw_trw (s t : State) : (s.upTrw t).trw = t.trw := rfl
@[simp] theorem State.upTrw_flt (s t : State) : (s.upTrw t).flt = t.flt := rfl
@[simp] theorem State.upTrw_cmd (s t : State) : (s.upTrw t).cmd = t.cmd := rfl
@[simp] theorem State.upTrw_met (s t : State) : (s.upTrw t).met = s.met := rfl
@[simp] theorem State.upTrw_lane (s t : State) : (s.upTrw t).lane = t.lane := rfl
@[simp] theorem State.upTrw_pair (s t : State) : (s.upTrw t).pair = t.pair := rfl
@[simp] theorem State.upTrw_xch (s t : State) : (s.upTrw t).xch = t.xch := rfl
@[simp] theorem State.upTrw_svc (s t : State) : (s.upTrw t).svc = t.svc := rfl
@[simp] theorem State.upTrw_hq (s t : State) : (s.upTrw t).hq = t.hq := rfl
@[simp] theorem State.upTrw_net (s t : State) : (s.upTrw t).net = t.net := rfl
@[simp] theorem State.upTrw_can (s t : State) : (s.upTrw t).can = t.can := rfl
@[simp] theorem State.upTrw_nt (s t : State) : (s.upTrw t).nt = s.nt := rfl
@[simp] theorem State.upTrw_bkp (s t : State) : (s.upTrw t).bkp = s.bkp := rfl
@[simp] theorem State.upTrw_sec (s t : State) : (s.upTrw t).sec = s.sec := rfl
@[simp] theorem State.upTrw_plat (s t : State) : (s.upTrw t).plat = runPlat s.plat t.plat := rfl
@[simp] theorem State.upTrw_bg (s t : State) : (s.upTrw t).bg = t.bg := rfl

@[simp] theorem State.upXch_pending (s t : State) : (s.upXch t).pending = s.pending := rfl
@[simp] theorem State.upXch_core (s t : State) : (s.upXch t).core = s.core.after t.core := rfl
@[simp] theorem State.upXch_cfg (s t : State) : (s.upXch t).cfg = s.cfg := rfl
@[simp] theorem State.upXch_img (s t : State) : (s.upXch t).img = t.img := rfl
@[simp] theorem State.upXch_seq (s t : State) : (s.upXch t).seq = s.seq := rfl
@[simp] theorem State.upXch_trw (s t : State) : (s.upXch t).trw = s.trw := rfl
@[simp] theorem State.upXch_flt (s t : State) : (s.upXch t).flt = s.flt := rfl
@[simp] theorem State.upXch_cmd (s t : State) : (s.upXch t).cmd = s.cmd := rfl
@[simp] theorem State.upXch_met (s t : State) : (s.upXch t).met = s.met := rfl
@[simp] theorem State.upXch_lane (s t : State) : (s.upXch t).lane = s.lane := rfl
@[simp] theorem State.upXch_pair (s t : State) : (s.upXch t).pair = t.pair := rfl
@[simp] theorem State.upXch_xch (s t : State) : (s.upXch t).xch = t.xch := rfl
@[simp] theorem State.upXch_svc (s t : State) : (s.upXch t).svc = s.svc := rfl
@[simp] theorem State.upXch_hq (s t : State) : (s.upXch t).hq = s.hq := rfl
@[simp] theorem State.upXch_net (s t : State) : (s.upXch t).net = s.net := rfl
@[simp] theorem State.upXch_can (s t : State) : (s.upXch t).can = s.can := rfl
@[simp] theorem State.upXch_nt (s t : State) : (s.upXch t).nt = s.nt := rfl
@[simp] theorem State.upXch_bkp (s t : State) : (s.upXch t).bkp = s.bkp := rfl
@[simp] theorem State.upXch_sec (s t : State) : (s.upXch t).sec = s.sec := rfl
@[simp] theorem State.upXch_plat (s t : State) : (s.upXch t).plat = s.plat := rfl
@[simp] theorem State.upXch_bg (s t : State) : (s.upXch t).bg = s.bg := rfl

end Sys2Proof.Machine
end

