-- ==== Sys2Proof/Laws/Trowel.lean ====
section
/-! SUPPORT. What one trowel instruction does while its engine executes a sound word with its lanes alike: one lemma for each
shared operation. -/

namespace Sys2Proof.Machine

variable {s : State} {e : Fin 8} {d : TaskDef}

/-- The instruction's task. -/
theorem State.runs_task (h : s.runs e d) : (s.engine e).task.bind s.taskDef = some d := by
  rw [h.1]; exact h.2.1

/-- An instruction that reads no operand from memory. -/
theorem State.trwRun_none (h : s.runs e d) (clk : Nat) {ok : TaskDef → Bool} (hok : ok d = true)
    (f : LaneRegs → Fetched → Res) :
    s.trwRun e clk none ok f = s.settle e clk (f (s.lanes e) default) (f (s.lanes e) default) := by
  unfold State.trwRun
  simp only [State.runs_task h, h.2.2.2, hok, h.2.2.1, State.lanes, Bool.not_true, Bool.or_false, Bool.false_eq_true, if_false]

/-- An instruction whose operand reads well. -/
theorem State.trwRun_some (h : s.runs e d) (clk : Nat) {ok : TaskDef → Bool} (hok : ok d = true) {m : MemOp} {w : Word}
    {q : Nat} (hm : s.sees e m w q) (f : LaneRegs → Fetched → Res) :
    s.trwRun e clk (some m) ok f = s.settle e (clk + mirrorClock m) (f (s.lanes e) { value := w, qual := q })
      (f (s.lanes e) { value := w, qual := q }) := by
  have hb : (m.sp == .const && s.trw.constBad.contains m.idx) = false := by
    by_cases hc : m.sp = .const
    · rw [hm.2 hc]; simp
    · simp [hc]
  unfold State.trwRun
  simp only [State.runs_task h, h.2.2.2, hok, h.2.2.1, State.lanes, Bool.not_true, Bool.or_false, Bool.false_eq_true, if_false, hb, hm.1]

/-- Both lanes move on alike. -/
theorem State.settle_go (s : State) (e : Fin 8) (r : LaneRegs) (clk : Nat) :
    s.settle e clk (.go r) (.go r) = s.lanesTo e { r with pc := r.pc + 1 } clk := rfl

/-- Both lanes store alike. -/
theorem State.settle_put (s : State) (e : Fin 8) (r : LaneRegs) (x : Entry) (clk : Nat) (hx : s.takes e x) :
    s.settle e clk (.put r x) (.put r x) = s.storesTo e { r with pc := r.pc + 1 } x clk := by
  have hsz : ¬ (Machine.addEntry (s.engine e).buf x).size > 4096 := by have := hx.1; omega
  have hen : (s.putLanes e (LaneRegs.step r) (LaneRegs.step r) clk).engine e =
      { s.engine e with a := LaneRegs.step r, b := LaneRegs.step r, clocks := (s.engine e).clocks + clk } := by
    simp [State.putLanes, State.putEngine, State.engine]
  have hput : ∀ g : Engine, (s.putLanes e (LaneRegs.step r) (LaneRegs.step r) clk).putEngine e g = s.putEngine e g := by
    intro g
    simp only [State.putLanes, State.putEngine]
    congr 2
    generalize s.trw.engines = m
    induction m with
    | nil => simp [SMap.put]
    | cons p m ih =>
      obtain ⟨a, y⟩ := p
      by_cases h1 : a = (e : Nat)
      · simp [SMap.put, h1]
      · by_cases h2 : (e : Nat) < a
        · simp [SMap.put, h1, h2]
        · simp [SMap.put, h1, h2, ih]
  unfold State.settle
  cases x with
  | cell a v =>
    have hf : (s.putLanes e (LaneRegs.step r) (LaneRegs.step r) clk).isForced a = false := hx.2
    have hf' : s.isForced a = false := hx.2
    simp only [bne_self_eq_false, Bool.false_eq_true, if_false, hen, hsz, hput, hf']
    rfl
  | ret i v => simp only [bne_self_eq_false, Bool.false_eq_true, if_false, hen, hsz, hput]; rfl
  | record i v => simp only [bne_self_eq_false, Bool.false_eq_true, if_false, hen, hsz, hput]; rfl
  | edge i v => simp only [bne_self_eq_false, Bool.false_eq_true, if_false, hen, hsz, hput]; rfl

/-- An instruction on the registers alone. -/
theorem State.trwReg_runs (h : s.runs e d) (clk : Nat) (f : LaneRegs → LaneRegs) :
    s.trwReg e clk f = s.lanesTo e { f (s.lanes e) with pc := (f (s.lanes e)).pc + 1 } clk := by
  unfold State.trwReg
  rw [State.trwRun_none h clk (ok := fun _ => true) rfl]
  rfl

/-- An instruction on WA and WB (R69, R70). -/
theorem State.trwAlu_runs (h : s.runs e d) (clk : Nat) (f : Word → Word → Word × Bool) :
    s.trwAlu e clk f = s.lanesTo e { s.lanes e with
      wa := (f (s.lanes e).wa (s.lanes e).wb).1, ovf := (s.lanes e).ovf || (f (s.lanes e).wa (s.lanes e).wb).2
      pc := (s.lanes e).pc + 1 } clk := by
  unfold State.trwAlu
  rw [State.trwReg_runs h]

/-- A compare (R72). -/
theorem State.trwCmp_runs (h : s.runs e d) (f : Word → Word → Bool) :
    s.trwCmp e f = s.lanesTo e { s.lanes e with lacc := f (s.lanes e).wa (s.lanes e).wb, pc := (s.lanes e).pc + 1 } 1 := by
  unfold State.trwCmp
  rw [State.trwReg_runs h]

/-- A jump within the task's code (R74). -/
theorem State.trwJump_runs (h : s.runs e d) (a : BitVec 18) (f : Bool → Bool) (h1 : d.codeStart ≤ a.toNat)
    (h2 : a.toNat ≤ d.codeEnd) :
    s.trwJump e a f = if f (s.lanes e).lacc then s.lanesTo e { s.lanes e with pc := a } 3
      else s.lanesTo e { s.lanes e with pc := (s.lanes e).pc + 1 } 1 := by
  unfold State.trwJump
  rw [State.trwRun_none h 1 (ok := fun d => decide (d.codeStart ≤ a.toNat) && decide (a.toNat ≤ d.codeEnd)) (by simp [h1, h2])]
  cases f (s.lanes e).lacc <;> simp [State.settle, State.lanesTo, State.putLanes, LaneRegs.step]

/-- A platform that nothing has changed is left as it is. -/
@[simp] theorem runPlat_self (a : Plat) : runPlat a a = a := by simp [runPlat]

/-- What `runPlat` lets through it lets through again. -/
@[simp] theorem runPlat_runPlat (a b : Plat) : runPlat a (runPlat a b) = runPlat a b := by
  simp only [runPlat]
  split <;> simp_all

/-- What a trowel row may change holds all that a change of an engine changes. -/
@[simp] theorem State.upTrw_lanesTo (s : State) (e : Fin 8) (r : LaneRegs) (clk : Nat) :
    s.upTrw (s.lanesTo e r clk) = s.lanesTo e r clk := by
  simp [State.upTrw, State.lanesTo, State.putEngine, Core.after]

@[simp] theorem State.upTrw_storesTo (s : State) (e : Fin 8) (r : LaneRegs) (x : Entry) (clk : Nat) :
    s.upTrw (s.storesTo e r x clk) = s.storesTo e r x clk := by
  simp [State.upTrw, State.storesTo, State.putEngine, Core.after]

end Sys2Proof.Machine
end

