-- ==== Sys2Proof/Tests/Slice0.lean ====
section
/-! SUPPORT. The model's own tests: ill-formed commands that the check refuses, a witness of the hypotheses of every statement,
and one step of the commands on small states. Expected values are worked out by hand from the rules named. -/

namespace Sys2Proof.Tests

set_option Elab.async false

open Sys2Proof.Machine

/-- The state a command leaves. -/
def after (c : Instr) (s : State) : State :=
  match exec c s with
  | .next t => t
  | _ => s

/-- `s` with a register field set. -/
def withReg (r : Row) (v : Nat) (s : State) (i : Nat := 0) : State := s.onCore (·.fput r v i)

/-! ### Trowel engines -/

/-- A task of words 0 to 100. -/
def task0 : TaskDef :=
  { (default : TaskDef) with id := 0, codeStart := 0, codeEnd := 100,
                              wCells := [5, 6, 7], wRecords := [1, 2, 3, 4], wEdges := [0], wRetained := [0] }

/-- Lane registers at word 3. -/
def lane0 : LaneRegs := { wa := 7, wb := 0xFFFFFFFF, pc := 3, lacc := true }

/-- Cells 5 (int32), 6 (bool) and 7 (packed), sealed. -/
def cells0 : SMap Cell :=
  [(5, Cell.sealed { kind := 1, src := 4, value := 3 } 5), (6, Cell.sealed { src := 4 } 6), (7, Cell.sealed { kind := 6, src := 4, value := 8 } 7)]

/-- Engine 0 runs task 0; records of every type, an edge bit, a retained word and three cells of its write set. -/
def tw : State :=
  { img :=
      { working := cells0
        defs := [(5, ⟨5, 1, 0, 4, false⟩), (6, ⟨6, 0, 0, 4, false⟩), (7, ⟨7, 6, 0, 4, false⟩)] }
    trw :=
      { bank := { tasks := [task0], retained := [⟨0, 1, 1, 0, [12]⟩], consts := [(0, 9)] }
        recs := [(1, { type := 1 }), (2, { type := 2 }), (3, { type := 3 }), (4, { type := 4 })], edges := [(0, {})], ret := [(0, 12)]
        engines := [(0, { a := lane0, b := lane0, task := some 0 })], stages := [(0, .running), (1, .due)] } }

theorem wit_RegisterInstructions : tw.runs 0 task0 := by unfold State.runs; decide +kernel

/-- R74, R68: SELW keeps WA where LACC is 1; MOVAB copies WA. -/
theorem test_selw : after (.selw 0) tw = tw.lanesTo 0 { lane0 with pc := 4 } 1 := by decide +kernel
theorem test_movab : ((after (.movab 0) tw).lanes 0).wb = 7 := by decide +kernel

/-- R69: 7 − (−1) = 8; 7 ÷ 0 is 0 with OVF; −2^31 ÷ −1 wraps with OVF. -/
theorem test_subi : after (.subi 0) tw = tw.lanesTo 0 { lane0 with wa := 8, pc := 4 } 1 := by decide +kernel
def tw2 : State := tw.lanesTo 0 { lane0 with wa := 0x80000000 } 0
theorem test_divi : after (.divi 0) tw2 = tw2.lanesTo 0 { lane0 with wa := 0x80000000, ovf := true, pc := 4 } 12 := by decide +kernel
theorem test_modi : after (.modi 0) tw2 = tw2.lanesTo 0 { lane0 with wa := 0, pc := 4 } 12 := by decide +kernel
theorem test_sar : ((after (.sar 0) tw2).lanes 0).wa = 0xFFFFFFFF := by decide +kernel

/-- R71: 1.5 + 1.5 = 3.0; 1 ÷ 0 is infinite and sets OVF; a NaN becomes 0. -/
def tw3 : State := tw.lanesTo 0 { lane0 with wa := 0x3FC00000, wb := 0x3FC00000 } 0
theorem test_addf : ((after (.addf 0) tw3).lanes 0).wa = 0x40400000 := by decide +kernel
theorem test_divf : (after (.divf 0) (tw.lanesTo 0 { lane0 with wa := 0x3F800000, wb := 0 } 0)).lanes 0 =
    { lane0 with wa := 0x7F800000, wb := 0, ovf := true, pc := 4 } := by decide +kernel
theorem test_ftoi : (after (.ftoi 0) (tw.lanesTo 0 { lane0 with wa := 0x7FC00000 } 0)).lanes 0 =
    { lane0 with wa := 0, ovf := true, pc := 4 } := by decide +kernel
theorem test_nef_nan : ((after (.nef 0) (tw.lanesTo 0 { lane0 with wa := 0x7FC00000, lacc := false } 0)).lanes 0).lacc = true := by
  decide +kernel

/-- A retained word, and cells of three kinds. -/
def mRet : MemOp := ⟨.retained, 0, 2⟩
def mInt : MemOp := ⟨.cell, 5, 0⟩
def mBool : MemOp := ⟨.cell, 6, 0⟩
def mPack : MemOp := ⟨.cell, 7, 3⟩

theorem wit_LoadInstructions : tw.runs 0 task0 ∧ tw.sees 0 mRet 12 0 ∧ tw.okBitRead mRet = true ∧ tw.sees 0 mInt 3 0 ∧
    tw.okWordRead mInt = true ∧ tw.okCell mInt = true := by
  unfold State.runs State.sees; decide +kernel

/-- R65: bit 2 of 12 is 1, so ANDN gives 0; R68: QOK of a GOOD cell is 1. -/
theorem test_andn : ((after (.andn 0 mRet) tw).lanes 0).lacc = false := by decide +kernel
theorem test_ldb : (after (.ldb 0 mInt) tw).lanes 0 = { lane0 with wb := 3, pc := 4 } := by decide +kernel
/-- R61: a cell whose check fails reads 0 and sets CHK. -/
theorem test_lda_bad : (after (.lda 0 mInt) { tw with img := { tw.img with working := [(5, { kind := 1, value := 3 })] } }).lanes 0 =
    { lane0 with wa := 0, chk := true, pc := 4 } := by decide +kernel

theorem wit_StoreInstructions : tw.runs 0 task0 ∧ tw.okBitStore task0 mBool = true ∧ tw.cellKind 6 = some .bool ∧
    tw.takes 0 (.cell 6 1) ∧ tw.takes 0 (.cell 6 0) ∧ tw.okBitStore task0 mPack = true ∧ tw.cellKind 7 ≠ some .bool ∧
    tw.sees 0 mPack 8 0 ∧ tw.takes 0 (.cell 7 0) ∧ tw.takes 0 (.cell 7 8) ∧ tw.okBitStore task0 mRet = true ∧
    tw.sees 0 mRet 12 0 ∧ tw.takes 0 (.ret 0 8) ∧ tw.okWordStore task0 mInt = true ∧ tw.takes 0 (.cell 5 7) := by
  unfold State.runs State.sees State.takes; decide +kernel

/-- R65: RST of bit 3 of 8 stores 0; R68: STA of WA = 7. -/
theorem test_rst : after (.rst 0 mPack) tw = tw.storesTo 0 { lane0 with pc := 4 } (.cell 7 0) 1 := by decide +kernel
theorem test_sta : after (.sta 0 mInt) tw = tw.storesTo 0 { lane0 with pc := 4 } (.cell 5 7) 1 := by decide +kernel

/-- The nesting stack at its bounds: 15 entries, and one of each tag on top. -/
def twStack (n : Nat) (t : Tag) : State := tw.lanesTo 0 { lane0 with stack := List.replicate n (true, t) } 0
theorem wit_NestingInstructions : (twStack 15 .and).runs 0 task0 ∧ ((twStack 15 .and).lanes 0).stack.length < 16 ∧
    (∀ t ∈ [Tag.and, .andn, .or, .orn, .xor, .push], (twStack 1 t).runs 0 task0 ∧ ((twStack 1 t).lanes 0).stack = [(true, t)]) := by
  unfold State.runs; decide +kernel

/-- R66: true AND NOT true is 0; a 17th entry is a task fault, so the engine no longer runs. -/
theorem test_close : ((after (.closeParen 0) (twStack 1 .andn)).lanes 0).lacc = false := by decide +kernel
theorem test_push_full : ((after (.push 0) (twStack 16 .push)).engine 0).task = none := by decide +kernel

theorem wit_JumpInstructions : tw.runs 0 task0 ∧ task0.codeStart ≤ (100 : BitVec 18).toNat ∧ (100 : BitVec 18).toNat ≤ task0.codeEnd ∧
    (tw.lanes 0).lacc = true ∧ (tw2.lanesTo 0 { lane0 with lacc := false } 0).runs 0 task0 := by
  unfold State.runs; decide +kernel
/-- Every format has an instruction: NOP, LDA and JMP; an operand of the largest index. -/
theorem wit_JumpInstructions_words : (decodeTrowel 0 0x40010012).isSome = true ∧ formatN 0 0x00 = some (.nop 0) ∧
    formatM 0 ⟨.record, 0x7FFF, 31⟩ 0x40 = some (.lda 0 ⟨.record, 0x7FFF, 31⟩) ∧ operandOk ⟨.record, 0x7FFF, 31⟩ = true ∧
    (formatJ 0 0x3FFFF 0x80).isSome = true := by decide

/-- R62: LDA (opcode 0x40) of constant (SP 2) 18, written out as 0x4000_0000 + 2 × 0x8000 + 0x12; a reserved SP; a reserved bit. -/
theorem test_word_lda : decodeTrowel 0 0x40010012 = some (.lda 0 ⟨.const, 18, 0⟩) ∧ decodeTrowel 0 0x40038000 = none ∧
    decodeTrowel 0 0x40050012 = none := by decide
/-- R62: BIT 31, SP 0, IDX 5 of an LD. -/
theorem test_word_ld : decodeTrowel 7 (0x01000000 + 31 * 0x80000 + 5) = some (.ld 7 ⟨.cell, 5, 31⟩) := by decide

theorem test_jcn : after (.jcn 0 50) tw = tw.lanesTo 0 { lane0 with pc := 4 } 1 := by decide +kernel
theorem test_jc : after (.jc 0 50) tw = tw.lanesTo 0 { lane0 with pc := 50 } 3 := by decide +kernel

def mRec (i : Nat) (bit : Fin 32 := 0) : MemOp := ⟨.record, i, bit⟩
theorem wit_RecordInstructions : tw.runs 0 task0 ∧ (∀ i ∈ [1, 2, 3, 4], tw.okRecord task0 (mRec i) i = true ∧
    tw.takes 0 (.record i {})) ∧ tw.okRecordRead (mRec 4 1) true = true ∧ tw.okRecordRead (mRec 1) false = true ∧
    okEdge task0 ⟨.edge, 0, 0⟩ = true ∧ tw.takes 0 (.edge 0 { m := true, init := false }) := by
  unfold State.runs State.takes; decide +kernel

/-- R79, R81: the first execution of a counter sees no edge, so LACC takes Q of CV 0 against PV 0; EDGR's first gives 0. -/
theorem test_edgr : ((after (.edgr 0 ⟨.edge, 0, 0⟩) tw).lanes 0).lacc = false := by decide +kernel
theorem test_cload : (((after (.cload 0 (mRec 4)) tw).engine 0).buf.recs.at? 4).map (·.et) = some 7 := by decide +kernel

/-! ### Task cycles, loops and the tick -/

/-- Engine 0 is idle and in service; tasks 0 (due) and 1 (due on engine 1) wait in an open scan window of tick 20. -/
def ready0 : State :=
  withReg Reg.TICK_EPOCH_LO_EPOCH_LO 20 <| withReg Reg.TRW_STAT_IN_SERVICE 1
    { tw with trw :=
        { tw.trw with
          bank := { tw.trw.bank with tasks := [task0, { task0 with id := 1, engine := 1 }] }, engines := [], scanning := true
          stages := [(0, .due), (1, .due)] } }

/-- Task 0 at its END: a retained word, a record and cell 5 wait for the commit. -/
def atEnd : State :=
  { ready0 with trw :=
      { ready0.trw with
        engines := [(0, { a := { lane0 with ovf := true }, b := { lane0 with ovf := true }, task := some 0
                          buf := { cells := [(5, 77)], ret := [(0, 5)], recs := [(1, { type := 1, et := 2 })] } })]
        stages := [(0, .running), (1, .due)] } }

theorem wit_TaskCycle : ready0.trw.scanning = true ∧ ready0.core.flag Reg.TRW_STAT_IN_SERVICE 0 = true ∧
    (ready0.engine 0).task = none ∧ ready0.nextTask 0 = some task0 ∧ atEnd.runs 0 task0 ∧ (atEnd.lanes 0).stack = [] ∧
    atEnd.unfinished 1 ∧ (1 : Nat) ≠ task0.id ∧ (atEnd.engine 0).buf.ret.wf = true ∧ (atEnd.engine 0).buf.recs.wf = true ∧
    (atEnd.engine 0).buf.cells = [(5, 77)] ∧ (atEnd.img.working.at? 5).isSome = true ∧ atEnd.isForced 5 = false := by
  unfold State.runs State.unfinished; decide +kernel

/-- R95: the start overhead is 4 clocks; R83, R23: a commit gives the cell its value, source 4 and the tick's epoch. -/
theorem test_dispatch : ((after (.taskDispatch 0) ready0).engine 0).clocks = 4 := by decide +kernel
theorem test_end : ((after (.endCycle 0) atEnd).img.working.at? 5).map (fun c => (c.value, c.src, c.epoch)) = some (77, 4, 20) := by
  decide +kernel
theorem test_end_ovf : (after (.endCycle 0) atEnd).core.fget Reg.TRW_OVF_CNT_COUNT 0 = 1 := by decide +kernel

/-- A one-state loop, due in slot 0 of float engine 0, with zero matrices. -/
def desc0 : LoopDesc :=
  { uCell := [8], yCell := [9], yAlt := [none], manCell := [none], uMin := [0], uMax := [0x3F800000], rate := [0], safe := [0]
    slew := [0], uStart := [0], x0 := [0], a := [[0]], b := [[0]], c := [[0]], k := [[0]], l := [[0]] }

def loop0 : Loop := { desc := desc0, xhat := [0], uprev := [0], watch := [{}] }

def sample0 : State :=
  withReg Reg.FLT_STAT_IN_SERVICE 1
    { ready0 with
      img := { ready0.img with
        working := (cells0.put 8 (Cell.sealed { kind := 3, src := 5 } 8)).put 9 (Cell.sealed { kind := 3 } 9) }
      flt := { slots := [(0, loop0)], stages := [(0, .due)] } }

theorem wit_LoopSample : sample0.loopAt (0 : Fin 4) (0 : Fin 128) = some loop0 ∧ sample0.trw.scanning = true ∧
    sample0.core.flag Reg.FLT_STAT_IN_SERVICE 0 = true ∧ sample0.nextLoop (0 : Fin 4) = some 0 ∧ sample0.unfinished 1 ∧
    sample0.flt.descBad.contains 0 = false ∧ sample0.core.fget Reg.LP_STAT_STATE 0 ≠ 3 ∧
    sample0.core.flag Reg.SBD_STAT_TRIPPED = false ∧ sample0.core.fget Reg.FLT_MISM_CONSEC 0 < 2 := by
  unfold State.unfinished; decide +kernel

/-- The law of the sample: finite with zero matrices, and not finite where L is infinite. -/
def lawOf (s : State) (l : Loop) : Bool :=
  let s0 := (s.loopClocks 0 l).onCore (·.fput Reg.FLT_STAT_SLOT 0 0)
  ((s0.plan 0 0 l).2.law l (s0.plan 0 0 l).1 none).finite

def loopInf : Loop := { loop0 with desc := { desc0 with l := [[0x7F800000]] } }
def sampleInf : State := { sample0 with flt := { sample0.flt with slots := [(0, loopInf)] } }

theorem wit_LoopSample_law : lawOf sample0 loop0 = true ∧ lawOf sampleInf loopInf = false ∧
    sampleInf.loopAt (0 : Fin 4) (0 : Fin 128) = some loopInf ∧ sampleInf.nextLoop (0 : Fin 4) = some 0 := by
  decide +kernel

/-- A faulted slot; and a guarded one of a tripped bead. -/
def sampleFaulty : State := withReg Reg.LP_STAT_STATE 3 sample0
def loopStop : Loop := { loop0 with desc := { desc0 with guarded := true } }
def sampleStop : State := withReg Reg.SBD_STAT_TRIPPED 1 { sample0 with flt := { sample0.flt with slots := [(0, loopStop)] } }

theorem wit_LoopSample_stop : sampleFaulty.core.fget Reg.LP_STAT_STATE 0 = 3 ∧ sampleFaulty.nextLoop (0 : Fin 4) = some 0 ∧
    sampleStop.loopAt (0 : Fin 4) (0 : Fin 128) = some loopStop ∧ sampleStop.nextLoop (0 : Fin 4) = some 0 ∧
    loopStop.desc.guarded = true ∧ sampleStop.core.flag Reg.SBD_STAT_TRIPPED = true ∧
    (let s0 := (sampleStop.loopClocks 0 loopStop).onCore (·.fput Reg.FLT_STAT_SLOT 0 0)
     let w := (s0.plan 0 0 loopStop).2.law loopStop (s0.plan 0 0 loopStop).1 (some ((s0.plan 0 0 loopStop).2.feathered loopStop))
     w.e.all F32.isFinite = true ∧ w.x.all F32.isFinite = true) := by decide +kernel

/-- R149, R141: a descriptor whose code word fails faults its slot with cause 0x11; a lane mismatch counts. -/
theorem test_loop_ecc : (after (.loopSample 0 0 .eccError) sample0).core.fget Reg.LP_STAT_STATE 0 = 3 := by decide +kernel
theorem test_loop_agree : (after (.loopSample 0 0 .agree) sample0).flt.stages.at? 0 = some .done := by decide +kernel
theorem test_loop_mismatch : (after (.loopSample 0 0 .mismatch) sample0).core.fget Reg.FLT_MISM_CONSEC 0 = 1 := by decide +kernel

/-- A module with a running tick 20 and its clocks. -/
def ticking : State :=
  withReg Reg.CLK_STAT_PLL_LOCK 15 <| withReg Reg.TICK_CFG_VALID 1 <| withReg Reg.TICK_STATUS_RUNNING 1 <|
    withReg Reg.TICK_EPOCH_LO_EPOCH_LO 20
      { img := { working := cells0, defs := [(5, ⟨5, 1, 0, 3, false⟩)] }, plat := { step := none }
        seq := { base := some 0, started := true } }

theorem wit_ScreedInstant : ticking.canTick = true ∧ ticking.standby = false ∧ ticking.quiet := by
  unfold State.quiet; decide +kernel
theorem test_screed : (after (.screedInstant []) ticking).epoch = 21 := by decide +kernel

/-- The input sweep has ended, and a metrology result for cell 5 is due. -/
def merging : State :=
  withReg Reg.TICK_STATUS_PHASE 1
    { ticking with
      seq := { ticking.seq with inDone := true }, met := { ticking.met with due := [(5, 41, [])] }
      trw := { bank := { tasks := [task0] }, stages := [(0, .due)] } }

theorem wit_MergeAndResults : merging.canMerge = true ∧ merging.standby = false ∧ merging.unfinished 0 ∧
    merging.xch.subs = [] ∧ merging.xch.triggers = [] ∧ merging.net.inbox = [] ∧ merging.feeds = false ∧
    merging.core.flag Reg.SBD_STAT_TRIPPED = false ∧ merging.seq.metDone = false ∧ merging.met.due = [(5, 41, [])] ∧
    (merging.img.working.at? 5).isSome = true ∧ merging.isForced 5 = false := by
  unfold State.unfinished; decide +kernel

theorem test_merge : (after .merge merging).trw.scanning = true ∧ (after .merge merging).met.due = [] := by decide +kernel
theorem test_mergeLimit : (after (.mergeLimit []) merging).core.flag Reg.TICK_OVR_MERGE_OVR = true := by decide +kernel
/-- R168: a result's cell has source 3. -/
theorem test_result : ((after .metrologyResultEntry merging).img.working.at? 5).map (fun c => (c.value, c.src)) = some (41, 3) := by
  decide +kernel

/-- The end of a tick: one carrier takes an output burst; a datagram of the epoch before waits; a session holds epoch 19. -/
def closing : State :=
  withReg Reg.LANE_PRESENT_CARRIERS 4 <| withReg Reg.TICK_STATUS_PHASE 3
    { ticking with
      cfg := { ticking.cfg with outputSweep := [⟨2, 0, 1⟩] }
      lane := { ticking.lane with carriers := [(2, {})] }
      seq := { ticking.seq with inLeft := [⟨2, 0, 1⟩], near := 62 }
      img := { ticking.img with pins := [⟨19, [], [{ who := .session 3, since := 0, snap := false }]⟩] }
      net := { ticking.net with txq := [(0, [.exchange { (default : Datagram) with epoch := 19 }])] } }

def inOutput : State := { closing with seq := { closing.seq with outStarted := true, outLeft := [⟨2, 0, 1⟩] } }
def waiting0 : State := { seq := { waitFrom := some 0 } }

theorem wit_TickLimits : closing.running = true ∧ closing.seq.inDone = false ∧ closing.seq.inLeft ≠ [] ∧
    closing.core.fget Reg.TICK_STATUS_PHASE = 3 ∧ closing.seq.outStarted = false ∧ closing.plat.hold = false ∧
    closing.cfg.sleepCell = none ∧ closing.standby = false ∧ closing.pair.resolve = none ∧ closing.allDone = true ∧
    closing.closeScan.outBursts.1 ≠ [] ∧ inOutput.seq.outStarted = true ∧ inOutput.seq.swapped = false ∧
    inOutput.seq.outLeft ≠ [] ∧ inOutput.paired = false ∧ inOutput.joins = false ∧
    10 * 1000001 > 9 * closing.core.fget Reg.TICK_SCAN_WIN_WIN_US ∧ closing.seq.near < 63 ∧
    closing.core.flag Reg.TICK_STATUS_NEAR_LIMIT = false ∧ closing.holds (.session 3) 19 = true ∧
    waiting0.seq.waitFrom.isSome = true ∧ waiting0.seq.base = none ∧ waiting0.core.flag Reg.NT_STAT_SEED_INVALID = false := by
  decide +kernel
theorem wit_TickLimits_publish : ∃ p ∈ closing.net.txq, ∃ d, TxItem.exchange d ∈ p.2 ∧ d.epoch < closing.epoch :=
  ⟨_, .head _, _, .head _, by decide +kernel⟩

theorem test_outputWindow : (after .outputSweepWindowStart closing).seq.outLeft = [⟨2, 0, 1⟩] ∧
    (after .outputSweepWindowStart closing).core.fget Reg.TICK_STATUS_PHASE = 4 := by decide +kernel
theorem test_outputAbort : (after .outputSweepAbort inOutput).seq.swapped = true := by decide +kernel
theorem test_hardLimit : (after .inputSweepHardLimit closing).seq.inLeft = [] := by decide +kernel
theorem test_abandon : (after .publishAbandon closing).net.txq = [(0, [])] ∧
    (after .publishAbandon closing).core.flag Reg.TICK_OVR_PUBLISH_ABANDON = true := by decide +kernel
theorem test_pinExpiry : (after (.pinExpiry (.session 3) 19) closing).img.pins = [] := by decide +kernel
theorem test_lockWait : (after .lockWaitExpiry waiting0).core.flag Reg.TICK_STATUS_TIME_DEGRADED = true := by decide +kernel

/-! ### Commands -/

/-- A claimed module that serves alone at epoch 20, with session 0 of domain 0 open and user cells 5, 6 and 7. -/
def serving : State :=
  withReg Reg.TMP_STAT_FULL 0 <| withReg Reg.GLB_STATE_STATE 1 <| withReg Reg.SEC_BOOT_STAGE 1
    { ticking with
      svc := { sessions := [(0, { domain := 0 })] }, sec := { ticking.sec with otp := { ticking.sec.otp with ownerHash := [77] } }
      trw := { bank := { tasks := [{ task0 with guarded := true }] }, stages := [(0, .due)] } }

def req0 : Req := ⟨.session 0, 9⟩

/-- What a request of session 0 needs. -/
theorem hears_of (s : State) (g : Gate) (d : Nat) (h : s.plat.frozen = false ∧ s.svc.sessions.at? 0 = some { domain := d } ∧
    s.core.fget Reg.SEC_BOOT_STAGE ≠ 3 ∧ (g.writes = true → s.standby = false) ∧ (s.unclaimed = true → g.unclaimed = true) ∧
      (s.core.state = 3 → g.maint = true)) : s.hears req0 g d :=
  ⟨h.1, by simp [State.domainOf, req0, h.2.1], h.2.2.1, h.2.2.2.1, h.2.2.2.2.1, h.2.2.2.2.2, _, h.2.1, by simp, by simp⟩

theorem wit_Commands : serving.hears req0 (commandOf {}) 0 ∧ serving.alone :=
  ⟨hears_of _ _ _ (by decide +kernel), by unfold State.alone; decide +kernel⟩

/-- Five touch-ups wait. -/
def serving5 : State := { serving with cmd := { touchDue := List.replicate 5 [] } }

theorem wit_ForceAndUpdateCommands : serving.userCell 5 = true ∧ serving.forceUse.length < 1024 ∧ serving.userCell 0xF00 = false ∧
    serving.cmd.touchDue.length < 5 ∧ serving.armed = false ∧ serving.touchOk [⟨false, 0x3FFF, 7⟩] = true ∧
    5 ≤ serving5.cmd.touchDue.length ∧
    serving.names.loopsOk serving.floatCells ((serving.slotsDue.filter fun o => !([({ engine := 3, slot := 127, desc := { desc0 with valid := false } } : SlotDesc)]).any fun n =>
        n.engine == o.engine && n.slot == o.slot) ++ [{ engine := 3, slot := 127, desc := { desc0 with valid := false } }]) = true := by
  decide +kernel
theorem wit_ForceAndUpdateCommands_full : serving5.hears req0 (commandOf {}) 0 ∧ serving5.alone :=
  ⟨hears_of _ _ _ (by decide +kernel), by unfold State.alone; decide +kernel⟩

/-- R107: a force waits for the next screed instant; its bool value is kept in bit 0. -/
theorem test_forceSet : (after (.forceSet req0 6 true 3) serving).cmd.forceDue = [(6, some (true, 1))] := by decide +kernel
theorem test_touchUp_full : (after (.touchUp req0 [⟨false, 1, 1⟩]) serving5).cmd.touchDue.length = 5 := by decide +kernel

def verified0 : State := withReg Reg.RCT_STAT_STATE 2 serving
def swapped0 : State := withReg Reg.RCT_STAT_STATE 4 serving
def armed0 : State := withReg Reg.RCT_SWAP_LO_EPOCH_LO 28 (withReg Reg.RCT_STAT_STATE 3 serving)

theorem wit_RecoatCommands : (verified0.hears req0 (commandOf {}) 0 ∧ verified0.alone) ∧
    (swapped0.hears req0 (commandOf {}) 0 ∧ swapped0.alone) ∧ (armed0.hears req0 (commandOf {}) 0 ∧ armed0.alone) :=
  ⟨⟨hears_of _ _ _ (by decide +kernel), by unfold State.alone; decide +kernel⟩,
    ⟨hears_of _ _ _ (by decide +kernel), by unfold State.alone; decide +kernel⟩,
    ⟨hears_of _ _ _ (by decide +kernel), by unfold State.alone; decide +kernel⟩⟩
theorem wit_RecoatCommands_clauses : verified0.epoch + 8 ≤ 28 ∧ verified0.core.fget Reg.RCT_STAT_STATE = 2 ∧
    verified0.hasPartner = false ∧ swapped0.epoch + 8 ≤ 28 ∧ swapped0.core.fget Reg.RCT_STAT_STATE = 4 ∧ 27 < verified0.epoch + 8 ∧
    armed0.core.fget Reg.RCT_STAT_STATE = 3 ∧ armed0.epoch + 1 < armed0.swapEpoch := by decide +kernel

/-- R116: epoch 20 + 8 is near enough for a swap, 27 is not; R118: a cancel gives the verified state back. -/
theorem test_recoatArm : (after (.recoatArm req0 28) verified0).core.fget Reg.RCT_STAT_STATE = 3 ∧
    (after (.recoatArm req0 27) verified0).core.fget Reg.RCT_STAT_RESULT = 6 := by decide +kernel
theorem test_recoatCancel : (after (.recoatCancel req0) armed0).core.fget Reg.RCT_STAT_STATE = 2 := by decide +kernel

/-- A tripped module with a faulted loop slot. -/
def tripped0 : State :=
  withReg Reg.TRW_STAT_IN_SERVICE 1 <| withReg Reg.LP_STAT_STATE 3 <| withReg Reg.SBD_STAT_TRIPPED 1
    { serving with flt := { slots := [(0, { loop0 with faultEpoch := 17 })] } }

def trace0 : TraceSetup := ⟨0, List.replicate 8 (false, 0, 6, 0), 0, 4, 0, 4095⟩

theorem wit_StopAndLoopCommands : serving.core.flag Reg.SBD_STAT_TRIPPED = false ∧
    (∃ d ∈ serving.trw.bank.tasks, d.guarded = true) ∧ tripped0.epochOk 9 1020 = true ∧
    tripped0.core.flag Reg.SBD_STAT_TRIPPED = true ∧ tripped0.cmd.restartDue = false ∧
    0 = tripped0.core.pair Reg.SBD_TRIP_EPOCH_LO_EPOCH_LO Reg.SBD_TRIP_EPOCH_HI_EPOCH_HI ∧
    tripped0.core.sget Reg.THM_STAT_TJ < 950 ∧ tripped0.guardedServed = true ∧
    tripped0.flt.slots.at? (0 * 128 + 0) = some { loop0 with faultEpoch := 17 } ∧
    tripped0.core.fget Reg.LP_STAT_STATE (0 * 128 + 0) = 3 ∧ trace0.ch.length = 8 ∧ trace0.pre ≤ 4095 ∧
    trace0.trigMode.val ≤ 4 ∧ trace0.ch.all (·.2.2.1.val ≤ 6) = true := by decide +kernel
theorem wit_StopAndLoopCommands_hears : tripped0.hears req0 (commandOf {}) 0 ∧ tripped0.alone :=
  ⟨hears_of _ _ _ (by decide +kernel), by unfold State.alone; decide +kernel⟩

theorem test_stop : (after (.stop req0) serving).core.fget Reg.SBD_STAT_CAUSE = 7 := by decide +kernel
theorem test_restart : (after (.restart req0 0 1020 true) tripped0).cmd.restartDue = true ∧
    (after (.restart req0 0 1021 true) tripped0).cmd.restartDue = false := by decide +kernel
theorem test_loopReset : (after (.loopReset req0 0 0 17) tripped0).core.fget Reg.LP_STAT_STATE = 1 := by decide +kernel
theorem test_traceSetUp : (after (.traceSetUp req0 3 trace0) serving).core.fget Reg.TRC_STAT_STATE 3 = 1 := by decide +kernel

/-! ### Module, key and custody commands -/

def inStep0 : State := withReg Reg.GLB_UNIT_PAIRED 1 <| withReg Reg.GLB_UNIT_ROLE 1 <| withReg Reg.PTR_STAT_PAIR_STATE 3 serving
def maint0 : State := withReg Reg.SEC_MAINT_CAUSES 16 <| withReg Reg.TMP_STAT_FULL 1 <| withReg Reg.GLB_STATE_STATE 3 serving
def scanned0 : State := { serving with core := { serving.core with evr := { serving.core.evr with scanned := true } } }
def signed0 : Signed := ⟨1, 1020, true⟩

theorem wit_ModuleCommands : inStep0.hears req0 (commandOf {}) 0 ∧ inStep0.inStep = true ∧ inStep0.epochOk 0xD 1020 = true ∧
    maint0.hears req0 (commandOf maintGate) 0 ∧ maint0.core.state = 3 ∧ maint0.core.fget Reg.SEC_MAINT_CAUSES = 16 ∧
    maint0.core.flag Reg.TMP_STAT_FULL = true ∧ scanned0.hears req0 (commandOf unitGate) 0 ∧ scanned0.signs 0xE signed0 ∧
    scanned0.core.evr.next ≤ 0 ∧ scanned0.core.evr.scanned = true ∧ scanned0.core.evrRoom 0x0D01 = true :=
  ⟨hears_of _ _ _ (by decide +kernel), by decide +kernel, by decide +kernel, hears_of _ _ _ (by decide +kernel), by decide +kernel,
    by decide +kernel, by decide +kernel, hears_of _ _ _ (by decide +kernel), by unfold State.signs; decide +kernel,
    by decide +kernel, by decide +kernel, by decide +kernel⟩

theorem test_meterSnapshot : (after (.meterSnapshot req0 true 5) serving).met.snapsDue = [{ trigger := 2, resetMax := true, mask := 5 }] := by
  decide +kernel
theorem test_maintenanceEnter : (after (.maintenanceEnter req0) serving).core.fget Reg.SEC_MAINT_CAUSES = 16 := by decide +kernel
theorem test_maintenanceLeave : (after (.maintenanceLeave req0) maint0).plat.step = some 8 := by decide +kernel
theorem test_switchover : (after (.switchover req0 1020 true) inStep0).pair.cmds.length = 1 := by decide +kernel
theorem test_recorderClear : (after (.recorderClear req0 signed0 0) scanned0).core.evr.fifo.map (·.code) = [0x0D01] := by
  decide +kernel

/-- An unclaimed module. -/
def unclaimed0 : State := { serving with sec := {} }
/-- Four owner hashes. -/
def owners4 : State := { serving with sec := { serving.sec with otp := { serving.sec.otp with ownerHash := [1, 2, 3, 4] } } }
/-- Scratch, brown and fixed finish slots, and an imported slot 10. -/
def keyed0 : State :=
  { serving with sec := { serving.sec with
      slots := [(0, { active := true, coat := 1 }), (1, { active := true, coat := 2, parent := 0 }),
                (5, { active := true, coat := 2, parent := 0 }), (6, { active := true, coat := 3, parent := 1, gen := 3 }),
                (10, { active := true, coat := 3, parent := 1, alg := 1, imported := true })] } }

theorem wit_KeyCommands : unclaimed0.hears req0 (commandOf { unitGate with unclaimed := true }) 0 ∧ unclaimed0.unclaimed = true ∧
    serving.hears req0 (commandOf unitGate) 0 ∧ serving.signs 0x11 signed0 ∧ serving.sec.otp.ownerHash.length < 4 ∧
    owners4.hears req0 (commandOf unitGate) 0 ∧ owners4.signs 0x11 signed0 ∧ 4 ≤ owners4.sec.otp.ownerHash.length ∧
    keyed0.hears req0 (commandOf unitGate) 0 ∧ keyed0.signs 0x12 signed0 ∧ keyed0.keyCause 6 = none ∧ keyed0.keyCause 5 = none ∧
    keyed0.signs 0x13 signed0 ∧ keyed0.sec.slots.wf = true ∧ keyed0.signs 0x14 signed0 ∧ keyed0.keyCause 0 = none ∧
    keyed0.keyCause 1 = none :=
  ⟨hears_of _ _ _ (by decide +kernel), by decide +kernel, hears_of _ _ _ (by decide +kernel), by unfold State.signs; decide +kernel,
    by decide +kernel, hears_of _ _ _ (by decide +kernel), by unfold State.signs; decide +kernel, by decide +kernel,
    hears_of _ _ _ (by decide +kernel), by unfold State.signs; decide +kernel, by decide +kernel, by decide +kernel,
    by unfold State.signs; decide +kernel, by decide +kernel, by unfold State.signs; decide +kernel, by decide +kernel,
    by decide +kernel⟩

theorem test_claim : (after (.claim req0 1 [77]) unclaimed0).sec.otp.ownerHash = [Config.sha384 [77]] := rfl
theorem test_ownerTransfer : (after (.ownerTransfer req0 signed0 [88]) serving).sec.otp.ownerRevoked = [0] := by decide +kernel
theorem test_keyImport : ((after (.keyImport req0 signed0 255 5 5 1 2 ⟨[], [42]⟩ true) keyed0).slot 255).active = true := by decide +kernel
theorem test_keyDestroy : ((after (.keyDestroy req0 signed0 10) keyed0).slot 10).active = false := by decide +kernel
theorem test_coatRenew : ((after (.coatRenew req0 signed0 1) keyed0).slot 6).gen = 4 := by decide +kernel

/-- An exchange key of generation 4 stands in slot 12 under brown slot 2. -/
def exchangeKey0 : State :=
  { serving with sec := { serving.sec with
      slots := [(0, { active := true, coat := 1 }), (2, { active := true, coat := 2, parent := 0 }),
                (12, { active := true, coat := 3, parent := 2, tag := 4, alg := 2, use := 4, imported := true })] } }
def header0 : Header := { (default : Header) with svn := 3, advance := true }
def file0 : ImageFile := ⟨header0, true, true, default⟩
/-- A trial of slot 0 that has come up. -/
def trial0 : State :=
  withReg Reg.SEC_BOOT_TRIAL 1
    { serving with sec := { serving.sec with trial := some (0, true), fw := [some ⟨file0, file0⟩, none], runSvn := 5, runAdvance := true } }

theorem wit_CustodyCommands : exchangeKey0.hears req0 (commandOf unitGate) 0 ∧ exchangeKey0.signs 0x15 signed0 ∧
    exchangeKey0.exchangeSlot 4 = some 12 ∧ exchangeKey0.keyCause 12 = none ∧ serving.signs 0x16 signed0 ∧
    serving.core.fget Reg.TMP_TIME_SEC_SEC = BitVec.toNat (w := 32) 0 ∧ serving.core.fget Reg.TMP_GEN_GEN = BitVec.toNat (w := 32) 0 ∧
    serving.signs 0x17 signed0 ∧ serving.core.flag Reg.TMP_STAT_FULL = false ∧ serving.importedSlots = [] ∧
    trial0.hears req0 (commandOf unitGate) 0 ∧ trial0.signs 0x18 signed0 ∧ trial0.core.flag Reg.SEC_BOOT_TRIAL = true ∧
    trial0.core.fget Reg.SEC_BOOT_FW_SLOT = 0 ∧ trial0.sec.trial.any (·.1 == 0) = true ∧ trial0.cameUp = true ∧
    trial0.sec.fw.getD 0 none = some ⟨file0, file0⟩ ∧ trial0.signs 0x19 signed0 :=
  ⟨hears_of _ _ _ (by decide +kernel), by unfold State.signs; decide +kernel, by decide +kernel, by decide +kernel,
    by unfold State.signs; decide +kernel, by decide +kernel, by decide +kernel, by unfold State.signs; decide +kernel,
    by decide +kernel, by decide +kernel, hears_of _ _ _ (by decide +kernel), by unfold State.signs; decide +kernel,
    by decide +kernel, by decide +kernel, by decide +kernel, by decide +kernel, by decide +kernel,
    by unfold State.signs; decide +kernel⟩

theorem test_exchangeKeyRoll : (after (.exchangeKeyRoll req0 signed0 4 40) exchangeKey0).xch.keySwitch = some (4, 40) := by decide +kernel
theorem test_tamperClear : (after (.tamperClear req0 signed0 0 0) (withReg Reg.TMP_STAT_FULL 1 serving)).core.flag Reg.TMP_STAT_FULL = false := by
  decide +kernel
theorem test_recommission : ((after (.recommission req0 signed0) serving).slot 9).active = true := by decide +kernel
/-- R375: a count of 3 burns the low three bits, one of 5 the low five. -/
theorem test_firmwareCommit : (after (.firmwareCommit req0 signed0 0) trial0).sec.otp.svnFw = 7 := by decide +kernel
theorem test_configurationCommit : (after (.configurationCommit req0 signed0 0) trial0).sec.otp.svnCfg = 31 := by decide +kernel

/-! ### Metrology -/

/-- One element of TYPE 1, demand period 15 minutes, and a thermal channel on input 7 with k = 1. -/
def element0 : ElementDef := { (default : ElementDef) with elemId := 1, type := 1, phases := [(0, 4)], demMin := 15 }
def thermal0 : ThermalDef := ⟨0, 7, 2, 0, 10, 8, 9, List.replicate 16 0x3F800000, false, false, 0⟩
def hot : Cell := { kind := 3, value := 0x42700000 }
def cool : Cell := { kind := 3, value := 0x42200000 }
def metering : State :=
  withReg Reg.MET_STAT_RUN 1
    { serving with met := { serving.met with
        cfg := { channels := [{ (default : ChannelCfg) with enable := true }], elements := [element0], thermal := [thermal0], daily := [0, 0, 0, 86399] }, samples := 7, seq := 4
        thermal := [{}], thermalExtra := [{ supply := some hot, ret := some cool }]
        slotA := some { seq := 4 }, snapsDue := [{ trigger := 4 }]
        points := [{ (default : PointBlock) with regs := List.replicate 8 { count := 900 }, impStart := 400, impMax := 20 }] } }

/-- The state in which a sample's clipped channels are read. -/
def sampled (raw : List Int) (s : State) : State :=
  (({ s with met := { s.met with samples := s.met.samples + 1, lastC := s.core.c, lastWall := s.wallNow } } : State).noteRaw (converters raw [] 0)).trackCycle

theorem wit_MetrologySample : metering.sampling = true ∧ metering.met.warnDue = false ∧ metering.pendingOn = false ∧
    metering.standby = false ∧ metering.met.cfg.elements = [element0] ∧ element0.phases = [(0, 4)] ∧
    (sampled [500000000] metering).clippedNow = [0] := by decide +kernel

/-- R159: 500 mV is full scale at G = 1, one nanovolt less is not. -/
theorem test_sample : (after (.metrologySample [500000000] [] 0) metering).core.flag Reg.MET_CH_STAT_OVERRANGE 0 = true := by decide +kernel
theorem test_sample_in : (sampled [499999999] metering).clippedNow = [] := by decide +kernel

/-- A demand boundary: network time is a whole number of hours of UTC. Ten minutes later the intervals of 15 minutes are not due. -/
def boundary0 : State := { metering with nt := { metering.nt with map := { metering.nt.map with base := metering.utcOffset * 65536000000000 } } }
def past0 : State := { metering with nt := { metering.nt with map := { metering.nt.map with base := (metering.utcOffset + 600) * 65536000000000 } } }

theorem wit_CommitsAndSnapshots : metering.core.flag Reg.PWR_STAT_WARN = false ∧ 3 < metering.met.cfg.daily.length ∧
    metering.core.flag Reg.MET_SNAP_STAT_NOT_READY = false ∧
    (withReg Reg.MET_SNAP_STAT_NOT_READY 1 metering).core.flag Reg.MET_SNAP_STAT_NOT_READY = true ∧
    metering.sizedPoints.length = 1 ∧ metering.met.cfg.elements[0]? = some element0 ∧
    (metering.sizedPoints[0]?).any (fun x => !x.2.2.irregular) = true ∧ boundary0.demandDue element0 = true ∧
    past0.demandDue element0 = false := by decide +kernel

theorem test_commit : (after .registerCommit metering).met.seq = 5 ∧ ((after .registerCommit metering).met.slotB.map (·.seq)) = some 5 := by
  decide +kernel
/-- R177: 500 units in 15 minutes are 2,000 an hour. -/
theorem test_demand : (after .demandIntervalEnd boundary0).met.points.map (fun p => (p.impStart, p.impMax)) = [(900, 2000)] := by
  decide +kernel

def rove (ch ph : Nat) : State := withReg Reg.MET_STAT_ROVE_CH ch (withReg Reg.MET_STAT_ROVE_PHASE ph metering)

theorem wit_RovingSpare : (rove 0 1).sampling = true ∧ (rove 0 1).plat.hold = false ∧ (rove 0 1).core.fget Reg.MET_STAT_ROVE_PHASE = 1 ∧
    (rove 0 2).core.fget Reg.MET_STAT_ROVE_PHASE = 2 ∧ (rove 26 3).core.fget Reg.MET_STAT_ROVE_PHASE = 3 ∧
    (rove 26 3).core.fget Reg.MET_STAT_ROVE_CH < 27 ∧ (rove 0 4).core.fget Reg.MET_STAT_ROVE_PHASE = 4 := by decide +kernel

/-- R164: differences of 200 ppm and 50 are taken, 201 is rejected. -/
theorem test_rove : (after (.rovePhaseEnd ⟨200, 50, 5, false, 0, 0⟩) (rove 26 3)).met.gains.at? 26 = some 5 ∧
    (after (.rovePhaseEnd ⟨201, 50, 5, false, 0, 0⟩) (rove 26 3)).met.rejects.at? 26 = some 1 := by decide +kernel

def warned0 : State := withReg Reg.PWR_STAT_WARN 1 metering
/-- The warning sample has been taken; half a unit waits in the pending registers. -/
def pend0 : List AccReg := List.replicate 8 { count := 2, rest := 5 }
def warned1 : State := { warned0 with met := { warned0.met with warned := some default, pend := [pend0] } }

theorem wit_WarningHold : metering.core.flag Reg.PWR_STAT_WARN = false ∧ warned0.core.flag Reg.PWR_STAT_WARN = true ∧
    warned0.met.warned = none ∧ warned1.met.warned.isSome = true ∧ warned1.met.points.length = 1 ∧ warned1.met.pend = [pend0] ∧
    metering.sampling = true ∧ metering.standby = false ∧ metering.pendingOn = false ∧
    metering.met.cfg.thermal = [thermal0] ∧ thermal0.input = 7 ∧ metering.met.thermal = [{}] ∧
    metering.met.thermalExtra = [{ supply := some hot, ret := some cool }] ∧
    edgeReverse thermal0 { supply := some hot, ret := some cool } false = false ∧ fineCell (some hot) = true ∧
    fineCell (some cool) = true ∧ (edgeUnits thermal0 hot.value cool.value).isSome = true := by decide +kernel

/-- R193, R194: 10 mL at k = 1 mWh/(L·K) over 60 − 40 K are 0.2 mWh, in units of 2^-32. -/
theorem test_pulse : edgeUnits thermal0 hot.value cool.value = some 858993459 ∧
    (after (.pulseEdge 7 false) metering).met.thermal.map (·.fwdVol) = [10] := by decide +kernel
theorem test_warning : (after (.powerFailWarning true) metering).met.warnDue = true ∧
    (after .warningClear warned0).core.flag Reg.PWR_STAT_WARN = false := by decide +kernel

/-! ### The lane -/

/-- The sweeps stand at bursts to carrier 2, whose channel 0 has latched 7; cell 4 is uint32. -/
def sweeping : State :=
  withReg Reg.LANE_STAT_MASTER 1 <| withReg Reg.LANE_CFG_RETRY 1
    { closing with
      cfg := { closing.cfg with laneBindings := [⟨2, 0, 4, 0, 0, 0⟩] }
      img := { closing.img with working := cells0.put 4 (Cell.sealed { kind := 2 } 4), defs := [(4, ⟨4, 2, 0, 0, false⟩)] }
      lane := { closing.lane with carriers := [(2, { latched := [(0, 7)] })] }
      seq := { closing.seq with outLeft := [⟨2, 0, 1⟩, ⟨2, 0, 1⟩] } }

def failing : Wire := { failures := 2 }

theorem wit_SweepBursts : sweeping.onLane = true ∧ sweeping.standby = false ∧ sweeping.paired = false ∧
    sweeping.seq.inLeft = ⟨2, 0, 1⟩ :: [] ∧ sweeping.burstLost (sweeping.burstFails 2 0 1 0 {}) {} = false ∧
    sweeping.burstLost (sweeping.burstFails 2 0 1 0 failing) failing = true ∧ sweeping.bindings 2 0 = [⟨2, 0, 4, 0, 0, 0⟩] ∧
    sweeping.readWords 2 0 1 {} = [7] ∧ outKind (sweeping.channelKind 2 0) = false ∧
    kindOf (sweeping.kindDomain 4).1 = .uint32 ∧ sweeping.lane.faulty = [] ∧ (sweeping.img.working.at? 4).isSome = true ∧
    sweeping.isForced 4 = false ∧ sweeping.seq.outLeft = ⟨2, 0, 1⟩ :: [⟨2, 0, 1⟩] ∧
    (sweeping.lane.carriers.at? 2).isSome = true ∧
    (sweeping.img.working.at? 4).all (fun c => c.check == checkOf (sweeping.pointId 4) c) = true ∧
    { sweeping with seq := { sweeping.seq with outLeft := [⟨2, 0, 1⟩] } }.seq.outLeft = [⟨2, 0, 1⟩] := by decide +kernel

/-- R206: with RETRY 1 two failures lose the burst; R215: a uint32 cell takes the word. -/
theorem test_dataRd : ((after (.dataRd 2 0 1 {}) sweeping).img.working.at? 4).map (·.value) = some 7 := by decide +kernel
theorem test_dataRd_lost : (after (.dataRd 2 0 1 failing) sweeping).core.fget Reg.LANE_CRC_FAIL_RD = 1 := by decide +kernel
theorem test_dataWr : (after (.dataWr 2 0 1 {}) sweeping).seq.outLeft = [⟨2, 0, 1⟩] := by decide +kernel

/-- A lane before the first tick that expects carrier 3; and the same in a tick's service window. -/
def expected0 : CarrierDef := ⟨3, 17, 18, []⟩
def joining0 : State :=
  withReg Reg.LANE_STAT_MASTER 1 <| withReg Reg.LANE_CFG_VALID 1 <| withReg Reg.LANE_CFG_SILENCE_MS 65535
    { cfg := { carriers := [expected0] }, lane := { carriers := [(3, {})], joining := [(3, (false, false))] } }
def window0 : State := withReg Reg.TICK_STATUS_RUNNING 1 { joining0 with seq := { swapped := true } }
def ident0 : List LWord := [17, 18]

/-- The same window, with nothing to be configured and the probe of carrier 3 not due. -/
def window1 : State := { window0 with lane := { window0.lane with joining := [], nextProbe := [(3, 5)] } }

theorem wit_CarrierJoin_probe : window0.probeDue 3 = true ∧ window0.windowOpen 2 = true ∧
    joining0.probeFinds expected0 [] false = 0 ∧ window0.probeFinds expected0 [] false = 0 ∧
    window1.onLane = true ∧ window1.epoch < window1.lane.nextProbe.atD 3 0 ∧ window1.lane.joining.at? 3 = none := by decide +kernel

theorem wit_CarrierJoin : joining0.onLane = true ∧ joining0.cfg.carriers.find? (·.address == 3) = some expected0 ∧
    joining0.probeFinds expected0 ident0 false = 2 ∧ joining0.probeFinds expected0 [18, 18] false = 1 ∧
    joining0.core.flag Reg.LANE_CFG_VALID = true ∧ joining0.core.flag Reg.TICK_STATUS_RUNNING = false ∧
    window0.onLane = true ∧ window0.probeFinds expected0 ident0 false = 2 ∧ window0.probeFinds expected0 [18, 18] false = 1 ∧
    window0.core.flag Reg.TICK_STATUS_RUNNING = true ∧ window0.seq.swapped = true ∧ window0.joined 3 = false ∧
    joining0.core.fget Reg.LANE_CFG_SILENCE_MS ≠ 0 ∧ joining0.core.fget Reg.LANE_CFG_SILENCE_MS < 2 ^ 16 ∧
    (joining0.lane.carriers.at? 3).isSome = true ∧ (joining0.lane.joining.at? 3).isSome = true ∧
    (window0.lane.carriers.at? 3).isSome = true := by decide +kernel

theorem test_cfgWr : (after (.cfgWr 3 65535 true {}) joining0).joined 3 = true ∧
    (after (.cfgWr 3 65535 true {}) window0).lane.joinNext = [3] := by decide +kernel
theorem test_idRd : (after (.idRd 3 (some [18, 18]) {}) joining0).core.fget Reg.LANE_MISMATCH_CARRIERS = 8 := by decide +kernel
theorem test_probe : ((after (.carrierProbe 3 (some ident0) {}) window0).lane.carriers.at? 3).map (·.ident) = some ident0 := by
  decide +kernel

/-- Carrier 3 has joined with status 0x06 raised, and queue 63 waits for an echo of its channel 0. -/
def progress0 : Progress := { d := default, waitEcho := some (3, 0, 1) }
def servicing : State :=
  withReg Reg.LANE_PRESENT_CARRIERS 8
    { window0 with
      lane := { window0.lane with carriers := [(3, { status := 6, waiting := [(0, 0x1234)] })], echoes := [(3, 0, 1)], clearDue := [(3, 2)] }
      hq := { queues := [(63, { cur := some progress0 })] } }

/-- The same with its status bits cleared. -/
def cleared0 : State := { servicing with lane := { servicing.lane with clearDue := [] } }

theorem wit_ServiceBursts_order : cleared0.windowOpen 3 = true ∧ cleared0.statTurn = some 3 ∧ cleared0.lane.clearDue.at? 3 = none ∧
    (cleared0.lane.carriers.at? 3).isSome = true ∧ (servicing.lane.clearDue.at? 3).isSome = true ∧ servicing.windowOpen 4 = true ∧
    servicing.lane.clearDue.at? 3 = some 2 ∧ servicing.lane.clearDue.at? 3 ≠ some 4 ∧ servicing.windowOpen 5 = true := by decide +kernel

theorem wit_ServiceBursts : servicing.serviceWindow = true ∧ (servicing.lane.carriers.at? 3).isSome = true ∧
    servicing.joined 3 = true ∧
    (servicing.lane.carriers.at? 3).any (fun c => decide ((0 : Fin 128).val ≤ c.lastWord 5) && c.waiting.at? 0 == some 0x1234) = true ∧
    servicing.lane.echoes = [(3, 0, 1)] ∧ (servicing.queue 63).cur = some progress0 ∧ progress0.answer = none := by decide +kernel

/-- R220: bit 2 of 0x06 makes the carrier faulty; a clear of 2 leaves 4. -/
theorem test_statRd : (after (.statRd 3 0 4 0 {}) cleared0).lane.faulty = [3] ∧
    after (.statRd 3 0 4 0 {}) servicing = servicing := by decide +kernel
theorem test_statClr : ((after (.statClr 3 0 [2] {}) servicing).lane.carriers.at? 3).map (·.status) = some 4 := by decide +kernel
theorem test_echo : ((after (.echoRd 3 0 1 {}) servicing).queue 63).cur.map (·.answer) = some (some (.ok, [0x34, 0x12])) := by
  decide +kernel

/-! ### The redundant pair -/

/-- A standby in step in tick 20, with its lane snooping. -/
def standby0 : State :=
  withReg Reg.GLB_UNIT_PAIRED 1 <| withReg Reg.GLB_UNIT_ROLE 2 <| withReg Reg.PTR_STAT_PAIR_STATE 3 <|
    withReg Reg.LANE_STAT_SNOOP 1 <| withReg Reg.TICK_STATUS_PHASE 1
      { serving with pair := { serving.pair with silent := false } }
/-- The same, resynchronising. -/
def resync0 : State := withReg Reg.PTR_STAT_PAIR_STATE 2 standby0

theorem wit_StandbyFollows : standby0.canSnoop = true ∧ standby0.inStep = true ∧ standby0.quiet ∧ standby0.newFrame 5 ∧
    standby0.follows 20 ∧ standby0.unfinished 0 ∧ standby0.pair.inputs = [] ∧ standby0.xch.subs = [] ∧ standby0.xch.triggers = [] ∧
    standby0.core.flag Reg.SBD_STAT_TRIPPED = false ∧ standby0.core.fget Reg.TICK_STATUS_PHASE = 1 ∧ standby0.standby = true ∧
    standby0.core.flag Reg.TICK_STATUS_RUNNING = true ∧ standby0.userCell 5 = true ∧ standby0.userCell 0xF00 = false ∧
    (∀ n ∈ [21, 22], standby0.epoch + 1 < n ∨ n ≤ standby0.epoch + 1) ∧
    { standby0 with pair := { standby0.pair with half := some { seq := 7 } } }.newFrame 5 := by
  unfold State.quiet State.newFrame State.follows State.unfinished; decide +kernel

theorem test_standbyTick : (after (.standbyTickStart 21) standby0).epoch = 21 := by decide +kernel
theorem test_closeFrame : (after (.closeFrame 5 20 [] [] (crc32c [])) standby0).trw.scanning = true := by decide +kernel
theorem test_closeDeadline : (after .closeDeadline standby0).pairState = 2 := by decide +kernel
theorem test_commandFrame : ((after (.commandFrame 5 20 (.command (.forceRemove 5)) 21) standby0).pair.sent.map (·.frame)) = [.ack 5 .ok .none] := by
  decide +kernel
theorem test_meterFrame : (after (.meterFrame 6 ⟨1, { seq := 7 }⟩) (after (.meterFrame 5 ⟨0, { seq := 7 }⟩) standby0)).met.slotB =
    some { seq := 7 } := by decide +kernel
theorem test_inputFrame : (after (.inputFrame 5 20 [⟨5, {}, none⟩]) standby0).pair.rxSeen = [5] := by decide +kernel

/-- A duty unit in step with its standby. -/
def duty0 : State := withReg Reg.LANE_STAT_MASTER 1 { inStep0 with pair := { inStep0.pair with silent := false } }
def seen0 : State := { duty0 with pair := { duty0.pair with rxSeen := [5] } }
def acked0 : State := { duty0 with pair := { duty0.pair with cmds := [⟨8, req0, .command (.forceRemove 5)⟩] } }
def resolve0 : Resolve := { epoch := 19, step := 2, engine := 1, asked := [1] }
def digest0 : Digest := { commits := [1] }
def resolving0 : State := { duty0 with pair := { duty0.pair with resolve := some resolve0, items := [(128, 7)] } }
def owned0 : State := { duty0 with pair := { duty0.pair with own := some (19, digest0) } }

theorem wit_PartnerFrames : seen0.paired = true ∧ seen0.pair.silent = false ∧ seen0.pair.rxSeen.contains 5 = true ∧
    acked0.pair.cmds = [⟨8, req0, .command (.forceRemove 5)⟩] ∧ acked0.userCell 5 = true ∧ Status.refused ≠ Status.ok ∧ owned0.newFrame 5 ∧ owned0.inStep = true ∧
    owned0.buffers = false ∧ owned0.pair.own = some (19, digest0) ∧ owned0.pair.resolve = none ∧
    resolving0.newFrame 5 ∧ resolving0.pair.resolve = some resolve0 ∧ resolve0.asked = [1] ∧ resolve0.theirs = [] ∧
    firstDiffering (wordPairs (resolving0.engineItems 1)) (wordPairs [0, 8]) = some 0 ∧
    resync0.newFrame 5 ∧ resync0.standby = true ∧ resync0.pairState = 2 ∧ duty0.newFrame 5 ∧ duty0.standby = false ∧
    duty0.inStep = true ∧ duty0.pairState = 3 ∧ duty0.core.flag Reg.PTR_STAT_PAIR_SUSPECT = false ∧ duty0.epoch + 8 ≤ 28 := by
  unfold State.newFrame; decide +kernel

theorem test_digest : (after (.digestFrame 5 19 digest0) owned0).pair.own = none := by decide +kernel
theorem test_query : (after (.queryFrame 5 2 1) resolving0).pair.sent.map (·.frame) = [.reply 2 1 [0, 7]] := by decide +kernel
theorem test_reply : (after (.replyFrame 5 2 1 [0, 8]) resolving0).pair.sent.map (·.frame) = [.query 3 0] := by decide +kernel
theorem test_stateFrame : (after (.stateFrame 5 (.retained [(3, 4)])) resync0).trw.ret = [(3, 4)] := by decide +kernel
theorem test_takebackPropose : (after (.roleFrame 5 (.takebackPropose 28)) duty0).pair.takeback = some 28 := by decide +kernel
theorem test_ack_ok : (after (.ackFrame 8 .ok .none) acked0).cmd.forceDue = [(5, none)] := by decide +kernel
theorem test_ack : (after (.ackFrame 8 .refused .none) acked0).pair.cmds = [] := by decide +kernel

def fenced0 : State := withReg Reg.PTR_STAT_FENCED 1 standby0
def waitingRole : State := { standby0 with pair := { standby0.pair with waiting := true } }
/-- The duty has fenced its partner, whose PTR_OK_I has fallen. -/
def fencing0 : State :=
  { duty0 with core := duty0.core.drive .ptrFenceN false, pair := { duty0.pair with okFell := true } }

/-- A frame of number 4 is on its way, once and for the ninth time. -/
def sent0 (n : Nat) : State :=
  { duty0 with pair := { duty0.pair with sent := [{ seq := 4, epoch := 20, frame := .role .takebackCancel }], resends := [(4, n)] } }

theorem wit_LinkAndSideband_resend : (∀ n ∈ [7, 8], (sent0 n).paired = true ∧ (sent0 n).pair.silent = false ∧
    ((sent0 n).pair.sent.find? (·.seq == 4)).isSome = true) ∧ (sent0 7).pair.resends.atD 4 0 < 8 ∧
    8 ≤ (sent0 8).pair.resends.atD 4 0 := by decide +kernel

theorem wit_LinkAndSideband : duty0.paired = true ∧ duty0.pair.silent = false ∧ duty0.pair.resends.atD 4 0 < 8 ∧
    duty0.standby = false ∧ duty0.pairState = 3 ∧ standby0.paired = true ∧ standby0.standby = true ∧ standby0.inStep = true ∧
    standby0.pair.declared = none ∧ standby0.plat.hold = false ∧ standby0.pair.reentry = none ∧ fencing0.paired = true ∧
    fencing0.core.landLevel .ptrFenceN = false ∧ fencing0.pair.okFell = true ∧ fenced0.paired = true ∧
    fenced0.core.flag Reg.PTR_STAT_FENCED = true ∧ waitingRole.paired = true ∧ waitingRole.pair.waiting = true := by decide +kernel

theorem test_frameTimeout : (after (.partnerFrameTimeout 4) (sent0 7)).core.fget Reg.PTR_LINK_ERR_RESENT = 1 ∧
    (after (.partnerFrameTimeout 4) (sent0 8)).pair.silent = true := by decide +kernel
theorem test_linkSilence : (after .partnerLinkSilence duty0).pairState = 0 := by decide +kernel
theorem test_ptrOkFall : (after .ptrOkFall standby0).core.fget Reg.PTR_DECLARE_CAUSE = 2 := by decide +kernel
theorem test_heartbeat : (after .heartbeatTimeout standby0).core.fget Reg.PTR_DECLARE_CAUSE = 3 := by decide +kernel
theorem test_okRise : (after .ptrOkIRise fencing0).core.landLevel .ptrFenceN = true := by decide +kernel
theorem test_mstRise : (after .ptrMstIRise waitingRole).core.fget Reg.GLB_UNIT_ROLE = 2 := by decide +kernel
theorem test_startWait : (after .roleStartWaitExpiry waitingRole).core.fget Reg.GLB_UNIT_ROLE = 1 := by decide +kernel

def declared0 : State := { standby0 with pair := { standby0.pair with declared := some 22 } }
def back (s : State) : State := { s with pair := { s.pair with takeback := some 21 } }
/-- The duty's scan has ended and it waits for its standby's readiness; its list has one output burst. -/
def ready1 : State :=
  { closing with
    trw := { closing.trw with scanning := true }, pair := { closing.pair with silent := false }
    core := duty0.core.fput Reg.LANE_PRESENT_CARRIERS 4 }
/-- A preferred, revertive standby whose hold-off runs. -/
def holdoff0 : State :=
  withReg Reg.GLB_UNIT_PREFERRED 1 <| withReg Reg.PTR_CFG_REVERTIVE 1
    { standby0 with pair := { standby0.pair with holdFrom := some 0 } }

theorem wit_RoleChanges : declared0.paired = true ∧ declared0.standby = true ∧ declared0.pair.declared = some 22 ∧
    (∀ s ∈ [standby0, duty0], (back s).paired = true ∧ (back s).pair.takeback = some ((back s).epoch + 1) ∧
      (back s).inStep = true ∧ (back s).pairState = 3) ∧ (back standby0).standby = true ∧ (back duty0).standby = false ∧
    fenced0.paired = true ∧ fenced0.core.flag Reg.PTR_STAT_FENCED = true ∧ duty0.core.flag Reg.SBD_STAT_TRIPPED = false ∧
    ready1.paired = true ∧ ready1.standby = false ∧ ready1.inStep = true ∧ ready1.cfg.sleepCell = none ∧
    ready1.trw.scanning = true ∧ ready1.allDone = true ∧ ready1.seq.outStarted = false ∧
    ({ ready1 with pair := { ready1.pair with rdyIn := true } } : State).closeScan.outBursts.1 ≠ [] ∧
    holdoff0.paired = true ∧ holdoff0.standby = true ∧ holdoff0.core.flag Reg.GLB_UNIT_PREFERRED = true ∧
    holdoff0.core.flag Reg.PTR_CFG_REVERTIVE = true ∧ holdoff0.pairState = 3 ∧
    holdoff0.core.flag Reg.PTR_STAT_PAIR_SUSPECT = false ∧ holdoff0.core.state = 1 ∧ holdoff0.pair.holdFrom.isSome = true ∧
    holdoff0.pair.proposed = none := by decide +kernel

theorem test_takeover : (after .takeover declared0).core.landLevel .ptrFenceN = false ∧ (after .takeover declared0).seq.next = some 22 := by
  decide +kernel
theorem test_takeback : (after .takeback (back standby0)).core.fget Reg.GLB_UNIT_ROLE = 1 ∧
    (after .takeback (back duty0)).core.fget Reg.GLB_UNIT_ROLE = 2 := by decide +kernel
theorem test_fence : (after .fenceAssert duty0).core.flag Reg.LANE_STAT_MASTER = false ∧
    (after .fenceRelease fenced0).core.flag Reg.PTR_STAT_FENCED = false := by decide +kernel
theorem test_partnerTrip : (after .partnerTrip duty0).core.fget Reg.SBD_STAT_CAUSE = 6 := by decide +kernel
theorem test_partnerReady : (after .partnerReady ready1).seq.outStarted = true := by decide +kernel
theorem test_holdoff : (after .holdoffExpiry holdoff0).pair.proposed = some 28 := by decide +kernel

/-! ### The exchange and the point service -/

def sub0 : SubDef := ⟨6, 2, 0, true, 0, 0, 0, 0, none, false, 100, []⟩
/-- A subscription to position 2, with its exchange key of generation 0; a LEVEL wait for it runs. -/
def subscribed : State :=
  { serving with
    xch := { subs := [sub0], waits := [⟨6, 0⟩] }
    sec := { serving.sec with slots := [(0, { active := true, coat := 1 }), (2, { active := true, coat := 2, parent := 0 }),
      (12, { active := true, coat := 3, parent := 2, tag := 0, alg := 2, use := 4, imported := true })] } }
def dg0 : Datagram := { senderPos := 2, epoch := 20, ctr := 5 }

theorem wit_ExchangeReceive : subscribed.standby = false ∧ subscribed.xch.subs.find? (·.pubPos == dg0.senderPos) = some sub0 ∧
    subscribed.checkDatagram dg0 true false = .ok ∧ subscribed.xch.pubIds.atD sub0.pubPos sub0.pubId.toNat = dg0.pubId.toNat ∧
    subscribed.xch.mergedEpoch.all (· < dg0.epoch + 1) = true ∧ subscribed.xch.waits = [⟨6, 0⟩] ∧
    subscribed.xch.subs.find? (·.id == 6) = some sub0 ∧ sub0.errorTask = none ∧ subscribed.feeds = false ∧
    subscribed.subSlots sub0.id = [] := by decide +kernel

theorem test_datagram : (after (.exchangeDatagramReceive dg0 true false) subscribed).xch.held = [dg0] := by decide +kernel
/-- R253: the epoch window takes 19 to 21. -/
theorem test_datagram_epoch : subscribed.checkDatagram { dg0 with epoch := 18 } true false = .replay ∧
    subscribed.checkDatagram { dg0 with epoch := 21 } true false = .ok := by decide +kernel
theorem test_levelTimeout : (after (.levelTimeout 6) subscribed).core.fget Reg.XCH_LEVEL_TIMEOUTS = 1 := by decide +kernel

/-- A chain of `n` certificates, valid at all times. -/
def hello (n : Nat) : Handshake :=
  { suiteOk := true, chain := List.replicate n ⟨-(2 ^ 64), 2 ^ 64, 1⟩, chainOk := true, selfChained := false, uris := [some 1023] }

def listening : State := { serving with net := { serving.net with quiet := false } }

theorem wit_Sessions : listening.core.fget Reg.SEC_BOOT_STAGE ≠ 3 ∧ listening.handshakeDomain (hello 4) = some 1023 ∧
    listening.net.quiet = false ∧ listening.plat.frozen = false ∧ listening.svc.sessions.at? 31 = none ∧
    listening.handshakeDomain (hello 5) = none ∧ listening.svc.sessions.wf = true ∧ (listening.svc.sessions.at? 0).isSome = true := by
  decide +kernel

theorem test_handshake : ((after (.tlsHandshake 31 (hello 4)) listening).svc.sessions.at? 31).map (·.domain) = some 1023 := by decide +kernel
theorem test_sessionClose : (after (.sessionClose 0) serving).svc.sessions = [] := by decide +kernel

/-- Epoch 19 is published; session 0 holds a pin of it and a subscription; cell 6 is forced. -/
def messaging : State :=
  { serving with
    img := { serving.img with published := cells0, pubEpoch := some 19, pins := [⟨19, [], [{ who := .session 0, since := 0, snap := false }]⟩] }
    cmd := { forces := [(6, { persist := false, value := 1, epoch := 20 })] } }
def subscribing : State :=
  { messaging with svc := { sessions := [(0, { domain := 0, subs := [{ number := 0, k := 1, ranges := [(5, 1)] }] })] } }

/-- The gates of the messages, with their codes (R266). -/
theorem wit_ImageMessages : messaging.hears req0 { maint := true, unclaimed := true, type := 0x01 } 0 ∧
    messaging.hears req0 { maint := true, type := 0xF0 } 0 ∧ messaging.hears req0 { writes := true, kept := true, type := 0x20 } 0 ∧
    messaging.hears req0 { maint := systemOnly [(5, 1)], type := 0x10 } 0 ∧ messaging.hears req0 { type := 0x11 } 0 ∧
    messaging.hears req0 { type := 0x30 } 0 :=
  ⟨hears_of _ _ _ (by decide +kernel), hears_of _ _ _ (by decide +kernel), hears_of _ _ _ (by decide +kernel),
    hears_of _ _ _ (by decide +kernel), hears_of _ _ _ (by decide +kernel), hears_of _ _ _ (by decide +kernel)⟩
theorem wit_ImageMessages_clauses : messaging.mayWrite 0 5 = true ∧ messaging.isForced 5 = false ∧ messaging.mayWrite 0 6 = true ∧
    messaging.isForced 6 = true ∧ messaging.mayWrite 0 0xF00 = false ∧ messaging.img.pubEpoch = some 19 ∧
    (let u := messaging.taken req0 { maint := systemOnly [(5, 1)], type := 0x10 }
     u.mayRead 0 5 = true ∧ (u.readPublished 5 (exitPlace req0.src)).2 = u ∧
       (u.readPublished 5 (exitPlace req0.src)).1.isSome = true) ∧ Machine.rangesOk [(0x4FFF, 1)] = true ∧
    (let u := messaging.taken req0 { type := 0x30 }
     (u.subsOf req0.src).length < 8 ∧ subCells (u.subsOf req0.src) + 1 ≤ 4096) := by decide +kernel
theorem wit_ImageMessages_unsubscribe : subscribing.hears req0 { type := 0x31 } 0 ∧
    ((subscribing.taken req0 { type := 0x31 }).subsOf req0.src).map (·.number) = [0] :=
  ⟨⟨by decide +kernel, by decide +kernel, by decide +kernel, by decide +kernel, by decide +kernel, by decide +kernel, _, rfl,
    by decide +kernel, by simp⟩, by decide +kernel⟩

theorem test_write : (after (.write req0 5 99) messaging).img.writes = [⟨5, 99, messaging.epoch⟩] ∧ (after (.write req0 6 1) messaging).img.writes = [] := by
  decide +kernel
theorem test_unpin : (after (.unpin req0 19) messaging).img.pins = [] := by decide +kernel
theorem test_subscribe : ((after (.subscribe req0 1000 [(5, 3)]) messaging).subsOf req0.src).map (·.number) = [0] ∧
    (after (.unsubscribe req0 0) subscribing).subsOf req0.src = [] := by decide +kernel
theorem test_ping : (after (.ping req0 [1, 2]) messaging).core.out = [.response req0 .ok [1, 2]] := by decide +kernel

/-- A commit, a captured trace, a challenge key of domain 0 in slot 13, and an attestation under way. -/
def recording : State :=
  withReg Reg.TRC_STAT_STATE 4
    { serving with
      met := { serving.met with slotA := some { seq := 2 } }
      sec := { serving.sec with ops := [.attest req0 (List.replicate 48 0)], slots := [(0, { active := true, coat := 1 }), (5, { active := true, coat := 2, parent := 0 }),
        (13, { active := true, coat := 3, parent := 5, tag := 0, alg := 1, imported := true })] } }

theorem wit_RecordMessages : recording.hears req0 { maint := true, type := 0x40 } 0 ∧ recording.hears req0 { type := 0x50 } 0 ∧
    recording.hears req0 { maint := true, type := 0x60 } 0 ∧ recording.hears req0 { type := trendType } 0 ∧
    recording.hears req0 { maint := true, unclaimed := true, type := 0x70 } 0 ∧ recording.hears req0 { maint := true, type := 0x71 } 0 :=
  ⟨hears_of _ _ _ (by decide +kernel), hears_of _ _ _ (by decide +kernel), hears_of _ _ _ (by decide +kernel),
    hears_of _ _ _ (by decide +kernel), hears_of _ _ _ (by decide +kernel), hears_of _ _ _ (by decide +kernel)⟩
theorem wit_RecordMessages_clauses : recording.latestCommit = some { seq := 2 } ∧
    recording.core.fget Reg.TRC_STAT_STATE 0 = 4 ∧ recording.core.fget Reg.TRC_STAT_STATE 3 ≠ 4 ∧ recording.bg.pages = [] ∧
    (List.replicate 48 (0 : Byte)).length = 48 ∧ recording.challengeCause 0 = none ∧
    recording.sec.ops = [.attest req0 (List.replicate 48 0)] := by decide +kernel

theorem test_attest : (after (.attest req0 (List.replicate 48 1)) recording).sec.ops.length = 2 ∧
    (after .keyOperationDone recording).sec.ops = [] := by decide +kernel
theorem test_challenge : (after (.challenge req0 (List.replicate 48 1)) recording).sec.ops.length = 2 := by decide +kernel

/-- A configuration image without cells, of 600 bytes, on its way: begun, received, and at its end. -/
def cfgFile : ImageFile :=
  ⟨{ seq := 9, bodyLength := 88, signerHash := 77 }, true, true, .configuration { silenceMs := 65535 }⟩
def transferring (x : Transfer) : State := { serving with svc := { serving.svc with transfer := some x } }
def open0 : Transfer := { src := .session 0, kind := 1, total := 600 }

theorem wit_ImageTransfer : serving.hears req0 imageGate 0 ∧ (transferring open0).hears req0 imageGate 0 ∧
    (transferring { open0 with received := 600 }).hears req0 imageGate 0 ∧
    (transferring { open0 with received := 600, ended := some req0 }).hears req0 imageGate 0 ∧
    (transferring { open0 with received := 600, ended := some req0 }).verify 3 (600 - 512) none cfgFile = 0 ∧
    (transferring { open0 with received := 600, ended := some req0 }).sec.cfg = [none, none] ∧ serving.svc.transfer = none ∧
    serving.core.fget Reg.SEC_BOOT_STAGE ≠ 3 ∧ open0.src = req0.src ∧ open0.ended = none ∧ open0.received + 600 ≤ open0.total ∧
    open0.kind ≠ 2 :=
  ⟨hears_of _ _ _ (by decide +kernel), hears_of _ _ _ (by decide +kernel), hears_of _ _ _ (by decide +kernel),
    hears_of _ _ _ (by decide +kernel), by decide +kernel, by decide +kernel, by decide +kernel, by decide +kernel,
    by decide +kernel, by decide +kernel, by decide +kernel, by decide +kernel⟩

theorem test_chunk : (after (.imageChunk req0 0 600) (transferring open0)).svc.transfer = some { open0 with received := 600 } ∧
    (after (.imageChunk req0 0 601) (transferring open0)).svc.transfer = some open0 := by decide +kernel
theorem test_verify : (after (.imageVerifyDone [cfgFile]) (transferring { open0 with received := 600, ended := some req0 })).sec.seqMax = 9 := by
  decide +kernel

/-! ### The frame ports -/

/-- Links up on uplink 0 and segment 2; a binding of Ethernet type 0x9000 that has no tag goes stale after one tick. -/
def binding0 : FrameBinding := ⟨255, [2], false, 0x9000, 0, 0, 0, 0, 1, []⟩
def ported : State :=
  withReg Reg.FP_STAT_LINK 1 (i := 2) <| withReg Reg.FP_STAT_LINK 1
    { serving with cfg := { serving.cfg with frameBindings := [binding0] }
                   net := { serving.net with quiet := false, txq := [(0, [.ptp]), (2, [.ptp])], matched := [(255, 19)] } }
def secured0 : State := withReg Reg.FP_CFG_MACSEC 1 ported
/-- A broadcast PTP frame of `n` octets; one of Ethernet type 0x9000; one with a UDP datagram whose checksum is wrong. -/
def frameOf (n : Nat) : RxFrame := { dst := 0xFFFFFFFFFFFF, src := 7, etype := 0x88F7, payload := List.replicate (n - 18) 0 }
def frame0 : RxFrame := frameOf 64
def frame2 : RxFrame := { frame0 with etype := 0x9000 }
def frameSum : RxFrame :=
  { frame0 with etype := 0x86DD
                payload := [0x60, 0, 0, 0, 0, 8, 17, 64] ++ List.replicate 32 0 ++ [0, 1, 0, 1, 0, 8, 0, 1] }
/-- The receive buffer of uplink 0 is full, with class 0's reservation; a TCP send of 3 bytes in segments of 2 waits. -/
def full0 : State := { ported with net := { ported.net with rx := [(0, ⟨16384, 0, 163840⟩)] } }
def send0 : Send := ⟨List.replicate 14 0, [0x60, 0, 0, 0, 0, 0, 6, 64] ++ List.replicate 32 0, List.replicate 20 0, [1, 2, 3], 2⟩
def cutting0 : State := { ported with net := { ported.net with txq := [(0, [.service 0 3 send0 0])] } }

theorem wit_FramesInAndOut_in : ported.accepts 0 frame0.dst = true ∧ ported.accepts 0 2 = false ∧ frame0.etype ≠ 0x8808#16 ∧
    frame0.sec = .unprotected ∧ isMka frame0 = false ∧ frameLen frame0 = 64 ∧ frameLen (frameOf 1523) = 1523 ∧
    frameBadSum frameSum = true ∧ ported.accepts 0 frameSum.dst = true ∧
    RxRoom_put 0 0 64 (RxRoom_taken (full0.net.rx.atD 0 {}) frame0.taken) = none ∧ full0.classOf 0 frame0 = some 0 ∧
    (RxRoom_put 0 0 64 (RxRoom_taken (ported.net.rx.atD 0 {}) frame0.taken)).isSome = true ∧
    (RxRoom_put 2 2 64 (RxRoom_taken (ported.net.rx.atD 2 {}) frame2.taken)).isSome = true ∧
    cutting0.canSend 0 = true ∧ cutting0.isMacsec 0 = false ∧ cutting0.net.txq.at? 0 = some [.service 0 3 send0 0] ∧
    takeItem cutting0.epoch (cutting0.maySend 0) 1 [.service 0 3 send0 0] = (0, some (.service 0 3 send0 0), []) ∧
    sendLast send0 0 = false := by decide +kernel

theorem wit_FramesInAndOut : ported.core.flag Reg.FP_STAT_LINK 0 = true ∧ ported.core.flag Reg.FP_STAT_LINK 2 = true ∧
    ported.core.pllOk 1 = true ∧ 1522 < 1523 ∧ ported.longest 0 = 1522 ∧ secured0.core.flag Reg.FP_STAT_LINK 0 = true ∧
    secured0.isMacsec 0 = true ∧ secured0.longest 0 = 1554 ∧ ported.isMacsec 0 = false ∧ frameBadSum frame0 = false ∧
    ported.classOf 0 frame0 = some 0 ∧ ported.classOf 2 frame2 = some 2 ∧ ported.bindingOf 2 frame2 = some binding0 ∧
    ported.standby = false ∧ ported.canSend 0 = true ∧ ported.canSend 2 = true ∧ ported.net.txq.at? 0 = some [.ptp] ∧
    takeItem ported.epoch (ported.maySend 0) 1 [.ptp] = (0, some .ptp, []) ∧
    takeItem ported.epoch (ported.maySend 2) 1 [.ptp] = (0, some .ptp, []) ∧
    ported.cfg.frameBindings.find? (·.id == binding0.id) = some binding0 ∧
    (ported.net.matched.at? binding0.id).all (fun e => decide (e + binding0.staleTicks ≤ ported.epoch)) = true ∧
    ported.net.stale.contains binding0.id = false := by decide +kernel

/-- R278: 63 octets are too short; 1,522 are not too long. -/
theorem test_frame_short : (after (.frameReceive 0 (frameOf 63)) ported).core.fget Reg.FP_RX_ERR_FCS = 1 ∧
    (after (.frameReceive 0 (frameOf 1522)) ported).core.fget Reg.FP_RX_ERR_FCS = 0 := by decide +kernel
/-- R287: the first segment takes 2 of 3 bytes. -/
theorem test_segment : (after (.frameTransmit 0 false) cutting0).net.txq.at? 0 = some [.service 0 3 send0 2] := by decide +kernel
theorem test_frame_bound : (after (.frameReceive 2 frame2) ported).core.fget Reg.FP_BIND_RX_COUNT 2 = 1 := by decide +kernel
theorem test_frame_sent : (after (.frameTransmit 0 false) ported).net.txq.at? 0 = some [] ∧
    (after (.frameTransmit 2 true) ported).core.fget Reg.PLCA_COLL_COUNT 0 = 1 := by decide +kernel
theorem test_frame_stale : (after (.frameBindingStale 255) ported).net.stale = [255] := by decide +kernel

/-- A paused uplink; a protected uplink with its CAK in slot 14; segment 0 with PLCA as coordinator and as follower. -/
def paused0 : State := withReg Reg.FP_STAT_PAUSED 1 { ported with net := { ported.net with pauses := [(0, 0, 128)] } }
def agreed0 : State :=
  { secured0 with sec := { secured0.sec with slots := [(0, { active := true, coat := 1 }), (2, { active := true, coat := 2, parent := 0 }),
      (14, { active := true, coat := 3, parent := 2, alg := 5, imported := true })] } }
def coordinator0 : State := withReg Reg.PLCA_CTRL_EN 1 (withReg Reg.PLCA_CTRL_COORD 1 ported)
def follower0 : State := withReg Reg.PLCA_CTRL_EN 1 ported

theorem wit_PortStates : (1 : BitVec 16) ≠ 0 ∧ ported.core.flag Reg.FP_STAT_LINK 0 = true ∧ ported.net.pauses.at? 0 = none ∧
    paused0.net.pauses.wf = true ∧ paused0.net.pauses.at? 0 = some (0, 128) ∧ ported.net.txq.wf = true ∧ ported.plat.por = false ∧
    ported.plat.rstLow = false ∧ ported.plat.hold = false ∧ ported.core.flag Reg.FP_STAT_LINK 3 = false ∧
    agreed0.isMacsec 0 = true ∧ agreed0.hasCak = true ∧ coordinator0.plcaRole 0 true = true ∧
    coordinator0.core.flag Reg.FP_STAT_TX_STOPPED 2 = false ∧ coordinator0.net.quiet = false ∧ coordinator0.plat.hold = false ∧
    follower0.plcaRole 0 false = true ∧ follower0.core.flag Reg.PLCA_STAT_CSMA_FALLBACK 0 = false := by decide +kernel

/-- R285: one quantum is 512 ns, 128 counts. -/
theorem test_pause : (after (.pauseFrame 0 1) ported).net.pauses = [(0, 0, 128)] ∧ (after (.pauseExpiry 0) paused0).net.pauses = [] := by
  decide +kernel
theorem test_links : (after (.linkDown 0) ported).core.flag Reg.FP_STAT_LINK 0 = false ∧
    (after (.linkUp 3 true) ported).core.flag Reg.FP_STAT_LINK 3 = true := by decide +kernel
theorem test_mka : (after (.mkaSaInstall ⟨0, [5]⟩) agreed0).core.flag Reg.MS_STAT_SECURED 0 = true := by decide +kernel
theorem test_beacon : (after (.plcaBeaconSend 0) coordinator0).core.flag Reg.PLCA_STAT_ACTIVE 0 = true ∧
    (after (.beaconLoss 0) follower0).core.flag Reg.PLCA_STAT_CSMA_FALLBACK 0 = true := by decide +kernel

/-! ### Accesses to the register map -/

def locked0 : State := withReg Reg.GLB_CTRL_SETUP_LOCK 1 serving

theorem wit_RegisterWriteByAccess : serving.plainWord Reg.PLB_STEP_NS_NS.addr ∧ serving.plainWord 0 ∧ serving.plainWord 0xFFFFC := by
  unfold State.plainWord; decide +kernel
/-- Vector 87 with its mask bit clear. -/
def unmasked0 : State := { serving with core := { serving.core with msixTable := [(87 * 16 + 12, 0)] } }
theorem wit_RegisterAccesses : serving.linkDown = false ∧ (0xFFFF8 : Nat) % 4 = 0 ∧ 0xFFFF8 + 4 < barBytes ∧
    timeWord serving.timeGroup 0xFFFF8 = none ∧ timeWord serving.timeGroup 0xFFFFC = none ∧ serving.core.latch.wf = true ∧
    serving.core.latch.at? 0xFFFF8 = none ∧ lowWordAt Reg.TICK_EPOCH_LO_EPOCH_LO.addr = true ∧
    serving.core.latch.at? Reg.TICK_EPOCH_LO_EPOCH_LO.addr = none ∧ serving.core.msixMasked 87 = true ∧
    unmasked0.linkDown = false ∧ unmasked0.core.msixMasked 87 = false := by decide +kernel
theorem wit_SetupLockHolds : locked0.linkDown = false ∧ locked0.core.flag Reg.GLB_CTRL_SETUP_LOCK = true ∧
    Reg.PLB_STEP_NS_NS ∈ Reg.all ∧ Reg.PLB_STEP_NS_NS.acc = .rwl ∧
    (Reg.PLB_STEP_NS_NS.itemAt Reg.PLB_STEP_NS_NS.addr).isSome = true := by decide +kernel

/-- R344: PLB_STEP_NS takes 1,000 to 1,000,000,000; R10: under the lock its write only sets LOCK_VIOL. -/
theorem test_range : (after (.registerWrite Reg.PLB_STEP_NS_NS.addr 1000) serving).core.fget Reg.PLB_STEP_NS_NS = 1000 ∧
    (after (.registerWrite Reg.PLB_STEP_NS_NS.addr 999) serving).core.fget Reg.PLB_STEP_NS_NS = 20000 := by decide +kernel
theorem test_lock : (after (.registerWrite Reg.PLB_STEP_NS_NS.addr 1000) locked0).core.fget Reg.PLB_STEP_NS_NS = 20000 ∧
    (after (.registerWrite Reg.PLB_STEP_NS_NS.addr 1000) locked0).core.flag Reg.GLB_CTRL_LOCK_VIOL = true := by decide +kernel
theorem test_badAccess : (after (.badAccess true false) serving).core.out = [.readData 0 0] ∧
    (after (.badAccess false false) serving).core.fget Reg.BG_BADACC_COUNT = 1 := by decide +kernel
theorem test_lowWord : (after (.lowWordRead Reg.TICK_EPOCH_LO_EPOCH_LO.addr) serving).core.out =
    [.readData Reg.TICK_EPOCH_LO_EPOCH_LO.addr 20] := by decide +kernel

/-! ### Network time -/

/-- A slave of uplink 0, LOCKED, with one delay of 1,000 ns measured. -/
def slave0 (st : Nat) : State :=
  withReg Reg.NT_CFG_VALID 1 <| withReg Reg.NT_STAT_STATE st <| withReg Reg.NT_STAT_SLAVE 1
    { ported with nt := { ported.nt with delays := [(0, [65536000])], syncs := [(0, (0, 1000))], sentAt := [(0, 2000)] } }
def pulsing : State := withReg Reg.NT_PPS_CFG_OUT_MODE 1 (slave0 2)
/-- Network time ten seconds ahead of the backup domain's count. -/
def ahead0 : State := { slave0 2 with nt := { (slave0 2).nt with map := { (slave0 2).nt.map with base := (slave0 2).backup16 + 655360000000000 } } }

theorem wit_PlumbServo : (∀ st ∈ [0, 2], (slave0 st).ptpOn = true ∧ (slave0 st).core.flag Reg.FP_STAT_LINK (0 : Fin 2) = true ∧
    (slave0 st).ptpHears 0 = true ∧ (slave0 st).grandmaster = false ∧ (slave0 st).core.fget Reg.NT_STAT_SLAVE = 1 ∧
    ((slave0 st).mapAt ((slave0 st).core.c - 0)).isSome = true ∧
    (slave0 st).meanDelay 0 = some 65536000 ∧ (slave0 st).asymmetry 0 = 0) ∧
    (slave0 2).core.fget Reg.PLB_LOCK_NS_NS = 100 ∧ (slave0 2).core.fget Reg.PLB_STEP_NS_NS = 20000 ∧
    (slave0 2).core.fget Reg.NT_STAT_STATE = 2 ∧ (slave0 0).core.fget Reg.NT_STAT_STATE = 0 ∧ (slave0 2).nt.spikes < 2 ∧
    (slave0 2).core.flag Reg.PTR_STAT_FENCED = false := by decide +kernel

/-- R332, R335: an offset of 100 ns keeps LOCKED and counts as good; 20,001 ns is a spike. -/
theorem test_sync : (after (.ptpMessageReceive 0 (.sync ((slave0 2).rxStamp 0 0 - 1100) 0)) (slave0 2)).nt.good = 1 ∧
    (after (.ptpMessageReceive 0 (.sync ((slave0 2).rxStamp 0 0 - 21001) 0)) (slave0 2)).nt.spikes = 1 := by decide +kernel
/-- R334: in FREE the same offset steps network time. -/
theorem test_step : (after (.ptpMessageReceive 0 (.sync ((slave0 0).rxStamp 0 0 - 21001) 0)) (slave0 0)).core.fget Reg.NT_STAT_STATE = 1 := by
  decide +kernel
/-- R330: t2 − t1 = 1,000 and t4 − t3 = 500 ns give a delay of 750 ns. -/
theorem test_delay : (after (.ptpMessageReceive 0 (.delayResp 2500)) (slave0 2)).nt.delays.at? 0 = some [750 * 65536, 65536000] := by
  decide +kernel
theorem test_holdover : (after .holdoverEntry (slave0 2)).core.fget Reg.NT_STAT_STATE = 3 := by decide +kernel
theorem test_ptpSend : (after (.ptpMessageSend 0) (slave0 2)).nt.sent.length = 1 := by decide +kernel

theorem wit_PulsesAndComparisons : (slave0 2).plat.por = false ∧ (slave0 2).plat.rstLow = false ∧ (slave0 2).grandmaster = false ∧
    pulsing.core.fget Reg.NT_PPS_CFG_OUT_MODE ≠ 0 ∧
    (let s := { slave0 2 with nt := { (slave0 2).nt with map := { (slave0 2).nt.map with base := (slave0 2).backup16 } } }
     (s.backup16 - s.nt16).natAbs < s.core.fget Reg.NT_RTC_RTC_STEP_MS * 65536000000 ∧ s.core.fget Reg.NT_STAT_STATE = 2) ∧
    (slave0 2).core.fget Reg.NT_RTC_RTC_STEP_MS ≤ 60000 ∧ (slave0 2).nt.prev = none ∧
    ahead0.core.fget Reg.NT_STAT_STATE = 2 ∧
    ahead0.core.fget Reg.NT_RTC_RTC_STEP_MS * 65536000000 ≤ (ahead0.backup16 - ahead0.nt16).natAbs ∧
    ahead0.nt16 / 65536000000000 - ahead0.utcOffset - 946684800 = 10 ∧ 10 ≤ rangeMax ∧
    ahead0.core.fget Reg.ALM_CTRL_EN 0 = 0 ∧ ahead0.core.fget Reg.ALM_CTRL_EN 1 = 0 ∧ ahead0.core.secB < 2 ^ 32 := by decide +kernel

/-- R342: a count ten seconds behind is stepped. -/
theorem test_rtc : (after .rtcCompare ahead0).core.secB = 10 := by decide +kernel
theorem test_capture : (after .ntCapture ahead0).core.pair Reg.NT_CAP_NS_LO_NS_LO Reg.NT_CAP_NS_HI_NS_HI = 946684847000000000 := by
  decide +kernel
theorem test_leap : (after (.leapSecond false) ahead0).core.secB = 1 ∧ (after (.leapSecond true) ahead0).core.secB = 0 := by decide +kernel
theorem test_pps : (after .ppsOutEdge pulsing).core.out = [.land .ppsOut false, .land .ppsOut true] := by decide +kernel

/-! ### CAN FD -/

def el0 : CanElement := ⟨5, false, false, false, false, false, 1, [7]⟩
/-- Stencil entry for identifier `id`: stored in queue `dest`, or bound to binding 3. -/
def stencil0 (id : BitVec 29) (dest : Fin 4) : Stencil := ⟨id, id, 2, false, true, dest, dest == 3, 3⟩
def rxBinding0 : CanRxBinding := ⟨3, 2, 1, []⟩
def slot0 (idx : Nat) (keep : Bool) : TtSlot := ⟨idx, 1, 0, 31, keep, 0, 0⟩
def ctl0 : CanCtl :=
  { cfg := { ctl := 0, mode := 1, stencils := [stencil0 5 0, stencil0 6 1, stencil0 7 2, stencil0 8 3], rxBindings := [rxBinding0]
             refId := 1, ncyc := 32, slots := [slot0 255 true, slot0 254 false] }
    joining := false, bufs := [(2, { el := el0, pending := true, active := true }), (159, { el := el0, pending := true })]
    matched := [(3, 19)], refSof := some 5, disc := false }
/-- Controller 3 in a mode, joined in its bus. -/
def canned (mode : Nat) : State :=
  withReg Reg.CAN_CFG_VALID 1 (i := 3) <| withReg Reg.CAN_CFG_MODE mode (i := 3)
    (ported.putCan 3 ctl0)
def hit (id : BitVec 29) : CanElement := { el0 with id := id }

theorem wit_CanReception : (canned 1).canJoined 3 = true ∧ (canned 1).core.fget Reg.CAN_CFG_MODE 3 ≠ 3 ∧
    CanCfg_decide ((canned 1).canCtl 3).cfg (CanElement_norm (hit 5)) = some (stencil0 5 0, 0) ∧
    CanCfg_decide ((canned 1).canCtl 3).cfg (CanElement_norm (hit 6)) = some (stencil0 6 1, 1) ∧
    CanCfg_decide ((canned 1).canCtl 3).cfg (CanElement_norm (hit 7)) = some (stencil0 7 2, 2) ∧
    CanCfg_decide ((canned 1).canCtl 3).cfg (CanElement_norm (hit 8)) = some (stencil0 8 3, 3) ∧
    ((canned 1).canCtl 3).cfg.rxBindings.find? (·.id == 3) = some rxBinding0 ∧ rxBinding0.staleTicks ≠ 0 ∧
    (canned 1).standby = false ∧ (CanElement_norm (hit 8)).data.length < rxBinding0.dlcMin ∧
    (((canned 1).canCtl 3).matched.at? rxBinding0.id).all (fun e => decide (e + rxBinding0.staleTicks ≤ (canned 1).epoch)) = true ∧
    ((canned 1).canCtl 3).stale.contains 3 = false ∧ (canned 1).canOn 3 = true ∧ (canned 1).net.quiet = false ∧
    (canned 1).core.fget Reg.CAN_BUS_STATE 3 < 2 := by decide +kernel
/-- Receive queue 0 with 64 elements. -/
def canFull : State := (canned 1).putCan 3 { ctl0 with q0 := List.replicate 64 ⟨el0, 0, 0, 1⟩ }
theorem wit_CanReception_full : canFull.canJoined 3 = true ∧ 64 ≤ (canFull.canCtl 3).q0.length ∧
    CanCfg_decide (canFull.canCtl 3).cfg (CanElement_norm (hit 5)) = some (stencil0 5 0, 0) := by decide +kernel

theorem test_canRx : ((after (.canFrameReceive 3 (hit 6) 0 false) (canned 1)).canCtl 3).q1.length = 1 ∧
    (after (.canFrameReceive 3 (hit 5) 0 false) canFull).core.fget Reg.CAN_RXQ0_LOST 3 = 1 := by decide +kernel
theorem test_canShort : (after (.canFrameReceive 3 (hit 8) 0 false) (canned 1)).core.fget Reg.CAN_RX_LATE_SHORT 3 = 1 := by decide +kernel
theorem test_canStale : ((after (.canBindingStale 3 3) (canned 1)).canCtl 3).stale = [3] := by decide +kernel

/-- The attempt of buffer 2 is to be cancelled. -/
def cancelling : State := (canned 1).putCan 3 { ctl0 with bufs := [(2, { el := el0, pending := true, active := true, cancel := true })] }
def counting (tec : Nat) : State := withReg Reg.CAN_ECR_TEC tec (canned 1) (i := 3)
def off0 : State := withReg Reg.CAN_BUS_STATE 2 (canned 1) (i := 3)

theorem wit_CanTransmission : (((canned 1).canCtl 3).bufs.atD 2 {}).active = true ∧
    (((canned 1).canCtl 3).bufs.atD 2 {}).pending = true ∧ (((canned 1).canCtl 3).bufs.atD 2 {}).next = none ∧
    (canned 1).core.flag Reg.CAN_CFG_SSP_EN 3 = false ∧ (((canned 1).canCtl 3).bufs.atD 2 {}).cancel = false ∧
    ((cancelling.canCtl 3).bufs.atD 2 {}).cancel = true ∧ (counting 247).canJoined 3 = true ∧ (counting 247).canSilent 3 = false ∧
    (counting 247).core.fget Reg.CAN_ECR_TEC 3 + 8 ≤ 255 ∧ (counting 248).canJoined 3 = true ∧
    255 < (counting 248).core.fget Reg.CAN_ECR_TEC 3 + 8 ∧ (counting 248).core.fget Reg.CAN_ECR_TEC 3 ≤ 255 ∧
    off0.core.fget Reg.CAN_BUS_STATE 3 = 2 := by decide +kernel

theorem test_canSent : (after (.canTxAttemptEnd 3 2 true 0 0) (canned 1)).core.fget Reg.CAN_TX_OK_COUNT 3 = 1 ∧
    ((after (.canTxAttemptEnd 3 2 false 0 0) cancelling).canCtl 3).log.map (·.status) = [1] := by decide +kernel
theorem test_canError : (after (.canBusError 3 .form true false) (counting 248)).core.fget Reg.CAN_BUS_STATE 3 = 2 ∧
    (after (.busoffRecovery 3) off0).core.fget Reg.CAN_BUS_STATE 3 = 0 := by decide +kernel

/-- A time master of 32 cycles, and a follower, both with a reference. -/
def timed (master : Nat) : State :=
  withReg Reg.CAN_TT_STAT_REF_OK 1 (i := 3) <| withReg Reg.CAN_CFG_TIME_MASTER master (canned 3) (i := 3)

theorem wit_TimeTriggeredCan : (timed 1).core.fget Reg.CAN_CFG_MODE 3 = 3 ∧ (timed 1).core.flag Reg.CAN_CFG_TIME_MASTER 3 = true ∧
    (timed 1).canDrive 3 = true ∧ ((timed 1).canCtl 3).disc = false ∧ ((timed 1).canCtl 3).refSof = some 5 ∧
    0 < ((timed 1).canCtl 3).cfg.ncyc ∧ ((timed 1).canCtl 3).cfg.ncyc ≤ 32 ∧
    ((timed 0).canCtl 3).cfg.slots.find? (·.idx == 255) = some (slot0 255 true) ∧
    ((timed 0).canCtl 3).cfg.slots.find? (·.idx == 254) = some (slot0 254 false) ∧ (timed 0).canOn 3 = true ∧
    (timed 0).core.fget Reg.CAN_TT_STAT_CYCLE 3 % 2 ^ 0 = 0 ∧ (((timed 0).canCtl 3).bufs.atD 159 {}).pending = true ∧
    (((timed 0).canCtl 3).bufs.atD 159 {}).next = none ∧
    ((timed 0).core.flag Reg.CAN_TT_STAT_REF_OK 3 && true && (timed 0).canDrive 3) = true ∧
    (timed 0).core.flag Reg.CAN_CFG_TIME_MASTER 3 = false := by decide +kernel

theorem test_reference : (after (.ttReferenceTime 3 true) (timed 1)).core.fget Reg.CAN_TT_STAT_CYCLE 3 = 1 := by decide +kernel
theorem test_slot : ((after (.ttSlotDue 3 255 true 0) (timed 0)).canCtl 3).log.map (·.status) = [0] ∧
    ((after (.ttSlotDue 3 254 false 0) (timed 0)).canCtl 3).log.map (·.status) = [2] := by decide +kernel
theorem test_referenceLoss : (after (.ttReferenceLoss 3) (timed 0)).core.flag Reg.CAN_TT_STAT_REF_OK 3 = false := by decide +kernel

/-! ### The host queues -/

/-- Queue 63 is enabled with domain 0, sizes 16, SQ at page 1, CQ at page 2 and data at page 16, all cached; it holds `x`. -/
def queued (x : Queue) : State :=
  withReg Reg.HQ_CFG_ENABLE 1 (i := 63) <| withReg Reg.HQ_CFG_SQ_LOG2 4 (i := 63) <| withReg Reg.HQ_CFG_CQ_LOG2 4 (i := 63) <|
    withReg Reg.HQ_SQ_BASE_PAGE 1 (i := 63) <| withReg Reg.HQ_CQ_BASE_PAGE 2 (i := 63) <| withReg Reg.ATC_ROOT_LO_ADDR 1 (i := 63) <|
      withReg Reg.HQ_CQ_PHASE 1 (i := 63)
        { (canned 1).putCan 3 { ctl0 with q0 := [⟨el0, 0, 0, 7⟩, ⟨el0, 0, 0, 8⟩, ⟨el0, 0, 0, 9⟩]
                                          bufs := [(1, { el := el0, pending := true })] } with
          hq := { queues := [(63, x)], atc := [⟨63, 1, 1, true, false⟩, ⟨63, 2, 2, false, true⟩, ⟨63, 16, 3, true, true⟩] } }
def halted0 : State := withReg Reg.HQ_STAT_HALTED 1 (queued { halt := some .fetch, cqUsed := 3 }) (i := 63)
/-- Queue 63 bound and not enabled, and ring 15 that it owns. -/
def unqueued : State := withReg Reg.HQ_CFG_BOUND 1 (withReg Reg.HQ_CFG_ENABLE 0 (queued {}) (i := 63)) (i := 63)
def ringed (en : Nat) : State :=
  withReg Reg.EQ_CFG_ENABLE en (i := 15) <| withReg Reg.EQ_CFG_OWNER_Q 63 (i := 15) <| withReg Reg.EQ_CFG_LOG2 4 (i := 15) <|
    withReg Reg.HQ_CFG_BOUND 1 (i := 63) { queued {} with core := { (queued {}).core with rings := [(15, { used := 2 })] } }

theorem wit_DoorbellsAndRings : (queued {}).core.flag Reg.HQ_CFG_ENABLE 63 = true ∧ 15 < (queued {}).sqSize 63 ∧
    (queued {}).sqSize 63 ≤ 16 ∧ (queued {}).core.flag Reg.HQ_STAT_HALTED 63 = false ∧
    ((queued { cqUsed := 3 }).queue 63).entries = [] ∧ 3 < (queued { cqUsed := 3 }).cqSize 63 ∧
    (3 + (queued { cqUsed := 3 }).cqSize 63 - 0) % (queued { cqUsed := 3 }).cqSize 63 ≤ ((queued { cqUsed := 3 }).queue 63).cqUsed ∧
    ((queued { cqUsed := 3 }).queue 63).cqUsed < (4 + (queued { cqUsed := 3 }).cqSize 63 - 0) % (queued { cqUsed := 3 }).cqSize 63 ∧
    (ringed 1).ownedRing 63 = some 15 ∧ ((ringed 1).core.rings.atD 15 {}).used = 2 ∧ ((ringed 1).core.rings.atD 15 {}).lost = 0 ∧
    2 ^ (ringed 1).core.fget Reg.EQ_CFG_LOG2 15 = 16 ∧ unqueued.core.flag Reg.HQ_CFG_ENABLE 63 = false ∧
    unqueued.core.flag Reg.HQ_CFG_BOUND 63 = true ∧ unqueued.linkDown = false ∧
    Machine.sizeOk (unqueued.core.fget Reg.HQ_CFG_SQ_LOG2 63) = true ∧ Machine.sizeOk (unqueued.core.fget Reg.HQ_CFG_CQ_LOG2 63) = true ∧
    (queued {}).hq.queues.wf = true ∧ (ringed 0).core.flag Reg.EQ_CFG_ENABLE 15 = false ∧ (ringed 0).linkDown = false ∧
    (ringed 0).core.flag Reg.HQ_CFG_BOUND ((ringed 0).core.fget Reg.EQ_CFG_OWNER_Q 15) = true ∧
    (ringed 0).core.fget Reg.HQ_CFG_DOMAIN ((ringed 0).core.fget Reg.EQ_CFG_OWNER_Q 15) = (ringed 0).core.fget Reg.EQ_CFG_DOMAIN 15 ∧
    Machine.sizeOk ((ringed 0).core.fget Reg.EQ_CFG_LOG2 15) = true ∧ halted0.core.flag Reg.HQ_STAT_HALTED 63 = true ∧
    (halted0.queue 63).entries = [] ∧ (halted0.queue 63).halt = some .fetch := by decide +kernel

theorem test_sqTail : (after (.sqTail 63 16) (queued {})).core.fget Reg.HQ_STAT_CAUSE 63 = 7 ∧
    ((after (.sqTail 63 15) (queued {})).queue 63).sqTail = 15 := by decide +kernel
theorem test_cqHead : ((after (.cqHead 63 3) (queued { cqUsed := 3 })).queue 63).cqUsed = 0 ∧
    (after (.cqHead 63 4) (queued { cqUsed := 3 })).core.flag Reg.HQ_STAT_HALTED 63 = true := by decide +kernel
theorem test_eqHead : (after (.eqHead 63 2) (ringed 1)).core.rings.at? 15 = some { head := 2 } ∧
    (after (.eqHead 63 3) (ringed 1)).core.flag Reg.EQ_STAT_STOPPED 15 = true := by decide +kernel
theorem test_enable : (after (.queueEnable 63) unqueued).core.flag Reg.HQ_CFG_ENABLE 63 = true ∧
    (after (.queueDisable 63) (queued {})).core.flag Reg.HQ_CFG_ENABLE 63 = false := by decide +kernel
theorem test_halt : (after (.controlAbandon 63 {}) halted0).core.fget Reg.HQ_STAT_SQ_HEAD 63 = 1 ∧
    (after (.controlResume 63 {}) halted0).core.flag Reg.HQ_STAT_HALTED 63 = false := by decide +kernel
theorem test_perst : (after .pePerst (queued {})).hq = {} := by decide +kernel

/-- A descriptor of `op`, with a request of `n` bytes and room for a response of 4,096, that has read its request. -/
def desc (op n : Nat) : Descriptor := ⟨op, false, false, false, 0, 0xABCD, 0x10FFC, n, 0x10FFC, 4096, true⟩
def running (op n : Nat) (x : Queue := {}) (type : Nat := 0) : State :=
  queued { x with cur := some { d := { desc op n with type := type }, reqRead := n } }
def holds (op n : Nat) (type : Nat := 0) : Progress := { d := { desc op n with type := type }, reqRead := n }
/-- Its SQ tail stands at 1. -/
def fetching : State := queued { sqTail := 1 }
def unrooted : State := withReg Reg.ATC_ROOT_LO_ADDR 0 fetching (i := 63)

theorem wit_Descriptors_fetch : fetching.queueRuns 63 = true ∧ fetching.plat.hold = false ∧ (fetching.queue 63).cur = none ∧ (fetching.queue 63).entries = [] ∧
    (fetching.queue 63).cqUsed < fetching.cqSize 63 ∧ fetching.core.fget Reg.HQ_STAT_SQ_HEAD 63 ≠ (fetching.queue 63).sqTail ∧
    (fetching.translate 63 (fetching.core.fget Reg.HQ_SQ_BASE_PAGE 63 * 4096 + 0) 64 false (some {})).1.cause = 0 ∧
    (unrooted.translate 63 (unrooted.core.fget Reg.HQ_SQ_BASE_PAGE 63 * 4096 + 0) 64 false (some {})).1.cause ≠ 0 ∧
    unrooted.queueRuns 63 = true := by decide +kernel

theorem wit_Descriptors : (running 0 0).runsOp 63 0 (holds 0 0) ∧ (running 0 0).closes 63 (holds 0 0) {} ∧
    (running 1 8).runsOp 63 1 (holds 1 8) ∧ (running 1 8).closes 63 (holds 1 8) {} ∧ (running 1 0 {} 1).runsOp 63 1 (holds 1 0 1) ∧
    (holds 1 0 1).d.type = 1 ∧ (running 1 0 {} 1).hears (queueReq 63) { maint := true, unclaimed := true, type := 0x01 } 0 ∧
    ((running 1 0 {} 1).infoBody 0).length ≤ (holds 1 0 1).d.rspLen ∧ (holds 1 0 1).sent < ((running 1 0 {} 1).infoBody 0).length ∧
    (running 2 8).serves := by
  refine ⟨?_, ?_, ?_, ?_, ?_, by decide +kernel, ⟨by decide +kernel, by decide +kernel, by decide +kernel, by decide +kernel,
    by decide +kernel, by decide +kernel, holds 1 0 1, by decide +kernel, by decide +kernel, by decide +kernel⟩, by decide +kernel, by decide +kernel, ?_⟩ <;>
    (simp only [State.runsOp, State.closes, State.serves]; decide +kernel)

/-- A subscription 3 of the queue, with an update that waits. -/
def updated0 (u : List (Nat × List Byte)) : State :=
  running 2 8 { subs := [{ number := 3, k := 1, ranges := [(5, 1)] }], updates := u, buffered := 17 }

theorem wit_Descriptors_served : (updated0 [(3, [9])]).runsOp 63 2 (holds 2 8) ∧ (updated0 [(3, [9])]).serves ∧
    ((updated0 [(3, [9])]).queue 63).subs.any (·.number == 3) = true ∧
    ((updated0 [(3, [9])]).queue 63).updates.find? (·.1 == 3) = some (3, [9]) ∧
    ((updated0 []).queue 63).updates.find? (·.1 == 3) = none ∧ (updated0 []).runsOp 63 2 (holds 2 8) ∧
    (running 3 4).runsOp 63 3 (holds 3 4) ∧ ((running 3 4).rxHeld 3 0).take 64 ≠ [] ∧ ((running 3 4).rxHeld 3 0).take 1 ≠ [] ∧
    (running 4 8).runsOp 63 4 (holds 4 8) ∧ (running 4 8).closes 63 (holds 4 8) {} ∧
    (running 4 8).rxHeld 3 0 = [⟨el0, 0, 0, 7⟩] ++ ⟨el0, 0, 0, 8⟩ :: [⟨el0, 0, 0, 9⟩] ∧
    (running 5 72).runsOp 63 5 (holds 5 72) ∧ (running 5 72).standby = false ∧ (running 5 72).bindingOwns 3 2 = false ∧
    elementOk el0 = true ∧ (((running 5 72).canCtl 3).bufs.atD 2 {}).active = false ∧
    (((running 5 72).canCtl 3).bufs.atD 1 {}).active = false ∧ (((running 5 72).canCtl 3).bufs.atD 1 {}).pending = true ∧
    (running 6 4).runsOp 63 6 (holds 6 4) := by
  simp only [State.runsOp, State.closes, State.serves]; decide +kernel

theorem test_nop : (after (.hqNop 63 {}) (running 0 0)).core.fget Reg.HQ_DONE_COUNT 63 = 1 := by decide +kernel
/-- R421: a NOP with TAG 0xABCD in bytes 4 and 5. -/
def bytes0 : List Byte := [0, 0, 0, 0, 0xCD, 0xAB] ++ List.replicate 58 0
theorem test_fetch : ((after (.descriptorFetch 63 {} (some bytes0)) fetching).queue 63).cur.map (·.d.tag) = some 0xABCD ∧
    (after (.descriptorFetch 63 {} none) fetching).core.fget Reg.HQ_STAT_CAUSE 63 = 6 := by decide +kernel
theorem test_canAck : (after (.canAck 63 3 0 8 {}) (running 4 8)).rxHeld 3 0 = [⟨el0, 0, 0, 9⟩] := by decide +kernel
theorem test_canTx : (((after (.canTxSend 63 3 2 el0 {}) (running 5 72)).canCtl 3).bufs.atD 2 {}).pending = true ∧
    (((after (.canTxCancel 63 3 1 {}) (running 5 72)).canCtl 3).bufs.atD 1 {}).pending = false := by decide +kernel
theorem test_laneEcho : (after (.laneEcho 63 31 64 64) (running 6 4)).lane.echoes = [(31, 64, 64)] := by decide +kernel
theorem test_updateWait : ((after (.updateWait 63 3) (updated0 [(3, [9])])).queue 63).buffered = 0 := by decide +kernel

/-- A request of 8 bytes still to read, that crosses into a page with no translation; a response of 8 bytes. -/
def reading : State := queued { cur := some { d := desc 1 8 } }
def writing : State := queued { cur := some { d := desc 1 0, answer := some (.ok, [1, 2, 3, 4, 5, 6, 7, 8]) } }
def crossing0 : State := queued { cur := some { d := desc 1 8, reqRead := 4 } }
def invalidating : State := { queued {} with hq := { (queued {}).hq with inv := some (63, false, 2, 14) } }

theorem wit_DataMover : (∀ s ∈ [reading, writing, crossing0], (s.queue 63).cur.isSome = true ∧ s.moves 63 = true ∧ s.moverNext = some 63) ∧
    (reading.queue 63).cur.bind Progress_reply = none ∧
    (reading.translate 63 0x10FFC (chunkBytes 0x10FFC 8) false (some {})).1.cause = 0 ∧
    (crossing0.translate 63 0x11000 (chunkBytes 0x11000 4) false (some {})).1.cause ≠ 0 ∧
    ((writing.queue 63).cur.bind Progress_reply).isSome = true ∧
    (writing.translate 63 0x10FFC (chunkBytes 0x10FFC 8) true (some {})).1.cause = 0 ∧ 0 + chunkBytes 0x10FFC 8 < 8 ∧
    reading.core.flag Reg.ATC_INV_STAT_BUSY = false ∧ invalidating.hq.inv = some (63, false, 2, 14) := by decide +kernel

/-- R427: a chunk ends at a 4 KiB boundary. R433: pages 2 to 15 go, 1 and 16 stay. -/
theorem test_chunks : ((after (.dmaChunk 63 {} false) reading).queue 63).cur.map (·.reqRead) = some 4 ∧
    (after (.dmaChunk 63 {} false) writing).core.out = [.hostWrite 63 0x3FFC [1, 2, 3, 4]] := by decide +kernel
theorem test_invalidate : (after .atcInvalidateDone invalidating).hq.atc.map (·.page) = [1, 16] := by decide +kernel

/-! ### The backup domain -/

/-- A write of the backup window on its way. -/
def crossingOf (addr : Nat) (v : Word) : State :=
  withReg Reg.CAL_STATUS_BUSY 1 <| withReg Reg.BKP_SET_SEC_SEC rangeMax <| withReg Reg.BKP_SET_FRAC_FRAC 0x8000
    { serving with bkp := { serving.bkp with crossing := some (addr, v) } }
def tooLate : State := withReg Reg.BKP_SET_SEC_SEC (rangeMax + 1) (crossingOf Reg.BKP_SET_CTRL_LOCAL.addr 1)
/-- One second before the end of the range, and at it. -/
def nearEnd (b : Nat) : State := withReg Reg.BKP_SEC_SEC b (withReg Reg.CAL_STATUS_RANGE_END 0 serving)

theorem wit_BackupTime : serving.core.flag Reg.GLB_CTRL_SETUP_LOCK = false ∧ serving.core.flag Reg.CAL_STATUS_BUSY = false ∧
    (crossingOf 0 0).core.flag Reg.CAL_STATUS_BUSY = true ∧
    (crossingOf Reg.BKP_SET_CTRL_LOCAL.addr 1).bkp.crossing = some (Reg.BKP_SET_CTRL_LOCAL.addr, 1) ∧
    (1 : Word).getLsbD 0 = true ∧ (1 : Word).getLsbD 1 = false ∧ (3 : Word).getLsbD 0 = true ∧ (3 : Word).getLsbD 1 = true ∧
    (crossingOf 0 0).core.fget Reg.ALM_CTRL_EN 0 = 0 ∧ (crossingOf 0 0).core.fget Reg.ALM_CTRL_EN 1 = 0 ∧
    (crossingOf Reg.BKP_SET_CTRL_LOCAL.addr 1).core.fget Reg.BKP_SET_SEC_SEC ≤ rangeMax ∧
    rangeMax < tooLate.core.fget Reg.BKP_SET_SEC_SEC ∧
    (crossingOf Reg.BKP_OFFSET_MIN.addr 60).bkp.crossing = some (Reg.BKP_OFFSET_MIN.addr, 60) ∧
    (nearEnd (rangeMax - 1)).core.flag Reg.CAL_STATUS_RANGE_END = false ∧ (nearEnd (rangeMax - 1)).core.secB < rangeMax ∧
    rangeMax ≤ (nearEnd rangeMax).core.secB ∧ (nearEnd rangeMax).core.flag Reg.CAL_STATUS_RANGE_END = false ∧
    (timeWord (serving.bkp.shadow.getD serving.timeGroup) Reg.BKP_SEC_SEC.addr).isSome = true ∧
    (timeWord (serving.bkp.shadow.getD serving.timeGroup) Reg.BKP_ERA_ERA.addr).isSome = true := by decide +kernel

/-- R346, R352: the largest count is taken, one more is INVALID, and both GO bits at once too. -/
theorem test_setSec : (after .bkpWriteCrossed (crossingOf Reg.BKP_SET_CTRL_LOCAL.addr 1)).core.secB = 0xFFCEDD7F ∧
    (after .bkpWriteCrossed tooLate).core.flag Reg.CAL_STATUS_INVALID = true := by decide +kernel
theorem test_setBoth : (after .bkpWriteCrossed (crossingOf Reg.BKP_SET_CTRL_LOCAL.addr 3)).core.flag Reg.CAL_STATUS_INVALID = true := by
  decide +kernel
theorem test_second : (after .localSecond (nearEnd (rangeMax - 1))).core.secB = rangeMax ∧
    (after .localSecond (nearEnd rangeMax)).core.flag Reg.CAL_STATUS_RANGE_END = true := by decide +kernel
theorem test_goSec : (after .goSec serving).bkp.crossing = some (Reg.BKP_SET_CTRL_LOCAL.addr, 1) := by decide +kernel
theorem test_timeGroup : (after (.timeGroupRead Reg.BKP_SEC_SEC.addr) serving).bkp.shadow = some serving.timeGroup := by decide +kernel
theorem test_crystalStop : (after .crystalStop serving).core.flag Reg.CAL_STATUS_OSF = true := by decide +kernel

def onVbat (b : Nat) : State := withReg Reg.BKP_PWR_ON_VBAT b serving
/-- Tamper input 3, active high after three samples, with the response; it has seen `n`. -/
def watching (n : Nat) : State :=
  withReg Reg.TMP_CFG_EN 1 (i := 3) <| withReg Reg.TMP_CFG_LEVEL 1 (i := 3) <| withReg Reg.TMP_CFG_FILTER 3 (i := 3) <|
    withReg Reg.TMP_CFG_RESP 1 (i := 3) <| withReg Reg.BKP_WIPE_BANKS 0x80 <| withReg Reg.BKP_BYTES_DATA 5 (i := 31) <|
      withReg Reg.MESH_CFG_EN 1 { serving with bkp := { serving.bkp with inputs := [(3, { count := n })] } }

theorem wit_SuppliesAndTamper : (onVbat 0).core.flag Reg.BKP_PWR_ON_VBAT = false ∧ (onVbat 1).core.flag Reg.BKP_PWR_ON_VBAT = true ∧
    (watching 1).core.flag Reg.TMP_CFG_EN 0 = false ∧ (watching 1).core.flag Reg.TMP_CFG_EN 3 = true ∧
    false ≠ (watching 1).core.flag Reg.TMP_CFG_LEVEL 3 ∧ true = (watching 1).core.flag Reg.TMP_CFG_LEVEL 3 ∧
    ((watching 1).bkp.inputs.atD 3 {}).tripped = false ∧
    ((watching 1).bkp.inputs.atD 3 {}).count + 1 < (watching 1).core.fget Reg.TMP_CFG_FILTER 3 ∧
    (watching 2).core.fget Reg.TMP_CFG_FILTER 3 ≤ ((watching 2).bkp.inputs.atD 3 {}).count + 1 ∧
    (watching 2).core.flag Reg.TMP_CFG_RESP 3 = true ∧ (watching 2).core.flag Reg.TMP_STAT_FULL = false ∧
    ((watching 2).core.fget Reg.BKP_WIPE_BANKS).testBit 7 = true ∧ (watching 2).core.flag Reg.MESH_CFG_EN = true := by decide +kernel

/-- R363: the third active sample trips, and bank 7 is wiped. -/
theorem test_tamper : (after (.tamperSample 3 true) (watching 1)).core.fget Reg.TMP_STAT_INPUTS = 0 ∧
    (after (.tamperSample 3 true) (watching 2)).core.fget Reg.TMP_STAT_INPUTS = 8 := by decide +kernel
theorem test_wipe : (after (.tamperSample 3 true) (watching 2)).core.fget Reg.BKP_BYTES_DATA 31 = 0 := by decide +kernel
/-- R361: 2,199 mV is low, 2,300 mV is not. -/
theorem test_vbat : (after (.vbatMeasure 2199) serving).core.flag Reg.BKP_PWR_VBAT_LOW = true ∧
    (after (.vbatMeasure 2300) serving).core.flag Reg.BKP_PWR_VBAT_LOW = false := by decide +kernel
theorem test_supply : (after .supplyToVbat (onVbat 0)).core.fget Reg.BKP_PWR_SWITCHES = 1 ∧
    (after .supplyReturn (onVbat 1)).core.flag Reg.BKP_PWR_ON_VBAT = false := by decide +kernel
theorem test_mesh : (after (.meshPeriod false false) (watching 0)).core.landLevel .mesh0 = false := by decide +kernel

/-- A sleep that may be asked for; one whose last tick is over; one whose supply did not fall; asleep with PWRON low. -/
def drowsy : State := withReg Reg.BKP_WAKE_WAKE_N_EN 1 { serving with seq := { serving.seq with swapped := true } }
def sleepy : State := withReg Reg.GLB_STATE_STATE 4 { drowsy with plat := { drowsy.plat with sleepReq := some 19 } }
def awake : State := withReg Reg.GLB_STATE_STATE 4 { drowsy with seq := {} }
def asleep0 (low : Bool) (wake : Bool) : State :=
  { drowsy with plat := { drowsy.plat with asleep := true }, bkp := { drowsy.bkp with lowMin := low, wake := wake } }

theorem wit_SleepAndWake : drowsy.core.flag Reg.CAL_STATUS_BUSY = false ∧ (0 : Word) ≠ 0x51EE0A17 ∧ drowsy.plat.sleepReq = none ∧
    drowsy.sleepRefusal = none ∧ sleepy.sleepDue = true ∧ sleepy.sampling = false ∧ awake.plat.por = false ∧ awake.core.state = 4 ∧
    awake.plat.sleepReq = none ∧ awake.seq.base = none ∧ (asleep0 true true).bkp.lowMin = true ∧ (asleep0 true true).bkp.wake = true ∧
    (asleep0 true true).plat.asleep = true ∧ (asleep0 true false).bkp.wake = false ∧ (asleep0 true false).bkp.lowMin = true ∧
    (asleep0 false false).bkp.lowMin = false ∧ (asleep0 true false).core.flag Reg.BKP_WAKE_WAKE_N_EN = true ∧
    serving.core.flag Reg.BKP_WAKE_WAKE_N_EN = false := by decide +kernel

theorem test_sleepKey : (after (.sleepKeyWrite 0x51EE0A17) drowsy).plat.sleepReq = some 20 ∧
    (after (.sleepKeyWrite 0x51EE0A18) drowsy).plat.sleepReq = none := by decide +kernel
theorem test_sleep : (after .sleepEntry sleepy).core.landLevel .pwron = false ∧ (after .sleepFail awake).core.flag Reg.BKP_WAKE_SLEEP_FAIL = true := by
  decide +kernel
theorem test_wake : (after .wakeNLow (asleep0 true false)).plat.asleep = true ∧ (after .pwronLowEnd (asleep0 true true)).plat.asleep = false := by
  decide +kernel

/-! ### Resets, start-up, clocks and heat -/

/-- A module on whose supply the power-on reset acts; one with RESET_N low; a trial under way; a reset of block `b` under way. -/
def down (por low : Bool) : State := { serving with plat := { serving.plat with por := por, rstLow := low } }
def tried0 : State := { trial0 with plat := { trial0.plat with step := none } }
def blocked0 (b : Nat) : State :=
  withReg Reg.RST_BLOCK_STAT_BUSY 1 { canned 1 with plat := { serving.plat with block := some b } }
def asking (b : Nat) : State := withReg Reg.RST_BLOCK_BLOCK b serving
def expired : State := { scanned0 with plat := { scanned0.plat with expiry := some (5, 6) } }

theorem wit_Resets : serving.plat.por = false ∧ serving.plat.rstLow = false ∧
    (∀ q < 64, serving.core.flag Reg.HQ_CFG_ENABLE q = false) ∧ (down true false).plat.por = true ∧ (down false true).plat.rstLow = true ∧
    (down false true).plat.por = false ∧ (down false true).core.fget Reg.CLK_STAT_PLL_LOCK ≠ 0 ∧
    (down false true).core.flag Reg.RST_PRIMER_PRIMER_FAULT = false ∧ tried0.core.flag Reg.SEC_BOOT_TRIAL = true ∧
    tried0.sec.trial.isSome = true ∧ tried0.plat.por = false ∧ tried0.plat.rstLow = false ∧
    (asking 12).core.flag Reg.RST_BLOCK_STAT_BUSY = false ∧ (asking 12).core.fget Reg.RST_BLOCK_BLOCK = 12 ∧
    (blocked0 1).plat.block = some 1 ∧ (blocked0 9).plat.block = some 9 ∧ expired.core.evr.scanned = true ∧
    scanned0.core.evr.scanned = true ∧ scanned0.plat.expiry = none ∧
    (withReg Reg.WDT_STAT_ARMED 1 serving).core.flag Reg.WDT_STAT_ARMED = true := by decide +kernel

theorem test_powerOn : (after .powerOnReset serving).core.fget Reg.GLB_STATE_STATE = 0 ∧ (after .powerOnRelease (down true false)).plat.step = some 1 := by
  decide +kernel
theorem test_resetN : (after .resetNAssert serving).plat.rstLow = true ∧ (after .resetNRelease (down false true)).plat.step = some 2 := by
  decide +kernel
theorem test_trialTimeout : (after .trialTimeout tried0).core.landLevel .resetN = false := by decide +kernel
theorem test_block : (after .blockReset (asking 12)).plat.block = some 12 ∧ (after .blockReset (asking 13)).plat.block = none ∧
    ((after (.blockResetDone true) (blocked0 9)).canCtl 3).bufs = [] := by decide +kernel
theorem test_watchdog : (after .watchdogExpiry (withReg Reg.WDT_STAT_ARMED 1 serving)).core.landLevel .wdtOut = false ∧
    (after .watchdogService expired).plat.expiry = none := by decide +kernel

/-- Start-up at step `n`, without a configuration; at step 2 after `fails` failed loads; at step 4 with a firmware in slot 0. -/
def starting (n : Nat) (fails : Nat := 0) : State :=
  { serving with plat := { step := some n, fails := fails }, sec := { serving.sec with fw := [none, none] } }
def fwFile (k : Nat) : ImageFile := ⟨{ kind := k, signerHash := 1 }, true, true, .firmware⟩
def booting : State := { starting 4 with sec := { (starting 4).sec with fw := [some ⟨fwFile 1, fwFile 2⟩, none] } }

theorem wit_StartUp : (∀ n ∈ [1, 2, 3, 4, 6, 7, 8, 9], (starting n).plat.por = false ∧ (starting n).plat.rstLow = false ∧
      (starting n).plat.frozen = false ∧ (starting n).plat.step = some n) ∧ (starting 2 1).plat.fails + 1 < 3 ∧
    3 ≤ (starting 2 2).plat.fails + 1 ∧ (starting 4).core.flag Reg.TMP_STAT_FULL = false ∧ (starting 4).sec.trial = none ∧
    (starting 4).sec.fwPref < 2 ∧ (starting 4).sec.fw = [none, none] ∧ booting.plat.step = some 4 ∧ booting.sec.trial = none ∧
    (booting.verifyFw {} booting.sec.fwPref true).1 = true ∧ (starting 8).sec.cfg = [none, none] := by decide +kernel

theorem test_primer : (after (.primerLoadDone false 1) (starting 2 2)).core.flag Reg.RST_PRIMER_PRIMER_FAULT = true ∧
    (after (.primerLoadDone false 1) (starting 2 1)).plat.fails = 2 := by decide +kernel
theorem test_boot : (after (.startUpStepDone {}) booting).core.fget Reg.SEC_BOOT_STAGE = 1 ∧
    (after (.startUpStepDone {}) (starting 4)).core.fget Reg.SEC_BOOT_STAGE = 3 := by decide +kernel
theorem test_step8 : (after (.startUpStepDone {}) (starting 8)).core.fget Reg.SEC_MAINT_CAUSES = 8 := by decide +kernel

/-- Clock `c` is lost. -/
def lost0 (c : Nat) : State := { serving with plat := { serving.plat with lost := [(c, 0, 0)] } }
/-- Throttle stage `n`; `cool` once the junction is below 100 °C. -/
def staged0 (n : Nat) : State := withReg Reg.THM_STAT_STAGE n { serving with plat := { serving.plat with cool := true } }
def stopped0 : State := { serving with cmd := { stopAll := true } }

theorem wit_ClocksAndHeat : serving.plat.por = false ∧ (∀ c < 8, serving.plat.lost.any (·.1 == c) = false ∧
      (lost0 c).plat.lost.any (·.1 == c) = true) ∧ serving.dieOn = true ∧ serving.plat.rstLow = false ∧
    serving.core.flag Reg.RST_PRIMER_PRIMER_FAULT = false ∧ serving.core.fget Reg.THM_STAT_STAGE < 3 ∧
    (staged0 3).dieOn = true ∧ (staged0 3).core.fget Reg.THM_STAT_STAGE = 3 ∧ (staged0 1).plat.cool = true ∧
    (staged0 1).core.fget Reg.THM_STAT_STAGE = 1 ∧ (staged0 2).core.fget Reg.THM_STAT_STAGE = 2 ∧ stopped0.cmd.stopAll = true ∧
    ({ lost0 5 with met := { blocked := true } } : State).plat.lost.any (·.1 == 5) = true ∧
    stopped0.hasCause 3 = false ∧ stopped0.core.state ≠ 3 := by decide +kernel

theorem test_clock : (after (.clockLoss 0) serving).plat.frozen = true ∧ (after (.clockReturn 4 0) (lost0 4)).core.flag Reg.CLK_STAT_PCIE_REF_OK = true := by
  decide +kernel
/-- R467: 105.0 °C is stage 1, 107.0 °C stage 2, 110.0 °C stage 3. -/
theorem test_heat : ([1049, 1050, 1070, 1100].map fun t => (after (.junctionMeasure t) serving).core.fget Reg.THM_STAT_STAGE) = [0, 1, 2, 3] := by
  decide +kernel
theorem test_release : (after .throttleRelease (staged0 2)).core.fget Reg.THM_STAT_STAGE = 0 ∧
    (after .thermalMaintenanceEntry stopped0).core.state = 3 := by decide +kernel

/-! ### The recorder and background work -/

def rec0 (code seq : Nat) : Rec := ⟨seq, 0, 0, 0, 0, code, 0, 0, 0, false, [], 0⟩
/-- A recorder with `r` waiting, two slots written, and three records dropped. -/
def logging (r : Rec) : State :=
  { serving with
    core := { serving.core with evr := { serving.core.evr with scanned := true, fifo := [r], slots := [(0, rec0 1 0), (1, rec0 1 1)], dropped := 3, next := 9 } }
    bg := { serving.bg with staged := List.replicate 204 default } }

theorem wit_BackgroundWork : serving.core.evr.fifo = [] ∧ (logging (rec0 5 2)).core.evr.fifo = rec0 5 2 :: [] ∧ (rec0 5 2).code ≠ 0x0D01 ∧
    (rec0 0x0D01 2).code = 0x0D01 ∧ (logging (rec0 5 2)).core.evr.scanned = true ∧ (logging (rec0 5 2)).core.evr.dropped ≠ 0 ∧
    (logging (rec0 5 2)).core.evrRoom 0x0D02 = true ∧ (logging (rec0 5 2)).plat.hold = false ∧ (logging (rec0 5 2)).bg.staged ≠ [] ∧
    (logging (rec0 5 2)).bg.pages.wf = true ∧ 0 < (logging (rec0 5 2)).logPages := by decide +kernel

theorem test_recordWrite : (after .recordWrite (logging (rec0 5 2))).core.evr.slots.keys = [0, 1, 2] ∧
    (after .recordWrite (logging (rec0 0x0D01 2))).core.evr.slots.keys = [0] := by decide +kernel
theorem test_dropped : (after .recordsDropped (logging (rec0 5 2))).core.evr.fifo.map (·.code) = [5, 0x0D02] := by decide +kernel
theorem test_sweep : (after (.recorderSweep [1]) (logging (rec0 5 2))).core.fget Reg.SWEEP_EVR_PASSES = 1 := by decide +kernel
theorem test_skim : (after (.skimAccess 0 0 (.corrected 2 0)) serving).core.fget Reg.SKIM_SRAM_CORR = 2 ∧
    (after (.skimAccess 2 0 (.bad (.code [7] false))) serving).trw.codeBad = [7] := by decide +kernel
theorem test_trend : (logging (rec0 5 2)).writePage.bg.staged.length = 1 ∧
    ((logging (rec0 5 2)).retireBlocks [7]).core.fget Reg.FLASH_STAT_SPARE = 1279 := by decide +kernel
theorem test_keySweep : ((after (.keySlotSweep [(10, true, false)]) keyed0).slot 10).okA = false := by decide +kernel
theorem test_fallback : (after .fallbackStoreWrite (logging (rec0 5 2))).core.bankOk 0 = true := by decide +kernel

/-! ### The whole machine -/

theorem wit_StepRunsFront : ({ pending := [] } : State).pending = [] := rfl
theorem wit_EveryStepKeepsTheInvariant : ({ serving with pending := [.setupLock] } : State).Inv := by
  simp only [State.Inv, State.queueOk, State.phaseOk, State.stepOk]; decide +kernel
theorem wit_FamilyFrames : exec .setupLock serving = .next (after .setupLock serving) := rfl

/-! ### Ill-formed commands -/

theorem test_wf_register : Instr.wf (.registerWrite 0x100000 0) = false ∧ Instr.wf (.registerWrite 0xFFFFC 0) = true := by decide
theorem test_wf_lowWord : Instr.wf (.lowWordRead 0x100000) = false := by decide
theorem test_wf_timeGroup : Instr.wf (.timeGroupRead 0x100000) = false := by decide
theorem test_wf_cell : Instr.wf (.forceSet req0 4096 false 0) = false ∧ Instr.wf (.forceRemove req0 4096) = false ∧
    Instr.wf (.write req0 4096 0) = false ∧ Instr.wf (.write req0 4095 0) = true := by decide
theorem test_wf_epoch : Instr.wf (.recoatArm req0 (2 ^ 64)) = false ∧ Instr.wf (.revertArm req0 (2 ^ 64)) = false ∧
    Instr.wf (.unpin req0 (2 ^ 64)) = false ∧ Instr.wf (.standbyTickStart (2 ^ 64)) = false := by decide
theorem test_wf_pinExpiry : Instr.wf (.pinExpiry (.session 0) (2 ^ 64)) = false := by decide
theorem test_wf_snapshot : Instr.wf (.snapshot req0 (2 ^ 64) false []) = false ∧ Instr.wf (.snapshot req0 0 false [(2 ^ 16, 1)]) = false ∧
    Instr.wf (.subscribe req0 1 [(0, 2 ^ 16)]) = false := by decide
theorem test_wf_burst : Instr.wf (.dataRd 0 127 2 {}) = false ∧ Instr.wf (.dataWr 0 0 0 {}) = false ∧
    Instr.wf (.statRd 0 0 65 0 {}) = false ∧ Instr.wf (.echoRd 0 127 2 {}) = false ∧ Instr.wf (.statClr 0 0 [] {}) = false := by decide
theorem test_wf_slot : Instr.wf (.keyImport req0 signed0 256 1 1 0 0 {} true) = false ∧ Instr.wf (.metrologySample [] [] 0) = false ∧ Instr.wf (.keyDestroy req0 signed0 256) = false ∧
    Instr.wf (.coatRenew req0 signed0 256) = false := by decide
theorem test_wf_can : Instr.wf (.canTxAttemptEnd 0 3 true 0 0) = false ∧ Instr.wf (.canTxSend 0 256 0 el0 {}) = false ∧
    Instr.wf (.canTxCancel 0 0 256 {}) = false ∧ Instr.wf (.canRx 0 256 0 1) = false ∧ Instr.wf (.canAck 0 0 256 0 {}) = false := by decide
theorem test_wf_operand : Instr.wf (.lda 0 ⟨.cell, 2 ^ 15, 0⟩) = false ∧ Instr.wf (.lda 0 ⟨.cell, 2 ^ 15 - 1, 0⟩) = true := by decide
theorem test_wf_nonce : Instr.wf (.attest req0 (List.replicate 49 0)) = false := by decide
theorem test_wf_vbat : Instr.wf (.vbatMeasure 65536) = false := by decide

end Sys2Proof.Tests
end

section
/-! Register fields as a host reaches them: where the fields of the map stand, what one write changes, what the write of a word
gives every field, and what an access leaves of the rest of the machine (R5 to R13, R499). -/

namespace Sys2Proof

open Machine

/-! ### Where register fields are kept -/

theorem SMap.put_put {α : Type} (m : SMap α) (k : Nat) (x y : α) : (m.put k x).put k y = m.put k y := by
  induction m with
  | nil => simp [SMap.put]
  | cons p m ih =>
    obtain ⟨a, z⟩ := p
    by_cases hak : a = k
    · simp [SMap.put, hak]
    · by_cases hka : k < a <;> simp [SMap.put, hak, hka, ih]

/-- The rows are numbered in the order of the map. -/
theorem Reg.all_ids : Reg.all.map (·.id) = List.range 603 := by decide +kernel

/-- The items of a row fit the places that its key leaves them. -/
theorem Reg.count_le : ∀ r ∈ Reg.all, r.count ≤ 1024 := by decide +kernel

theorem Reg.nodup_ids : (Reg.all.map (·.id)).Nodup := by
  rw [Reg.all_ids]; exact List.nodup_range

/-- Different fields of the map are kept at different keys. -/
theorem Row.key_inj {r r' : Row} {i j : Nat} (hr : r ∈ Reg.all) (hr' : r' ∈ Reg.all) (hi : i < r.count) (hj : j < r'.count)
    (h : r.key i = r'.key j) : r = r' ∧ i = j := by
  have hri := Reg.count_le r hr
  have hrj := Reg.count_le r' hr'
  have hid : r.id = r'.id ∧ i = j := by unfold Row.key at h; omega
  exact ⟨List.inj_on_of_nodup_map Reg.nodup_ids hr hr' hid.1, hid.2⟩

theorem Row.itemAt_lt {r : Row} {addr i : Nat} (h : r.itemAt addr = some i) : i < r.count := by
  simp only [Row.itemAt] at h
  split at h
  · cases h
  · split at h
    · cases h; rename_i hd; exact hd.2
    · cases h

/-- The item at an address stands that many strides on from the row's first. -/
theorem Row.addr_of_itemAt {r : Row} {addr i : Nat} (h : r.itemAt addr = some i) : addr = r.addr + max r.stride 1 * i := by
  simp only [Row.itemAt] at h
  split at h
  · cases h
  · rename_i hlo
    split at h
    · rename_i hd
      cases h
      have := Nat.div_add_mod (addr - r.addr) (max r.stride 1)
      omega
    · cases h

theorem Row.itemAt_addr {r : Row} (h : 0 < r.count) : r.itemAt r.addr = some 0 := by simp [Row.itemAt, h]

/-- A row of one item stands at one address. -/
theorem Row.itemAt_eq_none {r : Row} {addr : Nat} (hc : r.count = 1) (h : addr ≠ r.addr) : r.itemAt addr = none := by
  cases hi : r.itemAt addr with
  | none => rfl
  | some i =>
    have hlt := Row.itemAt_lt hi
    have ha := Row.addr_of_itemAt hi
    obtain rfl : i = 0 := by omega
    exact absurd (by simpa using ha) h

theorem Row.part_lt (r : Row) (v : Word) : r.part v < 2 ^ r.width := Nat.mod_lt _ (Nat.two_pow_pos _)

/-! ### Reads and writes of one field -/

theorem Core.fget_congr {k k' : Core} {r : Row} {i : Nat} (h : k.regs.at? (r.key i) = k'.regs.at? (r.key i)) :
    k.fget r i = k'.fget r i := by
  simp [Core.fget, SMap.atD, h]

theorem Core.fput_at? (k : Core) {r : Row} {v i j : Nat} (h : j ≠ r.key i) : (k.fput r v i).regs.at? j = k.regs.at? j := by
  simp [Core.fput, SMap.at?_put, h.symm]

theorem Core.setFlag_setFlag (k : Core) (r : Row) (b : Bool) (i : Nat) : (k.setFlag r b i).setFlag r b i = k.setFlag r b i := by
  simp [Core.setFlag, Core.fput, SMap.put_put]

/-- Setting a flag changes that flag alone. -/
theorem Core.only_setFlag (k : Core) (r : Row) (b : Bool) (i : Nat) : k.only (k.setFlag r b i) [r.key i] :=
  ⟨rfl, fun _ hj => Core.fput_at? k (by simpa using hj)⟩

/-- A core in which C has not moved is let through as it is. -/
theorem Core.after_of_c_eq {a b : Core} (h : b.c = a.c) : a.after b = b := by rw [Core.after, ← h]

/-! ### Signals of MSI-X vectors (R430) -/

@[simp] theorem Core.signal_regs (k : Core) (v : Nat) : (k.signal v).regs = k.regs := by
  unfold Core.signal; split <;> rfl

@[simp] theorem Core.signal_c (k : Core) (v : Nat) : (k.signal v).c = k.c := by
  unfold Core.signal; split <;> rfl

/-- The signal of a masked vector leaves its pending bit. -/
theorem Core.mem_msixPend_signal {k : Core} {v : Nat} (h : k.msixMasked v = true) : v ∈ (k.signal v).msixPend := by
  simp only [Core.signal, h, if_true]
  split
  · next hv => simpa using hv
  · exact List.mem_cons_self

/-- The signal of an unmasked vector leaves the module. -/
theorem Core.mem_out_signal {k : Core} {v : Nat} (h : k.msixMasked v = false) : .msix v ∈ (k.signal v).out := by
  simp [Core.signal, h]

/-! ### Storing the fields of a word, the set-up lock left aside -/

/-- What a field holds after the store of `x` over `old`, by its access code (R5): a value out of its range is discarded (R499). -/
def Row.stored (r : Row) (old x : Nat) : Nat :=
  match r.acc with
  | .rw | .rwl => if r.takes x then x else old
  | .w1c => (old - (old &&& x)) % 2 ^ r.width
  | .w1s => (old ||| x) % 2 ^ r.width
  | .ro | .wo | .ros => old

/-- A store writes its own field, or nothing. -/
theorem storeField_cases (k : Core) (r : Row) (i x : Nat) : storeField k r i x = k ∨ ∃ v, storeField k r i x = k.fput r v i := by
  unfold storeField Core.writeField
  cases r.acc
  case ro | wo | ros => exact .inl rfl
  case w1c | w1s => exact .inr ⟨_, rfl⟩
  case rw | rwl =>
    dsimp only
    split
    · exact .inr ⟨_, rfl⟩
    · exact .inl rfl

theorem storeField_at? (k : Core) {r : Row} {i j : Nat} (x : Nat) (h : j ≠ r.key i) :
    (storeField k r i x).regs.at? j = k.regs.at? j := by
  obtain hk | ⟨v, hk⟩ := storeField_cases k r i x <;> rw [hk]
  exact Core.fput_at? k h

theorem storeField_regs_only (k : Core) (r : Row) (i x : Nat) :
    storeField k r i x = { k with regs := (storeField k r i x).regs } := by
  obtain hk | ⟨v, hk⟩ := storeField_cases k r i x
  · rw [hk]
  · rw [hk]; rfl

theorem storeField_fget (k : Core) {r : Row} {i x : Nat} (hx : x < 2 ^ r.width) :
    (storeField k r i x).fget r i = r.stored (k.fget r i) x := by
  unfold storeField Row.stored Core.writeField
  cases r.acc <;> simp only [Core.fget_fput_self]
  case rw | rwl => split <;> simp [Nat.mod_eq_of_lt hx]

/-- One row's part in the store of a word. -/
def storeRow (addr : Nat) (v : Word) (k : Core) (r : Row) : Core :=
  match r.itemAt addr with
  | some i => storeField k r i (r.part v)
  | none => k

theorem storeCrossed_eq_foldl (k : Core) (addr : Nat) (v : Word) :
    storeCrossed k addr v = Reg.all.foldl (storeRow addr v) k := rfl

theorem storeRow_at? (k : Core) {r : Row} {addr j : Nat} (v : Word) (h : ∀ i, r.itemAt addr = some i → j ≠ r.key i) :
    (storeRow addr v k r).regs.at? j = k.regs.at? j := by
  unfold storeRow
  split
  · next i hi => exact storeField_at? k _ (h i hi)
  · rfl

theorem foldl_storeRow_at? {addr j : Nat} (v : Word) (l : List Row) (k : Core)
    (h : ∀ r ∈ l, ∀ i, r.itemAt addr = some i → j ≠ r.key i) :
    (l.foldl (storeRow addr v) k).regs.at? j = k.regs.at? j := by
  induction l generalizing k with
  | nil => rfl
  | cons r l ih =>
    rw [List.foldl_cons, ih _ fun r' hr' => h r' (List.mem_cons_of_mem _ hr'), storeRow_at? k v (h r List.mem_cons_self)]

theorem storeCrossed_regs_only (k : Core) (addr : Nat) (v : Word) :
    storeCrossed k addr v = { k with regs := (storeCrossed k addr v).regs } := by
  rw [storeCrossed_eq_foldl]
  generalize Reg.all = l
  induction l generalizing k with
  | nil => rfl
  | cons r l ih =>
    rw [List.foldl_cons, ih]
    unfold storeRow
    split
    · rw [storeField_regs_only]
    · rfl

/-- A field that does not stand at the address keeps its value. -/
theorem storeCrossed_fget_of_ne (k : Core) {r : Row} {addr i : Nat} (v : Word) (hr : r ∈ Reg.all) (hi : i < r.count)
    (h : r.itemAt addr ≠ some i) : (storeCrossed k addr v).fget r i = k.fget r i := by
  rw [storeCrossed_eq_foldl]
  refine Core.fget_congr (foldl_storeRow_at? v _ k fun r' hr' i' hi' hkey => h ?_)
  obtain ⟨rfl, rfl⟩ := Row.key_inj hr hr' hi (Row.itemAt_lt hi') hkey
  exact hi'

/-- A field that stands at the address is given its part of the word: no other row's store reaches it. -/
theorem storeCrossed_fget_of_eq (k : Core) {r : Row} {addr i : Nat} (v : Word) (hr : r ∈ Reg.all)
    (h : r.itemAt addr = some i) : (storeCrossed k addr v).fget r i = r.stored (k.fget r i) (r.part v) := by
  obtain ⟨before, behind, hall⟩ := List.append_of_mem hr
  have hnodup : (before ++ r :: behind).Nodup := hall ▸ List.Nodup.of_map _ Reg.nodup_ids
  have hother : ∀ r' ∈ Reg.all, r' ≠ r → ∀ i', r'.itemAt addr = some i' → r.key i ≠ r'.key i' := fun r' hr' hne i' hi' hkey =>
    hne (Row.key_inj hr hr' (Row.itemAt_lt h) (Row.itemAt_lt hi') hkey).1.symm
  have hbefore : ∀ r' ∈ before, r' ≠ r := fun r' hr' he => by
    subst he; exact (List.nodup_append.1 hnodup).2.2 r' hr' r' List.mem_cons_self rfl
  have hbehind : ∀ r' ∈ behind, r' ≠ r := fun r' hr' he => by
    subst he; exact (List.nodup_cons.1 (List.nodup_append.1 hnodup).2.1).1 hr'
  rw [storeCrossed_eq_foldl, hall, List.foldl_append, List.foldl_cons]
  rw [Core.fget_congr (foldl_storeRow_at? v behind _ fun r' hr' => hother r' (by rw [hall]; simp [hr']) (hbehind r' hr'))]
  simp only [storeRow, h]
  rw [storeField_fget _ (Row.part_lt r v),
    Core.fget_congr (foldl_storeRow_at? v before k fun r' hr' => hother r' (by rw [hall]; simp [hr']) (hbefore r' hr'))]

/-! ### The write of a word under the set-up lock, and without it (R10) -/

/-- An address with one RWL field has RWL fields alone, is the address of a word in BAR0, and none of the MSI-X table. -/
theorem Reg.rwl_addresses : ∀ r ∈ Reg.all, r.acc = .rwl → ∀ i < r.count,
    (∀ r' ∈ Reg.all, (r'.itemAt (r.addr + max r.stride 1 * i)).isSome = true → r'.acc = .rwl) ∧
      (r.addr + max r.stride 1 * i) % 4 = 0 ∧ r.addr + max r.stride 1 * i < barBytes ∧
      msixTableAt (r.addr + max r.stride 1 * i) = false := by decide +kernel

theorem locks_iff {addr : Nat} : locks addr = true ↔ ∃ r ∈ Reg.all, r.acc = .rwl ∧ (r.itemAt addr).isSome = true := by
  simp [locks]

theorem locks_address {addr : Nat} (h : locks addr = true) :
    (∀ r ∈ Reg.all, (r.itemAt addr).isSome = true → r.acc = .rwl) ∧ addr % 4 = 0 ∧ addr < barBytes ∧
      msixTableAt addr = false := by
  obtain ⟨r, hr, hacc, hat⟩ := locks_iff.1 h
  obtain ⟨i, hi⟩ := Option.isSome_iff_exists.1 hat
  rw [Row.addr_of_itemAt hi]
  exact Reg.rwl_addresses r hr hacc i (Row.itemAt_lt hi)

/-- A field of another access code does not stand where an RWL field stands. -/
theorem itemAt_eq_none_of_locks {addr : Nat} (h : locks addr = true) {r : Row} (hr : r ∈ Reg.all) (hacc : r.acc ≠ .rwl) :
    r.itemAt addr = none := by
  by_contra hne
  exact hacc ((locks_address h).1 r hr (Option.isSome_iff_ne_none.2 hne))

/-- One row's part in the write of a word. -/
def writeRow (p : Row → Bool) (addr : Nat) (v : Word) (k : Core) (r : Row) : Core :=
  match r.itemAt addr with
  | some i => if p r then k.writeField r i (r.part v) else k
  | none => k

theorem writeWhere_eq_foldl (k : Core) (p : Row → Bool) (addr : Nat) (v : Word) :
    k.writeWhere p addr v = Reg.all.foldl (writeRow p addr v) k := rfl

/-- Where the lock holds no field of a row back, its write is its store. -/
theorem writeField_eq_storeField {k : Core} {r : Row} (h : r.acc = .rwl → k.flag Reg.GLB_CTRL_SETUP_LOCK = false) (i x : Nat) :
    k.writeField r i x = storeField k r i x := by
  unfold storeField
  cases hacc : r.acc
  case rwl => simp [Core.writeField, hacc, h hacc]
  all_goals rfl

theorem mem_setupLock : Reg.GLB_CTRL_SETUP_LOCK ∈ Reg.all := by decide +kernel
theorem mem_lockViol : Reg.GLB_CTRL_LOCK_VIOL ∈ Reg.all := by decide +kernel

/-- The write of a word that meets no lock stores its fields. -/
theorem writeWhere_of_not_locked (k : Core) {p : Row → Bool} {addr : Nat} (v : Word)
    (hp : ∀ r ∈ Reg.all, (r.itemAt addr).isSome = true → p r = true)
    (h : locks addr = true → k.flag Reg.GLB_CTRL_SETUP_LOCK = false) : k.writeWhere p addr v = storeCrossed k addr v := by
  suffices ∀ l ⊆ Reg.all, ∀ k : Core, (locks addr = true → k.flag Reg.GLB_CTRL_SETUP_LOCK = false) →
      l.foldl (writeRow p addr v) k = l.foldl (storeRow addr v) k from this _ (fun _ hr => hr) k h
  intro l
  induction l with
  | nil => intros; rfl
  | cons r l ih =>
    intro hl k hk
    have hr := hl List.mem_cons_self
    have hrow : writeRow p addr v k r = storeRow addr v k r := by
      unfold writeRow storeRow
      cases hi : r.itemAt addr with
      | none => rfl
      | some i =>
        have hrwl : r.acc = .rwl → k.flag Reg.GLB_CTRL_SETUP_LOCK = false := fun hacc =>
          hk (locks_iff.2 ⟨r, hr, hacc, by simp [hi]⟩)
        simp [hp r hr (by simp [hi]), writeField_eq_storeField hrwl]
    have hkeep : locks addr = true → (storeRow addr v k r).flag Reg.GLB_CTRL_SETUP_LOCK = false := fun hlocks => by
      have hrow : (storeRow addr v k r).fget Reg.GLB_CTRL_SETUP_LOCK = k.fget Reg.GLB_CTRL_SETUP_LOCK :=
        Core.fget_congr <| storeRow_at? k v fun i hi hkey => by
          obtain ⟨rfl, -⟩ := Row.key_inj mem_setupLock hr (by decide) (Row.itemAt_lt hi) hkey
          rw [itemAt_eq_none_of_locks hlocks mem_setupLock (by decide)] at hi
          cases hi
      rw [Core.flag, hrow]
      exact hk hlocks
    rw [List.foldl_cons, List.foldl_cons, hrow, ih (fun _ h => hl (List.mem_cons_of_mem _ h)) _ hkeep]

/-- The write of a word that the lock holds does nothing but set LOCK_VIOL. -/
theorem writeWhere_of_locked (k : Core) {p : Row → Bool} {addr : Nat} (v : Word)
    (hp : ∀ r ∈ Reg.all, (r.itemAt addr).isSome = true → p r = true) (h : locks addr = true)
    (hk : k.flag Reg.GLB_CTRL_SETUP_LOCK = true) : k.writeWhere p addr v = k.setFlag Reg.GLB_CTRL_LOCK_VIOL true := by
  have hlocked : ∀ k : Core, k.flag Reg.GLB_CTRL_SETUP_LOCK = true → ∀ r ∈ Reg.all,
      writeRow p addr v k r = if (r.itemAt addr).isSome then k.setFlag Reg.GLB_CTRL_LOCK_VIOL true else k := by
    intro k hk r hr
    unfold writeRow
    cases hi : r.itemAt addr with
    | none => rfl
    | some i =>
      have hat : (r.itemAt addr).isSome = true := by simp [hi]
      simp [hp r hr hat, Core.writeField, (locks_address h).1 r hr hat, hk]
  suffices ∀ l ⊆ Reg.all, ∀ k : Core, k.flag Reg.GLB_CTRL_SETUP_LOCK = true → l.foldl (writeRow p addr v) k =
      if l.any fun r => (r.itemAt addr).isSome then k.setFlag Reg.GLB_CTRL_LOCK_VIOL true else k by
    obtain ⟨r, hr, -, hat⟩ := locks_iff.1 h
    rw [writeWhere_eq_foldl, this _ (fun _ hr => hr) k hk, if_pos (List.any_eq_true.2 ⟨r, hr, hat⟩)]
  intro l
  induction l with
  | nil => intros; rfl
  | cons r l ih =>
    intro hl k hk
    have hviol : (k.setFlag Reg.GLB_CTRL_LOCK_VIOL true).flag Reg.GLB_CTRL_SETUP_LOCK = true := by
      rw [Core.flag, Core.setFlag, Core.fget_fput, if_neg (by decide)]; exact hk
    rw [List.foldl_cons, hlocked k hk r (hl List.mem_cons_self), List.any_cons]
    cases hat : (r.itemAt addr).isSome
    · simpa using ih (fun _ h => hl (List.mem_cons_of_mem _ h)) k hk
    · simp only [if_true, Bool.true_or]
      rw [ih (fun _ h => hl (List.mem_cons_of_mem _ h)) _ hviol]
      split
      · exact Core.setFlag_setFlag ..
      · rfl

end Sys2Proof
end

section
/-! The host's accesses to BAR0: the statements about writes, the set-up lock, bad accesses and reads (R5 to R13), and the machine
after reset. -/

namespace Sys2Proof.Machine

/-! ### What an access leaves of the rest of the machine -/

/-- An access that reaches the shared core alone, C left to run by itself, is let through as it is. -/
theorem State.upReg_onCore (s : State) {f : Core → Core} (h : (f s.core).c = s.core.c) : s.upReg (s.onCore f) = s.onCore f := by
  simp only [State.upReg, State.onCore, runPlat_self, Core.after_of_c_eq h]
  rfl

/-- See `State.upReg_onCore`, for a command of the backup domain. -/
theorem State.upBkp_onCore (s : State) {f : Core → Core} (h : (f s.core).c = s.core.c) : s.upBkp (s.onCore f) = s.onCore f := by
  simp only [State.upBkp, State.onCore, runPlat_self, Core.after_of_c_eq h]
  rfl

/-! ### Writes of a word -/

theorem exec_registerWrite (s : State) {addr : Nat} (v : Word) (hl : s.linkDown = false) (h4 : addr % 4 = 0)
    (hb : addr < barBytes) : exec (.registerWrite addr v) s = .next (s.upReg (s.writeReg addr v)) := by
  change Host.Outcome.next _ = _
  rw [if_neg (by simp [hl, hb]), if_neg (by simp [h4])]

/-- Beside the action fields a write does nothing but store. -/
theorem State.actOn_of_no_action (s : State) {addr : Nat} (v : Word)
    (ha : addr ∉ [Reg.MET_SNAP_CTRL_TAKE.addr, Reg.NT_CAP_CTRL_TAKE.addr, Reg.RST_BLOCK_GO.addr, Reg.ATC_INV_CTRL_GO.addr])
    (hq : Reg.HQ_CFG_ENABLE.itemAt addr = none) (he : Reg.EQ_CFG_ENABLE.itemAt addr = none) : s.actOn addr v = s := by
  simp only [List.mem_cons, List.not_mem_nil, or_false, not_or] at ha
  obtain ⟨h1, h2, h3, h4⟩ := ha
  simp only [State.actOn, h1, h2, h3, h4, hq, he, if_false]

/-- A plain write gives its word to every field at its address. -/
theorem exec_registerWrite_plain {s : State} {addr : Nat} (v : Word) (h : s.plainWord addr) :
    exec (.registerWrite addr v) s = .next (s.upReg (s.onCore (·.writeWhere (fun r => !enables r) addr v))) := by
  obtain ⟨hl, h4, hb, hm, hw, hh, hq, he, ha⟩ := h
  rw [exec_registerWrite s v hl h4 hb]
  simp only [State.writeReg, hm, hw, hh, Bool.false_eq_true, if_false]
  rw [State.actOn_of_no_action _ v ha hq he]

/-- No ENABLE field stands at an address where neither of the two rows of ENABLE fields has an item. -/
theorem not_enables_of_itemAt {addr : Nat} (hq : Reg.HQ_CFG_ENABLE.itemAt addr = none)
    (he : Reg.EQ_CFG_ENABLE.itemAt addr = none) (r : Row) (h : (r.itemAt addr).isSome = true) : (!enables r) = true := by
  cases hen : enables r
  · rfl
  · simp only [enables, Bool.or_eq_true, beq_iff_eq] at hen
    obtain rfl | rfl := hen <;> simp_all

/-! ### The set-up lock (R10) -/

/-- The address of another access code's first field is none that the lock holds. -/
theorem ne_addr_of_locks {addr : Nat} (h : locks addr = true) {r : Row} (hr : r ∈ Reg.all) (hacc : r.acc ≠ .rwl)
    (hc : 0 < r.count) : addr ≠ r.addr := by
  rintro rfl
  have := itemAt_eq_none_of_locks h hr hacc
  rw [Row.itemAt_addr hc] at this
  cases this

/-- The rows whose presence at an address keeps a write there from being a plain one. -/
def notPlainRows : List Row :=
  [Reg.HQ_CFG_PRIO, Reg.HQ_SQ_BASE_PAGE, Reg.HQ_CQ_BASE_PAGE, Reg.ATC_ROOT_LO_ADDR, Reg.ATC_ROOT_HI_ADDR, Reg.HQ_CFG_ENABLE,
   Reg.EQ_CFG_ENABLE, Reg.MET_SNAP_CTRL_TAKE, Reg.NT_CAP_CTRL_TAKE, Reg.RST_BLOCK_GO, Reg.ATC_INV_CTRL_GO]

theorem notPlainRows_not_rwl : ∀ r ∈ notPlainRows, r ∈ Reg.all ∧ r.acc ≠ .rwl ∧ 0 < r.count := by decide +kernel

/-- An address of RWL fields outside the backup domain's window is one of a plain write. -/
theorem plainWord_of_locks {s : State} {addr : Nat} (hl : s.linkDown = false) (h : locks addr = true)
    (hw : inWindow addr = false) : s.plainWord addr := by
  obtain ⟨-, h4, hb, hm⟩ := locks_address h
  have hnone : ∀ r ∈ notPlainRows, r.itemAt addr = none := fun r hr =>
    have ⟨hmem, hacc, _⟩ := notPlainRows_not_rwl r hr
    itemAt_eq_none_of_locks h hmem hacc
  have hne : ∀ r ∈ notPlainRows, addr ≠ r.addr := fun r hr =>
    have ⟨hmem, hacc, hc⟩ := notPlainRows_not_rwl r hr
    ne_addr_of_locks h hmem hacc hc
  simp only [notPlainRows, List.forall_mem_cons] at hnone hne
  obtain ⟨hprio, hsq, hcq, hlo, hhi, hqEn, heEn, -⟩ := hnone
  obtain ⟨-, -, -, -, -, -, -, hsnap, hcap, hblock, hinv, -⟩ := hne
  refine ⟨hl, h4, hb, hm, hw, ?_, hqEn, heEn, ?_⟩
  · simp [heldByEnable, hprio, hsq, hcq, hlo, hhi]
  · simp [hsnap, hcap, hblock, hinv]

/-- `s` with LOCK_VIOL set: what a write that the set-up lock holds leaves (R10). -/
def State.violated (s : State) : State := s.onCore (·.setFlag Reg.GLB_CTRL_LOCK_VIOL true)

/-- A violation changes LOCK_VIOL alone. -/
theorem violates_of_exec {c : Instr} {s : State} (h : exec c s = .next s.violated) : ∃ k, exec c s = .next { s with core := k } ∧
    s.core.only k [Reg.GLB_CTRL_LOCK_VIOL.key 0] ∧ k.flag Reg.GLB_CTRL_LOCK_VIOL = true :=
  ⟨_, h, Core.only_setFlag .., Core.flag_setFlag _ _ _ _ (by decide)⟩

theorem State.crossWrite_of_locked {s : State} {addr : Nat} (v : Word) (h : locks addr = true)
    (hk : s.core.flag Reg.GLB_CTRL_SETUP_LOCK = true) : s.crossWrite addr v = s.violated := by
  simp [State.crossWrite, State.violated, h, hk]

/-- A write of the window that the lock holds (R10, R372). -/
theorem State.writeReg_window_of_locked {s : State} {addr : Nat} (v : Word) (hw : inWindow addr = true)
    (h : locks addr = true) (hk : s.core.flag Reg.GLB_CTRL_SETUP_LOCK = true) : s.writeReg addr v = s.violated := by
  obtain ⟨r, hr, -, hat⟩ := locks_iff.1 h
  have hassigned : assigned addr = true := List.any_eq_true.2 ⟨r, hr, hat⟩
  have hkey : addr ≠ Reg.BKP_SLEEP_KEY.addr := ne_addr_of_locks h (by decide +kernel) (by decide) (by decide)
  obtain ⟨-, -, -, hm⟩ := locks_address h
  simp only [State.writeReg, hm, hw, hkey, hassigned, Bool.false_eq_true, if_false, if_true]
  exact State.crossWrite_of_locked v h hk

theorem exec_registerWrite_of_locked {s : State} {addr : Nat} (v : Word) (hl : s.linkDown = false) (h : locks addr = true)
    (hk : s.core.flag Reg.GLB_CTRL_SETUP_LOCK = true) : exec (.registerWrite addr v) s = .next s.violated := by
  cases hw : inWindow addr
  · have hplain := plainWord_of_locks hl h hw
    have ⟨_, _, _, _, _, _, hq, he, _⟩ := hplain
    have hwrite := writeWhere_of_locked s.core v (fun r _ hat => not_enables_of_itemAt hq he r hat) h hk
    rw [exec_registerWrite_plain v hplain, State.upReg_onCore _ (by rw [hwrite]; rfl), State.onCore, hwrite]
    rfl
  · obtain ⟨-, h4, hb, -⟩ := locks_address h
    rw [exec_registerWrite s v hl h4 hb, State.writeReg_window_of_locked v hw h hk]
    exact congrArg _ (State.upReg_onCore s rfl)

theorem locks_tmpCfg (i : Fin 4) : locks (Reg.TMP_CFG_EN.addr + 4 * i) = true := by revert i; decide +kernel
theorem locks_meshCfg : locks Reg.MESH_CFG_EN.addr = true := by decide +kernel

theorem exec_tmpCfgWrite_of_locked {s : State} (i : Fin 4) (v : Word) (hk : s.core.flag Reg.GLB_CTRL_SETUP_LOCK = true) :
    exec (.tmpCfgWrite i v) s = .next s.violated := by
  change Host.Outcome.next (s.upBkp (s.crossWrite _ v)) = _
  rw [State.crossWrite_of_locked v (locks_tmpCfg i) hk]
  exact congrArg _ (State.upBkp_onCore s rfl)

theorem exec_meshCfgWrite_of_locked {s : State} (v : Word) (hk : s.core.flag Reg.GLB_CTRL_SETUP_LOCK = true) :
    exec (.meshCfgWrite v) s = .next s.violated := by
  change Host.Outcome.next (s.upBkp (s.crossWrite _ v)) = _
  rw [State.crossWrite_of_locked v locks_meshCfg hk]
  exact congrArg _ (State.upBkp_onCore s rfl)

/-- Settles O40: in the map and in the window the lock leaves `State.violated`. -/
theorem setupLockHolds : Obligations.SetupLockHolds := by
  intro s hl hk
  exact ⟨fun addr v r hr hacc hat =>
      violates_of_exec (exec_registerWrite_of_locked v hl (locks_iff.2 ⟨r, hr, hacc, hat⟩) hk),
    fun i v => violates_of_exec (exec_tmpCfgWrite_of_locked i v hk),
    fun v => violates_of_exec (exec_meshCfgWrite_of_locked v hk)⟩

/-! ### A plain write, field by field (R5, R10, R499) -/

/-- What a plain write leaves of the shared core: LOCK_VIOL set where the lock holds the word, the fields stored where not. -/
def plainWrite (k : Core) (addr : Nat) (v : Word) : Core :=
  if k.flag Reg.GLB_CTRL_SETUP_LOCK && locks addr then k.setFlag Reg.GLB_CTRL_LOCK_VIOL true else storeCrossed k addr v

theorem plainWrite_regs_only (k : Core) (addr : Nat) (v : Word) :
    plainWrite k addr v = { k with regs := (plainWrite k addr v).regs } := by
  unfold plainWrite
  split
  · rfl
  · exact storeCrossed_regs_only k addr v

theorem exec_registerWrite_plainWrite {s : State} {addr : Nat} (v : Word) (h : s.plainWord addr) :
    exec (.registerWrite addr v) s = .next { s with core := plainWrite s.core addr v } := by
  have ⟨_, _, _, _, _, _, hq, he, _⟩ := h
  have hp : ∀ r ∈ Reg.all, (r.itemAt addr).isSome = true → (!enables r) = true := fun r _ => not_enables_of_itemAt hq he r
  have hwrite : s.core.writeWhere (fun r => !enables r) addr v = plainWrite s.core addr v := by
    unfold plainWrite
    split
    · next hviol =>
      obtain ⟨hk, hlocks⟩ := Bool.and_eq_true_iff.1 hviol
      exact writeWhere_of_locked _ v hp hlocks hk
    · next hviol => exact writeWhere_of_not_locked _ v hp fun hlocks => by simpa [hlocks] using hviol
  have hc : (plainWrite s.core addr v).c = s.core.c := by rw [plainWrite_regs_only]
  rw [exec_registerWrite_plain v h, State.upReg_onCore _ (by rw [hwrite, hc]), State.onCore, hwrite]

/-- LOCK_VIOL stands beside no RWL field. -/
theorem locks_lockViol : locks Reg.GLB_CTRL_LOCK_VIOL.addr = false := by decide +kernel

/-- Every field but LOCK_VIOL keeps its value under a violation. -/
theorem fget_setFlag_lockViol (k : Core) {r : Row} {i : Nat} (hr : r ∈ Reg.all) (hi : i < r.count)
    (hne : r ≠ Reg.GLB_CTRL_LOCK_VIOL) : (k.setFlag Reg.GLB_CTRL_LOCK_VIOL true).fget r i = k.fget r i :=
  Core.fget_congr <| Core.fput_at? k fun hkey => hne (Row.key_inj hr mem_lockViol hi (by decide) hkey).1

/-- A field at the address of a plain write takes its part of the word, where the lock does not hold it. -/
theorem plainWrite_fget_of_eq (k : Core) {r : Row} {addr i : Nat} (v : Word) (hr : r ∈ Reg.all)
    (hne : r ≠ Reg.GLB_CTRL_LOCK_VIOL ∨ addr = Reg.GLB_CTRL_LOCK_VIOL.addr) (h : r.itemAt addr = some i) :
    (plainWrite k addr v).fget r i = if r.acc = .rwl ∧ k.flag Reg.GLB_CTRL_SETUP_LOCK = true then k.fget r i
      else r.stored (k.fget r i) (r.part v) := by
  have hat : (r.itemAt addr).isSome = true := by simp [h]
  unfold plainWrite
  split
  · next hviol =>
    obtain ⟨hk, hlocks⟩ := Bool.and_eq_true_iff.1 hviol
    have hne : r ≠ Reg.GLB_CTRL_LOCK_VIOL := hne.resolve_right fun ha => by rw [ha, locks_lockViol] at hlocks; cases hlocks
    rw [fget_setFlag_lockViol k hr (Row.itemAt_lt h) hne, if_pos ⟨(locks_address hlocks).1 r hr hat, hk⟩]
  · next hviol =>
    rw [storeCrossed_fget_of_eq k v hr h, if_neg]
    rintro ⟨hacc, hk⟩
    exact hviol (by rw [hk, locks_iff.2 ⟨r, hr, hacc, hat⟩]; rfl)

/-- A field at another address keeps its value, but LOCK_VIOL. -/
theorem plainWrite_fget_of_ne (k : Core) {r : Row} {addr i : Nat} (v : Word) (hr : r ∈ Reg.all) (hi : i < r.count)
    (hne : r ≠ Reg.GLB_CTRL_LOCK_VIOL ∨ addr = Reg.GLB_CTRL_LOCK_VIOL.addr) (h : r.itemAt addr ≠ some i) :
    (plainWrite k addr v).fget r i = k.fget r i := by
  unfold plainWrite
  split
  · next hviol =>
    obtain ⟨-, hlocks⟩ := Bool.and_eq_true_iff.1 hviol
    have hne : r ≠ Reg.GLB_CTRL_LOCK_VIOL := hne.resolve_right fun ha => by rw [ha, locks_lockViol] at hlocks; cases hlocks
    exact fget_setFlag_lockViol k hr hi hne
  · exact storeCrossed_fget_of_ne k v hr hi h

/-- A plain write at another address than LOCK_VIOL's sets it where the lock holds the word, and leaves it where not. -/
theorem plainWrite_lockViol (k : Core) {addr : Nat} (v : Word) (ha : addr ≠ Reg.GLB_CTRL_LOCK_VIOL.addr) :
    (plainWrite k addr v).flag Reg.GLB_CTRL_LOCK_VIOL =
      (k.flag Reg.GLB_CTRL_LOCK_VIOL || (k.flag Reg.GLB_CTRL_SETUP_LOCK && locks addr)) := by
  unfold plainWrite
  split
  · next hviol => rw [hviol, Core.flag_setFlag _ _ _ _ (by decide), Bool.or_true]
  · next hviol =>
    rw [Bool.not_eq_true] at hviol
    rw [hviol, Bool.or_false, Core.flag, storeCrossed_fget_of_ne k v mem_lockViol (by decide)]
    · rfl
    · rw [Row.itemAt_eq_none rfl ha]; nofun

/-- Settles O38: a plain write is `plainWrite`, whose fields the lemmas above give. -/
theorem registerWriteByAccess : Obligations.RegisterWriteByAccess := by
  intro s addr v h
  refine ⟨_, exec_registerWrite_plainWrite v h, plainWrite_regs_only .., fun r hr hne i hi => ⟨fun hat => ?_, fun hat => ?_⟩,
    plainWrite_lockViol s.core v⟩
  · have hfget := plainWrite_fget_of_eq s.core v hr hne hat
    unfold Row.stored at hfget
    cases hacc : r.acc <;> simp only [hacc, reduceCtorEq, true_and, false_and, if_false] at hfget ⊢
    case rwl =>
      cases hk : s.core.flag Reg.GLB_CTRL_SETUP_LOCK <;> simpa [hk] using hfget
    all_goals exact hfget
  · exact plainWrite_fget_of_ne s.core v hr hi hne hat

/-! ### The set-up lock's own command, bad accesses (R8, R13, R417, R430) -/

theorem exec_setupLock {s : State} (hl : s.linkDown = false) :
    exec .setupLock s = .next (s.onCore (·.setFlag Reg.GLB_CTRL_SETUP_LOCK true)) := by
  change Host.Outcome.next _ = _
  rw [if_neg (by simp [hl]), State.upReg_onCore s rfl]

/-- The shared core after a bad access. -/
def badCount (k : Core) : Core := (k.bump Reg.BG_BADACC_COUNT).signal 87

theorem State.countBad_eq (s : State) : s.countBad = s.onCore badCount := rfl

theorem badCount_fget (k : Core) : (badCount k).fget Reg.BG_BADACC_COUNT =
    satAdd Reg.BG_BADACC_COUNT.width (k.fget Reg.BG_BADACC_COUNT) 1 := by
  have hlt : satAdd Reg.BG_BADACC_COUNT.width (k.fget Reg.BG_BADACC_COUNT) 1 < 2 ^ Reg.BG_BADACC_COUNT.width :=
    lt_of_le_of_lt (min_le_right _ _) (by decide)
  rw [Core.fget_congr (k' := k.bump Reg.BG_BADACC_COUNT) (by rw [badCount, Core.signal_regs]), Core.bump,
    Core.fget_fput_self, Nat.mod_eq_of_lt hlt]

theorem badCount_at? (k : Core) {j : Nat} (h : j ≠ Reg.BG_BADACC_COUNT.key 0) : (badCount k).regs.at? j = k.regs.at? j := by
  rw [badCount, Core.signal_regs]; exact Core.fput_at? k h

theorem badCount_c (k : Core) : (badCount k).c = k.c := Core.signal_c ..

theorem exec_badAccess {s : State} (bar2 write : Bool) (hl : s.linkDown = false) :
    exec (.badAccess bar2 write) s = .next (s.onCore fun k =>
      if write then badCount k else (badCount k).emit (.readData 0 (if bar2 then 0 else 0xFFFFFFFF))) := by
  change Host.Outcome.next _ = _
  rw [if_neg (by simp [hl]), State.countBad_eq]
  cases write
  · exact congrArg _ (State.upReg_onCore s (f := fun k => (badCount k).emit _) (badCount_c s.core))
  · exact congrArg _ (State.upReg_onCore s (f := badCount) (badCount_c s.core))

/-- What a bad access leaves: its count, vector 87 pending or sent, and the answer of a read. -/
theorem exec_badAccess_effect {s : State} (hl : s.linkDown = false) (bar2 write : Bool) :
    ∃ k, exec (.badAccess bar2 write) s = .next { s with core := k } ∧
      k.fget Reg.BG_BADACC_COUNT = satAdd Reg.BG_BADACC_COUNT.width (s.core.fget Reg.BG_BADACC_COUNT) 1 ∧
      (∀ j, j ≠ Reg.BG_BADACC_COUNT.key 0 → k.regs.at? j = s.core.regs.at? j) ∧
      (s.core.msixMasked 87 = true → 87 ∈ k.msixPend) ∧ (s.core.msixMasked 87 = false → .msix 87 ∈ k.out) ∧
      (write = false → k.out.head? = some (.readData 0 (if bar2 then 0 else 0xFFFFFFFF))) := by
  refine ⟨_, exec_badAccess bar2 write hl, ?_⟩
  have hpend : s.core.msixMasked 87 = true → 87 ∈ (badCount s.core).msixPend := fun h =>
    Core.mem_msixPend_signal (k := s.core.bump Reg.BG_BADACC_COUNT) h
  have hout : s.core.msixMasked 87 = false → .msix 87 ∈ (badCount s.core).out := fun h =>
    Core.mem_out_signal (k := s.core.bump Reg.BG_BADACC_COUNT) h
  cases write
  · exact ⟨badCount_fget _, fun _ => badCount_at? _, hpend, fun h => List.mem_cons_of_mem _ (hout h), fun _ => rfl⟩
  · exact ⟨badCount_fget _, fun _ => badCount_at? _, hpend, hout, nofun⟩

/-! ### Reads (R9) -/

theorem exec_lowWordRead {s : State} {addr : Nat} (hl : s.linkDown = false) (h4 : addr % 4 = 0) (hb : addr < barBytes) :
    exec (.lowWordRead addr) s = .next (s.upReg (s.readReg addr)) := by
  change Host.Outcome.next _ = _
  rw [if_neg (by simp [hl, hb]), if_neg (by simp [h4])]

/-- The word that a read answers: what an earlier read latched, or the live value. -/
def State.answerWord (s : State) (addr : Nat) : Word := (s.core.latch.at? addr).elim (s.liveWord addr) (BitVec.ofNat 32 ·)

/-- High words latched after a read: the one read is used up, and a low word latches its own. -/
def State.latchAfter (s : State) (addr : Nat) : SMap Nat :=
  if lowWordAt addr then (s.core.latch.del addr).put (addr + 4) (s.liveWord (addr + 4)).toNat else s.core.latch.del addr

/-- A read outside the time group changes the latches and answers. -/
theorem State.readReg_eq (s : State) {addr : Nat} (ht : timeWord s.timeGroup addr = none) :
    s.readReg addr = s.showErr.onCore fun k =>
      { k with latch := s.showErr.latchAfter addr }.emit (.readData addr (s.showErr.answerWord addr)) := by
  simp only [State.readReg, ht, Option.isSome_none, Bool.false_eq_true, if_false, State.latchAfter, State.answerWord]
  split <;> rfl

/-- The shared core a read outside the time group leaves. -/
def State.coreRead (s : State) (addr : Nat) : Core :=
  { s.showErr.core with latch := s.showErr.latchAfter addr, out := .readData addr (s.showErr.answerWord addr) :: s.core.out }

theorem exec_lowWordRead_eq {s : State} {addr : Nat} (hl : s.linkDown = false) (h4 : addr % 4 = 0) (hb : addr < barBytes)
    (ht : timeWord s.timeGroup addr = none) :
    exec (.lowWordRead addr) s = .next { s with core := s.coreRead addr } := by
  rw [exec_lowWordRead hl h4 hb, State.readReg_eq s ht]
  exact congrArg _ (State.upReg_onCore s (f := fun _ => s.coreRead addr) rfl)

/-- A read leaves the time group as it is: of the registers it writes NT_EST_ERR alone. -/
theorem timeGroup_coreRead (s : State) (addr c : Nat) :
    ({ s with core := { s.coreRead addr with c := c } } : State).timeGroup = s.timeGroup := by
  have hreg : ∀ r : Row, r.key 0 ≠ Reg.NT_EST_ERR_NS.key 0 → (s.coreRead addr).fget r = s.core.fget r := fun r hne =>
    Core.fget_congr (Core.fput_at? s.core hne)
  have hc : ∀ r : Row, ({ s.coreRead addr with c := c } : Core).fget r = (s.coreRead addr).fget r := fun _ => rfl
  simp only [State.timeGroup, Core.secB, Core.ofs, Core.sget, hc, hreg Reg.BKP_SEC_SEC (by decide),
    hreg Reg.BKP_FRAC_FRAC (by decide), hreg Reg.BKP_ERA_ERA (by decide), hreg Reg.BKP_OFFSET_MIN (by decide)]

/-- A word that an earlier read latched is what its next read answers. -/
theorem exec_lowWordRead_of_latched {s : State} {addr : Nat} {w : Word} (hl : s.linkDown = false) (h4 : addr % 4 = 0)
    (hb : addr < barBytes) (ht : timeWord s.timeGroup addr = none) (h : s.core.latch.at? addr = some w.toNat) :
    ∃ t, exec (.lowWordRead addr) s = .next t ∧ t.core.out.head? = some (.readData addr w) := by
  have hw : s.showErr.answerWord addr = w := by
    have h' : s.showErr.core.latch.at? addr = some w.toNat := h
    simp [State.answerWord, h']
  exact ⟨_, exec_lowWordRead_eq hl h4 hb ht, by rw [← hw]; rfl⟩

theorem latch_coreRead {s : State} {addr : Nat} (h : lowWordAt addr = true) :
    (s.coreRead addr).latch.at? (addr + 4) = some (s.showErr.liveWord (addr + 4)).toNat := by
  simp [State.coreRead, State.latchAfter, h, SMap.at?_put]

/-- A low word is answered live, and the word after it as it stood then. -/
theorem exec_lowWordRead_answers {s : State} (hl : s.linkDown = false) {addr : Nat} (h4 : addr % 4 = 0) (hb : addr + 4 < barBytes)
    (ht : timeWord s.timeGroup addr = none) (ht' : timeWord s.timeGroup (addr + 4) = none)
    (hlatch : s.core.latch.at? addr = none) : ∃ t, exec (.lowWordRead addr) s = .next t ∧
      t.core.out = .readData addr (s.showErr.liveWord addr) :: s.core.out ∧
      (lowWordAt addr = true → ∀ c, ∃ u, exec (.lowWordRead (addr + 4)) { t with core := { t.core with c := c } } = .next u ∧
        u.core.out.head? = some (.readData (addr + 4) (s.showErr.liveWord (addr + 4)))) := by
  have hlive : s.showErr.answerWord addr = s.showErr.liveWord addr := by
    have h : s.showErr.core.latch.at? addr = none := hlatch
    simp [State.answerWord, h]
  refine ⟨_, exec_lowWordRead_eq hl h4 (by omega) ht, by rw [← hlive]; rfl, fun hlow c => ?_⟩
  exact exec_lowWordRead_of_latched (s := { s with core := { s.coreRead addr with c := c } }) hl (by omega) hb
    ((timeGroup_coreRead s addr c).symm ▸ ht') (latch_coreRead hlow)

/-- Settles O39: the lock's command, bad accesses, and reads, each by its own lemma. -/
theorem registerAccesses : Obligations.RegisterAccesses := by
  intro s hl
  refine ⟨⟨_, exec_setupLock hl, Core.only_setFlag .., Core.flag_setFlag _ _ _ _ (by decide)⟩, exec_badAccess_effect hl, ?_⟩
  intro addr h4 hb ht ht' _ hlatch
  exact exec_lowWordRead_answers hl h4 hb ht ht' hlatch

/-! ### After reset (R5, R325, R444) -/

/-- The state after reset has the invariant: nothing waits, the phase is 0 and start-up stands at step 1. -/
theorem State.reset_inv : State.reset.Inv := by
  refine ⟨rfl, ?_, rfl, ?_⟩
  · simp [State.phaseOk, State.reset]
  · simp [State.reset]

/-- No field has been written, so each reads as its row's cold value. -/
theorem State.reset_fget (r : Row) (i : Nat) : State.reset.core.fget r i = r.cold := SMap.atD_nil ..

/-- Settles O57. -/
theorem resetState : Obligations.ResetState :=
  ⟨rfl, State.reset_inv, rfl, rfl, rfl, rfl, rfl, fun r _ _ i _ => State.reset_fget r i⟩

end Sys2Proof.Machine
end

section
/-! Fields of the shared core that steer the tick: that events, event records and changes of the image leave them as they are, and what it
means for a state to follow another (R23, R24, R39, R399 to R405, R428). -/

namespace Sys2Proof

open Machine

/-- Register fields that decide how a tick goes on: the unit's role and place, the tick's epoch and phase, the stop bead, the
recoat, the pair, and the joined carriers. -/
def steerRows : List Row :=
  [Reg.GLB_UNIT_ROLE, Reg.GLB_UNIT_PAIRED, Reg.GLB_UNIT_POSITION, Reg.TICK_EPOCH_LO_EPOCH_LO, Reg.TICK_EPOCH_HI_EPOCH_HI,
   Reg.TICK_STATUS_PHASE, Reg.TICK_STATUS_RUNNING, Reg.TICK_OVR_MERGE_OVR, Reg.TICK_OVR_IN_HARD_LIMIT, Reg.SBD_STAT_TRIPPED,
   Reg.RCT_STAT_STATE, Reg.LANE_PRESENT_CARRIERS, Reg.PTR_STAT_PAIR_STATE]

/-- Those of them that the tick sequencer itself shows. -/
def tickRows : List Row :=
  [Reg.TICK_EPOCH_LO_EPOCH_LO, Reg.TICK_EPOCH_HI_EPOCH_HI, Reg.TICK_STATUS_PHASE, Reg.TICK_STATUS_RUNNING]

/-- `k'` has C and the fields of the rows `rs` as `k` has them. -/
def Core.Keeps (rs : List Row) (k k' : Core) : Prop := k'.c = k.c ∧ ∀ r ∈ rs, k'.fget r = k.fget r

/-- Field `i` of row `r` is none of the fields of the rows `rs`. -/
def Row.Off (rs : List Row) (r : Row) (i : Nat) : Prop := ∀ r' ∈ rs, r.key i ≠ r'.key 0

theorem Row.off_of_ne {rs : List Row} {r : Row} {i : Nat} (h : ∀ r' ∈ rs, r.id ≠ r'.id) (hi : i < 1024) : r.Off rs i := by
  intro r' hr' hkey
  have := h r' hr'
  simp only [Row.key] at hkey
  omega

/-- A row behind all of `rs` has no item, whatever its number, that is kept with one of them. -/
theorem Row.off_of_lt {rs : List Row} {r : Row} (i : Nat) (h : ∀ r' ∈ rs, r'.id < r.id) : r.Off rs i := by
  intro r' hr' hkey
  have := h r' hr'
  simp only [Row.key] at hkey
  omega

namespace Core.Keeps

variable {rs rs' : List Row} {k k' k'' : Core}

theorem refl (k : Core) : k.Keeps rs k := ⟨rfl, fun _ _ => rfl⟩

theorem trans (h : k.Keeps rs k') (h' : k'.Keeps rs k'') : k.Keeps rs k'' :=
  ⟨h'.1.trans h.1, fun r hr => (h'.2 r hr).trans (h.2 r hr)⟩

theorem mono (h : k.Keeps rs k') (hs : rs' ⊆ rs) : k.Keeps rs' k' := ⟨h.1, fun r hr => h.2 r (hs hr)⟩

/-- What leaves C and the register fields as they are keeps them. -/
theorem of_regs (h : k.Keeps rs k') (hc : k''.c = k'.c) (hr : k''.regs = k'.regs) : k.Keeps rs k'' :=
  h.trans ⟨hc, fun _ _ => Core.fget_congr (by rw [hr])⟩

theorem fput {r : Row} {v i : Nat} (h : k.Keeps rs k') (hoff : r.Off rs i) : k.Keeps rs (k'.fput r v i) :=
  h.trans ⟨rfl, fun r' hr' => by rw [Core.fget_fput, if_neg (hoff r' hr')]⟩

theorem ite {p : Prop} [Decidable p] {a b : Core} (ha : k.Keeps rs a) (hb : k.Keeps rs b) :
    k.Keeps rs (if p then a else b) := by
  split
  · exact ha
  · exact hb

theorem bump {r : Row} {i n : Nat} (h : k.Keeps rs k') (hoff : r.Off rs i) : k.Keeps rs (k'.bump r i n) := h.fput hoff

theorem setFlag {r : Row} {b : Bool} {i : Nat} (h : k.Keeps rs k') (hoff : r.Off rs i) : k.Keeps rs (k'.setFlag r b i) :=
  h.fput hoff

theorem flag {r : Row} (h : k.Keeps rs k') (hr : r ∈ rs) : k'.flag r = k.flag r := by unfold Core.flag; rw [h.2 r hr]

end Core.Keeps

theorem tickRows_subset : tickRows ⊆ steerRows := by decide

/-! ### Events and records keep them -/

/-- Rows that the recorder and the event rings write. -/
def recorderRows : List Row :=
  [Reg.EVR_NEXT_LO_SEQ_LO, Reg.EVR_NEXT_HI_SEQ_HI, Reg.EVR_CIRC_LO_SEQ_LO, Reg.EVR_CIRC_HI_SEQ_HI, Reg.EVR_STAT_FIFO,
   Reg.EVR_STAT_FIFO_MAX, Reg.EVR_DROPPED_COUNT, Reg.EQ_STAT_STOPPED, Reg.EQ_LOST_COUNT, Reg.EQ_STAT_TAIL, Reg.EQ_STAT_PHASE]

theorem recorderRows_behind : ∀ r ∈ recorderRows, ∀ r' ∈ steerRows, r'.id < r.id := by decide

theorem recorderRows_off {r : Row} (h : r ∈ recorderRows) (i : Nat) : r.Off steerRows i := Row.off_of_lt i (recorderRows_behind r h)

variable (k : Core)

theorem Core.keeps_signal {k₀ : Core} (h : k₀.Keeps steerRows k) (v : Nat) : k₀.Keeps steerRows (k.signal v) :=
  h.of_regs (Core.signal_c ..) (Core.signal_regs ..)

theorem Core.keeps_ringWrite (e type source d0 d1 : Nat) : k.Keeps steerRows (k.ringWrite e type source d0 d1) := by
  have hstop : ∀ k' : Core, k.Keeps steerRows k' →
      k.Keeps steerRows ((k'.setFlag Reg.EQ_STAT_STOPPED true e).bump Reg.EQ_LOST_COUNT e) := fun k' h =>
    (h.fput (recorderRows_off (by decide) e)).fput (recorderRows_off (by decide) e)
  unfold Core.ringWrite
  dsimp only
  split
  · exact hstop k (.refl k)
  · split
    · exact hstop _ ((Core.Keeps.refl k).of_regs rfl rfl)
    · refine Core.keeps_signal _ (Core.Keeps.of_regs (k' := ?_) ?_ rfl rfl) _
      split
      · exact (((Core.Keeps.refl k).of_regs rfl rfl).fput (recorderRows_off (by decide) e)).fput (recorderRows_off (by decide) e)
      · exact ((Core.Keeps.refl k).of_regs rfl rfl).fput (recorderRows_off (by decide) e)

theorem Core.keeps_ringPost (e type source d0 d1 : Nat) : k.Keeps steerRows (k.ringPost e type source d0 d1) := by
  unfold Core.ringPost
  dsimp only
  split
  · exact .refl k
  split
  · exact .refl k
  split
  · exact (Core.Keeps.refl k).fput (recorderRows_off (by decide) e)
  split
  · exact ((Core.Keeps.refl k).of_regs rfl rfl).fput (recorderRows_off (by decide) e)
  · exact Core.keeps_ringWrite ..

theorem Core.keeps_postEvent (type source d0 d1 : Nat) (may : Nat → Bool) :
    k.Keeps steerRows (k.postEvent type source d0 d1 may) := by
  refine List.foldlRecOn _ _ (.refl k) fun k' h e _ => ?_
  split
  · exact h.trans (Core.keeps_ringPost ..)
  · exact h

theorem Core.keeps_dropEvent : k.Keeps steerRows k.dropEvent := by
  unfold Core.dropEvent
  refine Core.keeps_signal _ (.bump ?_ (recorderRows_off (by decide) 0)) _
  exact (Core.Keeps.refl k).of_regs rfl rfl

theorem Core.keeps_pushRecord (code domain : Nat) (payload : List Byte) (deferred : Bool) (t : Nat × Nat × Nat) :
    k.Keeps steerRows (k.pushRecord code domain payload deferred t) := by
  have hpost : ∀ {k' : Core} (seq : Nat), k.Keeps steerRows k' →
      k.Keeps steerRows (if sevOf code ≥ 2 then k'.postEvent 6 0 code seq (recReadable · domain) else k') := fun seq h =>
    .ite (h.trans (Core.keeps_postEvent ..)) h
  unfold Core.pushRecord
  refine hpost _ (.ite (.fput ?fifo (recorderRows_off (by decide) 0)) ?fifo)
  refine .fput (.ite (.fput (.fput ?next (recorderRows_off (by decide) 0)) (recorderRows_off (by decide) 0)) ?next)
    (recorderRows_off (by decide) 0)
  exact (((Core.Keeps.refl k).of_regs rfl rfl).fput (recorderRows_off (by decide) 0)).fput (recorderRows_off (by decide) 0)

theorem Core.keeps_recordAt (code domain : Nat) (payload : List Byte) (deferred : Bool) (t : Nat × Nat × Nat) :
    k.Keeps steerRows (k.recordAt code domain payload deferred t) :=
  .ite (.ite (Core.keeps_dropEvent k) ((Core.Keeps.refl k).of_regs rfl rfl))
    (.ite (Core.keeps_pushRecord ..) (Core.keeps_dropEvent k))

theorem Core.keeps_record (code domain : Nat) (payload : List Byte) : k.Keeps steerRows (k.record code domain payload) :=
  Core.keeps_recordAt ..

theorem Core.keeps_setState (st cause : Nat) : k.Keeps steerRows (k.setState st cause) := by
  unfold Core.setState
  refine .ite (.refl k) (Core.keeps_signal _ (.trans ?_ (Core.keeps_postEvent ..)) _)
  exact ((Core.Keeps.refl k).fput (Row.off_of_ne (by decide) (by decide))).fput (Row.off_of_ne (by decide) (by decide))

end Sys2Proof

namespace Sys2Proof.Machine

/-- `t` follows `s`: it shows the same under `m`, and has the same C and the same fields of the rows `rs`. -/
def State.Follows {β : Type} (m : State → β) (rs : List Row) (s t : State) : Prop := m t = m s ∧ s.core.Keeps rs t.core

namespace State.Follows

variable {β : Type} {m : State → β} {rs rs' : List Row} {s t u : State}

theorem refl (s : State) : s.Follows m rs s := ⟨rfl, .refl _⟩

theorem trans (h : s.Follows m rs t) (h' : t.Follows m rs u) : s.Follows m rs u := ⟨h'.1.trans h.1, h.2.trans h'.2⟩

theorem mono (h : s.Follows m rs t) (hs : rs' ⊆ rs) : s.Follows m rs' t := ⟨h.1, h.2.mono hs⟩

/-- What shows less than `m` shows the same too. -/
theorem coarser {m : State → State} {m' : State → β} (h : s.Follows m rs t) (hm : ∀ s : State, m' (m s) = m' s := by intro _; rfl) :
    s.Follows m' rs t := ⟨by rw [← hm t, h.1, hm], h.2⟩

/-- A part of the state that `m` shows is the same. -/
theorem same {m : State → State} (h : s.Follows m rs t) (f : State → β) (hf : ∀ s : State, f (m s) = f s := by intro _; rfl) :
    f t = f s := (h.coarser (m' := f) hf).1

theorem ite {p : Prop} [Decidable p] (ht : s.Follows m rs t) (hu : s.Follows m rs u) : s.Follows m rs (if p then t else u) := by
  split
  · exact ht
  · exact hu

theorem onCore (h : s.Follows m rs t) {f : Core → Core} (hf : t.core.Keeps rs (f t.core))
    (hm : m (t.onCore f) = m t := by rfl) : s.Follows m rs (t.onCore f) := h.trans ⟨hm, hf⟩

/-- A fold of steps that each follow the state before them follows the first. -/
theorem foldl {α : Type} {f : State → α → State} (h : ∀ (s : State) x, s.Follows m rs (f s x)) (l : List α) (s : State) :
    s.Follows m rs (l.foldl f s) :=
  List.foldlRecOn l f (.refl s) fun t ht x _ => ht.trans (h t x)

end State.Follows

/-- The state but for the shared core, and for cells of the working buffer with their conditions and failures. -/
def State.imageless (s : State) : State :=
  { s with core := {}, img := { s.img with working := [], conds := [], failSeen := [] } }

/-- `t` differs from `s` in cells of the working buffer and in fields of the shared core that steer nothing. -/
abbrev State.ImageOnly (s t : State) : Prop := s.Follows State.imageless steerRows t

theorem State.imageOnly_onCore (s : State) {f : Core → Core} (h : s.core.Keeps steerRows (f s.core)) : s.ImageOnly (s.onCore f) :=
  ⟨rfl, h⟩

theorem State.imageOnly_record (s : State) (code domain : Nat) (payload : List Byte) :
    s.ImageOnly (s.record code domain payload) :=
  s.imageOnly_onCore (Core.keeps_record ..)

theorem State.imageOnly_store (s : State) (a : Nat) (c : Cell) (cs : List Nat) : s.ImageOnly (s.store a c cs) :=
  ⟨rfl, .refl _⟩

/-- A failed check anywhere but in a trowel engine, whose failures are evidence in a pair. -/
theorem State.imageOnly_checkFailed (s : State) (a : Nat) {place : Nat} (domain : Nat) (hp : place ≠ 1) :
    s.ImageOnly (s.checkFailed a place domain) := by
  have hbump : s.ImageOnly (s.onCore (·.bump Reg.TICK_CHECK_FAIL_COUNT)) :=
    s.imageOnly_onCore (.bump (.refl _) (Row.off_of_ne (by decide) (by decide)))
  have hseen : ∀ (t : State) m, t.ImageOnly { t with img := { t.img with failSeen := m } } := fun _ _ =>
    ⟨rfl, .refl _⟩
  simp only [State.checkFailed, if_neg hp]
  exact .ite (hbump.trans ((hseen _ _).trans (State.imageOnly_record ..))) hbump

theorem State.imageOnly_readCell (s : State) (a : Nat) {place : Nat} (hp : place ≠ 1) : s.ImageOnly (s.readCell a place).2 := by
  unfold State.readCell
  split
  · exact .refl s
  · split
    · exact .refl s
    · exact (s.imageOnly_store _ _ _).trans (State.imageOnly_checkFailed _ _ _ hp)

theorem State.imageOnly_restamp (s : State) (a : Nat) (epoch : Word) : s.ImageOnly (s.restamp a epoch) := by
  have h := s.imageOnly_readCell a (place := 2) (by decide)
  unfold State.restamp
  split
  · next hr => rw [hr] at h; exact h.trans (State.imageOnly_store ..)
  · next hr => rw [hr] at h; exact h

theorem State.imageOnly_writeCell (s : State) (a : Nat) (v : Word) (cs : List Nat) (src epoch : Nat) :
    s.ImageOnly (s.writeCell a v cs src epoch) :=
  .ite (.refl s) (.ite (s.imageOnly_onCore (.bump (.refl _) (Row.off_of_ne (by decide) (by decide)))) (s.imageOnly_store ..))

end Sys2Proof.Machine
end

section
/-! A screed instant with nothing waiting for it starts the next tick (R39, R41, R48). -/

namespace Sys2Proof

theorem Core.epoch_putPair (k : Core) (n : Nat) :
    (k.putPair Reg.TICK_EPOCH_LO_EPOCH_LO Reg.TICK_EPOCH_HI_EPOCH_HI n).epoch = n % 2 ^ 64 := by
  have hne : Reg.TICK_EPOCH_HI_EPOCH_HI.key 0 ≠ Reg.TICK_EPOCH_LO_EPOCH_LO.key 0 := by decide
  have hlo : Reg.TICK_EPOCH_LO_EPOCH_LO.width = 32 := rfl
  have hhi : Reg.TICK_EPOCH_HI_EPOCH_HI.width = 32 := rfl
  simp only [Core.epoch, Core.pair, Core.putPair, Core.fget_fput_self, Core.fget_fput, if_neg hne, hlo, hhi]
  omega

/-- The two fields that hold the epoch. -/
def epochRows : List Row := [Reg.TICK_EPOCH_LO_EPOCH_LO, Reg.TICK_EPOCH_HI_EPOCH_HI]

theorem Core.Keeps.epoch {rs : List Row} {k k' : Core} (h : k.Keeps rs k') (hrs : epochRows ⊆ rs) : k'.epoch = k.epoch := by
  unfold Core.epoch Core.pair
  rw [h.2 _ (hrs (by decide)), h.2 _ (hrs (by decide))]

/-- What `State.setTick` writes of the rows that steer. -/
def Core.setTick (k : Core) (n : Nat) : Core :=
  ((k.putPair Reg.TICK_EPOCH_LO_EPOCH_LO Reg.TICK_EPOCH_HI_EPOCH_HI n).fput Reg.TICK_STATUS_PHASE 1).setFlag
    Reg.TICK_STATUS_RUNNING true

theorem Core.setTick_facts (k : Core) (n : Nat) : (k.setTick n).c = k.c ∧ (k.setTick n).epoch = n % 2 ^ 64 ∧
    (k.setTick n).flag Reg.TICK_STATUS_RUNNING = true ∧ (k.setTick n).fget Reg.TICK_STATUS_PHASE = 1 ∧
    (k.setTick n).fget Reg.RCT_STAT_STATE = k.fget Reg.RCT_STAT_STATE := by
  have hkeeps : (k.putPair Reg.TICK_EPOCH_LO_EPOCH_LO Reg.TICK_EPOCH_HI_EPOCH_HI n).Keeps epochRows (k.setTick n) :=
    .setFlag (.fput (.refl _) (Row.off_of_ne (by decide) (by decide))) (Row.off_of_ne (by decide) (by decide))
  refine ⟨rfl, ?_, Core.flag_setFlag _ _ _ _ (by decide), ?_, ?_⟩
  · exact (hkeeps.epoch (List.Subset.refl _)).trans (Core.epoch_putPair k n)
  · rw [Core.setTick, Core.setFlag, Core.fget_fput, if_neg (by decide), Core.fget_fput_self]
    rfl
  · have hrct : k.Keeps [Reg.RCT_STAT_STATE] (k.setTick n) :=
      .setFlag (.fput (.fput (.fput (.refl _) (Row.off_of_ne (by decide) (by decide))) (Row.off_of_ne (by decide) (by decide)))
        (Row.off_of_ne (by decide) (by decide))) (Row.off_of_ne (by decide) (by decide))
    exact hrct.2 _ (by decide)

end Sys2Proof

namespace Sys2Proof.Machine

/-- What the start of a tick leaves alone or sets once: the configuration, the commands, the lane, a waiting key switch, the pair's
commands, and the sequencer's marks. -/
def State.marks (s : State) :=
  (s.cfg, s.cmd, s.lane, s.xch.keySwitch, s.pair.cmds, s.pair.agreed, s.trw.scanning, s.seq.syncC, s.seq.started, s.seq.metDone,
    s.seq.outStarted)

theorem State.marks_follow {s t : State} (h : s.ImageOnly t) : s.Follows State.marks steerRows t := h.coarser

/-! ### What stands before the tick's own registers are set -/

theorem State.follows_enterEpoch (s : State) (n : Nat) : s.Follows State.marks steerRows (s.enterEpoch n) := by
  unfold State.enterEpoch
  have hskip : s.Follows State.marks steerRows (if s.seq.next.isSome && s.seq.started then
      s.onCore (·.bump Reg.TICK_SKIPPED_EPOCHS 0 (n - s.epoch - 1)) else s) :=
    .ite ((State.Follows.refl s).onCore (.bump (.refl _) (Row.off_of_ne (by decide) (by decide)))) (.refl s)
  dsimp only
  split
  · exact (hskip.onCore (.setFlag (.refl _) (Row.off_of_ne (by decide) (by decide)))).trans
      (State.marks_follow (State.imageOnly_record ..))
  · exact hskip

theorem State.follows_stampFirst (s : State) (n : Nat) : s.Follows State.marks steerRows (s.stampFirst n) :=
  .ite (.refl s) ⟨rfl, .refl _⟩

theorem State.follows_bookClocks (s : State) : s.Follows State.marks steerRows s.bookClocks := by
  unfold State.bookClocks
  refine .trans (.foldl (fun t e => ?_) _ s) (List.foldlRecOn _ _ (.refl _) fun t ht f hf => ht.trans ?_)
  · exact .onCore ⟨rfl, .refl _⟩ (.fput (.refl _) (Row.off_of_ne (by decide) (by omega)))
  · have hf4 : f < 1024 := by have := List.mem_range.1 hf; omega
    exact .onCore ⟨rfl, .refl _⟩ (.fput (.refl _) (Row.off_of_ne (by decide) hf4))

theorem State.follows_bookFills (s : State) : s.Follows State.marks steerRows s.bookFills :=
  .onCore (.refl s) (.fput (.of_regs (.refl _) rfl rfl) (Row.off_of_ne (by decide) (by decide)))

theorem State.follows_bookCycles (s : State) (n : Nat) : s.Follows State.marks steerRows (s.bookCycles n) := by
  refine .foldl (fun t p => ?_) _ s
  exact .onCore ⟨rfl, .refl _⟩ (.fput (.refl _) (Row.off_of_lt _ (by decide)))

theorem State.follows_bookLevels (s : State) (n : Nat) : s.Follows State.marks steerRows (s.bookLevels n) := by
  unfold State.bookLevels
  exact .onCore ⟨rfl, .refl _⟩ (.fput (.refl _) (Row.off_of_ne (by decide) (by decide)))

theorem State.follows_showErr (s : State) : s.Follows State.marks steerRows s.showErr :=
  .onCore (.refl s) (.fput (.refl _) (Row.off_of_ne (by decide) (by decide)))

theorem State.follows_setServo (s : State) (st : Nat) : s.Follows State.marks steerRows (s.setServo st) := by
  unfold State.setServo
  refine .trans ?_ (State.follows_showErr _)
  refine .trans (.onCore (.refl s) ?_) (.ite ⟨rfl, .refl _⟩ (.refl _))
  refine .ite (.setFlag ?nt (Row.off_of_ne (by decide) (by decide))) ?nt
  exact .setFlag (.fput (.refl _) (Row.off_of_ne (by decide) (by decide))) (Row.off_of_ne (by decide) (by decide))

theorem State.follows_ownTime (s : State) : s.Follows State.marks steerRows s.ownTime :=
  .ite (State.follows_setServo ..) (State.follows_showErr ..)

/-- What the start of tick `n` books of the tick before. -/
def State.bookBefore (s : State) (n : Nat) : State :=
  (((((s.enterEpoch n).stampFirst n).bookClocks.bookFills).bookCycles n).bookLevels n).ownTime

theorem State.follows_bookBefore (s : State) (n : Nat) : s.Follows State.marks steerRows (s.bookBefore n) :=
  (s.follows_enterEpoch n).trans <| .trans (State.follows_stampFirst ..) <| .trans (State.follows_bookClocks _) <|
    .trans (State.follows_bookFills _) <| .trans (State.follows_bookCycles ..) <| .trans (State.follows_bookLevels ..)
      (State.follows_ownTime _)

/-! ### The tick's own registers and marks -/

/-- The registers and marks of tick `n` are set: the part of `State.beginTick` between what is booked and what takes effect. -/
def State.setTick (s : State) (n : Nat) : State :=
  let s := s.onCore fun k =>
    let k := (k.putPair Reg.TICK_EPOCH_LO_EPOCH_LO Reg.TICK_EPOCH_HI_EPOCH_HI n).fput Reg.TICK_STATUS_PHASE 1
    let k := (k.setFlag Reg.TICK_STATUS_RUNNING true).setFlag Reg.TICK_STATUS_TIME_DEGRADED
      (k.flag Reg.NT_STAT_TIME_DEGRADED)
    if k.state = 0 || (k.state == 4 && s.plat.sleepReq.isNone) then k.setState (if k.flag Reg.SBD_STAT_TRIPPED then 2 else 1) 0 else k
  let s := if s.paired then
      s.onCore fun k => (k.drive .ptrHb (!k.landLevel .ptrHb)).drive .ptrRdy false
    else s
  let seq := { s.seq with started := true, base := none, waitFrom := none, next := none, stepM := none, syncC := s.core.c,
                          inCycles := 0, outLeft := [], outCycles := 0, metDone := false, outStarted := false,
                          swapped := false }
  let pair := { s.pair with inputs := [], inBytes := [], outBytes := [], commits := [], itemsNow := [], priorNow := [], evidence := [],
                            rdyIn := false, lastApplied := s.pair.accepted }
  { s with seq := seq, pair := pair, trw := { s.trw with scanning := false } }

/-- What waits for the screed instant takes effect. -/
def State.applyDue (s : State) (n : Nat) : State :=
  (s.realignStep.applyAgreed n).applyForces.applyTouch.applyRecoat.applySlots.applyRestart.applyKeySwitch

/-- The input sweep of the tick is fixed, and has ended where it has no bursts. -/
def State.startInput (s : State) : State :=
  let bs := s.sweepOf s.cfg.inputSweep
  let s := { s with seq := { s.seq with inLeft := bs, inDone := false }, met := { s.met with due := s.met.ready, ready := [] } }
  if bs.isEmpty then s.endInput else s

theorem State.beginTick_eq (s : State) (n : Nat) :
    s.beginTick n = (((((s.bookBefore n).setTick n).applyDue n).laneStart.ageVisit.stampForced).dueSets n).startInput := by
  unfold State.beginTick State.startInput State.applyDue State.setTick State.bookBefore
  with_reducible rfl

theorem State.setTick_core (s : State) (n : Nat) : (s.core.setTick n).Keeps steerRows (s.setTick n).core := by
  have hpaired : ∀ t : State, t.core.Keeps steerRows (if t.paired then
      t.onCore fun k => (k.drive .ptrHb (!k.landLevel .ptrHb)).drive .ptrRdy false else t).core := by
    intro t
    split
    · exact .of_regs (.refl _) rfl rfl
    · exact .refl _
  unfold State.setTick
  refine .trans ?_ (hpaired _)
  refine .ite (.trans ?deg (Core.keeps_setState ..)) ?deg
  exact .setFlag (.refl _) (Row.off_of_ne (by decide) (by decide))

theorem State.setTick_marks (s : State) (n : Nat) : (s.setTick n).marks =
    (s.cfg, s.cmd, s.lane, s.xch.keySwitch, s.pair.cmds, s.pair.agreed, false, s.core.c, true, false, false) := by
  have hsync : (s.setTick n).seq.syncC = s.core.c := (s.setTick_core n).1
  rw [← hsync]
  unfold State.marks State.setTick
  dsimp only
  split <;> rfl

/-! ### What waits for the screed instant takes effect -/

theorem State.Follows.quiet {s t : State} (h : s.Follows State.marks steerRows t) (hq : s.quiet) : t.quiet := by
  obtain ⟨hmarks, hkeeps⟩ := h
  simp only [State.marks, Prod.mk.injEq] at hmarks
  obtain ⟨-, hcmd, hlane, hkey, hcmds, hagreed, -⟩ := hmarks
  have harmed : t.armed = s.armed := by unfold State.armed; rw [hkeeps.2 _ (by decide)]
  unfold State.quiet
  rw [hcmd, hlane, hkey, hcmds, hagreed, harmed]
  exact hq

theorem State.follows_realignStep (s : State) : s.Follows State.marks steerRows s.realignStep := by
  unfold State.realignStep
  exact .onCore ⟨rfl, .refl _⟩ (.setFlag (.refl _) (Row.off_of_ne (by decide) (by decide)))

section

variable {s : State} (h : s.quiet)

include h

theorem State.applyAgreed_of_quiet (n : Nat) : s.applyAgreed n = s := by
  obtain ⟨-, -, -, -, -, -, -, -, hagreed, -⟩ := h
  have hpair : { s.pair with agreed := [] } = s.pair := by rw [← hagreed]
  simp only [State.applyAgreed, hagreed, List.filter_nil, List.foldl_nil, hpair]

theorem State.applyForces_of_quiet : s.applyForces = s := by
  obtain ⟨hforce, -⟩ := h
  have hcmd : { s.cmd with forceDue := [] } = s.cmd := by rw [← hforce]
  simp only [State.applyForces, hforce, List.foldl_nil, hcmd]

theorem State.applyTouch_of_quiet : s.applyTouch = s := by
  obtain ⟨-, htouch, -⟩ := h
  simp only [State.applyTouch, htouch]

theorem State.applyRecoat_of_quiet : s.applyRecoat = s := by
  obtain ⟨-, -, -, -, -, harmed, -⟩ := h
  simp [State.applyRecoat, harmed]

theorem State.applySlots_of_quiet : s.applySlots = s := by
  obtain ⟨-, -, hslot, -⟩ := h
  simp only [State.applySlots, hslot]

theorem State.applyRestart_of_quiet : s.applyRestart = s := by
  obtain ⟨-, -, -, hrestart, -⟩ := h
  simp [State.applyRestart, hrestart]

theorem State.applyKeySwitch_of_quiet : s.applyKeySwitch = s := by
  obtain ⟨-, -, -, -, -, -, hkey, -⟩ := h
  simp only [State.applyKeySwitch, hkey]

theorem State.laneStart_of_quiet : s.laneStart = s := by
  obtain ⟨-, -, -, -, -, -, -, -, -, hfaulty, hjoin⟩ := h
  have hlane : ({ s with lane := { s.lane with joinNext := [] } } : State) = s := by rw [← hjoin]
  unfold State.laneStart
  rw [hjoin]
  refine Eq.trans (congrArg (fun t : State => t.lane.faulty.foldl _ t) hlane) ?_
  simp only [hfaulty, List.foldl_nil]

theorem State.stampForced_of_quiet : s.stampForced = s := by
  obtain ⟨-, -, -, -, hforces, -⟩ := h
  simp only [State.stampForced, hforces, List.foldl_nil]

theorem State.flushCommands_of_quiet : s.flushCommands = s := by
  obtain ⟨-, -, -, -, -, -, -, hcmds, -⟩ := h
  simp [State.flushCommands, hcmds]

/-- With nothing waiting, a realignment alone takes effect. -/
theorem State.applyDue_of_quiet (n : Nat) : s.applyDue n = s.realignStep := by
  have hr := (State.follows_realignStep s).quiet h
  rw [State.applyDue, State.applyAgreed_of_quiet hr, State.applyForces_of_quiet hr, State.applyTouch_of_quiet hr,
    State.applyRecoat_of_quiet hr, State.applySlots_of_quiet hr, State.applyRestart_of_quiet hr, State.applyKeySwitch_of_quiet hr]

end

/-! ### What is due in the tick -/

theorem State.follows_ageVisit (s : State) : s.Follows State.marks steerRows s.ageVisit := by
  have hvisit : ∀ v : Nat, s.Follows State.marks steerRows { s with seq := { s.seq with visit := v } } := fun _ => ⟨rfl, .refl _⟩
  unfold State.ageVisit
  dsimp only
  split
  · exact hvisit _
  · exact .ite ((hvisit _).trans (State.marks_follow (State.imageOnly_restamp ..))) (hvisit _)

theorem State.follows_bookCycle (s : State) (t clk : Nat) : s.Follows State.marks tickRows (s.bookCycle t clk) := by
  unfold State.bookCycle
  exact .onCore ⟨rfl, .refl _⟩ (.fput (.refl _) (Row.off_of_lt _ (by decide)))

theorem State.follows_endSkips (s : State) : s.Follows State.marks tickRows s.endSkips := by
  unfold State.endSkips
  refine .trans (.foldl (fun t p => ?_) _ s) (.foldl (fun t p => ?_) _ _)
  · exact .ite (.onCore (.refl _) (.fput (.refl _) (Row.off_of_lt _ (by decide)))) (.refl _)
  · exact .ite (.onCore (.refl _) (.fput (.refl _) (Row.off_of_lt _ (by decide)))) (.refl _)

theorem State.follows_taskStage (s : State) (n : Nat) (d : TaskDef) : s.Follows State.marks tickRows (s.taskStage n d) := by
  unfold State.taskStage
  split
  · exact .refl s
  split
  · exact ⟨rfl, .refl _⟩
  · refine .onCore (.trans ⟨rfl, .refl _⟩ (State.follows_bookCycle ..)) (.bump (.refl _) (Row.off_of_lt _ (by decide)))
  · exact .refl s

theorem State.follows_slotStage (s : State) (n : Nat) (p : Nat × Loop) : s.Follows State.marks tickRows (s.slotStage n p) :=
  .ite (.refl s) (.ite (.onCore ⟨rfl, .refl _⟩ (.bump (.refl _) (Row.off_of_lt _ (by decide)))) ⟨rfl, .refl _⟩)

theorem State.follows_dueSets (s : State) (n : Nat) : s.Follows State.marks tickRows (s.dueSets n) := by
  unfold State.dueSets
  refine .trans ?_ (.foldl (fun t p => t.follows_slotStage n p) _ _)
  refine .trans ?_ (.foldl (fun t d => t.follows_taskStage n d) _ _)
  exact (s.follows_endSkips).trans ⟨rfl, .refl _⟩

theorem State.follows_endInput (s : State) : s.Follows State.marks steerRows s.endInput := by
  unfold State.endInput
  exact .onCore ⟨rfl, .refl _⟩ (.fput (.refl _) (Row.off_of_ne (by decide) (by decide)))

theorem State.sweepOf_congr {s t : State} (h : t.core.fget Reg.LANE_PRESENT_CARRIERS = s.core.fget Reg.LANE_PRESENT_CARRIERS)
    (l : List BurstDef) : t.sweepOf l = s.sweepOf l := by
  simp only [State.sweepOf, State.joined, h]

/-- The input sweep has its bursts before it, and the marks stand. -/
theorem State.startInput_facts (s : State) : s.Follows State.marks tickRows s.startInput ∧
    s.startInput.seq.inLeft = s.startInput.sweepOf s.startInput.cfg.inputSweep := by
  have hbegun : ∀ (t : State) (bs : List BurstDef), s.Follows State.marks tickRows t → t.seq.inLeft = bs →
      t.sweepOf t.cfg.inputSweep = bs → let u := if bs.isEmpty then t.endInput else t
      s.Follows State.marks tickRows u ∧ u.seq.inLeft = u.sweepOf u.cfg.inputSweep := by
    intro t bs ht hleft hbs
    dsimp only
    split
    · next hempty =>
      refine ⟨ht.trans (t.follows_endInput.mono tickRows_subset), ?_⟩
      rw [State.sweepOf_congr (t.follows_endInput.2.2 _ (by decide))]
      exact (List.isEmpty_iff.1 (hbs ▸ hempty)).symm
    · exact ⟨ht, hleft.trans hbs.symm⟩
  exact hbegun _ _ ⟨rfl, .refl _⟩ rfl rfl

/-- What waits for a screed instant is not touched by the set-up of the tick's registers. -/
theorem State.setTick_quiet {s : State} (h : s.quiet) (n : Nat) : (s.setTick n).quiet := by
  have hmarks := s.setTick_marks n
  simp only [State.marks, Prod.mk.injEq] at hmarks
  obtain ⟨-, hcmd, hlane, hkey, hcmds, hagreed, -⟩ := hmarks
  obtain ⟨-, -, -, -, hrct⟩ := s.core.setTick_facts n
  have harmed : (s.setTick n).armed = s.armed := by
    unfold State.armed
    rw [(s.setTick_core n).2 _ (by decide), hrct]
  unfold State.quiet
  rw [hcmd, hlane, hkey, hcmds, hagreed, harmed]
  exact h

/-- With nothing waiting, the start of tick `n` follows the set-up of its registers. -/
theorem State.beginTick_facts {s : State} (h : s.quiet) (n : Nat) :
    ((s.bookBefore n).setTick n).Follows State.marks tickRows (s.beginTick n) ∧
      (s.beginTick n).seq.inLeft = (s.beginTick n).sweepOf (s.beginTick n).cfg.inputSweep := by
  have hset := State.setTick_quiet ((s.follows_bookBefore n).quiet h) n
  have hdue := State.follows_realignStep ((s.bookBefore n).setTick n)
  have hage := State.follows_ageVisit ((s.bookBefore n).setTick n).realignStep
  rw [State.beginTick_eq, State.applyDue_of_quiet hset, State.laneStart_of_quiet (hdue.quiet hset),
    State.stampForced_of_quiet (hage.quiet (hdue.quiet hset))]
  obtain ⟨hstart, hleft⟩ := State.startInput_facts (((s.bookBefore n).setTick n).realignStep.ageVisit.dueSets n)
  exact ⟨(((hdue.trans hage).mono tickRows_subset).trans (State.follows_dueSets ..)).trans hstart, hleft⟩

/-- What a tick that starts with nothing waiting shows and marks. -/
structure State.Begun (s t : State) (n : Nat) : Prop where
  epoch : t.core.epoch = n % 2 ^ 64
  running : t.core.flag Reg.TICK_STATUS_RUNNING = true
  phase : t.core.fget Reg.TICK_STATUS_PHASE = 1
  cfg : t.cfg = s.cfg
  sync : t.seq.syncC = s.core.c
  started : t.seq.started = true
  outStarted : t.seq.outStarted = false
  metDone : t.seq.metDone = false
  scanning : t.trw.scanning = false
  inLeft : t.seq.inLeft = t.sweepOf t.cfg.inputSweep

theorem State.begun_beginTick {s : State} (h : s.quiet) (n : Nat) : s.Begun (s.beginTick n) n := by
  have hbook := s.follows_bookBefore n
  have hset := (s.bookBefore n).setTick_core n
  have hmarks := (s.bookBefore n).setTick_marks n
  obtain ⟨-, hepoch, hrunning, hphase, -⟩ := (s.bookBefore n).core.setTick_facts n
  obtain ⟨hfollows, hleft⟩ := State.beginTick_facts h n
  generalize s.beginTick n = t at *
  have hcore := (hset.mono tickRows_subset).trans hfollows.2
  have hbefore := hbook.1
  rw [← hfollows.1] at hmarks
  simp only [State.marks, Prod.mk.injEq] at hmarks hbefore
  obtain ⟨hcfg, -, -, -, -, -, hscan, hsync, hstarted, hmet, hout⟩ := hmarks
  exact ⟨(hcore.epoch (by decide)).trans hepoch, (hcore.flag (by decide)).trans hrunning,
    (hcore.2 _ (by decide)).trans hphase, hcfg.trans hbefore.1, hsync.trans hbook.2.1, hstarted, hout, hmet, hscan, hleft⟩

/-- Settles O11: the parts of `State.beginTick` keep what `State.setTick` has set. -/
theorem screedInstant : Obligations.ScreedInstant := by
  intro s inputs hcan hstandby hquiet
  have hexec : exec (.screedInstant inputs) s = .next (s.upTick (if s.canTick && !s.standby then
      (s.flushCommands.laneSync inputs).beginTick s.nextEpoch else s)) := rfl
  have hsynced : (s.laneSync inputs).quiet := hquiet
  have hbegun := State.begun_beginTick hsynced s.nextEpoch
  rw [State.flushCommands_of_quiet hquiet, hcan, hstandby, if_pos (by decide)] at hexec
  generalize (s.laneSync inputs).beginTick s.nextEpoch = t at *
  have hcfg : t.cfg = s.cfg := hbegun.cfg
  refine ⟨_, hexec, hbegun.epoch, hbegun.running, hbegun.phase, hbegun.sync, hbegun.started, hbegun.outStarted, hbegun.metDone,
    ?_, hbegun.scanning⟩
  simp only [State.upTick_seq, State.upTick_cfg]
  rw [hbegun.inLeft, hcfg]
  exact (State.sweepOf_congr rfl _).symm

end Sys2Proof.Machine
end

section
/-! The merge of a module without subscriptions, and the entry of metrology results (R41, R44, R168, R256). -/

namespace Sys2Proof

theorem SMap.mem_of_at? {α : Type} {m : SMap α} {k : Nat} {x : α} (h : m.at? k = some x) : (k, x) ∈ m := by
  induction m with
  | nil => cases h
  | cons p m ih =>
    obtain ⟨j, y⟩ := p
    unfold SMap.at? at h
    split at h
    · next hj => cases h; rw [hj]; exact List.mem_cons_self
    · exact List.mem_cons_of_mem _ (ih h)

end Sys2Proof

namespace Sys2Proof.Machine

/-! ### Engines shown, and a task that is unfinished (R41, R95) -/

/-- The state but for the shared core. -/
def State.coreless (s : State) : State := { s with core := {} }

theorem State.coreless_onCore (s : State) {f : Core → Core} (h : s.core.Keeps steerRows (f s.core)) :
    s.Follows State.coreless steerRows (s.onCore f) := ⟨rfl, h⟩

/-- What the engines wait for is shown in the shared core. -/
theorem State.coreless_showEngines (s : State) : s.Follows State.coreless steerRows s.showEngines := by
  have hengine : ∀ (t : State) (e : Fin 8), t.Follows State.coreless steerRows (t.showEngine e) := fun t e =>
    .ite (.refl t) (t.coreless_onCore (.fput (.refl _) (Row.off_of_ne (by decide) (by omega))))
  unfold State.showEngines
  refine .trans (.foldl hengine (List.finRange 8) s) ?_
  refine List.foldlRecOn _ _ (.refl _) fun t ht f hf => ht.trans ?_
  have hf4 : f < 1024 := by have := List.mem_range.1 hf; omega
  exact .ite (.refl t) (t.coreless_onCore (.fput (.refl _) (Row.off_of_ne (by decide) hf4)))

theorem State.allDone_of_due {s : State} {u : Nat} (h : s.trw.stages.at? u = some .due) : s.allDone = false := by
  have hnot : s.trw.stages.all (fun p => p.2 != .due && p.2 != .running) = false :=
    List.all_eq_false.2 ⟨_, SMap.mem_of_at? h, by simp⟩
  rw [State.allDone, hnot, Bool.false_and]

theorem State.sleepCell_of_none {s : State} (h : s.cfg.sleepCell = none) : s.sleepCell = s := by
  simp only [State.sleepCell, h]

/-- While a due task is unfinished, the end of another item shows the engines alone. -/
theorem State.coreless_itemDone {s : State} {u : Nat} (h : s.unfinished u) : s.Follows State.coreless steerRows s.itemDone := by
  have hshow := s.coreless_showEngines
  have hcfg : s.showEngines.cfg = s.cfg := hshow.same State.cfg
  have htrw : s.showEngines.trw = s.trw := hshow.same State.trw
  obtain ⟨hsleep, hdue⟩ := h
  have hdone : s.showEngines.sleepCell = s.showEngines := State.sleepCell_of_none (by rw [hcfg]; exact hsleep)
  have hall : s.showEngines.allDone = false := State.allDone_of_due (by rw [htrw]; exact hdue)
  unfold State.itemDone
  simpa only [hdone, hall, Bool.and_false, Bool.false_and, Bool.false_eq_true, if_false] using hshow

/-! ### A unit that feeds no partner (R229) -/

theorem State.sendInputs_of_not_feeds {s : State} (h : s.feeds = false) (cells : List Nat) : s.sendInputs cells = s := by
  simp [State.sendInputs, State.sendItems, h]

/-- Rows that decide whom a unit feeds, and whether it feathers. -/
def mergeRows : List Row := [Reg.GLB_UNIT_ROLE, Reg.GLB_UNIT_PAIRED, Reg.PTR_STAT_PAIR_STATE, Reg.SBD_STAT_TRIPPED]

theorem mergeRows_subset : mergeRows ⊆ steerRows := by decide

theorem State.standby_of_keeps {s t : State} (h : s.core.Keeps mergeRows t.core) : t.standby = s.standby := by
  unfold State.standby Core.isStandby
  rw [h.2 _ (by decide)]

theorem State.feeds_of_keeps {s t : State} (h : s.core.Keeps mergeRows t.core) : t.feeds = s.feeds := by
  unfold State.feeds State.inStep State.joins
  rw [State.standby_of_keeps h, h.flag (by decide), h.2 _ (by decide)]

/-! ### The merge (R41, R44, R256) -/

/-- What the merge of the statement starts from: a single or feeding-no-partner duty without subscriptions and triggers, with
nothing in its inbox, the bead not tripped, and item `u` due. -/
structure State.PlainMerge (s : State) (u : Nat) : Prop where
  unfinished : s.unfinished u
  subs : s.xch.subs = []
  triggers : s.xch.triggers = []
  inbox : s.net.inbox = []
  feeds : s.feeds = false
  tripped : s.core.flag Reg.SBD_STAT_TRIPPED = false
  standby : s.standby = false

theorem State.PlainMerge.of_keeps {s t : State} {u : Nat} (h : s.PlainMerge u) (hk : s.core.Keeps mergeRows t.core)
    (hcfg : t.cfg = s.cfg) (htrw : t.trw = s.trw) (hxch : t.xch = s.xch) (hnet : t.net = s.net) : t.PlainMerge u where
  unfinished := by unfold State.unfinished; rw [hcfg, htrw]; exact h.unfinished
  subs := by rw [hxch]; exact h.subs
  triggers := by rw [hxch]; exact h.triggers
  inbox := by rw [hnet]; exact h.inbox
  feeds := (State.feeds_of_keeps hk).trans h.feeds
  tripped := (hk.flag (by decide)).trans h.tripped
  standby := (State.standby_of_keeps hk).trans h.standby

theorem State.PlainMerge.of_imageOnly {s t : State} {u : Nat} (h : s.PlainMerge u) (hi : s.ImageOnly t) : t.PlainMerge u :=
  h.of_keeps (hi.2.mono mergeRows_subset) (hi.same State.cfg) (hi.same State.trw) (hi.same State.xch)
    (hi.same State.net)

theorem State.PlainMerge.onCore {s : State} {u : Nat} (h : s.PlainMerge u) {f : Core → Core}
    (hf : s.core.Keeps mergeRows (f s.core)) : (s.onCore f).PlainMerge u :=
  h.of_keeps hf rfl rfl rfl rfl

/-- What the merge leaves alone once it has set the merged epoch. -/
def State.merged (s : State) := (s.cfg, s.xch, s.met, s.trw)

theorem State.merged_follow {s t : State} (h : s.ImageOnly t) : s.Follows State.merged steerRows t := h.coarser

theorem State.enterInbox_of_plain {s : State} {u : Nat} (h : s.PlainMerge u) : s.enterInbox = s := by
  have hnet : ({ s with net := { s.net with inbox := [] } } : State) = s := by rw [← h.inbox]
  unfold State.enterInbox
  rw [h.standby, h.inbox]
  refine Eq.trans (congrArg (fun t : State => t.sendInputs []) hnet) ?_
  exact State.sendInputs_of_not_feeds h.feeds []

/-- Without subscriptions and triggers the merge notes the epoch and drops what it holds of older ones. -/
theorem State.mergeRemote_of_plain {s : State} {u : Nat} (h : s.PlainMerge u) (cut : List Nat) :
    ∃ x, s.mergeRemote cut = { s with xch := x } ∧ x.mergedEpoch = some s.epoch := by
  simp only [State.mergeRemote, State.laterTriggers, h.subs, h.triggers, List.foldl_nil]
  exact ⟨_, rfl, rfl⟩

theorem State.sendItems_of_not_feeds {s : State} (h : s.feeds = false) (items : List InputItem) : s.sendItems items = s := by
  simp [State.sendItems, h]

theorem State.merged_enterWrites {s : State} (h : s.feeds = false) : s.Follows State.merged steerRows s.enterWrites := by
  unfold State.enterWrites
  extract_lets ws img t r
  have hr : t.ImageOnly r.1 := List.foldlRecOn ws _ (motive := fun x : State × List InputItem => t.ImageOnly x.1) (.refl t)
    fun x hx w _ => hx.trans (State.imageOnly_writeCell ..)
  rw [State.sendItems_of_not_feeds ((State.feeds_of_keeps (hr.2.mono mergeRows_subset)).trans h)]
  exact State.Follows.trans (t := t) ⟨rfl, .refl _⟩ (State.merged_follow hr)

theorem State.merged_writeSystem (s : State) : s.Follows State.merged steerRows s.writeSystem := by
  unfold State.writeSystem
  refine .foldl (fun t c => ?_) _ s
  exact .ite (.refl t) (.trans (State.merged_follow (State.imageOnly_writeCell ..)) ⟨rfl, .refl _⟩)

/-- Before the bead has tripped nothing is feathered. -/
theorem State.feather_of_not_tripped {s : State} (h : s.core.flag Reg.SBD_STAT_TRIPPED = false) : s.feather = s := by
  simp [State.feather, h]

theorem State.sendClose_of_not_feeds {s : State} (h : s.feeds = false) (cells fallbacks : List Nat) :
    s.sendClose cells fallbacks = s := by
  simp [State.sendClose, h]

/-- The start of scan and control while item `u` is unfinished. -/
theorem State.startScan_facts {s : State} {u : Nat} (hu : s.unfinished u) (ht : s.core.flag Reg.SBD_STAT_TRIPPED = false) :
    s.startScan.trw.scanning = true ∧ s.startScan.core.fget Reg.TICK_STATUS_PHASE = 3 ∧ s.startScan.xch = s.xch ∧
      s.startScan.met = s.met ∧ s.startScan.core.fget Reg.TICK_OVR_MERGE_OVR = s.core.fget Reg.TICK_OVR_MERGE_OVR := by
  obtain ⟨hsys, hkeeps⟩ := s.merged_writeSystem
  simp only [State.merged, Prod.mk.injEq] at hsys
  obtain ⟨hcfg, hxch, hmet, htrw⟩ := hsys
  unfold State.startScan
  rw [State.feather_of_not_tripped ht]
  generalize s.writeSystem = w at *
  extract_lets trw w' t
  have hitem : t.Follows State.coreless steerRows t.itemDone :=
    State.coreless_itemDone (u := u) ⟨(congrArg Image.sleepCell hcfg).trans hu.1, (congrArg (·.stages.at? u) htrw).trans hu.2⟩
  have hphase := hitem.2.2 Reg.TICK_STATUS_PHASE (by decide)
  have hovr := hitem.2.2 Reg.TICK_OVR_MERGE_OVR (by decide)
  have hscan : t.itemDone.trw = t.trw := hitem.same State.trw
  have hxch' : t.itemDone.xch = t.xch := hitem.same State.xch
  have hmet' : t.itemDone.met = t.met := hitem.same State.met
  rw [hphase, hovr, hscan, hxch', hmet']
  have hcore : t.core = w.core.fput Reg.TICK_STATUS_PHASE 3 := rfl
  refine ⟨rfl, ?_, hxch, hmet, ?_⟩
  · rw [hcore, Core.fget_fput_self]; rfl
  · rw [hcore, Core.fget_fput, if_neg (by decide), hkeeps.2 _ (by decide)]

/-- The merge of a module without subscriptions. -/
theorem State.mergeTick_facts {s : State} {u : Nat} (h : s.PlainMerge u) (cut : List Nat) :
    (s.mergeTick cut).trw.scanning = true ∧ (s.mergeTick cut).core.fget Reg.TICK_STATUS_PHASE = 3 ∧
      (s.mergeTick cut).xch.mergedEpoch = some s.epoch ∧ (s.mergeTick cut).met = s.met ∧
      (s.mergeTick cut).core.fget Reg.TICK_OVR_MERGE_OVR = s.core.fget Reg.TICK_OVR_MERGE_OVR := by
  have hphase : (s.onCore (·.fput Reg.TICK_STATUS_PHASE 2)).PlainMerge u :=
    h.onCore (.fput (.refl _) (Row.off_of_ne (by decide) (by decide)))
  have hepoch : (s.core.fput Reg.TICK_STATUS_PHASE 2).epoch = s.core.epoch :=
    Core.Keeps.epoch (.fput (.refl _) (Row.off_of_ne (by decide) (by decide))) (List.Subset.refl _)
  obtain ⟨x, hremote, hmerged⟩ := State.mergeRemote_of_plain hphase cut
  have hfeeds := hphase.feeds
  have hwrites := State.merged_enterWrites (s := { s.onCore (·.fput Reg.TICK_STATUS_PHASE 2) with xch := x }) hfeeds
  simp only [State.mergeTick, State.enterInbox_of_plain h, hremote]
  generalize State.enterWrites _ = w at *
  obtain ⟨hmarks, hkeeps⟩ := hwrites
  have hmerge := hkeeps.mono mergeRows_subset
  simp only [State.merged, Prod.mk.injEq] at hmarks
  obtain ⟨hcfg, hxch, hmet, htrw⟩ := hmarks
  have hunfinished : w.unfinished u := ⟨(congrArg Image.sleepCell hcfg).trans h.unfinished.1,
    (congrArg (·.stages.at? u) htrw).trans h.unfinished.2⟩
  rw [State.sendClose_of_not_feeds ((State.feeds_of_keeps hmerge).trans hfeeds)]
  obtain ⟨hscan, hthree, hx, hm, hovr⟩ := State.startScan_facts hunfinished ((hmerge.flag (by decide)).trans hphase.tripped)
  refine ⟨hscan, hthree, ?_, hm.trans hmet, ?_⟩
  · rw [hx, hxch]; exact hmerged.trans (congrArg some hepoch)
  · rw [hovr, hkeeps.2 _ (by decide)]
    exact (Core.fget_fput ..).trans (if_neg (by decide))

/-! ### Metrology results (R168) -/

/-- `s` with the results of the tick taken over. -/
def State.resultsTaken (s : State) : State := { s with met := { s.met with due := [] }, seq := { s.seq with metDone := true } }

theorem State.imageOnly_writeResults (s : State) (due : SMap (Word × List Nat)) :
    s.ImageOnly (due.foldl (fun (s : State) p => s.writeCell p.1 p.2.1 p.2.2 3 s.epoch) s) :=
  .foldl (fun _ _ => State.imageOnly_writeCell ..) due s

theorem State.sendInputs_eq (s : State) (cells : List Nat) : ∃ p, s.sendInputs cells = { s with pair := p } := by
  unfold State.sendInputs State.sendItems State.sendFrame
  split
  · split
    · exact ⟨_, rfl⟩
    · exact ⟨_, rfl⟩
  · exact ⟨s.pair, rfl⟩

/-- Results enter by writes of their cells, and a pair's standby is sent them. -/
theorem State.enterResults_eq {s : State} (h : s.standby = false) : s.enterResults =
    (s.met.due.foldl (fun (s : State) p => s.writeCell p.1 p.2.1 p.2.2 3 s.epoch) s.resultsTaken).sendInputs s.met.due.keys := by
  have hstandby : s.resultsTaken.standby = false := h
  unfold State.enterResults
  exact if_neg (by rw [← State.resultsTaken, hstandby]; decide)

theorem State.imageOnly_enterResults {s : State} (h : s.standby = false) (hf : s.feeds = false) :
    s.resultsTaken.ImageOnly s.enterResults := by
  have hwritten := State.imageOnly_writeResults s.resultsTaken s.met.due
  rw [State.enterResults_eq h, State.sendInputs_of_not_feeds]
  · exact hwritten
  · exact (State.feeds_of_keeps (hwritten.2.mono mergeRows_subset)).trans hf

theorem State.resultsIn_facts {s : State} {u : Nat} (h : s.PlainMerge u) :
    s.resultsIn.PlainMerge u ∧ s.core.Keeps steerRows s.resultsIn.core ∧
      s.resultsIn.met.due = if s.seq.metDone then s.met.due else [] := by
  unfold State.resultsIn
  split
  · exact ⟨h, .refl _, rfl⟩
  · have henter := State.imageOnly_enterResults h.standby h.feeds
    have htaken : s.resultsTaken.PlainMerge u := h.of_keeps (.refl _) rfl rfl rfl rfl
    exact ⟨htaken.of_imageOnly henter, henter.2, henter.same (·.met.due)⟩

/-- The merge with the results that have not entered before it. -/
theorem State.mergeTick_resultsIn_facts {s : State} {u : Nat} (h : s.PlainMerge u) (cut : List Nat) :
    let t := s.resultsIn.mergeTick cut
    t.trw.scanning = true ∧ t.core.fget Reg.TICK_STATUS_PHASE = 3 ∧ t.xch.mergedEpoch = some s.epoch ∧
      t.met.due = (if s.seq.metDone then s.met.due else []) ∧
      t.core.fget Reg.TICK_OVR_MERGE_OVR = s.core.fget Reg.TICK_OVR_MERGE_OVR := by
  obtain ⟨hplain, hkeeps, hdue⟩ := State.resultsIn_facts h
  obtain ⟨hscan, hphase, hmerged, hmet, hovr⟩ := State.mergeTick_facts hplain cut
  exact ⟨hscan, hphase, hmerged.trans (congrArg some (hkeeps.epoch (by decide))), (congrArg Met.due hmet).trans hdue,
    hovr.trans (hkeeps.2 _ (by decide))⟩

/-- The cell of a result that is alone, not forced: formed with source 3 under the epoch of the tick (R15, R168). -/
theorem State.writeCell_working {s : State} {a : Nat} (hcell : (s.img.working.at? a).isSome) (hforced : s.isForced a = false)
    (v : Word) (q : List Nat) (src epoch : Nat) :
    (s.writeCell a v q src epoch).img.working.at? a = some (s.formCell a v (s.writeConds a q) src epoch) := by
  have hsome : (s.img.working.at? a).isNone = false := by rw [Option.isNone_eq_false_iff]; exact hcell
  rw [State.writeCell, hsome, hforced]
  exact (SMap.at?_put ..).trans (if_pos rfl)

theorem State.enterResults_facts {s : State} (h : s.standby = false) :
    s.enterResults.seq.metDone = true ∧ s.enterResults.met.due = [] ∧
      ∀ a v q, s.met.due = [(a, v, q)] → (s.img.working.at? a).isSome → s.isForced a = false →
        s.enterResults.img.working.at? a = some (s.formCell a v (s.writeConds a q) 3 s.epoch) := by
  have hwritten := State.imageOnly_writeResults s.resultsTaken s.met.due
  obtain ⟨p, hsent⟩ := State.sendInputs_eq
    (s.met.due.foldl (fun (s : State) p => s.writeCell p.1 p.2.1 p.2.2 3 s.epoch) s.resultsTaken) s.met.due.keys
  rw [State.enterResults_eq h, hsent]
  refine ⟨hwritten.same (·.seq.metDone), hwritten.same (·.met.due), fun a v q hdue hcell hforced => ?_⟩
  simp only [hdue, List.foldl_cons, List.foldl_nil]
  exact State.writeCell_working (s := s.resultsTaken) hcell hforced ..

/-- Settles O12: the merge of `State.mergeTick_resultsIn_facts`, and the results of `State.enterResults_facts`. -/
theorem mergeAndResults : Obligations.MergeAndResults := by
  intro s hmerge hstandby
  refine ⟨fun u cut hu hsubs htriggers hinbox hfeeds htripped => ?_, fun hmet => ?_⟩
  · have hplain : s.PlainMerge u := ⟨hu, hsubs, htriggers, hinbox, hfeeds, htripped, hstandby⟩
    have howns : s.ownMerge = true := by rw [State.ownMerge, hmerge, hstandby]; rfl
    have hover : (s.onCore (·.setFlag Reg.TICK_OVR_MERGE_OVR true)).PlainMerge u :=
      hplain.onCore (.setFlag (.refl _) (Row.off_of_ne (by decide) (by decide)))
    have hexec : exec .merge s = .next (s.upTick (if s.ownMerge then s.resultsIn.mergeTick else s)) := rfl
    have hexecLimit : exec (.mergeLimit cut) s = .next (s.upTick (if s.ownMerge then
      (s.onCore (·.setFlag Reg.TICK_OVR_MERGE_OVR true)).resultsIn.mergeTick cut else s)) := rfl
    have hepoch : (s.core.setFlag Reg.TICK_OVR_MERGE_OVR true).epoch = s.core.epoch :=
      Core.Keeps.epoch (.setFlag (.refl _) (Row.off_of_ne (by decide) (by decide))) (List.Subset.refl _)
    rw [howns, if_pos rfl] at hexec hexecLimit
    obtain ⟨hscan, hphase, hmerged, hdue, -⟩ := State.mergeTick_resultsIn_facts hplain []
    obtain ⟨hscan', hphase', hmerged', -, hovr⟩ := State.mergeTick_resultsIn_facts hover cut
    generalize s.resultsIn.mergeTick [] = t at *
    generalize (s.onCore (·.setFlag Reg.TICK_OVR_MERGE_OVR true)).resultsIn.mergeTick cut = t' at *
    refine ⟨⟨_, hexec, hscan, hphase, hmerged, hdue⟩, ⟨_, hexecLimit, hscan', hphase', ?_, ?_⟩⟩
    · exact hmerged'.trans (congrArg some hepoch)
    · exact (congrArg (· != 0) hovr).trans (Core.flag_setFlag _ _ _ _ (by decide))
  · have hexec : exec .metrologyResultEntry s = .next (s.upTick (if s.canMerge && !s.seq.metDone then s.enterResults else s)) :=
      rfl
    rw [hmerge, hmet, if_pos (by decide)] at hexec
    obtain ⟨hdone, hnone, hcell⟩ := State.enterResults_facts hstandby
    refine ⟨_, hexec, hdone, hnone, fun a v q hdue hsome hforced => ?_⟩
    rw [State.upTick_img, hcell a v q hdue hsome hforced]
    simp [State.formCell, Cell.sealed]

end Sys2Proof.Machine
end

section
/-! What an answer, a pin and a read of the image for a requester change (R24, R31, R265, R270, R271). -/

namespace Sys2Proof.Machine

/-- The state but for what an answer changes: the shared core, the sessions, the queues and what waits to be sent. -/
def State.aside (s : State) : State := { s with core := {}, svc := {}, hq := {}, net := {} }

/-- The state but for what a read of the image for a requester changes: the image beside what an answer does. -/
def State.besideService (s : State) : State := { s with core := {}, img := {}, svc := {}, hq := {}, net := {} }

/-- The state but for the shared core and what waits to be sent. -/
def State.unsent (s : State) : State := { s with core := {}, net := {} }

/-- `t` differs from `s` in what an answer changes. -/
abbrev State.AnswerOnly (s t : State) : Prop := s.Follows State.aside steerRows t

/-- `t` differs from `s` in what a read of the image for a requester changes. -/
abbrev State.ServiceOnly (s t : State) : Prop := s.Follows State.besideService steerRows t

theorem State.Follows.service {s t : State} (h : s.AnswerOnly t) : s.ServiceOnly t := h.coarser

theorem State.Follows.service_of_image {s t : State} (h : s.ImageOnly t) : s.ServiceOnly t := h.coarser

/-- What a message leaves is let through as it is. -/
theorem State.upSvc_of_serviceOnly {s t : State} (h : s.ServiceOnly t) : s.upSvc t = t := by
  have hup : s.upSvc t =
      { s.besideService with core := s.core.after t.core, img := t.img, svc := t.svc, hq := t.hq, net := t.net } := rfl
  rw [hup, ← h.1, Core.after_of_c_eq h.2.1]
  rfl

/-! ### Answers (R265, R271, R276) -/

theorem State.answerOnly_onCore (s : State) {f : Core → Core} (h : s.core.Keeps steerRows (f s.core)) :
    s.AnswerOnly (s.onCore f) := ⟨rfl, h⟩

theorem State.answerOnly_putSession (s : State) (n : Fin 32) (x : Session) : s.AnswerOnly (s.putSession n x) := ⟨rfl, .refl _⟩

theorem State.answerOnly_putQueue (s : State) (q : Fin 64) (x : Queue) : s.AnswerOnly (s.putQueue q x) := ⟨rfl, .refl _⟩

theorem State.unsent_enqueue (s : State) (p : Nat) (i : TxItem) : s.Follows State.unsent steerRows (s.enqueue p i) :=
  .ite ⟨rfl, .refl _⟩ (.refl s)

theorem State.unsent_sendMessage (s : State) (n : Fin 32) (type upd : Nat) (msg : List Byte) :
    s.Follows State.unsent steerRows (s.sendMessage n type upd msg) := by
  unfold State.sendMessage
  refine .onCore (.foldl (fun t x => ?_) _ s) (.of_regs (.refl _) rfl rfl)
  exact State.unsent_enqueue ..

/-- What the end of a session's line sends does not touch the sessions and the queues beside the line. -/
theorem State.unsent_flushSession (s : State) (n : Fin 32) (x : Session) :
    (s.putSession n { x with line := (flushLine x.line).2 }).Follows State.unsent steerRows (s.flushSession n x) :=
  .foldl (fun t _ => .trans (t := t.onCore _) ⟨rfl, .of_regs (.refl _) rfl rfl⟩ (State.unsent_sendMessage ..)) _ _

theorem State.answerOnly_flushSession (s : State) (n : Fin 32) (x : Session) : s.AnswerOnly (s.flushSession n x) :=
  (s.answerOnly_putSession n _).trans (s.unsent_flushSession n x).coarser

theorem State.answerOnly_answer (s : State) (r : Req) (st : Status) (body : List Byte) : s.AnswerOnly (s.answer r st body) := by
  unfold State.answer
  split
  · split
    · exact .refl s
    · exact .trans (s.answerOnly_onCore (.bump (.refl _) (Row.off_of_ne (by decide) (by decide))))
        (State.answerOnly_flushSession ..)
  · dsimp only
    split
    · exact .refl s
    · exact .ite (.refl s) (s.answerOnly_putQueue ..)

theorem State.answerOnly_remember (s : State) (r : Req) (st : Status) (body : List Byte) :
    s.AnswerOnly (s.remember r st body) := by
  unfold State.remember
  split
  · split
    · exact .refl s
    · exact s.answerOnly_putSession ..
  · exact .refl s

theorem State.answerOnly_answerKept (s : State) (r : Req) (st : Status) (body : List Byte) :
    s.AnswerOnly (s.answerKept r st body) :=
  (s.answerOnly_remember r st body).trans (State.answerOnly_answer ..)

theorem State.answerOnly_deny (s : State) (d : Nat) : s.AnswerOnly (s.deny d) := ⟨rfl, .refl _⟩

theorem State.answerOnly_noteEpoch (s : State) (r : Req) (epoch : Nat) : s.AnswerOnly (s.noteEpoch r epoch) := by
  unfold State.noteEpoch
  split
  · exact .refl s
  · split
    · exact .refl s
    · exact s.answerOnly_putQueue ..

theorem State.answerOnly_showSessions (s : State) : s.AnswerOnly s.showSessions :=
  s.answerOnly_onCore (.fput (.fput (.refl _) (Row.off_of_ne (by decide) (by decide))) (Row.off_of_ne (by decide) (by decide)))

theorem State.answerOnly_withSubs (s : State) (src : ReqSrc) (f : List Subscription → List Subscription) :
    s.AnswerOnly (s.withSubs src f) := by
  unfold State.withSubs
  split
  · split
    · exact .refl s
    · exact (s.answerOnly_putSession ..).trans (State.answerOnly_showSessions _)
  · exact s.answerOnly_putQueue ..

/-! ### Pins and reads of the published image (R24, R31, R32, R270) -/

theorem State.answerOnly_showPins (s : State) : s.AnswerOnly s.showPins := by
  unfold State.showPins
  refine s.answerOnly_onCore (List.foldlRecOn _ _ (.fput (.refl _) (Row.off_of_ne (by decide) (by decide))) fun k hk q _ => ?_)
  exact hk.setFlag (Row.off_of_lt _ (by decide))

theorem State.serviceOnly_unpinIf (s : State) (f : Nat → Hold → Bool) : s.ServiceOnly (s.unpinIf f) :=
  .trans ⟨rfl, .refl _⟩ (State.answerOnly_showPins _).service

theorem State.serviceOnly_pin (s : State) (who : ReqSrc) (epoch : Nat) (snap : Bool) : s.ServiceOnly (s.pin who epoch snap).2 := by
  have hshow : ∀ pins : List Pin, s.ServiceOnly ({ s with img := { s.img with pins := pins } } : State).showPins := fun pins =>
    .trans ⟨rfl, .refl _⟩ (State.answerOnly_showPins _).service
  unfold State.pin
  dsimp only
  split
  · exact hshow _
  split
  · exact .refl s
  split
  · exact .refl s
  · exact hshow _

theorem State.serviceOnly_readPublished (s : State) (a : Nat) {place : Nat} (hp : place ≠ 1) :
    s.ServiceOnly (s.readPublished a place).2 := by
  unfold State.readPublished
  split
  · exact .refl s
  split
  · exact .refl s
  · refine .trans ?_ (State.imageOnly_checkFailed _ _ _ hp).service_of_image
    split
    · exact .ite ⟨rfl, .refl _⟩ ⟨rfl, .refl _⟩
    · exact ⟨rfl, .refl _⟩

theorem State.serviceOnly_readPinned (s : State) (epoch a : Nat) : s.ServiceOnly (s.readPinned epoch a).2 := by
  unfold State.readPinned
  split
  · exact .refl s
  split
  · exact .refl s
  · exact .trans ⟨rfl, .refl _⟩ (State.imageOnly_checkFailed _ _ _ (by decide)).service_of_image

theorem exitPlace_ne (src : ReqSrc) : exitPlace src ≠ 1 := by cases src <;> simp [exitPlace]

theorem State.serviceOnly_snapCell (s : State) (d : Nat) {place : Nat} (hp : place ≠ 1) (pinned : Option Nat) (a : Nat) :
    s.ServiceOnly (s.snapCell d place pinned a).2 := by
  unfold State.snapCell
  split
  · split
    · have hread := s.serviceOnly_readPublished a hp
      split
      · next heq => rw [heq] at hread; exact hread
      · next heq => rw [heq] at hread; exact hread.trans (State.answerOnly_deny ..).service
    · exact (s.answerOnly_deny d).service
  · next e =>
    dsimp only
    split
    · have hread := s.serviceOnly_readPinned e a
      split
      · next heq => rw [heq] at hread; exact hread
      · next heq => rw [heq] at hread; exact hread.trans (State.answerOnly_deny ..).service
    · exact (s.answerOnly_deny d).service

theorem State.serviceOnly_snapCells (s : State) (d : Nat) {place : Nat} (hp : place ≠ 1) (pinned : Option Nat) (as : List Nat) :
    s.ServiceOnly (s.snapCells d place pinned as).2 := by
  induction as generalizing s with
  | nil => exact .refl s
  | cons a as ih => exact (s.serviceOnly_snapCell d hp pinned a).trans (ih _)

theorem State.serviceOnly_serveSnapshot (s : State) (r : Req) (d epoch : Nat) (pin : Bool) (ranges : List (Nat × Nat)) :
    s.ServiceOnly (s.serveSnapshot r d epoch pin ranges) := by
  have hpin : s.ServiceOnly (if pin then s.pin r.src epoch false else (Status.ok, s)).2 := by
    split
    · exact State.serviceOnly_pin ..
    · exact .refl s
  unfold State.serveSnapshot
  generalize (if pin then s.pin r.src epoch false else (Status.ok, s)) = p at hpin
  obtain ⟨st, t⟩ := p
  dsimp only
  split
  · exact hpin.trans (State.answerOnly_answer ..).service
  · have hcells := t.serviceOnly_snapCells d (exitPlace_ne r.src)
      (if decide (t.img.pubEpoch ≠ some epoch) then some epoch else none) (rangeCells ranges)
    exact (hpin.trans hcells).trans (.trans (State.answerOnly_noteEpoch ..).service (State.answerOnly_answer ..).service)

end Sys2Proof.Machine
end

section
/-! Messages that read and write the image (R30 to R33, R266, R270, R272, R273). -/

namespace Sys2Proof.Machine

/-! ### A request that is heard (R264, R271) -/

/-- A request that passes its gate is served. -/
theorem State.gated_of_passes {s : State} {g : Gate} (r : Req) (f : State → State) (hboot : s.core.fget Reg.SEC_BOOT_STAGE ≠ 3)
    (hduty : g.writes = true → s.standby = false) (hclaimed : s.unclaimed = true → g.unclaimed = true)
    (hmaint : s.core.state = 3 → g.maint = true) : s.gated r g f = f s := by
  have h1 : ¬((s.core.fget Reg.SEC_BOOT_STAGE == 3) = true) := by simpa using hboot
  have h2 : ¬((g.writes && s.standby) = true) := by
    intro h
    obtain ⟨hw, hs⟩ := Bool.and_eq_true_iff.1 h
    rw [hduty hw] at hs
    cases hs
  have h3 : ¬((s.unclaimed && !g.unclaimed) = true) := by
    intro h
    obtain ⟨hu, hg⟩ := Bool.and_eq_true_iff.1 h
    rw [hclaimed hu] at hg
    cases hg
  have h4 : ¬((s.core.state == 3 && !g.maint) = true) := by
    intro h
    obtain ⟨hs, hg⟩ := Bool.and_eq_true_iff.1 h
    rw [hmaint (by simpa using hs)] at hg
    cases hg
  rw [State.gated, if_neg h1, if_neg h2, if_neg h3, if_neg h4]

/-- A request that is heard is taken up and served under its domain. -/
theorem State.serve_of_hears {s : State} {r : Req} {g : Gate} {d : Nat} (h : s.hears r g d) (f : Nat → State → State) :
    s.serve r g f = f d (s.taken r g) := by
  obtain ⟨hfrozen, hdomain, hboot, hduty, hclaimed, hmaint, hsrc⟩ := h
  obtain ⟨src, id⟩ := r
  unfold State.serve
  rw [hfrozen, hdomain]
  cases src with
  | session n =>
    obtain ⟨x, hx, hroom, hfresh⟩ := hsrc
    have hroom' : ¬(x.line.length ≥ 16) := by omega
    have hwaits : (g.kept && x.line.any fun e => e.id == id && e.kept && e.answer.isNone) = false := by
      rw [Bool.and_eq_false_imp]
      intro hkept
      rw [List.any_eq_false]
      intro e he hwait
      simp only [Bool.and_eq_true, beq_iff_eq] at hwait
      obtain ⟨⟨hid, hk⟩, -⟩ := hwait
      rw [(hfresh hkept).2 e he hid] at hk
      cases hk
    have hmemory : (if g.kept then x.memory.find? (·.1 == id) else none) = none := by
      split
      · next hkept => exact List.find?_eq_none.2 fun m hm => by simpa using (hfresh hkept).1 m hm
      · rfl
    simp only [hx, if_neg hroom', hwaits, hmemory, State.taken, Bool.false_eq_true, if_false]
    exact State.gated_of_passes _ _ hboot hduty hclaimed hmaint
  | queue q =>
    obtain ⟨p, hp, hanswer, happlied⟩ := hsrc
    simp only [hp, hanswer, happlied, State.taken, Option.isSome_none, Bool.or_self, Bool.false_eq_true, if_false]
    exact State.gated_of_passes _ _ hboot hduty hclaimed hmaint

theorem State.answerOnly_taken (s : State) (r : Req) (g : Gate) : s.AnswerOnly (s.taken r g) := by
  unfold State.taken
  split
  · split
    · exact s.answerOnly_putSession ..
    · exact .refl s
  · split
    · exact s.answerOnly_putQueue ..
    · exact .refl s

/-- A heard message is answered by its service alone, where that keeps to what a message may change. -/
theorem State.upSvc_serve {s : State} {r : Req} {g : Gate} {d : Nat} (h : s.hears r g d) {f : Nat → State → State} {t : State}
    (ht : f d (s.taken r g) = t) (hf : (s.taken r g).ServiceOnly t) : s.upSvc (s.serve r g f) = t := by
  rw [State.serve_of_hears h, ht]
  exact State.upSvc_of_serviceOnly ((s.answerOnly_taken r g).service.trans hf)

theorem State.core_taken (s : State) (r : Req) (g : Gate) : (s.taken r g).core = s.core := by
  unfold State.taken
  split
  · split <;> rfl
  · split <;> rfl

theorem State.img_taken (s : State) (r : Req) (g : Gate) : (s.taken r g).img = s.img := (s.answerOnly_taken r g).same State.img

theorem State.cmd_taken (s : State) (r : Req) (g : Gate) : (s.taken r g).cmd = s.cmd := (s.answerOnly_taken r g).same State.cmd

/-! ### INFO, PING and WRITE (R30, R33, R266, R272) -/

theorem exec_info_of_hears {s : State} {r : Req} {d : Nat} (h : s.hears r { maint := true, unclaimed := true, type := 0x01 } d) :
    exec (.info r) s =
      .next ((s.taken r { maint := true, unclaimed := true, type := 0x01 }).answer r .ok (s.infoBody d)) := by
  have hexec : exec (.info r) s = .next (s.upSvc (s.askInfo r)) := rfl
  rw [hexec, State.askInfo, State.upSvc_serve h rfl (State.answerOnly_answer ..).service]
  unfold State.infoBody State.epoch
  rw [State.core_taken, State.img_taken]

theorem exec_ping_of_hears {s : State} {r : Req} {d : Nat} (h : s.hears r { maint := true, type := 0xF0 } d) {xs : List Byte}
    (hxs : xs.length ≤ 64) :
    exec (.ping r xs) s = .next ((s.taken r { maint := true, type := 0xF0 }).answer r .ok xs) := by
  have hexec : exec (.ping r xs) s = .next (s.upSvc (s.askPing r xs)) := rfl
  rw [hexec, State.askPing, State.upSvc_serve h (if_pos hxs) (State.answerOnly_answer ..).service]

/-- A heard WRITE is served as `State.writeNow` says. -/
theorem exec_write_of_hears {s : State} {r : Req} {d : Nat} (h : s.hears r { writes := true, kept := true, type := 0x20 } d)
    (cell : Nat) (v : Word) :
    exec (.write r cell v) s = .next ((s.taken r { writes := true, kept := true, type := 0x20 }).writeNow r d cell v) := by
  have hexec : exec (.write r cell v) s = .next (s.upSvc (s.askWrite r cell v)) := rfl
  have hwrite : ∀ t : State, t.ServiceOnly (t.writeNow r d cell v) := by
    intro t
    unfold State.writeNow
    split
    · exact ((t.answerOnly_deny d).trans (State.answerOnly_answerKept ..)).service
    split
    · exact .trans (t.answerOnly_onCore (.bump (.refl _) (Row.off_of_ne (by decide) (by decide)))).service
        (State.answerOnly_answerKept ..).service
    · exact State.Follows.trans ⟨rfl, .refl _⟩ (State.answerOnly_answerKept ..).service
  rw [hexec, State.askWrite, State.upSvc_serve h rfl (hwrite _)]

/-- What decides about a write is the image's and the masking table's. -/
theorem State.mayWrite_taken (s : State) (r : Req) (g : Gate) (d cell : Nat) : (s.taken r g).mayWrite d cell = s.mayWrite d cell := by
  unfold State.mayWrite
  rw [State.img_taken]

theorem State.isForced_taken (s : State) (r : Req) (g : Gate) (cell : Nat) : (s.taken r g).isForced cell = s.isForced cell := by
  unfold State.isForced
  rw [State.cmd_taken]

theorem State.cellKind_taken (s : State) (r : Req) (g : Gate) (cell : Nat) : (s.taken r g).cellKind cell = s.cellKind cell := by
  unfold State.cellKind
  rw [State.img_taken]

theorem State.epoch_taken (s : State) (r : Req) (g : Gate) : (s.taken r g).epoch = s.epoch := by
  unfold State.epoch
  rw [State.core_taken]

theorem State.writeNow_of_masked {s : State} {d cell : Nat} (r : Req) (v : Word) (hmay : s.mayWrite d cell = true)
    (hforced : s.isForced cell = true) :
    s.writeNow r d cell v = (s.onCore (·.bump Reg.MSK_REFUSED_COUNT)).answerKept r .forced [] := by
  rw [State.writeNow, hmay, hforced, if_neg (by decide), if_pos rfl]

theorem State.writeNow_of_hidden {s : State} {d cell : Nat} (r : Req) (v : Word) (hmay : s.mayWrite d cell = false) :
    s.writeNow r d cell v = (s.deny d).answerKept r .noAccess [] := by
  rw [State.writeNow, hmay, if_pos (by decide)]

/-- A write that may be done waits for the next tick, under the epoch that stands. -/
theorem State.writeNow_of_free {s : State} {d cell : Nat} (r : Req) (v : Word) (hmay : s.mayWrite d cell = true)
    (hforced : s.isForced cell = false) : s.writeNow r d cell v =
      ({ s with img := { s.img with writes := s.img.writes ++
        [⟨cell, if s.cellKind cell = some .bool then v &&& 1 else v, s.epoch⟩] } } : State).answerKept r .ok (le (s.epoch + 1) 8) := by
  rw [State.writeNow, hmay, hforced, if_neg (by decide), if_neg (by decide)]

/-! ### SNAPSHOT (R270) -/

/-- A snapshot of one cell of the published epoch gives the cell as it is read. -/
theorem State.snapBody_of_read {s : State} {d place a : Nat} {c : Cell} (epoch : Nat) (hmay : s.mayRead d a = true)
    (hread : s.readPublished a place = (some c, s)) :
    s.snapBody d place epoch false [(a, 1)] = (le epoch 8 ++ le 1 4 ++ le 0 4 ++ c.image ++ le 1 4, s) := by
  have hcells : rangeCells [(a, 1)] = [a] := by simp [rangeCells, List.range_succ]
  have hcell : s.snapCell d place none a = (c.image, s) := by
    simp only [State.snapCell, hmay, if_true, hread]
  simp only [State.snapBody, hcells, Bool.false_eq_true, if_false, State.snapCells, hcell, List.append_nil, List.length_singleton]

/-- A snapshot of the latest published epoch, without a pin, is served at once. -/
theorem State.snapshotNow_of_published {s : State} {d a p : Nat} {c : Cell} (r : Req) (hpub : s.img.pubEpoch = some p)
    (ha : a < 0x5000) (hmay : s.mayRead d a = true) (hread : s.readPublished a (exitPlace r.src) = (some c, s)) :
    s.snapshotNow r d 0 false [(a, 1)] =
      (s.noteEpoch r p).answer r .ok (le p 8 ++ le 1 4 ++ le 0 4 ++ c.image ++ le 1 4) := by
  have hranges : rangesOk [(a, 1)] = true := by simp [rangesOk]; omega
  have hpinned : decide (s.img.pubEpoch ≠ some p) = false := by simp [hpub]
  rw [State.snapshotNow, hranges, if_neg (by decide), hpub]
  simp only [true_or, if_true, State.serveSnapshot, Bool.false_eq_true, if_false, hpinned, State.snapBody_of_read p hmay hread, ne_eq,
    not_true]

theorem State.serviceOnly_snapshotNow (s : State) (r : Req) (d epoch : Nat) (pin : Bool) (ranges : List (Nat × Nat)) :
    s.ServiceOnly (s.snapshotNow r d epoch pin ranges) := by
  have hanswer : ∀ st, s.ServiceOnly (s.answer r st []) := fun st => (s.answerOnly_answer r st []).service
  have hheld : ∀ x, s.ServiceOnly { s with svc := x } := fun _ => ⟨rfl, .refl _⟩
  have hserve : ∀ e, s.ServiceOnly (s.serveSnapshot r d e pin ranges) := fun e => s.serviceOnly_serveSnapshot r d e pin ranges
  unfold State.snapshotNow
  refine .ite (hanswer _) ?_
  dsimp only
  split
  · exact .ite (hserve _) (.ite (hserve _) (.ite (hanswer _) (.ite (hheld _) (hanswer _))))
  · exact .ite (hserve _) (.ite (hanswer _) (.ite (hheld _) (hanswer _)))

theorem exec_snapshot_of_hears {s : State} {r : Req} {d : Nat} {ranges : List (Nat × Nat)}
    (h : s.hears r { maint := systemOnly ranges, type := 0x10 } d) (epoch : Nat) (pin : Bool) :
    exec (.snapshot r epoch pin ranges) s =
      .next ((s.taken r { maint := systemOnly ranges, type := 0x10 }).snapshotNow r d epoch pin ranges) := by
  have hexec : exec (.snapshot r epoch pin ranges) s = .next (s.upSvc (s.askSnapshot r epoch pin ranges)) := rfl
  rw [hexec, State.askSnapshot, State.upSvc_serve h rfl (State.serviceOnly_snapshotNow ..)]

/-! ### UNPIN (R31) -/

theorem exec_unpin_of_hears {s : State} {r : Req} {d : Nat} (h : s.hears r { type := 0x11 } d) (e : Nat) :
    exec (.unpin r e) s = .next
      (((s.taken r { type := 0x11 }).unpinIf fun e' h => e' == e && h.who == r.src && !h.snap).answer r .ok []) := by
  have hexec : exec (.unpin r e) s = .next (s.upSvc (s.askUnpin r e)) := rfl
  have hunpin : ∀ t : State, t.ServiceOnly ((t.unpinIf fun e' h => e' == e && h.who == r.src && !h.snap).answer r .ok []) :=
    fun t => (t.serviceOnly_unpinIf _).trans (State.answerOnly_answer ..).service
  rw [hexec, State.askUnpin, State.upSvc_serve h rfl (hunpin _)]

/-- No hold that ends is left. -/
theorem State.unpinIf_holds {s : State} {f : Nat → Hold → Bool} :
    ∀ p ∈ (s.unpinIf f).img.pins, ∀ h ∈ p.holds, f p.epoch h = false := by
  intro p hp h hh
  have hpins : (s.unpinIf f).img.pins = (s.img.pins.map fun p =>
      { p with holds := p.holds.filter fun h => !f p.epoch h }).filter fun p => !p.holds.isEmpty := rfl
  rw [hpins] at hp
  obtain ⟨q, -, rfl⟩ := List.mem_map.1 (List.mem_filter.1 hp).1
  simpa using (List.mem_filter.1 hh).2

/-! ### SUBSCRIBE and UNSUBSCRIBE (R272, R273) -/

theorem State.answerOnly_subscribeNow (s : State) (r : Req) (k : Nat) (ranges : List (Nat × Nat)) :
    s.AnswerOnly (s.subscribeNow r k ranges) := by
  unfold State.subscribeNow
  exact .ite (State.answerOnly_answer ..)
    (.ite (State.answerOnly_answer ..) ((s.answerOnly_withSubs _ _).trans (State.answerOnly_answer ..)))

theorem exec_subscribe_of_hears {s : State} {r : Req} {d : Nat} (h : s.hears r { type := 0x30 } d) (k : Nat)
    (ranges : List (Nat × Nat)) :
    exec (.subscribe r k ranges) s = .next ((s.taken r { type := 0x30 }).subscribeNow r k ranges) := by
  have hexec : exec (.subscribe r k ranges) s = .next (s.upSvc (s.askSubscribe r k ranges)) := rfl
  rw [hexec, State.askSubscribe, State.upSvc_serve h rfl (State.answerOnly_subscribeNow ..).service]

/-- A subscription that has room takes the lowest free number. -/
theorem State.subscribeNow_of_room {s : State} {r : Req} {k : Nat} {ranges : List (Nat × Nat)} (hk : 1 ≤ k) (hk' : k ≤ 1000)
    (hranges : rangesOk ranges = true) (hroom : (s.subsOf r.src).length < 8)
    (hcells : subCells (s.subsOf r.src) + (ranges.map (·.2)).sum ≤ 4096) :
    s.subscribeNow r k ranges = (s.withSubs r.src (· ++ [{ number := freeNumber (s.subsOf r.src), k := k, ranges := ranges }])).answer
      r .ok (le (freeNumber (s.subsOf r.src)) 1) := by
  have hok : (!(decide (1 ≤ k) && decide (k ≤ 1000) && rangesOk ranges)) = false := by simp [hk, hk', hranges]
  rw [State.subscribeNow, hok, if_neg (by decide)]
  exact if_neg (by omega)

theorem State.subsOf_putSession (s : State) (n : Fin 32) (x : Session) : (s.putSession n x).subsOf (.session n) = x.subs := by
  unfold State.subsOf
  dsimp only
  rw [State.putSession, SMap.at?_put, if_pos rfl]
  rfl

theorem State.subsOf_putQueue (s : State) (q : Fin 64) (x : Queue) : (s.putQueue q x).subsOf (.queue q) = x.subs :=
  congrArg Queue.subs (SMap.atD_put_self ..)

theorem State.subsOf_onCore (s : State) (f : Core → Core) (src : ReqSrc) : (s.onCore f).subsOf src = s.subsOf src := by
  cases src <;> rfl

theorem State.Follows.subsOf {s t : State} (h : s.Follows State.unsent steerRows t) (src : ReqSrc) : t.subsOf src = s.subsOf src := by
  have hsvc : t.svc = s.svc := h.same State.svc
  have hhq : t.hq = s.hq := h.same State.hq
  unfold State.subsOf State.queue
  rw [hsvc, hhq]

/-- An answer leaves the requester its subscriptions. -/
theorem State.subsOf_answer (s : State) (r : Req) (st : Status) (body : List Byte) :
    (s.answer r st body).subsOf r.src = s.subsOf r.src := by
  obtain ⟨src, id⟩ := r
  cases src with
  | session n =>
    simp only [State.answer]
    split
    · rfl
    · next x hx =>
      rw [(State.unsent_flushSession _ n _).subsOf, State.subsOf_putSession]
      simp [State.subsOf, hx]
  | queue q =>
    simp only [State.answer]
    split
    · rfl
    · split
      · rfl
      · exact State.subsOf_putQueue ..

/-- A requester whose subscriptions are changed has no others. -/
theorem State.mem_subsOf_withSubs {s : State} {src : ReqSrc} {f : List Subscription → List Subscription} {y : Subscription}
    (h : y ∈ (s.withSubs src f).subsOf src) : y ∈ f (s.subsOf src) := by
  cases src with
  | session n =>
    simp only [State.withSubs] at h
    split at h
    · next hnone => simp [State.subsOf, hnone] at h
    · next x hx =>
      rw [State.showSessions, State.subsOf_onCore, State.subsOf_putSession] at h
      simpa [State.subsOf, hx] using h
  | queue q =>
    rw [State.withSubs, State.subsOf_putQueue] at h
    exact h

/-- The queue's unread updates of a subscription that is gone go with it. -/
def State.dropUpdates (s : State) (src : ReqSrc) (n : Nat) : State :=
  match src with
  | .session _ => s
  | .queue q =>
    let x := s.queue q
    let keep : List (Nat × List Byte) := x.updates.filter fun u => u.1 != n
    s.putQueue q { x with updates := keep, buffered := (keep.map fun (u : Nat × List Byte) => u.2.length + 16).sum }

theorem State.unsubscribeNow_of_mem {s : State} {r : Req} {x : Subscription} (h : x ∈ s.subsOf r.src) :
    s.unsubscribeNow r x.number =
      ((s.withSubs r.src (·.filter fun y => y.number != x.number)).dropUpdates r.src x.number).answer r .ok [] := by
  have hany : (s.subsOf r.src).any (·.number == x.number) = true := List.any_eq_true.2 ⟨x, h, by simp⟩
  rw [State.unsubscribeNow, hany, if_neg (by decide)]
  rfl

theorem State.answerOnly_dropUpdates (s : State) (src : ReqSrc) (n : Nat) : s.AnswerOnly (s.dropUpdates src n) := by
  cases src with
  | session _ => exact .refl s
  | queue q => exact s.answerOnly_putQueue ..

theorem State.subsOf_dropUpdates (s : State) (src : ReqSrc) (n : Nat) : (s.dropUpdates src n).subsOf src = s.subsOf src := by
  cases src with
  | session _ => rfl
  | queue q => exact State.subsOf_putQueue ..

theorem State.answerOnly_unsubscribeNow (s : State) (r : Req) (n : Nat) : s.AnswerOnly (s.unsubscribeNow r n) :=
  .ite (State.answerOnly_answer ..)
    (((s.answerOnly_withSubs ..).trans (State.answerOnly_dropUpdates ..)).trans (State.answerOnly_answer ..))

theorem exec_unsubscribe_of_hears {s : State} {r : Req} {d : Nat} (h : s.hears r { type := 0x31 } d) (n : Nat) :
    exec (.unsubscribe r n) s = .next ((s.taken r { type := 0x31 }).unsubscribeNow r n) := by
  have hexec : exec (.unsubscribe r n) s = .next (s.upSvc (s.askUnsubscribe r n)) := rfl
  rw [hexec, State.askUnsubscribe, State.upSvc_serve h rfl (State.answerOnly_unsubscribeNow ..).service]

/-- A subscription that is cancelled is gone. -/
theorem State.subsOf_unsubscribeNow {s : State} {r : Req} {x : Subscription} (h : x ∈ s.subsOf r.src) :
    ∀ y ∈ (s.unsubscribeNow r x.number).subsOf r.src, y.number ≠ x.number := by
  intro y hy
  rw [State.unsubscribeNow_of_mem h, State.subsOf_answer, State.subsOf_dropUpdates] at hy
  simpa using (List.mem_filter.1 (State.mem_subsOf_withSubs hy)).2

/-- Settles O33: each message that is heard is served, and its service is the clause's. -/
theorem imageMessages : Obligations.ImageMessages := by
  intro s r d
  refine ⟨fun h => exec_info_of_hears h, fun xs h hxs => exec_ping_of_hears h hxs, fun cell v h => ⟨?_, ?_, ?_⟩,
    fun a c p h hpub ha hmay hread => ?_, fun e h => ⟨_, exec_unpin_of_hears h e, ?_⟩,
    fun k rs h hk hk' hranges hroom hcells => ?_,
    fun x h hx => ⟨_, exec_unsubscribe_of_hears h x.number, State.subsOf_unsubscribeNow hx⟩⟩
  · intro hmay hforced
    rw [← State.mayWrite_taken s r] at hmay
    rw [← State.isForced_taken s r] at hforced
    rw [exec_write_of_hears h, State.writeNow_of_free r v hmay hforced, State.cellKind_taken, State.epoch_taken, State.img_taken]
  · intro hmay hforced
    rw [← State.mayWrite_taken s r] at hmay
    rw [← State.isForced_taken s r] at hforced
    rw [exec_write_of_hears h, State.writeNow_of_masked r v hmay hforced]
  · intro hmay
    rw [exec_write_of_hears h, State.writeNow_of_hidden r v ((State.mayWrite_taken ..).trans hmay)]
  · rw [exec_snapshot_of_hears h,
      State.snapshotNow_of_published r ((congrArg Img.pubEpoch (State.img_taken ..)).trans hpub) ha hmay hread]
  · intro p hp h' hh hepoch hwho
    rw [(State.answerOnly_answer ..).same State.img] at hp
    simpa [hepoch, hwho] using State.unpinIf_holds p hp h' hh
  · rw [exec_subscribe_of_hears h, State.subscribeNow_of_room hk hk' hranges hroom hcells]

end Sys2Proof.Machine
end

section
/-! What the publish of a tick leaves of the sequencer's marks, and the end of an output sweep that is cut (R41, R44, R45). -/

namespace Sys2Proof.Machine

/-! ### What the publish of a tick leaves of the sweep's marks (R41, R45) -/

/-- `t` has the sequencer's marks and the steering fields as `s` has them. -/
abbrev State.SparesSweep (s t : State) : Prop := s.Follows State.seq steerRows t

theorem State.Follows.sweep_of_service {s t : State} (h : s.ServiceOnly t) : s.SparesSweep t := h.coarser

/-- A fold that carries a value beside the state follows the first state, where each step follows the state before it. -/
theorem State.Follows.foldl_snd {α β γ : Type} {m : State → γ} {rs : List Row} {f : β × State → α → β × State}
    (h : ∀ (p : β × State) x, p.2.Follows m rs (f p x).2) (l : List α) (p : β × State) : p.2.Follows m rs (l.foldl f p).2 :=
  List.foldlRecOn (motive := fun q : β × State => p.2.Follows m rs q.2) l f (.refl p.2) fun q hq x _ => hq.trans (h q x)

theorem State.sparesSweep_readPublished (s : State) (a : Nat) {place : Nat} (hp : place ≠ 1) :
    s.SparesSweep (s.readPublished a place).2 :=
  (s.serviceOnly_readPublished a hp).sweep_of_service

theorem State.sparesSweep_keepReads (s : State) : s.SparesSweep s.keepReads := by
  unfold State.keepReads
  refine .foldl (fun t p => ?_) _ s
  split
  · next hp =>
    extract_lets q
    split
    · next g _ =>
      extract_lets reads
      have hpin := (t.serviceOnly_pin (.queue q) (g.epoch.getD 0) true).sweep_of_service
      generalize t.pin (.queue q) (g.epoch.getD 0) true = x at hpin
      refine .ite ?_ (.refl t)
      split
      · exact hpin
      · exact .trans hpin (.ite (.refl _) ⟨rfl, .refl _⟩)
    · exact .refl t
  · exact .refl t

theorem State.sparesSweep_ctrReady (s : State) : s.SparesSweep s.ctrReady.2 := by
  unfold State.ctrReady
  split
  · exact .refl s
  · exact ⟨rfl, .refl _⟩
  · split
    · exact ⟨rfl, .refl _⟩
    · exact .refl s

theorem State.sparesSweep_publishCells (s : State) (as : List Nat) : s.SparesSweep (s.publishCells as).2 := by
  induction as generalizing s with
  | nil => exact .refl s
  | cons a as ih => exact (s.sparesSweep_readPublished a (by decide)).trans (ih _)

theorem State.sparesSweep_enqueue (s : State) (p : Nat) (i : TxItem) : s.SparesSweep (s.enqueue p i) :=
  (s.unsent_enqueue p i).coarser

theorem State.sparesSweep_publishExchange (s : State) : s.SparesSweep s.publishExchange := by
  have hlast : s.SparesSweep (s.onCore (·.fput Reg.XCH_PUB_DG_LAST 0)) :=
    .onCore (.refl s) (.fput (.refl _) (Row.off_of_ne (by decide) (by decide)))
  have hctr := hlast.trans (State.sparesSweep_ctrReady _)
  unfold State.publishExchange
  dsimp only
  refine .ite hlast ?_
  split
  · exact hctr.trans ⟨rfl, .refl _⟩
  · refine .ite (hctr.trans ⟨rfl, .refl _⟩) ?_
    refine .trans (.trans (hctr.trans (State.sparesSweep_publishCells ..)) ⟨rfl, .refl _⟩) (.foldl (fun t dg => ?_) _ _)
    exact .ite ((t.sparesSweep_enqueue ..).trans (State.sparesSweep_enqueue ..)) (t.sparesSweep_enqueue ..)

theorem State.sparesSweep_serveHeld (s : State) : s.SparesSweep s.serveHeld := by
  unfold State.serveHeld
  refine .trans (t := { s with svc := _ }) ⟨rfl, .refl _⟩ (.foldl (fun t h => ?_) _ _)
  split
  · exact .refl t
  · exact .ite (State.serviceOnly_serveSnapshot ..).sweep_of_service (State.answerOnly_answer ..).service.sweep_of_service

theorem State.sparesSweep_updateOne (s : State) (d : Nat) {place : Nat} (hp : place ≠ 1) (n room : Nat) (sub : Subscription) :
    s.SparesSweep (s.updateOne d place n room sub).2.2 := by
  have hcells : s.SparesSweep (s.updateCells d place sub).2 := by
    unfold State.updateCells
    refine State.Follows.foldl_snd (fun p a => ?_) _ ([], s)
    have hread := p.2.sparesSweep_readPublished a hp
    split
    · exact .refl _
    · split
      · next heq => rw [heq] at hread; exact hread
      · next heq =>
        rw [heq] at hread
        split
        · exact hread
        · exact hread
  unfold State.updateOne
  split
  · exact .refl s
  · dsimp only
    split
    · exact hcells
    · exact hcells

theorem State.sparesSweep_updateSession (s : State) (n : Nat) (i : Fin 32) (x : Session) :
    s.SparesSweep (s.updateSession n i x) := by
  unfold State.updateSession
  refine .foldl (fun t sub => ?_) _ s
  split
  · exact .refl t
  · next y hy =>
    have hone := t.sparesSweep_updateOne y.domain (place := 8) (by decide) n (65536 - y.buffered) sub
    dsimp only
    split
    · exact hone.trans ⟨rfl, .refl _⟩
    · refine .trans ?_ (State.unsent_sendMessage ..).coarser
      exact hone.trans (.onCore (.trans ⟨rfl, .refl _⟩ (State.answerOnly_putSession ..).coarser) (.of_regs (.refl _) rfl rfl))

theorem State.sparesSweep_updateQueue (s : State) (n : Nat) (q : Fin 64) (x : Queue) : s.SparesSweep (s.updateQueue n q x) := by
  unfold State.updateQueue
  refine .foldl (fun t sub => ?_) _ s
  have hone := t.sparesSweep_updateOne (t.core.fget Reg.HQ_CFG_DOMAIN q) (place := 7) (by decide) n (65536 - (t.queue q).buffered)
    sub
  dsimp only
  generalize t.updateOne (t.core.fget Reg.HQ_CFG_DOMAIN q) 7 n (65536 - (t.queue q).buffered) sub = u at *
  have hput : ∀ y, t.SparesSweep (u.2.2.putQueue q y) := fun y => hone.trans ⟨rfl, .refl _⟩
  split
  · exact hput _
  · split
    · exact .ite (hput _) (hput _)
    · exact hput _

theorem State.sparesSweep_pushUpdates (s : State) : s.SparesSweep s.pushUpdates := by
  unfold State.pushUpdates
  refine .trans (.foldl (fun t p => ?_) _ s) (.foldl (fun t p => ?_) _ _)
  · split
    · exact State.sparesSweep_updateSession ..
    · exact .refl t
  · split
    · exact State.sparesSweep_updateQueue ..
    · exact .refl t

theorem State.sparesSweep_showTx (s : State) (c : Nat) : s.SparesSweep (s.showTx c) := by
  unfold State.showTx State.showActivity
  refine .onCore (.foldl (fun t i => ?_) _ s) (.fput (.refl _) (Row.off_of_lt _ (by decide)))
  refine .onCore (.refl t) (.fput (.fput (.fput (.refl _) ?_) ?_) ?_)
  · exact Row.off_of_lt _ (by decide)
  · exact Row.off_of_lt _ (by decide)
  · exact Row.off_of_lt _ (by decide)

theorem State.sparesSweep_putCan (s : State) (c : Nat) (x : CanCtl) : s.SparesSweep (s.putCan c x) := ⟨rfl, .refl _⟩

theorem State.sparesSweep_onBuf (s : State) (c b : Nat) (f : TxBuffer → TxBuffer) : s.SparesSweep (s.onBuf c b f) :=
  s.sparesSweep_putCan c _

theorem State.sparesSweep_canStart (s : State) (c : Nat) : s.SparesSweep (s.canStart c) := by
  have hdrive : ∀ t : State, t.SparesSweep (if t.canDrive c && !((t.canCtl c).bufs.any fun p => p.2.active) then
      match t.canNext c with
      | some b => t.onBuf c b fun x => { x with active := true }
      | none => t
    else t) := by
    intro t
    split
    · split
      · exact t.sparesSweep_onBuf ..
      · exact .refl t
    · exact .refl t
  unfold State.canStart
  exact .trans (.trans (.ite (s.sparesSweep_putCan ..) (.refl s)) (hdrive _)) (State.sparesSweep_showTx ..)

theorem State.sparesSweep_canPut (s : State) (c b : Nat) (el : CanElement) : s.SparesSweep (s.canPut c b el) :=
  (s.sparesSweep_onBuf ..).trans (State.sparesSweep_showTx ..)

theorem State.sparesSweep_canBuild (s : State) (b : CanTxBinding) : s.SparesSweep (s.canBuild b).2 := by
  unfold State.canBuild
  refine .foldl_snd (fun p e => ?_) _ (_, s)
  have hread := p.2.sparesSweep_readPublished e.cell (place := 9) (by decide)
  split
  · next heq => rw [heq] at hread; exact hread
  · next heq =>
    rw [heq] at hread
    split
    · exact hread
    · split
      · exact hread
      · exact hread

theorem State.sparesSweep_publishCan (s : State) : s.SparesSweep s.publishCan := by
  unfold State.publishCan
  refine .ite (.refl s) (.foldl (fun t p => .trans (.foldl (fun u b => ?_) _ t) (State.sparesSweep_canStart ..)) _ s)
  have hbuild := u.sparesSweep_canBuild b
  refine .ite (.refl u) ?_
  split
  · next heq =>
    rw [heq] at hbuild
    exact hbuild.onCore (.bump (.refl _) (Row.off_of_lt _ (by decide)))
  · next heq =>
    rw [heq] at hbuild
    exact hbuild.trans (State.sparesSweep_canPut ..)

theorem State.sparesSweep_stageTrend (s : State) : s.SparesSweep s.stageTrend := by
  have hstep : ∀ (t : State) x, t.SparesSweep { t with bg := x } := fun _ _ => ⟨rfl, .refl _⟩
  unfold State.stageTrend
  refine .onCore (.trans (.foldl_snd (fun p x => ?_) _ (0, s)) (hstep _ _)) (.fput (.refl _) (Row.off_of_ne (by decide) (by decide)))
  have hread := p.2.sparesSweep_readPublished x.1.cell (place := 0x0A) (by decide)
  dsimp only
  split
  · exact .refl _
  split
  · exact .refl _
  split
  · next heq => rw [heq] at hread; exact hread
  · next heq =>
    rw [heq] at hread
    split
    · exact .onCore (hread.trans (hstep _ _)) (.bump (.refl _) (Row.off_of_ne (by decide) (by decide)))
    · exact (hread.trans (hstep _ _)).trans (hstep _ _)

theorem State.sparesSweep_saveRetained (s : State) : s.SparesSweep s.saveRetained :=
  .ite ⟨rfl, .refl _⟩ ⟨rfl, .refl _⟩

/-- A publish leaves the sequencer's marks, and a unit that has no partner has none after it. -/
theorem State.publish_follows (s : State) : s.Follows State.seq [Reg.GLB_UNIT_PAIRED] s.publish := by
  unfold State.publish
  refine .trans (t := s.onCore (·.fput Reg.TICK_STATUS_PHASE 5))
    ⟨rfl, .fput (.refl _) (Row.off_of_ne (by decide) (by decide))⟩ (.mono ?_ (rs := steerRows) (by decide))
  exact (State.sparesSweep_publishExchange _).trans <| .trans (State.sparesSweep_serveHeld _) <|
    .trans (State.sparesSweep_pushUpdates _) <| .trans (State.sparesSweep_publishCan _) <|
    .trans (State.sparesSweep_stageTrend _) (State.sparesSweep_saveRetained _)

/-! ### The end of the output sweep of a unit that has no partner (R45) -/

theorem State.swap_facts (s : State) : s.swap.seq = { s.seq with swapped := true } ∧ s.core.Keeps steerRows s.swap.core := by
  have hkeep := s.sparesSweep_keepReads
  refine ⟨?_, hkeep.2⟩
  unfold State.swap
  rw [← hkeep.1]

theorem State.sendDigest_of_not_paired {s : State} (h : s.paired = false) : s.sendDigest = s := by
  rw [State.sendDigest, h]
  exact if_pos rfl

theorem State.sendSnapshot_of_not_paired {s : State} (h : s.paired = false) : s.sendSnapshot = s := by
  have hjoins : s.joins = false := by
    unfold State.paired at h
    rw [State.joins, h, Bool.false_and]
  rw [State.sendSnapshot, hjoins, Bool.false_and, Bool.false_and]
  rfl

/-- The sweep's end swaps the buffers and publishes, and a unit that has no partner sends none anything. -/
theorem State.finishSweep_seq {s : State} (h : s.paired = false) : s.finishSweep.seq = { s.seq with swapped := true } := by
  have hcyc : s.Follows State.seq steerRows (s.onCore (·.fput Reg.TICK_SWEEP_OUT_CYC s.seq.outCycles)) :=
    .onCore (.refl s) (.fput (.refl _) (Row.off_of_ne (by decide) (by decide)))
  obtain ⟨hseq, hswap⟩ := State.swap_facts (s.onCore (·.fput Reg.TICK_SWEEP_OUT_CYC s.seq.outCycles))
  obtain ⟨hpub, hkeeps⟩ := State.publish_follows (s.onCore (·.fput Reg.TICK_SWEEP_OUT_CYC s.seq.outCycles)).swap
  have hpaired : s.sweepEnd.paired = false :=
    ((((hcyc.2.trans hswap).mono (by decide)).trans hkeeps).flag (by decide)).trans h
  rw [State.finishSweep, State.sendDigest_of_not_paired hpaired, State.sendSnapshot_of_not_paired hpaired]
  exact hpub.trans hseq

theorem State.abortSweep_seq {s : State} (hout : s.seq.outStarted = true) (hswap : s.seq.swapped = false)
    (hleft : s.seq.outLeft ≠ []) (hpaired : s.paired = false) :
    s.abortSweep.seq = { s.seq with outLeft := [], swapped := true } := by
  have hopen : ¬((!(s.seq.outStarted && !s.seq.swapped && !s.seq.outLeft.isEmpty)) = true) := by
    simpa [hout, hswap] using hleft
  have hcore : s.core.Keeps steerRows (s.core.setFlag Reg.TICK_OVR_OUT_ABORT true) :=
    .setFlag (.refl _) (Row.off_of_ne (by decide) (by decide))
  rw [State.abortSweep, if_neg hopen, State.finishSweep_seq]
  · rfl
  · exact ((hcore.trans (Core.keeps_record ..)).flag (by decide)).trans hpaired

end Sys2Proof.Machine
end

section
/-! The start of the output sweep's window: its bursts do not depend on what the engines show (R97). -/

namespace Sys2Proof

theorem Core.Keeps.symm {rs : List Row} {k k' : Core} (h : k.Keeps rs k') : k'.Keeps rs k :=
  ⟨h.1.symm, fun r hr => (h.2 r hr).symm⟩

end Sys2Proof

namespace Sys2Proof.Machine

/-! ### Engines that are done, shown before the output sweep (R97) -/

/-- `t` differs from `s` in fields of the shared core that steer nothing. -/
abbrev State.CoreOnly (s t : State) : Prop := s.Follows State.coreless steerRows t

theorem State.CoreOnly.eq_onCore {s t : State} (h : s.CoreOnly t) : t = s.onCore fun _ => t.core := by
  obtain ⟨hsame, -⟩ := h
  have : { t.coreless with core := t.core } = ({ s.coreless with core := t.core } : State) := by rw [hsame]
  exact this

theorem State.CoreOnly.symm {s t : State} (h : s.CoreOnly t) : t.CoreOnly s := ⟨h.1.symm, h.2.symm⟩

/-- Both states are changed in nothing that steers. -/
theorem State.CoreOnly.both {s t s' t' : State} (h : s.CoreOnly t) (hs : s.CoreOnly s') (ht : t.CoreOnly t') : s'.CoreOnly t' :=
  State.Follows.trans (State.CoreOnly.symm hs) (State.Follows.trans h ht)

theorem State.coreOnly_record (s : State) (code domain : Nat) (payload : List Byte) : s.CoreOnly (s.record code domain payload) :=
  ⟨rfl, Core.keeps_record ..⟩

theorem State.coreOnly_noteNaN (s : State) (k : Kind) :
    s.CoreOnly (s.onCore fun c => if k == .binary32 then c.bump Reg.LANE_NAN_COUNT else c) :=
  ⟨rfl, .ite (.bump (.refl _) (Row.off_of_ne (by decide) (by decide))) (.refl _)⟩

theorem State.CoreOnly.img {s t : State} (h : s.CoreOnly t) : t.img = s.img := h.same State.img

theorem State.CoreOnly.pointId {s t : State} (h : s.CoreOnly t) (a : Nat) : t.pointId a = s.pointId a := by
  unfold State.pointId
  rw [h.img, h.2.2 _ (by decide)]

theorem State.CoreOnly.withImg {s t : State} (h : s.CoreOnly t) (x : Img) :
    State.CoreOnly { s with img := x } { t with img := x } :=
  ⟨congrArg (fun u : State => ({ u with img := x } : State)) h.1, h.2⟩

/-- The same check fails in both. -/
theorem State.CoreOnly.checkFailed {s t : State} (h : s.CoreOnly t) (a : Nat) {place : Nat} (domain : Nat) (hp : place ≠ 1) :
    (s.checkFailed a place domain).CoreOnly (t.checkFailed a place domain) := by
  have hbumped : ∀ u : State, u.CoreOnly (u.onCore (·.bump Reg.TICK_CHECK_FAIL_COUNT)) := fun u =>
    ⟨rfl, .bump (.refl _) (Row.off_of_ne (by decide) (by decide))⟩
  have hbump : (s.onCore (·.bump Reg.TICK_CHECK_FAIL_COUNT)).CoreOnly (t.onCore (·.bump Reg.TICK_CHECK_FAIL_COUNT)) :=
    State.CoreOnly.both h (hbumped s) (hbumped t)
  simp only [State.checkFailed, if_neg hp]
  generalize s.onCore (·.bump Reg.TICK_CHECK_FAIL_COUNT) = s' at *
  generalize t.onCore (·.bump Reg.TICK_CHECK_FAIL_COUNT) = t' at *
  have hepoch : t'.epoch = s'.epoch := hbump.2.epoch (by decide)
  rw [hbump.img, hepoch]
  split
  · exact State.CoreOnly.both (hbump.withImg _) (State.coreOnly_record ..) (State.coreOnly_record ..)
  · exact hbump

/-- A cell is read alike in both. -/
theorem State.CoreOnly.readCell {s t : State} (h : s.CoreOnly t) (a : Nat) {place : Nat} (hp : place ≠ 1) :
    (t.readCell a place).1 = (s.readCell a place).1 ∧ (s.readCell a place).2.CoreOnly (t.readCell a place).2 := by
  unfold State.readCell
  rw [h.img, h.pointId]
  split
  · exact ⟨rfl, h⟩
  · next c hc =>
    split
    · exact ⟨rfl, h⟩
    · have hseal : (s.sealCell a c).CoreOnly (t.sealCell a c) := by
        unfold State.sealCell State.store State.conds
        rw [h.img, h.pointId]
        exact h.withImg _
      have hfail := State.CoreOnly.checkFailed hseal a c.domain.toNat hp
      dsimp only
      refine ⟨?_, hfail⟩
      rw [hfail.img]

/-- Two reads of the image give the same, and leave states that differ as before. -/
def ReadAlike {α : Type} (x y : α × State) : Prop := y.1 = x.1 ∧ x.2.CoreOnly y.2

/-- A lane word is formed alike in both. -/
theorem State.CoreOnly.laneWord {s t : State} (h : s.CoreOnly t) (carrier channel : Nat) :
    ReadAlike (s.laneWord carrier channel) (t.laneWord carrier channel) := by
  unfold State.laneWord
  have hbind : t.bindings carrier channel = s.bindings carrier channel := by
    unfold State.bindings
    rw [h.same State.cfg]
  rw [hbind]
  refine List.foldl_rel (r := ReadAlike) ⟨rfl, h⟩ fun b _ p q hpq => ?_
  obtain ⟨hw, hstate⟩ := hpq
  obtain ⟨hcell, hread⟩ := State.CoreOnly.readCell hstate b.cell (place := 5) (by decide)
  generalize p.2.readCell b.cell 5 = x at *
  generalize q.2.readCell b.cell 5 = y at *
  obtain ⟨_, xs⟩ := x
  obtain ⟨cell, ys⟩ := y
  obtain rfl := hcell
  match cell with
  | none => exact ⟨rfl, hread⟩
  | some (c, false) => exact ⟨rfl, hread⟩
  | some (c, true) =>
    dsimp only
    split
    · exact ⟨rfl, hread⟩
    · split
      · exact ⟨by rw [hw], hread⟩
      · have hstates : xs.CoreOnly ys := hread
        exact ⟨rfl, hstates.both (xs.coreOnly_noteNaN _) (ys.coreOnly_noteNaN _)⟩

theorem State.CoreOnly.laneWords {s t : State} (h : s.CoreOnly t) (carrier channel n : Nat) :
    ReadAlike (s.laneWords carrier channel n) (t.laneWords carrier channel n) := by
  induction n generalizing s t channel with
  | zero => exact ⟨rfl, h⟩
  | succ n ih =>
    obtain ⟨hword, hstate⟩ := State.CoreOnly.laneWord h carrier channel
    obtain ⟨hwords, hrest⟩ := ih hstate (channel + 1)
    refine ⟨?_, hrest⟩
    simp only [State.laneWords, hword, hwords]

/-- The bursts of the output sweep are formed alike in both. -/
theorem State.CoreOnly.outBursts {s t : State} (h : s.CoreOnly t) : ReadAlike s.outBursts t.outBursts := by
  unfold State.outBursts
  rw [State.sweepOf_congr (h.2.2 _ (by decide)), h.same State.cfg]
  refine List.foldl_rel (r := ReadAlike) ⟨rfl, h⟩ fun b _ p q hpq => ?_
  obtain ⟨hruns, hstate⟩ := hpq
  obtain ⟨hwords, hrest⟩ := State.CoreOnly.laneWords hstate b.carrier b.channel b.words
  refine ⟨?_, hrest⟩
  dsimp only
  rw [hruns, hwords]

/-! ### The bursts of the output sweep leave all but the image (R97) -/

theorem State.imageOnly_laneWord (s : State) (carrier channel : Nat) : s.ImageOnly (s.laneWord carrier channel).2 := by
  unfold State.laneWord
  refine State.Follows.foldl_snd (fun p b => ?_) _ (_, s)
  have hread := p.2.imageOnly_readCell b.cell (place := 5) (by decide)
  split
  · next heq =>
    rw [heq] at hread
    split
    · exact hread
    · split
      · exact hread
      · exact hread.trans (State.coreOnly_noteNaN ..).coarser
  · next heq => rw [heq] at hread; exact hread

theorem State.imageOnly_laneWords (s : State) (carrier channel n : Nat) : s.ImageOnly (s.laneWords carrier channel n).2 := by
  induction n generalizing s channel with
  | zero => exact .refl s
  | succ n ih => exact (s.imageOnly_laneWord carrier channel).trans (ih _ _)

theorem State.imageOnly_outBursts (s : State) : s.ImageOnly s.outBursts.2 := by
  unfold State.outBursts
  refine .foldl_snd (fun p b => ?_) _ ([], s)
  exact State.imageOnly_laneWords ..

/-! ### The start of the output sweep's window (R97) -/

theorem State.CoreOnly.closeScan {s t : State} (h : s.CoreOnly t) : s.closeScan.CoreOnly t.closeScan := by
  refine ⟨?_, h.2⟩
  rw [h.eq_onCore]
  rfl

/-- The output sweep starts with the bursts `bs`. -/
def State.beginOutput (s : State) (bs : List BurstDef) : State :=
  { s with seq := { s.seq with outLeft := bs, outCycles := 0, outStarted := true } }.onCore (·.fput Reg.TICK_STATUS_PHASE 4)

/-- The output sweep of a unit that is no standby starts with its bursts, where it has any. -/
theorem State.startOutput_eq {s : State} (hout : s.seq.outStarted = false) (hstandby : s.standby = false)
    (hbursts : s.closeScan.outBursts.1 ≠ []) : s.startOutput = s.closeScan.outBursts.2.beginOutput s.closeScan.outBursts.1 := by
  have hread := s.closeScan.imageOnly_outBursts
  have hnone : s.closeScan.outBursts.1.isEmpty = false := by simpa using hbursts
  have hbegin : (s.closeScan.outBursts.2.beginOutput s.closeScan.outBursts.1).standby = false :=
    (State.standby_of_keeps (.trans (hread.2.mono mergeRows_subset)
      (.fput (.refl _) (Row.off_of_ne (by decide) (by decide))))).trans hstandby
  have hcatch : (s.closeScan.outBursts.2.beginOutput s.closeScan.outBursts.1).catchingUp = false := by
    rw [State.catchingUp, hbegin, Bool.false_and, Bool.false_and]
  unfold State.beginOutput at hbegin hcatch
  simp only [State.startOutput, State.beginOutput, hout, hbegin, hcatch, hnone, Bool.false_and, Bool.false_eq_true, if_false]

/-- Once all is done, nothing is late when the window of the output sweep starts. -/
theorem State.windowStart_of_allDone {s : State} (hrun : s.running = true) (hphase : s.core.fget Reg.TICK_STATUS_PHASE = 3)
    (hout : s.seq.outStarted = false) (hhold : s.plat.hold = false) (hsleep : s.cfg.sleepCell = none)
    (hstandby : s.standby = false) (hresolve : s.pair.resolve = none) (hdone : s.allDone = true) :
    s.windowStart = s.showEngines.startOutput := by
  have hwindow : ¬((!(s.core.flag Reg.TICK_STATUS_RUNNING && s.core.fget Reg.TICK_STATUS_PHASE == 3 && !s.seq.outStarted &&
      !s.plat.hold)) = true) := by
    unfold State.running at hrun
    simp [hrun, hphase, hout, hhold]
  have hlate : s.lateStandby = s := by
    rw [State.lateStandby, hstandby, Bool.false_and]
    exact if_pos rfl
  have hresolved : s.resolveLimit = s := by rw [State.resolveLimit, hresolve]
  have hsleeping : s.showEngines.sleepCell = s.showEngines :=
    State.sleepCell_of_none ((congrArg Image.sleepCell (s.coreless_showEngines.same State.cfg)).trans hsleep)
  obtain ⟨htasks, hslots⟩ := Bool.and_eq_true_iff.1 hdone
  rw [State.windowStart, if_neg hwindow, hlate]
  extract_lets u late slots v w x
  have hlatenone : late = [] := List.filter_eq_nil_iff.2 fun d _ => by
    split
    · next h => simpa using List.all_eq_true.1 htasks _ (SMap.mem_of_at? h)
    · next h => simpa using List.all_eq_true.1 htasks _ (SMap.mem_of_at? h)
    · decide
  have hslotsnone : slots = [] := List.filter_eq_nil_iff.2 fun p _ h => by
    simpa using List.all_eq_true.1 hslots _ (SMap.mem_of_at? (beq_iff_eq.1 h))
  have hv : v = s := by simp only [v, u, hlatenone, List.foldl_nil]
  have hw : w = s := by simp only [w, hv, hslotsnone, List.foldl_nil]
  have hx : x = s := by simp only [x, hw, hresolved]
  rw [hx, hsleeping]

end Sys2Proof.Machine
end

section
/-! The limits of a tick, of a pin and of the wait for lock (R31, R43 to R45, R49, R97). -/

namespace Sys2Proof.Machine

/-- What keeps C, the platform, the configuration and the backup domain is let through as it is. -/
theorem State.upTick_self {s t : State} (hpending : t.pending = s.pending) (hcfg : t.cfg = s.cfg) (hbkp : t.bkp = s.bkp)
    (hplat : t.plat = s.plat) (hc : t.core.c = s.core.c) : s.upTick t = t := by
  rw [State.upTick, ← hpending, ← hcfg, ← hbkp, ← hplat, runPlat_self, Core.after_of_c_eq hc]

/-! ### The input sweep (R44) -/

/-- An input sweep that is given up has ended, and its limit is told. -/
theorem State.hardLimit_facts {s : State} (hdone : s.seq.inDone = false) (hleft : s.seq.inLeft ≠ []) :
    s.hardLimit.seq.inDone = true ∧ s.hardLimit.seq.inLeft = [] ∧
      s.hardLimit.core.flag Reg.TICK_OVR_IN_HARD_LIMIT = true := by
  have hopen : ¬((s.seq.inDone || s.seq.inLeft.isEmpty) = true) := by simpa [hdone] using hleft
  unfold State.hardLimit
  rw [if_neg hopen]
  extract_lets cells u
  have hflag : u.core.flag Reg.TICK_OVR_IN_HARD_LIMIT = true := Core.flag_setFlag _ _ _ _ (by decide)
  have hkeeps : u.core.Keeps steerRows (u.endInput.record 0x0102 0 (le u.epoch 8 ++ le cells.length 2)).core :=
    u.follows_endInput.2.trans (Core.keeps_record ..)
  exact ⟨rfl, rfl, (hkeeps.flag (by decide)).trans hflag⟩

/-! ### The publish (R44) -/

theorem State.abandonPublish_facts {s : State}
    (h : ∃ p ∈ s.net.txq, ∃ d, TxItem.exchange d ∈ p.2 ∧ d.epoch < s.epoch) : ∃ n x,
      s.abandonPublish = { s with core := s.core.setFlag Reg.TICK_OVR_PUBLISH_ABANDON true, net := n, xch := x } ∧
        ∀ p ∈ n.txq, ∀ d, TxItem.exchange d ∈ p.2 → s.epoch ≤ d.epoch := by
  obtain ⟨p, hp, d, hd, hold⟩ := h
  have hlost : ¬((s.net.txq.flatMap fun p => p.2.filter (staleItem s.epoch)).isEmpty = true) := by
    rw [List.isEmpty_iff]
    refine List.ne_nil_of_mem (a := .exchange d) (List.mem_flatMap.2 ⟨p, hp, List.mem_filter.2 ⟨hd, ?_⟩⟩)
    simpa [staleItem] using hold
  unfold State.abandonPublish
  dsimp only
  rw [if_neg hlost]
  refine ⟨_, _, rfl, fun q hq e he => ?_⟩
  obtain ⟨o, -, rfl⟩ := List.mem_map.1 hq
  simpa [staleItem] using (List.mem_filter.1 he).2

/-! ### The time of scan and control (R43) -/

/-- A scan time over 90 % of its window counts, and is no reason yet where the run is short. -/
theorem State.scanTime_of_near {s : State} {us : Nat} (hover : 10 * us > 9 * s.core.fget Reg.TICK_SCAN_WIN_WIN_US)
    (hnear : s.seq.near < 63) : s.scanTime us =
      { s with core := s.core.fput Reg.TICK_SCAN_MAX_MAX_US (((us :: s.seq.scans).take 1024).foldl max 0)
               seq := { s.seq with scans := (us :: s.seq.scans).take 1024, near := s.seq.near + 1, far := 0 } } := by
  have hcounts : us * 10 > s.core.fget Reg.TICK_SCAN_WIN_WIN_US * 9 := by omega
  have hfar : ¬(us * 4 < s.core.fget Reg.TICK_SCAN_WIN_WIN_US * 3) := by omega
  have hshort : ¬(s.seq.near + 1 ≥ 64) := by omega
  simp only [State.scanTime, if_pos hcounts, if_neg hfar, decide_eq_false hshort, Bool.false_and, Bool.false_eq_true, if_false]
  rfl

theorem Core.only_fput (k : Core) (r : Row) (v i : Nat) : k.only (k.fput r v i) [r.key i] :=
  ⟨rfl, fun _ hj => Core.fput_at? k (by simpa using hj)⟩

/-! ### A pin that expires (R31) -/

theorem State.expirePin_img {s : State} {who : ReqSrc} {epoch : Nat} (h : s.holds who epoch = true) :
    (s.expirePin who epoch).img = (s.unpinIf fun e h => e == epoch && h.who == who).img := by
  unfold State.expirePin
  rw [h, if_neg (by decide)]
  cases who with
  | session _ => rfl
  | queue q =>
    dsimp only
    split
    · split
      · rfl
      · rfl
    · rfl

theorem State.expirePin_holds {s : State} {who : ReqSrc} {epoch : Nat} (h : s.holds who epoch = true) :
    (s.expirePin who epoch).holds who epoch = false := by
  unfold State.holds
  rw [State.expirePin_img h]
  simp only [List.any_eq_false, Bool.and_eq_true, beq_iff_eq, List.any_eq_true, not_and, not_exists]
  intro p hp hepoch x hx hwho
  simpa [hepoch, hwho] using State.unpinIf_holds p hp x hx

/-- Settles O13: the lemmas above, clause by clause. -/
theorem tickLimits : Obligations.TickLimits := by
  intro s
  refine ⟨fun hrun hdone => ⟨?_, fun hleft => ?_⟩, ?_, ?_, ?_, ?_, ?_, ?_⟩
  · have hexec : exec .inputSweepOverrun s = .next (s.upTick
      (if s.running && !s.seq.inDone then s.onCore (·.setFlag Reg.TICK_OVR_IN_SWEEP_OVR true) else s)) := rfl
    rw [hrun, hdone, if_pos (by decide)] at hexec
    exact ⟨_, hexec.trans (congrArg _ (State.upTick_self rfl rfl rfl rfl rfl)),
      Core.only_setFlag .., Core.flag_setFlag _ _ _ _ (by decide)⟩
  · have hexec : exec .inputSweepHardLimit s = .next (s.upTick (if s.running then s.hardLimit else s)) := rfl
    rw [hrun, if_pos rfl] at hexec
    exact ⟨_, hexec, State.hardLimit_facts hdone hleft⟩
  · intro hrun hphase hout hhold hsleep hstandby hresolve hdone hbursts
    have hexec : exec .outputSweepWindowStart s = .next (s.upTick s.windowStart) := rfl
    have hshow : s.CoreOnly s.showEngines := s.coreless_showEngines
    obtain ⟨hsame, -⟩ := State.CoreOnly.outBursts (State.CoreOnly.closeScan hshow)
    have hscan := (s.showEngines.closeScan.imageOnly_outBursts).same (·.trw.scanning)
    rw [State.windowStart_of_allDone hrun hphase hout hhold hsleep hstandby hresolve hdone,
      State.startOutput_eq ((hshow.same (·.seq.outStarted)).trans hout)
        ((State.standby_of_keeps (hshow.2.mono mergeRows_subset)).trans hstandby) (by rw [hsame]; exact hbursts), hsame] at hexec
    generalize s.showEngines.closeScan.outBursts.2 = u at *
    exact ⟨_, hexec, rfl, hscan, rfl, Core.fget_fput_self ..⟩
  · intro hout hswap hleft hpaired _
    have hexec : exec .outputSweepAbort s = .next (s.upTick s.abortSweep) := rfl
    have hseq := State.abortSweep_seq hout hswap hleft hpaired
    exact ⟨_, hexec, congrArg Seq.outLeft hseq, congrArg Seq.swapped hseq⟩
  · intro hstale
    have hexec : exec .publishAbandon s = .next (s.upTick s.abandonPublish) := rfl
    obtain ⟨n, x, hgone, hkept⟩ := State.abandonPublish_facts hstale
    rw [hgone] at hexec
    exact ⟨_, n, x, hexec.trans (congrArg _ (State.upTick_self rfl rfl rfl rfl rfl)),
      Core.only_setFlag .., Core.flag_setFlag _ _ _ _ (by decide), hkept⟩
  · intro us hover hnear _
    have hexec : exec (.nearLimit us) s = .next (s.upTick (s.scanTime us)) := rfl
    rw [State.scanTime_of_near hover hnear] at hexec
    exact ⟨_, hexec.trans (congrArg _ (State.upTick_self rfl rfl rfl rfl rfl)), Core.only_fput .., Core.fget_fput_self ..⟩
  · intro who epoch hholds
    have hexec : exec (.pinExpiry who epoch) s = .next (s.upTick (s.expirePin who epoch)) := rfl
    exact ⟨_, hexec, State.expirePin_holds hholds⟩
  · intro hwait hbase hseed
    have hexec : exec .lockWaitExpiry s = .next (s.upTick
      (if s.seq.waitFrom.isSome && s.seq.base.isNone && !s.core.flag Reg.NT_STAT_SEED_INVALID then
        { s with seq := { s.seq with base := some s.ntNs, waitFrom := none } }.onCore
          (·.setFlag Reg.TICK_STATUS_TIME_DEGRADED true)
      else s)) := rfl
    rw [hwait, hbase, hseed, if_pos (by decide)] at hexec
    exact ⟨_, hexec.trans (congrArg _ (State.upTick_self rfl rfl rfl rfl rfl)),
      Core.only_setFlag .., Core.flag_setFlag _ _ _ _ (by decide)⟩

end Sys2Proof.Machine
end

section
/-! What one trowel instruction answers while its engine executes a sound word with its lanes alike: one lemma for each way the
lanes can move on (R65 to R81). -/

namespace Sys2Proof.Machine

variable {s : State} {e : Fin 8} {d : TaskDef} {c : Instr} {clk : Nat} {ok : TaskDef → Bool} {f : LaneRegs → Fetched → Res}

/-! ### An instruction of either kind, by what a lane makes of it -/

/-- Registers only, and no operand from memory. -/
theorem exec_go (h : s.runs e d) (hc : exec c s = .next (s.upTrw (s.trwRun e clk none ok f))) (hok : ok d = true)
    {r r' : LaneRegs} (hr : f (s.lanes e) default = .go r) (hstep : LaneRegs.step r = r') :
    exec c s = .next (s.lanesTo e r' clk) := by
  rw [hc, State.trwRun_none h clk hok, hr, State.settle_go, State.upTrw_lanesTo, ← hstep, LaneRegs.step]

/-- An entry for the commit buffer, and no operand from memory. -/
theorem exec_put (h : s.runs e d) (hc : exec c s = .next (s.upTrw (s.trwRun e clk none ok f))) (hok : ok d = true)
    {r r' : LaneRegs} {x : Entry} (hx : s.takes e x) (hr : f (s.lanes e) default = .put r x) (hstep : LaneRegs.step r = r') :
    exec c s = .next (s.storesTo e r' x clk) := by
  rw [hc, State.trwRun_none h clk hok, hr, State.settle_put s e r x clk hx, State.upTrw_storesTo, ← hstep, LaneRegs.step]

/-- Registers only, from an operand that reads well: a mirror slot costs its clock more (R64). -/
theorem exec_load (h : s.runs e d) {m : MemOp} {w : Word} {q : Nat} (hm : s.sees e m w q)
    (hc : exec c s = .next (s.upTrw (s.trwRun e clk (some m) ok f))) (hok : ok d = true) {r r' : LaneRegs}
    (hr : f (s.lanes e) { value := w, qual := q } = .go r) (hstep : LaneRegs.step r = r') :
    exec c s = .next (s.lanesTo e r' (clk + mirrorClock m)) := by
  rw [hc, State.trwRun_some h clk hok hm, hr, State.settle_go, State.upTrw_lanesTo, ← hstep, LaneRegs.step]

/-! ### Registers, arithmetic, compares and jumps -/

/-- An instruction on the registers alone. -/
theorem exec_trwReg (h : s.runs e d) {f : LaneRegs → LaneRegs} (hc : exec c s = .next (s.upTrw (s.trwReg e clk f)))
    {r : LaneRegs} (hr : LaneRegs.step (f (s.lanes e)) = r) : exec c s = .next (s.lanesTo e r clk) := by
  rw [hc, State.trwReg_runs h, State.upTrw_lanesTo, ← hr, LaneRegs.step]

/-- An instruction on WA and WB, by its result and whether it sets OVF (R69, R70). -/
theorem exec_trwAlu (h : s.runs e d) {f : Word → Word → Word × Bool} (hc : exec c s = .next (s.upTrw (s.trwAlu e clk f)))
    {w : Word} {o : Bool} (hf : f (s.lanes e).wa (s.lanes e).wb = (w, o)) :
    exec c s = .next (s.lanesTo e { s.lanes e with wa := w, ovf := (s.lanes e).ovf || o, pc := (s.lanes e).pc + 1 } clk) := by
  rw [hc, State.trwAlu_runs h, State.upTrw_lanesTo, hf]

/-- A compare, by its outcome (R72). -/
theorem exec_trwCmp (h : s.runs e d) {f : Word → Word → Bool} (hc : exec c s = .next (s.upTrw (s.trwCmp e f))) {b : Bool}
    (hf : f (s.lanes e).wa (s.lanes e).wb = b) :
    exec c s = .next (s.lanesTo e { s.lanes e with lacc := b, pc := (s.lanes e).pc + 1 } 1) := by
  rw [hc, State.trwCmp_runs h, State.upTrw_lanesTo, hf]

/-- A jump that is taken (R74). -/
theorem exec_jump_taken (h : s.runs e d) {a : BitVec 18} {f : Bool → Bool} (hstart : d.codeStart ≤ a.toNat)
    (hend : a.toNat ≤ d.codeEnd) (hf : f (s.lanes e).lacc = true) (hc : exec c s = .next (s.upTrw (s.trwJump e a f))) :
    exec c s = .next (s.lanesTo e { s.lanes e with pc := a } 3) := by
  rw [hc, State.trwJump_runs h a f hstart hend, if_pos hf, State.upTrw_lanesTo]

/-- A jump that is not taken (R74). -/
theorem exec_jump_falls (h : s.runs e d) {a : BitVec 18} {f : Bool → Bool} (hstart : d.codeStart ≤ a.toNat)
    (hend : a.toNat ≤ d.codeEnd) (hf : f (s.lanes e).lacc = false) (hc : exec c s = .next (s.upTrw (s.trwJump e a f))) :
    exec c s = .next (s.lanesTo e { s.lanes e with pc := (s.lanes e).pc + 1 } 1) := by
  rw [hc, State.trwJump_runs h a f hstart hend, if_neg (by simp [hf]), State.upTrw_lanesTo]

/-! ### Bit and word stores (R59) -/

/-- What a lane makes of a bit store over an operand that holds `old`. -/
def State.bitStored (s : State) (e : Fin 8) (m : MemOp) (old : Word) (f : Bool → Option Bool) : Res :=
  match f (s.lanes e).lacc with
  | some b => .put (s.lanes e) (s.bitEntry m old b)
  | none => .go (s.lanes e)

/-- Every bit store into `m` takes `clk` clocks, over an operand that holds `old`. -/
def State.storesOver (s : State) (e : Fin 8) (m : MemOp) (old : Word) (clk : Nat) : Prop :=
  ∀ f, s.trwStore e m f = s.settle e clk (s.bitStored e m old f) (s.bitStored e m old f)

/-- A bit store into a bool cell reads nothing (R59). -/
theorem State.storesOver_of_bool (h : s.runs e d) {m : MemOp} (hok : s.okBitStore d m = true)
    (hbool : m.sp = .cell ∧ s.cellKind m.idx = some .bool) : s.storesOver e m 0 1 := by
  intro f
  rw [State.trwStore, if_pos hbool]
  exact State.trwRun_none h 1 (ok := fun d => s.okBitStore d m) hok _

/-- A bit store into a packed cell or a retained word reads the whole word (R59). -/
theorem State.storesOver_of_sees (h : s.runs e d) {m : MemOp} {w : Word} {q : Nat} (hok : s.okBitStore d m = true)
    (hbool : ¬(m.sp = .cell ∧ s.cellKind m.idx = some .bool)) (hm : s.sees e m w q) :
    s.storesOver e m w (1 + mirrorClock m) := by
  intro f
  rw [State.trwStore, if_neg hbool]
  exact State.trwRun_some h 1 (ok := fun d => s.okBitStore d m) hok hm _

theorem State.bitEntry_of_bool {m : MemOp} (hbool : m.sp = .cell ∧ s.cellKind m.idx = some .bool) (old : Word) (b : Bool) :
    s.bitEntry m old b = .cell m.idx (if b then 1 else 0) := by
  simp [State.bitEntry, hbool]

theorem State.bitEntry_of_not_bool {m : MemOp} (hbool : ¬(m.sp = .cell ∧ s.cellKind m.idx = some .bool)) (old : Word)
    (b : Bool) : s.bitEntry m old b =
      if m.sp = .cell then .cell m.idx (putBit old m.bit b) else .ret m.idx (putBit old m.bit b) := by
  rcases hsp : m.sp <;> simp_all [State.bitEntry]

theorem exec_bitStore_puts {m : MemOp} {old : Word} {f : Bool → Option Bool} {b : Bool} {x : Entry}
    (hover : s.storesOver e m old clk) (hc : exec c s = .next (s.upTrw (s.trwStore e m f))) (hf : f (s.lanes e).lacc = some b)
    (hb : s.bitEntry m old b = x) (hx : s.takes e x) : exec c s = .next (s.storesTo e (LaneRegs.step (s.lanes e)) x clk) := by
  have hres : s.bitStored e m old f = .put (s.lanes e) x := by simp only [State.bitStored, hf, hb]
  rw [hc, hover, hres, State.settle_put s e _ x clk hx, State.upTrw_storesTo, LaneRegs.step]

theorem exec_bitStore_skips {m : MemOp} {old : Word} {f : Bool → Option Bool} (hover : s.storesOver e m old clk)
    (hc : exec c s = .next (s.upTrw (s.trwStore e m f))) (hf : f (s.lanes e).lacc = none) :
    exec c s = .next (s.lanesTo e (LaneRegs.step (s.lanes e)) clk) := by
  have hres : s.bitStored e m old f = .go (s.lanes e) := by simp only [State.bitStored, hf]
  rw [hc, hover, hres, State.settle_go, State.upTrw_lanesTo, LaneRegs.step]

/-- ST, STN, SET and RST where every bit's entry finds room. -/
theorem exec_bitStores {m : MemOp} {old : Word} {ent : Bool → Entry} (hover : s.storesOver e m old clk)
    (hent : ∀ b, s.bitEntry m old b = ent b) (htakes : ∀ b, s.takes e (ent b)) :
    let g := s.lanes e
    let puts (c : Instr) (b : Bool) : Prop := exec c s = .next (s.storesTo e (LaneRegs.step g) (ent b) clk)
    let skips (c : Instr) : Prop := exec c s = .next (s.lanesTo e (LaneRegs.step g) clk)
    puts (.st e m) g.lacc ∧ puts (.stn e m) (!g.lacc) ∧
      (g.lacc = true → puts (.set e m) true ∧ puts (.rst e m) false) ∧
      (g.lacc = false → skips (.set e m) ∧ skips (.rst e m)) :=
  have puts {c : Instr} {f : Bool → Option Bool} (b : Bool) (hc : exec c s = .next (s.upTrw (s.trwStore e m f)))
      (hf : f (s.lanes e).lacc = some b) := exec_bitStore_puts hover hc hf (hent b) (htakes b)
  ⟨puts _ rfl rfl, puts _ rfl rfl, fun hl => ⟨puts true rfl (if_pos hl), puts false rfl (if_pos hl)⟩,
    fun hl => ⟨exec_bitStore_skips hover rfl (if_neg (by simp [hl])), exec_bitStore_skips hover rfl (if_neg (by simp [hl]))⟩⟩

/-- The entry of a word store (R59). -/
def State.wordEntry (s : State) (m : MemOp) (w : Word) : Entry :=
  if m.sp = .cell then .cell m.idx (if s.cellKind m.idx = some .bool then w &&& 1 else w) else .ret m.idx w

theorem exec_wordStore_puts (h : s.runs e d) {m : MemOp} {f : Bool → Bool} (hok : s.okWordStore d m = true)
    (hc : exec c s = .next (s.upTrw (s.trwStoreWord e m f))) (hf : f (s.lanes e).lacc = true)
    (hx : s.takes e (s.wordEntry m (s.lanes e).wa)) :
    exec c s = .next (s.storesTo e (LaneRegs.step (s.lanes e)) (s.wordEntry m (s.lanes e).wa) 1) := by
  refine exec_put h hc hok hx ?_ rfl
  rw [if_pos hf, State.wordEntry]
  cases m.sp <;> rfl

theorem exec_wordStore_skips (h : s.runs e d) {m : MemOp} {f : Bool → Bool} (hok : s.okWordStore d m = true)
    (hc : exec c s = .next (s.upTrw (s.trwStoreWord e m f))) (hf : f (s.lanes e).lacc = false) :
    exec c s = .next (s.lanesTo e (LaneRegs.step (s.lanes e)) 1) :=
  exec_go h hc hok (if_neg (by simp [hf])) rfl

/-! ### Records and edge bits (R76 to R81) -/

/-- An instruction that executes a record, by the record it leaves, LACC, and whether it sets OVF (R79, R80). -/
theorem exec_trwRecord (h : s.runs e d) {m : MemOp} {type : Nat} {f : LaneRegs → TRec → TRec × Bool × Bool} {y : TRec}
    {b o : Bool} (hok : s.okRecord d m type = true) (hc : exec c s = .next (s.upTrw (s.trwRecord e m clk type f)))
    (hf : f (s.lanes e) (s.recSeen e m.idx) = (y, b, o)) (hx : s.takes e (.record m.idx y)) :
    exec c s = .next (s.storesTo e
      { s.lanes e with lacc := b, ovf := (s.lanes e).ovf || o, pc := (s.lanes e).pc + 1 } (.record m.idx y) clk) :=
  exec_put h hc hok hx (by rw [hf]) rfl

/-- An edge bit as the task sees it: its own pending write first (R83). -/
def State.edgeSeen (s : State) (e : Fin 8) (i : Nat) : EdgeBit :=
  ((s.engine e).buf.edges.at? i).getD (s.trw.edges.atD i {})

/-- An edge instruction, by what comes out of LACC and the bit's last value: nothing at the first execution (R81). -/
theorem exec_trwEdge (h : s.runs e d) {m : MemOp} {f : Bool → Bool → Bool} {b : Bool} (hok : okEdge d m = true)
    (hc : exec c s = .next (s.upTrw (s.trwEdge e m f)))
    (hf : (!(s.edgeSeen e m.idx).init && f (s.lanes e).lacc (s.edgeSeen e m.idx).m) = b)
    (hx : s.takes e (.edge m.idx { m := (s.lanes e).lacc, init := false })) :
    exec c s = .next (s.storesTo e { s.lanes e with lacc := b, pc := (s.lanes e).pc + 1 }
      (.edge m.idx { m := (s.lanes e).lacc, init := false }) 2) := by
  refine exec_put h hc hok hx rfl ?_
  rw [LaneRegs.step, ← hf, State.edgeSeen]
  cases (((s.engine e).buf.edges.at? m.idx).getD (s.trw.edges.atD m.idx {})).init <;> rfl

end Sys2Proof.Machine
end

section
/-! The words of the trowel instructions: what the parts of a word are, and that decoding and encoding agree both ways (R62). -/

namespace Sys2Proof.Machine

/-! ### The parts of an instruction word (R62) -/

theorem spaceOf_spaceCode (sp : Space) : spaceOf (spaceCode sp) = some sp := by cases sp <;> rfl

theorem spaceCode_of_spaceOf {n : Nat} {sp : Space} (h : spaceOf n = some sp) : spaceCode sp = n := by
  unfold spaceOf at h
  split at h <;> cases h <;> rfl

theorem spaceCode_lt (sp : Space) : spaceCode sp < 8 := by cases sp <;> decide

/-- A word is its parts, each at its place. -/
theorem toNat_wordN {op : Nat} (h : op < 256) : (wordN op).toNat = op * 2 ^ 24 := by
  rw [wordN, BitVec.toNat_ofNat]; omega

theorem toNat_wordM {op : Nat} {m : MemOp} (h : op < 256) (hm : operandOk m = true) :
    (wordM op m).toNat = op * 2 ^ 24 + m.bit.val * 2 ^ 19 + spaceCode m.sp * 2 ^ 15 + m.idx := by
  have hidx : m.idx < 2 ^ 15 := of_decide_eq_true hm
  have hsp := spaceCode_lt m.sp
  rw [wordM, BitVec.toNat_ofNat]; omega

theorem toNat_wordJ {op : Nat} (h : op < 256) (a : BitVec 18) : (wordJ op a).toNat = op * 2 ^ 24 + a.toNat := by
  rw [wordJ, BitVec.toNat_ofNat]; omega

/-- The forms whose instructions name a memory operand: format M. -/
def Form.isMemory (f : Form) : Prop := f ≠ .none ∧ f ≠ .jump

/-- A format N instruction: its opcode is one of the form without operand, and its word that opcode's. -/
theorem formatN_spec {e : Fin 8} {op : Nat} {c : Instr} (h : formatN e op = some c) :
    op < 256 ∧ formOf op = some .none ∧ encodeTrowel c = some (wordN op) := by
  unfold formatN at h
  split at h <;> cases h <;> exact ⟨by decide, rfl, rfl⟩

/-- A format J instruction: its opcode is a jump's, and its word has that opcode and the address. -/
theorem formatJ_spec {e : Fin 8} {a : BitVec 18} {op : Nat} {c : Instr} (h : formatJ e a op = some c) :
    op < 256 ∧ formOf op = some .jump ∧ encodeTrowel c = some (wordJ op a) := by
  unfold formatJ at h
  split at h <;> cases h <;> exact ⟨by decide, rfl, rfl⟩

/-- A format M instruction: its opcode names a memory operand, and its word has that opcode and the operand. -/
theorem formatM_spec {e : Fin 8} {m : MemOp} {op : Nat} {c : Instr} (h : formatM e m op = some c) :
    op < 256 ∧ (∃ f, formOf op = some f ∧ f.isMemory) ∧ encodeTrowel c = some (wordM op m) := by
  unfold formatM at h
  split at h <;> cases h <;> exact ⟨by decide, ⟨_, rfl, by decide, by decide⟩, rfl⟩

/-! ### The command a word spells (R62) -/

theorem decodeTrowel_none {e : Fin 8} {w : Word} (hf : formOf (wordOp w) = some .none) :
    decodeTrowel e w = if w.toNat % 2 ^ 24 = 0 then formatN e (wordOp w) else none := by
  simp only [decodeTrowel, hf]

theorem decodeTrowel_jump {e : Fin 8} {w : Word} (hf : formOf (wordOp w) = some .jump) :
    decodeTrowel e w =
      if w.toNat / 2 ^ 18 % 64 = 0 then formatJ e (BitVec.ofNat 18 (wordAddr w)) (wordOp w) else none := by
  simp only [decodeTrowel, hf]

theorem decodeTrowel_memory {e : Fin 8} {w : Word} {f : Form} (hf : formOf (wordOp w) = some f) (hm : f.isMemory) :
    decodeTrowel e w = if w.toNat / 2 ^ 18 % 2 = 0 then
      (spaceOf (wordSp w)).bind fun sp =>
        formatM e ⟨sp, wordIdx w, ⟨wordBit w, Nat.mod_lt _ (by decide)⟩⟩ (wordOp w) else none := by
  obtain ⟨hnone, hjump⟩ := hm
  simp only [decodeTrowel, hf]

/-- A word whose reserved bits are 0 is the word of its own parts. -/
theorem eq_wordN {w : Word} (h : w.toNat % 2 ^ 24 = 0) : w = wordN (wordOp w) := by
  have hw := w.isLt
  have hop : wordOp w < 256 := by unfold wordOp; omega
  refine BitVec.eq_of_toNat_eq ?_
  rw [toNat_wordN hop, wordOp]; omega

theorem eq_wordJ {w : Word} (h : w.toNat / 2 ^ 18 % 64 = 0) : w = wordJ (wordOp w) (BitVec.ofNat 18 (wordAddr w)) := by
  have hw := w.isLt
  have hop : wordOp w < 256 := by unfold wordOp; omega
  refine BitVec.eq_of_toNat_eq ?_
  rw [toNat_wordJ hop, BitVec.toNat_ofNat, wordOp, wordAddr]; omega

theorem eq_wordM {w : Word} {sp : Space} (h : w.toNat / 2 ^ 18 % 2 = 0) (hsp : spaceOf (wordSp w) = some sp) :
    w = wordM (wordOp w) ⟨sp, wordIdx w, ⟨wordBit w, Nat.mod_lt _ (by decide)⟩⟩ := by
  have hw := w.isLt
  have hop : wordOp w < 256 := by unfold wordOp; omega
  have hidx : wordIdx w < 2 ^ 15 := Nat.mod_lt _ (by decide)
  refine BitVec.eq_of_toNat_eq ?_
  rw [toNat_wordM hop (decide_eq_true hidx), spaceCode_of_spaceOf hsp]
  simp only [wordOp, wordBit, wordSp, wordIdx]; omega

/-- The command a word spells has that word: each format's instructions have theirs, and the word is its own parts'. -/
theorem encodeTrowel_of_decodeTrowel {e : Fin 8} {w : Word} {c : Instr} (h : decodeTrowel e w = some c) :
    encodeTrowel c = some w := by
  rcases hf : formOf (wordOp w) with _ | f
  · simp [decodeTrowel, hf] at h
  by_cases hm : f.isMemory
  · rw [decodeTrowel_memory hf hm] at h
    obtain ⟨hbit, h⟩ := Option.ite_none_right_eq_some.1 h
    obtain ⟨sp, hsp, h⟩ := Option.bind_eq_some_iff.1 h
    obtain ⟨-, -, hc⟩ := formatM_spec h
    rw [hc, ← eq_wordM hbit hsp]
  · have hform : f = .none ∨ f = .jump := by unfold Form.isMemory at hm; tauto
    obtain rfl | rfl := hform
    · rw [decodeTrowel_none hf] at h
      obtain ⟨hbits, h⟩ := Option.ite_none_right_eq_some.1 h
      obtain ⟨-, -, hc⟩ := formatN_spec h
      rw [hc, ← eq_wordN hbits]
    · rw [decodeTrowel_jump hf] at h
      obtain ⟨hbits, h⟩ := Option.ite_none_right_eq_some.1 h
      obtain ⟨-, -, hc⟩ := formatJ_spec h
      rw [hc, ← eq_wordJ hbits]

/-! ### Reading back a word that was built (R62) -/

theorem decodeTrowel_wordN {e : Fin 8} {op : Nat} (h : op < 256) (hf : formOf op = some .none) :
    decodeTrowel e (wordN op) = formatN e op := by
  have hop : wordOp (wordN op) = op := by rw [wordOp, toNat_wordN h]; omega
  have hbits : (wordN op).toNat % 2 ^ 24 = 0 := by rw [toNat_wordN h]; omega
  rw [decodeTrowel_none (hop.symm ▸ hf), if_pos hbits, hop]

theorem decodeTrowel_wordJ {e : Fin 8} {op : Nat} (h : op < 256) (hf : formOf op = some .jump) (a : BitVec 18) :
    decodeTrowel e (wordJ op a) = formatJ e a op := by
  have hop : wordOp (wordJ op a) = op := by rw [wordOp, toNat_wordJ h]; omega
  have hbits : (wordJ op a).toNat / 2 ^ 18 % 64 = 0 := by rw [toNat_wordJ h]; omega
  have haddr : BitVec.ofNat 18 (wordAddr (wordJ op a)) = a := by
    refine BitVec.eq_of_toNat_eq ?_
    rw [BitVec.toNat_ofNat, wordAddr, toNat_wordJ h]; omega
  rw [decodeTrowel_jump (hop.symm ▸ hf), if_pos hbits, haddr, hop]

theorem decodeTrowel_wordM {e : Fin 8} {op : Nat} {m : MemOp} {f : Form} (h : op < 256) (hf : formOf op = some f)
    (hmem : f.isMemory) (hm : operandOk m = true) : decodeTrowel e (wordM op m) = formatM e m op := by
  have hidx : m.idx < 2 ^ 15 := of_decide_eq_true hm
  have hsp := spaceCode_lt m.sp
  have hw := toNat_wordM h hm
  have hop : wordOp (wordM op m) = op := by rw [wordOp, hw]; omega
  have hbits : (wordM op m).toNat / 2 ^ 18 % 2 = 0 := by rw [hw]; omega
  have hspace : wordSp (wordM op m) = spaceCode m.sp := by rw [wordSp, hw]; omega
  have hindex : wordIdx (wordM op m) = m.idx := by rw [wordIdx, hw]; omega
  have hbit : wordBit (wordM op m) = m.bit.val := by rw [wordBit, hw]; omega
  rw [decodeTrowel_memory (hop.symm ▸ hf) hmem, if_pos hbits, hspace, spaceOf_spaceCode, Option.bind_some]
  simp only [hindex, hbit, hop]

/-- Settles O7: words by format, from both sides; jumps taken and not taken. -/
theorem jumpInstructions : Obligations.JumpInstructions := by
  refine ⟨fun _ _ _ h => encodeTrowel_of_decodeTrowel h, fun e op c => ⟨fun h => ?_, fun m hm h => ?_, fun a h => ?_⟩,
    fun s e d a h hstart hend => ⟨?_, fun hl => ⟨?_, ?_⟩, fun hl => ⟨?_, ?_⟩⟩⟩
  · obtain ⟨hop, hf, hc⟩ := formatN_spec h
    exact ⟨hc, (decodeTrowel_wordN hop hf).trans h⟩
  · obtain ⟨hop, ⟨f, hf, hmem⟩, hc⟩ := formatM_spec h
    exact ⟨hc, (decodeTrowel_wordM hop hf hmem hm).trans h⟩
  · obtain ⟨hop, hf, hc⟩ := formatJ_spec h
    exact ⟨hc, (decodeTrowel_wordJ hop hf a).trans h⟩
  · exact exec_jump_taken h hstart hend rfl rfl
  · exact exec_jump_taken h hstart hend (f := id) hl rfl
  · exact exec_jump_falls h hstart hend (f := (!·)) (congrArg _ hl) rfl
  · exact exec_jump_falls h hstart hend (f := id) hl rfl
  · exact exec_jump_taken h hstart hend (f := (!·)) (congrArg _ hl) rfl

end Sys2Proof.Machine
end

section
/-! The results of the integer instructions and of the compares (R69, R72, R73), and the families of instructions on
the registers. -/

namespace Sys2Proof.Machine

/-! ### Integer results and what does not fit (R69) -/

/-- An integer lies outside int32 where narrowing it changes it. -/
theorem toInt_ofInt_ne_iff (i : Int) : (BitVec.ofInt 32 i).toInt ≠ i ↔ i < -(2 ^ 31) ∨ 2 ^ 31 ≤ i := by
  rw [BitVec.toInt_ofInt, Int.bmod_def]; omega

/-- A result that wraps sets OVF where the word differs from the exact one. -/
theorem narrow_of_eq {i : Int} {w : Word} (hw : BitVec.ofInt 32 i = w) : narrow i = (w, decide (w.toInt ≠ i)) := by
  subst hw
  simp only [narrow, toInt_ofInt_ne_iff]

theorem narrow_of_iff {i : Int} {w : Word} {o : Prop} [Decidable o] (hw : BitVec.ofInt 32 i = w)
    (ho : o ↔ i < -(2 ^ 31) ∨ 2 ^ 31 ≤ i) : narrow i = (w, decide o) := by
  simp only [narrow, hw, ho]

theorem narrow_add (a b : Word) : narrow (a.toInt + b.toInt) = (a + b, decide ((a + b).toInt ≠ a.toInt + b.toInt)) :=
  narrow_of_eq (by rw [BitVec.ofInt_add, BitVec.ofInt_toInt, BitVec.ofInt_toInt])

theorem narrow_sub (a b : Word) : narrow (a.toInt - b.toInt) = (a - b, decide ((a - b).toInt ≠ a.toInt - b.toInt)) :=
  narrow_of_eq (by
    rw [Int.sub_eq_add_neg, BitVec.ofInt_add, BitVec.ofInt_neg, BitVec.ofInt_toInt, BitVec.ofInt_toInt, ← BitVec.sub_eq_add_neg])

theorem narrow_mul (a b : Word) : narrow (a.toInt * b.toInt) = (a * b, decide ((a * b).toInt ≠ a.toInt * b.toInt)) :=
  narrow_of_eq (by rw [BitVec.ofInt_mul, BitVec.ofInt_toInt, BitVec.ofInt_toInt])

/-- The least int32, as a word and as a number. -/
theorem eq_low_iff (a : Word) : a = BitVec.ofInt 32 (-(2 ^ 31)) ↔ a.toInt = -(2 ^ 31) := by
  rw [← BitVec.toInt_inj, show (BitVec.ofInt 32 (-(2 ^ 31))).toInt = -(2 ^ 31) by decide]

theorem toInt_range (a : Word) : -(2 ^ 31) ≤ a.toInt ∧ a.toInt < 2 ^ 31 := ⟨BitVec.le_toInt a, BitVec.toInt_lt⟩

theorem narrow_neg (a : Word) : narrow (-a.toInt) = (-a, decide (a = BitVec.ofInt 32 (-(2 ^ 31)))) := by
  have hr := toInt_range a
  refine narrow_of_iff (by rw [BitVec.ofInt_neg, BitVec.ofInt_toInt]) ?_
  rw [eq_low_iff]; omega

theorem narrow_abs (a : Word) :
    narrow |a.toInt| = (if a.toInt < 0 then -a else a, decide (a = BitVec.ofInt 32 (-(2 ^ 31)))) := by
  by_cases hneg : a.toInt < 0
  · rw [abs_of_neg hneg, if_pos hneg, narrow_neg]
  · have hr := toInt_range a
    rw [abs_of_nonneg (by omega), if_neg hneg]
    refine narrow_of_iff BitVec.ofInt_toInt ?_
    rw [eq_low_iff]; omega

/-- The one quotient that does not fit. -/
theorem tdiv_outside_iff (a b : Word) : (a = BitVec.ofInt 32 (-(2 ^ 31)) ∧ b = -1) ↔
    a.toInt.tdiv b.toInt < -(2 ^ 31) ∨ 2 ^ 31 ≤ a.toInt.tdiv b.toInt := by
  constructor
  · rintro ⟨rfl, rfl⟩; decide
  · intro h
    by_contra hne
    have hfits := BitVec.toInt_sdiv_of_ne_or_ne a b (not_and_or.1 hne)
    have hr := toInt_range (a.sdiv b)
    omega

theorem divi_eq (a b : Word) : divi a b =
    (if b = 0 then 0 else a.sdiv b, decide (b = 0 ∨ (a = BitVec.ofInt 32 (-(2 ^ 31)) ∧ b = -1))) := by
  by_cases hb : b = 0
  · simp [divi, hb]
  · have hw : BitVec.ofInt 32 (a.toInt.tdiv b.toInt) = a.sdiv b :=
      BitVec.eq_of_toInt_eq (by rw [BitVec.toInt_ofInt, BitVec.toInt_sdiv])
    rw [divi, if_neg hb, if_neg hb]
    exact narrow_of_iff hw (by rw [or_iff_right hb, tdiv_outside_iff])

theorem modi_eq (a b : Word) : modi a b = (if b = 0 then 0 else a.srem b, decide (b = 0)) := by
  by_cases hb : b = 0
  · simp [modi, hb]
  · rw [modi, if_neg hb, if_neg hb, ← BitVec.toInt_srem, BitVec.ofInt_toInt, decide_eq_false hb]

theorem divu_eq (a b : Word) : divu a b = (if b = 0 then 0 else a / b, decide (b = 0)) := by
  by_cases hb : b = 0
  · simp [divu, hb]
  · rw [divu, if_neg hb, if_neg hb, decide_eq_false hb]

/-! ### Binary32 compares with a NaN (R73) -/

theorem F32.eq_unless_nan (a b : Word) : F32.eq a b = (!(F32.isNan a || F32.isNan b) && F32.eq a b) := by
  rw [F32.eq, Bool.not_or, Bool.and_self_left]

theorem F32.lt_unless_nan (a b : Word) : F32.lt a b = (!(F32.isNan a || F32.isNan b) && F32.lt a b) := by
  rw [F32.lt, Bool.not_or, Bool.and_self_left]

theorem F32.le_unless_nan (a b : Word) : F32.le a b = (!(F32.isNan a || F32.isNan b) && F32.le a b) := by
  rw [F32.le, Bool.not_or, Bool.and_self_left]

theorem F32.ne_or_nan (a b : Word) : (!F32.eq a b) = ((F32.isNan a || F32.isNan b) || !F32.eq a b) := by
  rw [F32.eq_unless_nan, Bool.not_and, Bool.not_not, ← Bool.or_assoc, Bool.or_self]

/-! ### The instructions by family -/

/-- Settles O1: each instruction is its change of the registers. -/
theorem registerInstructions : Obligations.RegisterInstructions := by
  intro s e d h
  exact ⟨exec_trwReg h rfl rfl, exec_trwReg h rfl rfl, exec_trwReg h rfl rfl, exec_trwReg h rfl rfl, exec_trwReg h rfl rfl,
    exec_trwReg h rfl rfl, exec_trwReg h rfl rfl, exec_trwReg h rfl rfl, exec_trwReg h rfl rfl, exec_trwReg h rfl rfl⟩

/-- Settles O2: the wrapped results with their overflow, by the lemmas above; the word operations set no OVF. -/
theorem integerInstructions : Obligations.IntegerInstructions := by
  intro s e d h
  exact ⟨exec_trwAlu h rfl (narrow_add ..), exec_trwAlu h rfl (narrow_sub ..), exec_trwAlu h rfl (narrow_mul ..),
    exec_trwAlu h rfl (divi_eq ..), exec_trwAlu h rfl (modi_eq ..), exec_trwAlu h rfl (divu_eq ..),
    exec_trwAlu h rfl (narrow_neg _), exec_trwAlu h rfl (narrow_abs _),
    exec_trwAlu h rfl rfl, exec_trwAlu h rfl rfl, exec_trwAlu h rfl rfl, exec_trwAlu h rfl rfl, exec_trwAlu h rfl rfl,
    exec_trwAlu h rfl rfl, exec_trwAlu h rfl rfl⟩

/-- Settles O3: the binary32 operations and the integer compares are the model's own; a binary32 compare answers for a NaN by the
lemmas above. -/
theorem binaryAndCompareInstructions : Obligations.BinaryAndCompareInstructions := by
  intro s e d h
  refine ⟨exec_trwAlu h rfl rfl, exec_trwAlu h rfl rfl, exec_trwAlu h rfl rfl, exec_trwAlu h rfl rfl, exec_trwAlu h rfl rfl,
    exec_trwAlu h rfl rfl, exec_trwAlu h rfl rfl, exec_trwAlu h rfl rfl, exec_trwAlu h rfl rfl, exec_trwAlu h rfl rfl,
    exec_trwAlu h rfl rfl, exec_trwAlu h rfl rfl,
    exec_trwCmp h rfl rfl, exec_trwCmp h rfl rfl, exec_trwCmp h rfl rfl, exec_trwCmp h rfl rfl, exec_trwCmp h rfl rfl,
    exec_trwCmp h rfl rfl, exec_trwCmp h rfl rfl, exec_trwCmp h rfl rfl,
    exec_trwCmp h rfl (F32.eq_unless_nan ..), exec_trwCmp h rfl (F32.ne_or_nan ..), exec_trwCmp h rfl ?_, exec_trwCmp h rfl ?_,
    exec_trwCmp h rfl (F32.lt_unless_nan ..), exec_trwCmp h rfl (F32.le_unless_nan ..)⟩
  · rw [Bool.or_comm]; exact F32.lt_unless_nan ..
  · rw [Bool.or_comm]; exact F32.le_unless_nan ..

end Sys2Proof.Machine
end

section
/-! The instructions on memory, on the nesting stack and on records, by family (R65 to R68, R76 to R81). -/

namespace Sys2Proof.Machine

/-- Settles O4: each load is its change of the registers by the operand's word or quality. -/
theorem loadInstructions : Obligations.LoadInstructions := by
  intro s e d m w q h hm
  exact ⟨fun hok => ⟨exec_load h hm rfl hok rfl rfl, exec_load h hm rfl hok rfl rfl, exec_load h hm rfl hok rfl rfl,
      exec_load h hm rfl hok rfl rfl, exec_load h hm rfl hok rfl rfl, exec_load h hm rfl hok rfl rfl,
      exec_load h hm rfl hok rfl rfl, exec_load h hm rfl hok rfl rfl⟩,
    fun hok => ⟨exec_load h hm rfl hok rfl rfl, exec_load h hm rfl hok rfl rfl⟩,
    fun hok => ⟨exec_load h hm rfl hok rfl rfl, exec_load h hm rfl hok rfl rfl⟩⟩

/-- Settles O5: the bit stores together, over a bool cell and over a word that is read; then the word stores. -/
theorem storeInstructions : Obligations.StoreInstructions := by
  intro s e d m h
  refine ⟨fun hok hbool htakes => ?_, fun w q hok hbool hm htakes => ?_, fun hok htakes => ⟨?_, fun hl => ?_, fun hl => ?_⟩⟩
  · exact exec_bitStores (State.storesOver_of_bool h hok hbool) (State.bitEntry_of_bool hbool 0) htakes
  · exact exec_bitStores (State.storesOver_of_sees h hok hbool hm) (State.bitEntry_of_not_bool hbool w) htakes
  · exact exec_wordStore_puts h hok rfl rfl htakes
  · exact exec_wordStore_puts h hok rfl hl htakes
  · exact exec_wordStore_skips h hok rfl hl

/-! ### The nesting stack (R66, R67) -/

theorem push_of_room {r : LaneRegs} (h : r.stack.length < 16) (t : Tag) :
    push t r = .go { r with stack := (r.lacc, t) :: r.stack } :=
  if_neg (by omega)

theorem closePop_of_tag {r : LaneRegs} {b : Bool} {t : Tag} {st : List (Bool × Tag)} (h : r.stack = (b, t) :: st)
    (ht : t ≠ .push) : closePop r = .go { r with lacc := combine t b r.lacc, stack := st } := by
  unfold closePop
  rw [h]
  cases t
  case push => exact absurd rfl ht
  all_goals rfl

theorem readTop_of_push {r : LaneRegs} {b : Bool} {st : List (Bool × Tag)} (h : r.stack = (b, .push) :: st) (pop : Bool) :
    readTop pop r = .go { r with lacc := b, stack := if pop then st else r.stack } := by
  simp only [readTop, h]

/-- Settles O6: a push finds room, a closing parenthesis meets a tag, and READ and POP meet a pushed bit. -/
theorem nestingInstructions : Obligations.NestingInstructions := by
  intro s e d h
  refine ⟨fun hroom => ?_, fun b st => ?_⟩
  · have hpush := push_of_room hroom
    exact ⟨exec_go h rfl rfl (hpush _) rfl, exec_go h rfl rfl (hpush _) rfl, exec_go h rfl rfl (hpush _) rfl,
      exec_go h rfl rfl (hpush _) rfl, exec_go h rfl rfl (hpush _) rfl, exec_go h rfl rfl (hpush _) rfl⟩
  · have hclose {t : Tag} (hs : (s.lanes e).stack = (b, t) :: st) (ht : t ≠ .push) :=
      exec_go h (c := .closeParen e) rfl rfl (closePop_of_tag hs ht) rfl
    refine ⟨fun hs => hclose hs (by decide), fun hs => hclose hs (by decide), fun hs => hclose hs (by decide),
      fun hs => hclose hs (by decide), fun hs => hclose hs (by decide), fun hs => ⟨?_, ?_⟩⟩
    · exact exec_go h rfl rfl (readTop_of_push hs false) rfl
    · exact exec_go h rfl rfl (readTop_of_push hs true) rfl

/-! ### Settings of a counter (R80) -/

theorem cset_eq {g : TRec → TRec} {x y : TRec} {n : Word} (l : Bool) (h : { g x with last := n } = y) :
    cset n l g x = (recount y, l, false) := by rw [cset, h]

theorem TRec.setEt_if (x : TRec) (n : Word) (l : Bool) (w : Word) :
    { (if l then { x with et := w } else x) with last := n } = { x with et := if l then w else x.et, last := n } := by
  cases l <;> rfl

/-- Settles O8: each record instruction by the record it leaves, and each edge instruction by the bit's last value. -/
theorem recordInstructions : Obligations.RecordInstructions := by
  intro s e d m h
  refine ⟨fun t hok => ⟨?_, ?_, ?_, ?_⟩, fun hok => ?_, fun hok => ?_, fun hok htakes => ⟨?_, ?_⟩⟩
  · rintro rfl; exact exec_trwRecord h hok rfl rfl
  · rintro rfl; exact exec_trwRecord h hok rfl rfl
  · rintro rfl; exact exec_trwRecord h hok rfl rfl
  · rintro rfl
    exact ⟨exec_trwRecord h hok rfl rfl, exec_trwRecord h hok rfl rfl,
      exec_trwRecord h hok rfl (cset_eq _ (TRec.setEt_if ..)), exec_trwRecord h hok rfl (cset_eq _ (TRec.setEt_if ..)),
      exec_trwRecord h hok rfl (cset_eq _ rfl)⟩
  · exact exec_go h rfl hok rfl (by simp [LaneRegs.step])
  · exact exec_go h rfl hok rfl rfl
  · exact exec_trwEdge h hok rfl (Bool.and_assoc ..).symm htakes
  · exact exec_trwEdge h hok rfl (Bool.and_assoc ..).symm htakes

end Sys2Proof.Machine
end

section
/-! Fields that tell how a sample went, and that event records leave them as they are (R157, R399 to R405). -/

namespace Sys2Proof

open Machine

/-- Rows that tell how a sample went: the engine's consecutive mismatches and last fault, the slot's fall-back and its state (R157). -/
def slotRows : List Row := [Reg.FLT_MISM_CONSEC, Reg.FLT_FAULT_CAUSE, Reg.LP_STAT_FB, Reg.LP_STAT_STATE]

/-- `j` is where a field of one of these rows is kept. -/
def TellsSample (j : Nat) : Prop := ∃ r ∈ slotRows, ∃ i < 1024, j = r.key i

/-- Field `i` of row `r` neither steers the tick nor is kept at `j`. -/
def Row.Clear (j : Nat) (r : Row) (i : Nat) : Prop := r.Off steerRows i ∧ j ≠ r.key i

-- From here on proofs are elaborated one after another, as the tests are: the check's memory has no room for more threads than the sections
-- above take. The definitions stay before this line, so that nothing waits for those sections' proofs while the fact below is decided.
set_option Elab.async false

set_option maxRecDepth 10000 in
/-- No other row of the map has the number of a row that steers the tick or tells of a sample. -/
theorem Reg.id_ne_of_not_mem : ∀ r ∈ Reg.all, r ∉ steerRows ++ slotRows → ∀ r' ∈ steerRows ++ slotRows, r.id ≠ r'.id := by decide

variable {j : Nat}

theorem TellsSample.clear (hj : TellsSample j) {r : Row} {i : Nat} (hr : r ∈ Reg.all) (hne : r ∉ steerRows ++ slotRows)
    (hi : i < 1024) : r.Clear j i := by
  have hid := Reg.id_ne_of_not_mem r hr hne
  obtain ⟨r', hr', i', hi', rfl⟩ := hj
  refine ⟨Row.off_of_ne (fun r hr => hid r (List.mem_append_left _ hr)) hi, fun hkey => ?_⟩
  have := hid r' (List.mem_append_right _ hr')
  simp only [Row.key] at hkey
  omega

/-! ### Event records (R399 to R405, R428, R429) -/

/-- The recorder and the event rings write behind every field that tells of a sample. -/
theorem TellsSample.lt_recorder (hj : TellsSample j) {r : Row} (hr : r ∈ recorderRows) (i : Nat) : j < r.key i := by
  have hrows : ∀ r ∈ recorderRows, ∀ r' ∈ slotRows, r'.id < r.id := by decide
  obtain ⟨r', hr', i', hi', rfl⟩ := hj
  have := hrows r hr r' hr'
  simp only [Row.key]
  omega

section Recorder

variable (hj : TellsSample j) (k : Core)
include hj

theorem Core.fput_recorder_at? {r : Row} (hr : r ∈ recorderRows) (v i : Nat) : (k.fput r v i).regs.at? j = k.regs.at? j :=
  Core.fput_at? k (hj.lt_recorder hr i).ne

theorem Core.ringWrite_at? (e type source d0 d1 : Nat) : (k.ringWrite e type source d0 d1).regs.at? j = k.regs.at? j := by
  have hstop : ∀ k' : Core, k'.regs.at? j = k.regs.at? j →
      ((k'.setFlag Reg.EQ_STAT_STOPPED true e).bump Reg.EQ_LOST_COUNT e).regs.at? j = k.regs.at? j := fun k' h =>
    (Core.fput_recorder_at? hj _ (by decide) _ _).trans ((Core.fput_recorder_at? hj _ (by decide) _ _).trans h)
  unfold Core.ringWrite
  dsimp only
  split
  · exact hstop k rfl
  split
  · exact hstop _ rfl
  · rw [Core.signal_regs]
    split
    · exact (Core.fput_recorder_at? hj _ (by decide) _ _).trans (Core.fput_recorder_at? hj _ (by decide) _ _)
    · exact Core.fput_recorder_at? hj _ (by decide) _ _

theorem Core.ringPost_at? (e type source d0 d1 : Nat) : (k.ringPost e type source d0 d1).regs.at? j = k.regs.at? j := by
  unfold Core.ringPost
  dsimp only
  split
  · rfl
  split
  · rfl
  split
  · exact Core.fput_recorder_at? hj _ (by decide) _ _
  split
  · exact Core.fput_recorder_at? hj _ (by decide) _ _
  · exact Core.ringWrite_at? hj ..

theorem Core.postEvent_at? (type source d0 d1 : Nat) (may : Nat → Bool) :
    (k.postEvent type source d0 d1 may).regs.at? j = k.regs.at? j := by
  refine List.foldlRecOn _ _ (motive := fun k' : Core => k'.regs.at? j = k.regs.at? j) rfl fun k' h e _ => ?_
  split
  · exact (Core.ringPost_at? hj ..).trans h
  · exact h

theorem Core.dropEvent_at? : k.dropEvent.regs.at? j = k.regs.at? j := by
  rw [Core.dropEvent, Core.signal_regs]
  exact Core.fput_recorder_at? hj _ (by decide) _ _

theorem Core.pushRecord_at? (code domain : Nat) (payload : List Byte) (deferred : Bool) (t : Nat × Nat × Nat) :
    (k.pushRecord code domain payload deferred t).regs.at? j = k.regs.at? j := by
  have hput : ∀ {k' : Core} {r : Row} {v i : Nat}, r ∈ recorderRows → k'.regs.at? j = k.regs.at? j →
      (k'.fput r v i).regs.at? j = k.regs.at? j := fun hr h => (Core.fput_recorder_at? hj _ hr _ _).trans h
  have hite : ∀ {p : Prop} [Decidable p] {a b : Core}, a.regs.at? j = k.regs.at? j → b.regs.at? j = k.regs.at? j →
      (if p then a else b).regs.at? j = k.regs.at? j := fun ha hb => by split; exacts [ha, hb]
  have hpost : ∀ {k' : Core} (seq : Nat), k'.regs.at? j = k.regs.at? j →
      (if sevOf code ≥ 2 then k'.postEvent 6 0 code seq (recReadable · domain) else k').regs.at? j = k.regs.at? j := fun seq h =>
    hite ((Core.postEvent_at? hj ..).trans h) h
  unfold Core.pushRecord
  refine hpost _ (hite (hput (by decide) ?fifo) ?fifo)
  refine hput (by decide) (hite (hput (by decide) (hput (by decide) ?next)) ?next)
  exact hput (by decide) (hput (by decide) rfl)

theorem Core.record_at? (code domain : Nat) (payload : List Byte) : (k.record code domain payload).regs.at? j = k.regs.at? j := by
  unfold Core.record Core.recordAt
  split
  · split
    · exact Core.dropEvent_at? hj k
    · rfl
  split
  · exact Core.pushRecord_at? hj ..
  · exact Core.dropEvent_at? hj k

end Recorder

end Sys2Proof
end

section
/-! What a sample's reads of cells and its shows leave as they are (R24, R131, R132, R153, R157). -/

set_option Elab.async false

namespace Sys2Proof

/-- `k'` has C, the steering fields and the field at `j` as `k` has them. -/
def Core.Beside (j : Nat) (k k' : Core) : Prop := k.Keeps steerRows k' ∧ k'.regs.at? j = k.regs.at? j

namespace Core.Beside

variable {j : Nat} {k k' : Core}

theorem refl (k : Core) : k.Beside j k := ⟨.refl k, rfl⟩

theorem fput {r : Row} {v i : Nat} (h : k.Beside j k') (hr : r.Clear j i) : k.Beside j (k'.fput r v i) :=
  ⟨h.1.fput hr.1, (Core.fput_at? k' hr.2).trans h.2⟩

end Core.Beside

end Sys2Proof

namespace Sys2Proof.Machine

/-- The state but for the trace rows, the engines' clocks and the shared core, of which only the field at `j` is shown. -/
def State.untraced (j : Nat) (s : State) : State × Option Nat :=
  ({ s with core := {}, flt := { s.flt with traces := [], clocks := [] } }, s.core.regs.at? j)

/-- The state but for the working buffer with its conditions and failures, and for what the unit keeps for its partner. -/
def State.cellless (s : State) : State :=
  { s with pair := {}, img := { s.img with working := [], conds := [], failSeen := [] } }

/-- `State.untraced` but for what a read or a write of a cell changes. -/
def State.unread (j : Nat) (s : State) : State × Option Nat := ((s.untraced j).1.cellless, s.core.regs.at? j)

/-- `t` is `s` after shows of registers, event records and trace rows. -/
abbrev State.ShowsOnly (j : Nat) (s t : State) : Prop := s.Follows (State.untraced j) steerRows t

/-- `t` is `s` after reads and writes of cells too. -/
abbrev State.ReadsOnly (j : Nat) (s t : State) : Prop := s.Follows (State.unread j) steerRows t

variable {j : Nat} {s t : State}

theorem State.Follows.reads (h : s.ShowsOnly j t) : s.ReadsOnly j t :=
  ⟨congrArg (fun x : State × Option Nat => (x.1.cellless, x.2)) h.1, h.2⟩

/-! ### What stays -/

theorem State.Follows.sampleField (h : s.ReadsOnly j t) : t.core.regs.at? j = s.core.regs.at? j := congrArg Prod.snd h.1

/-- A part of the state that `State.unread` shows is the same. -/
theorem State.Follows.readsSame {β : Type} (h : s.ReadsOnly j t) (f : State → β)
    (hf : ∀ u : State, f (State.unread j u).1 = f u := by intro _; rfl) : f t = f s := by
  rw [← hf t, h.1, hf]

theorem State.Follows.img_of_shows (h : s.ShowsOnly j t) : t.img = s.img :=
  congrArg (fun x : State × Option Nat => x.1.img) h.1

theorem State.Follows.readsEpoch (h : s.ReadsOnly j t) : t.epoch = s.epoch := h.2.epoch (by decide)

theorem State.Follows.readsUnfinished {u : Nat} (h : s.ReadsOnly j t) (hu : s.unfinished u) : t.unfinished u :=
  ⟨(h.readsSame (·.cfg.sleepCell)).trans hu.1, (h.readsSame (·.trw.stages.at? u)).trans hu.2⟩

theorem State.Follows.readsForced (h : s.ReadsOnly j t) (a : Nat) : t.isForced a = s.isForced a := h.readsSame (·.isForced a)

/-! ### Shows and records -/

theorem State.showsOnly_onCore (s : State) {f : Core → Core} (h : s.core.Beside j (f s.core)) : s.ShowsOnly j (s.onCore f) :=
  ⟨congrArg (({ s with core := {}, flt := { s.flt with traces := [], clocks := [] } } : State), ·) h.2, h.1⟩

section
variable (hj : TellsSample j) (s)
include hj

theorem State.showsOnly_record (code domain : Nat) (payload : List Byte) : s.ShowsOnly j (s.record code domain payload) :=
  s.showsOnly_onCore ⟨Core.keeps_record .., Core.record_at? hj ..⟩

/-- While a due task is unfinished, the end of another item shows the engines alone. -/
theorem State.showsOnly_showEngines : s.ShowsOnly j s.showEngines := by
  have hengine : ∀ (t : State) (e : Fin 8), t.ShowsOnly j (t.showEngine e) := fun t e =>
    .ite (.refl t) (t.showsOnly_onCore (.fput (.refl _) (hj.clear (by decide) (by decide) (by omega))))
  unfold State.showEngines
  refine .trans (.foldl hengine (List.finRange 8) s) ?_
  refine List.foldlRecOn _ _ (.refl _) fun t ht f hf => ht.trans ?_
  have hf4 : f < 1024 := by have := List.mem_range.1 hf; omega
  exact .ite (.refl t) (t.showsOnly_onCore (.fput (.refl _) (hj.clear (by decide) (by decide) hf4)))

omit hj in
theorem State.itemDone_of_unfinished {u : Nat} (h : s.unfinished u) : s.itemDone = s.showEngines := by
  have hshow := s.coreless_showEngines
  have hsleep : s.showEngines.sleepCell = s.showEngines := State.sleepCell_of_none ((hshow.same (·.cfg.sleepCell)).trans h.1)
  have hdue : s.showEngines.allDone = false := State.allDone_of_due ((hshow.same (·.trw.stages.at? u)).trans h.2)
  unfold State.itemDone
  simp only [hsleep, hdue, Bool.and_false, Bool.false_and, Bool.false_eq_true, if_false]

theorem State.showsOnly_itemDone {u : Nat} (h : s.unfinished u) : s.ShowsOnly j s.itemDone := by
  rw [s.itemDone_of_unfinished h]
  exact s.showsOnly_showEngines hj

/-- A row of the engine's trace. -/
theorem State.showsOnly_traceRow (f : Fin 4) (slot : Fin 128) : s.ShowsOnly j (s.traceRow f slot) := by
  have hf : f.val < 1024 := by omega
  unfold State.traceRow
  dsimp only
  split
  · exact .refl s
  split
  · exact .refl s
  · refine .trans (t := { s with flt := { s.flt with traces := s.flt.traces.put f _ } }) ⟨rfl, .refl _⟩
      (State.showsOnly_onCore _ ?_)
    dsimp only
    split
    · exact .fput (.fput (.fput (.fput (.refl _) (hj.clear (by decide) (by decide) hf)) (hj.clear (by decide) (by decide) hf))
        (hj.clear (by decide) (by decide) hf)) (hj.clear (by decide) (by decide) hf)
    · exact .fput (.fput (.refl _) (hj.clear (by decide) (by decide) hf)) (hj.clear (by decide) (by decide) hf)

/-! ### Reads and writes of cells -/

theorem State.readsOnly_checkFailed (a place domain : Nat) : s.ReadsOnly j (s.checkFailed a place domain) := by
  have hcount : s.ReadsOnly j (s.onCore (·.bump Reg.TICK_CHECK_FAIL_COUNT)) :=
    (s.showsOnly_onCore (.fput (.refl _) (hj.clear (by decide) (by decide) (by decide)))).reads
  have hevidence : ∀ t : State, t.ReadsOnly j (if place = 1 then t.evidence 12 else t) := fun t =>
    .ite (.ite ⟨rfl, .refl _⟩ (.refl t)) (.refl t)
  have hseen : ∀ (t : State) m, t.ReadsOnly j { t with img := { t.img with failSeen := m } } := fun _ _ => ⟨rfl, .refl _⟩
  have hnoted := hcount.trans (hevidence _)
  exact .ite (hnoted.trans ((hseen _ _).trans (State.showsOnly_record _ hj ..).reads)) hnoted

theorem State.readsOnly_readCell (a place : Nat) : s.ReadsOnly j (s.readCell a place).2 := by
  unfold State.readCell
  split
  · exact .refl s
  split
  · exact .refl s
  · exact .trans ⟨rfl, .refl _⟩ (State.readsOnly_checkFailed _ hj ..)

theorem State.readsOnly_writeCell (a : Nat) (v : Word) (cs : List Nat) (src epoch : Nat) :
    s.ReadsOnly j (s.writeCell a v cs src epoch) :=
  .ite (.refl s) (.ite (s.showsOnly_onCore (.fput (.refl _) (hj.clear (by decide) (by decide) (by decide)))).reads ⟨rfl, .refl _⟩)

theorem State.readsOnly_markCells (cells : List Nat) (q : Nat) : s.ReadsOnly j (s.markCells cells q) := by
  refine .foldl (fun t a => ?_) cells s
  have hread := t.readsOnly_readCell hj a 2
  unfold State.markCell
  split
  · next heq => rw [heq] at hread; exact hread.trans ⟨rfl, .refl _⟩
  · next heq => rw [heq] at hread; exact hread

/-! ### The reads of a sample (R132, R135) -/

theorem State.readsOnly_loopRead (f : Fin 4) (a : Nat) : s.ReadsOnly j (s.loopRead f a).2 := by
  have hread := s.readsOnly_readCell hj a 1
  have hf : f.val < 1024 := by omega
  unfold State.loopRead
  split
  · next heq => rw [heq] at hread; exact hread
  · next heq =>
    rw [heq] at hread
    exact hread.trans (State.showsOnly_onCore _ (.fput (.refl _) (hj.clear (by decide) (by decide) hf))).reads
  · next heq => rw [heq] at hread; exact hread

theorem State.readsOnly_loopReads (f : Fin 4) (as : List Nat) : s.ReadsOnly j (s.loopReads f as).2 := by
  induction as generalizing s with
  | nil => exact .refl s
  | cons a as ih => exact (s.readsOnly_loopRead hj f a).trans (ih _)

theorem State.readsOnly_loopMode (f : Fin 4) (l : Loop) : s.ReadsOnly j (s.loopMode f l).2 := by
  unfold State.loopMode
  split
  · exact .refl s
  · exact s.readsOnly_loopRead hj f _

theorem State.readsOnly_plan (f : Fin 4) (slot : Fin 128) (l : Loop) : s.ReadsOnly j (s.plan f slot l).2 := by
  have hmode : ∀ (t : State) (o : Option Loop), t.ReadsOnly j (match o with
      | some li => t.loopMode f li
      | none => (1, t)).2 := by
    intro t o
    cases o with
    | none => exact .refl t
    | some li => exact t.readsOnly_loopMode hj f li
  have hreads : ∀ (t : State) (as : List Nat), t.ReadsOnly j (t.loopReads f as).2 := fun t as => t.readsOnly_loopReads hj f as
  have hinputs : ∀ (t : State) (as bs : List Nat), t.ReadsOnly j ((t.loopReads f as).2.loopReads f bs).2 := fun t as bs =>
    (hreads t as).trans (hreads _ bs)
  exact (((s.readsOnly_loopMode hj f l).trans (hinputs _ _ _)).trans (hinputs _ _ _)).trans (hmode _ _)

end

end Sys2Proof.Machine
end

section
/-! A due sample of a slot while a due task is unfinished (R127, R131, R140, R141, R144, R147, R149). -/

set_option Elab.async false

namespace Sys2Proof.Machine

/-- Where the fields and the state of a slot are kept. -/
abbrev slotIndex (f : Fin 4) (slot : Fin 128) : Nat := f.val * 128 + slot.val

theorem slotIndex_lt (f : Fin 4) (slot : Fin 128) : slotIndex f slot < 1024 := by unfold slotIndex; omega

theorem tellsSample_mism (f : Fin 4) : TellsSample (Reg.FLT_MISM_CONSEC.key f) := ⟨_, by decide, f, by omega, rfl⟩
theorem tellsSample_cause (f : Fin 4) : TellsSample (Reg.FLT_FAULT_CAUSE.key f) := ⟨_, by decide, f, by omega, rfl⟩
theorem tellsSample_state (f : Fin 4) (slot : Fin 128) : TellsSample (Reg.LP_STAT_STATE.key (slotIndex f slot)) :=
  ⟨_, by decide, _, slotIndex_lt f slot, rfl⟩

/-! ### The start of a sample (R134, R157) -/

/-- Slot `slot` of engine `f` is due with loop `l`, is the next on its engine, and task `u` is unfinished. -/
structure State.SampleDue (s : State) (f : Fin 4) (slot : Fin 128) (l : Loop) (u : Nat) : Prop where
  loop : s.loopAt f slot = some l
  scanning : s.trw.scanning = true
  inService : s.core.flag Reg.FLT_STAT_IN_SERVICE f = true
  next : s.nextLoop f = some slot.val
  unfinished : s.unfinished u

/-- The stop bead has tripped and the loop is guarded (R147). -/
def State.stopped (s : State) (l : Loop) : Prop := l.desc.guarded = true ∧ s.core.flag Reg.SBD_STAT_TRIPPED = true

/-- `s` with the sample begun: its clocks counted, its slot shown. -/
def State.sampleBegun (s : State) (f : Fin 4) (slot : Fin 128) (l : Loop) : State :=
  (s.loopClocks f l).onCore (·.fput Reg.FLT_STAT_SLOT slot f)

variable {s : State} {f : Fin 4} {slot : Fin 128} {l : Loop} {u j : Nat}

theorem State.showsOnly_sampleBegun (hj : TellsSample j) (s : State) : s.ShowsOnly j (s.sampleBegun f slot l) :=
  .trans (t := s.loopClocks f l) ⟨rfl, .refl _⟩ (State.showsOnly_onCore _ (.fput (.refl _) (hj.clear (by decide) (by decide) (by omega))))

theorem State.sampleBegun_state (s : State) :
    (s.sampleBegun f slot l).core.fget Reg.LP_STAT_STATE (slotIndex f slot) = s.core.fget Reg.LP_STAT_STATE (slotIndex f slot) :=
  Core.fget_congr (State.showsOnly_sampleBegun (tellsSample_state f slot) s).reads.sampleField

theorem State.sampleBegun_tripped (s : State) :
    (s.sampleBegun f slot l).core.flag Reg.SBD_STAT_TRIPPED = s.core.flag Reg.SBD_STAT_TRIPPED :=
  (State.showsOnly_sampleBegun (tellsSample_mism f) s).2.flag (by decide)

/-- A sample that is due is executed by what its health, its slot's state and the stop bead call for. -/
theorem exec_loopSample (h : s.SampleDue f slot l u) (health : Health) : exec (.loopSample f slot health) s =
    .next (s.upFlt (State.itemDone (
      if health = .eccError || (s.flt.descBad.contains (slotIndex f slot) && s.core.fget Reg.LP_STAT_STATE (slotIndex f slot) != 3) then
        (s.sampleBegun f slot l).numericFault f slot l 0x11
      else if l.desc.guarded && s.core.flag Reg.SBD_STAT_TRIPPED then
        if s.core.fget Reg.LP_STAT_STATE (slotIndex f slot) = 3 then (s.sampleBegun f slot l).loopStage f slot .done
        else (s.sampleBegun f slot l).sampleStopped f slot l health
      else if s.core.fget Reg.LP_STAT_STATE (slotIndex f slot) = 3 then (s.sampleBegun f slot l).sampleFaulted f slot l health
      else (s.sampleBegun f slot l).sampleRun f slot l health))) := by
  have hexec : exec (.loopSample f slot health) s = .next (s.upFlt (s.loopSample f slot health)) := rfl
  have hdue : ¬((!(s.trw.scanning && s.core.flag Reg.FLT_STAT_IN_SERVICE f && s.nextLoop f == some slot.val)) = true) := by
    simp [h.scanning, h.inService, h.next]
  rw [hexec, ← s.sampleBegun_state (l := l), ← s.sampleBegun_tripped (f := f) (slot := slot) (l := l)]
  simp only [State.loopSample, h.loop]
  rw [if_neg hdue]
  rfl

theorem exec_loopSample_eccError (h : s.SampleDue f slot l u) : exec (.loopSample f slot .eccError) s =
    .next (s.upFlt ((s.sampleBegun f slot l).numericFault f slot l 0x11).itemDone) := by
  rw [exec_loopSample h, if_pos (by simp)]

/-- A sample of a slot that is neither faulted nor stopped. -/
theorem exec_loopSample_run (h : s.SampleDue f slot l u) (hbad : s.flt.descBad.contains (slotIndex f slot) = false)
    (hst : s.core.fget Reg.LP_STAT_STATE (slotIndex f slot) ≠ 3) (hstop : ¬s.stopped l) {health : Health} (hh : health ≠ .eccError) :
    exec (.loopSample f slot health) s = .next (s.upFlt ((s.sampleBegun f slot l).sampleRun f slot l health).itemDone) := by
  unfold State.stopped at hstop
  rw [exec_loopSample h, hbad, if_neg (by simp [hh]), if_neg (by simpa using hstop), if_neg hst]

theorem exec_loopSample_faulted (h : s.SampleDue f slot l u) (hst : s.core.fget Reg.LP_STAT_STATE (slotIndex f slot) = 3)
    (hstop : ¬s.stopped l) : exec (.loopSample f slot .agree) s =
      .next (s.upFlt ((s.sampleBegun f slot l).sampleFaulted f slot l .agree).itemDone) := by
  unfold State.stopped at hstop
  rw [exec_loopSample h, if_neg (by simp [hst]), if_neg (by simpa using hstop), if_pos hst]

theorem exec_loopSample_stopped (h : s.SampleDue f slot l u) (hbad : s.flt.descBad.contains (slotIndex f slot) = false)
    (hst : s.core.fget Reg.LP_STAT_STATE (slotIndex f slot) ≠ 3) (hstop : s.stopped l) : exec (.loopSample f slot .agree) s =
      .next (s.upFlt ((s.sampleBegun f slot l).sampleStopped f slot l .agree).itemDone) := by
  obtain ⟨hguarded, htripped⟩ := hstop
  rw [exec_loopSample h, hbad, if_neg (by simp), if_pos (by simp [hguarded, htripped]), if_neg hst]

/-! ### The end of a sample (R131, R141, R149, R157) -/

/-- `t` has what a sample has left in `x`: the slots and their stages, the image, and the fields that tell how it went. -/
structure State.EndsAs (x t : State) : Prop where
  slots : t.flt.slots = x.flt.slots
  stages : t.flt.stages = x.flt.stages
  img : t.img = x.img
  fields : ∀ r ∈ slotRows, ∀ i < 1024, t.core.fget r i = x.core.fget r i

theorem State.EndsAs.of_shows {x t : State} (h : ∀ j, TellsSample j → x.ShowsOnly j t) : x.EndsAs t where
  slots := (h _ (tellsSample_mism 0)).reads.readsSame (·.flt.slots)
  stages := (h _ (tellsSample_mism 0)).reads.readsSame (·.flt.stages)
  img := (h _ (tellsSample_mism 0)).img_of_shows
  fields r hr i hi := Core.fget_congr (h _ ⟨r, hr, i, hi, rfl⟩).reads.sampleField

theorem State.endsAs_itemDone {x : State} (h : x.unfinished u) (s : State) : x.EndsAs (s.upFlt x.itemDone) := by
  have hend : x.EndsAs x.itemDone := .of_shows fun _ hj => x.showsOnly_itemDone hj h
  exact { slots := by rw [State.upFlt_flt, hend.slots]
          stages := by rw [State.upFlt_flt, hend.stages]
          img := by rw [State.upFlt_img, hend.img]
          fields := fun r hr i hi => by rw [State.upFlt_core, Core.fget_after, hend.fields r hr i hi] }

/-- The row of the trace is nothing that tells how the sample went. -/
theorem State.endsAs_traceRow {y : State} (h : y.unfinished u) (s : State) :
    (y.loopStage f slot .done).EndsAs (s.upFlt ((y.loopStage f slot .done).traceRow f slot).itemDone) := by
  have hrow : ∀ j, TellsSample j → (y.loopStage f slot .done).ShowsOnly j ((y.loopStage f slot .done).traceRow f slot) :=
    fun _ hj => State.showsOnly_traceRow _ hj f slot
  have hdone : ((y.loopStage f slot .done).traceRow f slot).unfinished u :=
    (hrow _ (tellsSample_mism f)).reads.readsUnfinished (s := y.loopStage f slot .done) h
  have hend := State.endsAs_itemDone hdone s
  have hshown := State.EndsAs.of_shows hrow
  exact { slots := hend.slots.trans hshown.slots
          stages := hend.stages.trans hshown.stages
          img := hend.img.trans hshown.img
          fields := fun r hr i hi => (hend.fields r hr i hi).trans (hshown.fields r hr i hi) }

/-! ### Faults and mismatches (R141, R149) -/

theorem key_ne {r r' : Row} (h : r.id ≠ r'.id) {i i' : Nat} (hi : i < 1024) (hi' : i' < 1024) : r.key i ≠ r'.key i' := by
  unfold Row.key
  omega

/-- A report changes the shared core and a pair's evidence; of the fields that tell of a sample it writes the cause. -/
theorem State.fltReport_eq (s : State) (f : Fin 4) (slot : Fin 128) {cause : Nat} (hc : cause < 256) : ∃ p k,
    s.fltReport f slot cause = { s with core := k, pair := p } ∧ k.fget Reg.FLT_FAULT_CAUSE f = cause ∧
      ∀ j, TellsSample j → j ≠ Reg.FLT_FAULT_CAUSE.key f → k.regs.at? j = s.core.regs.at? j := by
  have hevidence : ∃ p, s.evidence (8 + f.val) = { s with pair := p } := by
    unfold State.evidence
    split
    · exact ⟨_, rfl⟩
    · exact ⟨s.pair, rfl⟩
  obtain ⟨p, hp⟩ := hevidence
  have hf : f.val < 1024 := by omega
  have hslot : ∀ {j}, TellsSample j → ∀ k : Core, (k.fput Reg.FLT_FAULT_SLOT slot f).regs.at? j = k.regs.at? j := fun hj k =>
    Core.fput_at? k (hj.clear (by decide) (by decide) hf).2
  unfold State.fltReport
  rw [hp]
  refine ⟨p, _, rfl, ?_, fun j hj hne => ?_⟩
  · refine (Core.fget_congr ((Core.record_at? (tellsSample_cause f) _ _ _ _).trans (hslot (tellsSample_cause f) _))).trans ?_
    exact (Core.fget_fput_self ..).trans (Nat.mod_eq_of_lt hc)
  · exact (Core.record_at? hj ..).trans ((hslot hj _).trans (Core.fput_at? _ hne))

/-- A fault keeps the loop but for its epoch, and writes no cell. -/
theorem State.numericFault_eq (s : State) (f : Fin 4) (slot : Fin 128) (l : Loop) {cause : Nat} (hc : cause < 256) : ∃ p k,
    s.numericFault f slot l cause = { s with
      core := k
      pair := p
      flt := { s.flt with
        slots := s.flt.slots.put (slotIndex f slot) { l with faultEpoch := s.epoch }
        stages := s.flt.stages.put (slotIndex f slot) .done } } ∧
      k.fget Reg.LP_STAT_STATE (slotIndex f slot) = 3 ∧ k.fget Reg.FLT_FAULT_CAUSE f = cause := by
  unfold State.numericFault
  extract_lets i s' x
  obtain ⟨p, k, hreport, hcause, hkeep⟩ := (x.onCore fun k =>
    (k.bump Reg.FLT_NUM_CNT_COUNT f).fput Reg.LP_STAT_STATE 3 i).fltReport_eq f slot hc
  have hstate := hkeep _ (tellsSample_state f slot) (key_ne (by decide) (slotIndex_lt f slot) (by omega))
  rw [hreport]
  exact ⟨p, k, rfl, (Core.fget_congr hstate).trans (Core.fget_fput_self ..), hcause⟩

/-- A fault of a sample that has only read. -/
theorem State.numericFault_facts {x : State} (hx : ∀ j, TellsSample j → s.ReadsOnly j x) (hu : s.unfinished u) (l : Loop)
    {cause : Nat} (hc : cause < 256) :
    let t := s.upFlt (x.numericFault f slot l cause).itemDone
    t.flt.stages.at? (slotIndex f slot) = some .done ∧ t.core.fget Reg.LP_STAT_STATE (slotIndex f slot) = 3 ∧
      t.core.fget Reg.FLT_FAULT_CAUSE f = cause ∧
      t.flt.slots.at? (slotIndex f slot) = some { l with faultEpoch := s.epoch } ∧ t.img = x.img := by
  intro t
  have hread := hx _ (tellsSample_mism f)
  have hux := hread.readsUnfinished hu
  have hepoch := hread.readsEpoch
  obtain ⟨p, k, hfault, hstate, hcause⟩ := x.numericFault_eq f slot l hc
  have huf : (x.numericFault f slot l cause).unfinished u := by rw [hfault]; exact hux
  have hend : (x.numericFault f slot l cause).EndsAs t := State.endsAs_itemDone huf s
  rw [hfault] at hend
  refine ⟨?_, ?_, ?_, ?_, hend.img⟩
  · rw [hend.stages, SMap.at?_put, if_pos rfl]
  · exact (hend.fields _ (by decide) _ (slotIndex_lt f slot)).trans hstate
  · exact (hend.fields _ (by decide) _ (by omega)).trans hcause
  · rw [hend.slots, SMap.at?_put, if_pos rfl, hepoch]

/-- A mismatch that is not the third in a row discards the sample. -/
theorem State.fltMismatch_eq (s : State) (f : Fin 4) (slot : Fin 128) (l : Loop) (h : s.core.fget Reg.FLT_MISM_CONSEC f < 2) :
    ∃ p k, s.fltMismatch f slot l = { s.markCells l.desc.uCell Qual.lastUsable with
      core := k
      pair := p
      flt := { (s.markCells l.desc.uCell Qual.lastUsable).flt with
        stages := (s.markCells l.desc.uCell Qual.lastUsable).flt.stages.put (slotIndex f slot) .discarded } } ∧
      k.fget Reg.FLT_MISM_CONSEC f = s.core.fget Reg.FLT_MISM_CONSEC f + 1 := by
  have hf : f.val < 1024 := by omega
  have hmark : (s.markCells l.desc.uCell Qual.lastUsable).core.fget Reg.FLT_MISM_CONSEC f = s.core.fget Reg.FLT_MISM_CONSEC f :=
    Core.fget_congr (s.readsOnly_markCells (tellsSample_mism f) ..).sampleField
  unfold State.fltMismatch
  generalize s.markCells l.desc.uCell Qual.lastUsable = m at *
  extract_lets c x
  have hcount : c.core.fget Reg.FLT_MISM_CONSEC f = s.core.fget Reg.FLT_MISM_CONSEC f + 1 := by
    have htotal : (m.core.bump Reg.FLT_MISM_TOTAL f).fget Reg.FLT_MISM_CONSEC f = s.core.fget Reg.FLT_MISM_CONSEC f :=
      (Core.fget_congr (Core.fput_at? _ (key_ne (by decide) hf hf))).trans hmark
    have hbump : c.core.fget Reg.FLT_MISM_CONSEC f = satAdd 2 (s.core.fget Reg.FLT_MISM_CONSEC f) 1 % 2 ^ 2 :=
      (Core.fget_fput_self ..).trans (congrArg (fun n => satAdd 2 n 1 % 2 ^ 2) htotal)
    rw [hbump, satAdd]
    omega
  obtain ⟨p, k, hreport, -, hkeep⟩ := c.fltReport_eq f slot (cause := 8) (by decide)
  have hx : x.core.fget Reg.FLT_MISM_CONSEC f = s.core.fget Reg.FLT_MISM_CONSEC f + 1 := by
    rw [← hcount]
    refine Core.fget_congr ?_
    have hcore : x.core = k := by simp only [x, hreport]; rfl
    rw [hcore]
    exact hkeep _ (tellsSample_mism f) (key_ne (by decide) hf hf)
  rw [if_neg (by omega)]
  exact ⟨p, k, by simp only [x, hreport]; rfl, by rw [← hx]; simp only [x, hreport]; rfl⟩

theorem State.fltMismatch_facts {x : State} (hx : ∀ j, TellsSample j → s.ReadsOnly j x) (hu : s.unfinished u)
    (h : s.core.fget Reg.FLT_MISM_CONSEC f < 2) :
    let t := s.upFlt (x.fltMismatch f slot l).itemDone
    t.flt.stages.at? (slotIndex f slot) = some .discarded ∧
      t.core.fget Reg.FLT_MISM_CONSEC f = s.core.fget Reg.FLT_MISM_CONSEC f + 1 ∧ t.flt.slots = s.flt.slots := by
  intro t
  have hcount : x.core.fget Reg.FLT_MISM_CONSEC f = s.core.fget Reg.FLT_MISM_CONSEC f :=
    Core.fget_congr (hx _ (tellsSample_mism f)).sampleField
  obtain ⟨p, k, hmism, hconsec⟩ := x.fltMismatch_eq f slot l (by rw [hcount]; exact h)
  have hmarked := (hx _ (tellsSample_mism f)).trans (x.readsOnly_markCells (tellsSample_mism f) l.desc.uCell Qual.lastUsable)
  have hdone : (x.fltMismatch f slot l).unfinished u := by rw [hmism]; exact hmarked.readsUnfinished hu
  have hend : (x.fltMismatch f slot l).EndsAs t := State.endsAs_itemDone hdone s
  rw [hmism] at hend
  refine ⟨?_, ?_, hend.slots.trans (hmarked.readsSame (·.flt.slots))⟩
  · rw [hend.stages, SMap.at?_put, if_pos rfl]
  · exact ((hend.fields _ (by decide) _ (by omega)).trans hconsec).trans (congrArg (· + 1) hcount)

/-! ### A sample that is executed (R127, R131, R157) -/

/-- Supervision shows registers and records, and ends the engine's run of mismatches. -/
theorem State.superviseDone_eq (s : State) (f : Fin 4) (slot : Fin 128) (l : Loop) (p : Plan) (atLimit : Bool) :
    ∃ k, s.superviseDone f slot l p atLimit = { s with core := k } ∧ k.fget Reg.FLT_MISM_CONSEC f = 0 := by
  have hf : f.val < 1024 := by omega
  unfold State.superviseDone
  extract_lets i entered rejoined x
  have hmism : x.core.fget Reg.FLT_MISM_CONSEC f = 0 := by
    have hcount : ∀ (b : Bool) (k : Core) {r : Row}, r.id ≠ Reg.FLT_MISM_CONSEC.id →
        (if b then k.bump r i else k).fget Reg.FLT_MISM_CONSEC f = k.fget Reg.FLT_MISM_CONSEC f := by
      intro b k r hr
      split
      · exact Core.fget_congr (Core.fput_at? k (key_ne hr.symm hf (slotIndex_lt f slot)))
      · rfl
    refine (hcount rejoined _ (r := Reg.LP_FALLBACK_REJOINS) (by decide)).trans ?_
    refine (hcount entered _ (r := Reg.LP_FALLBACK_ENTRIES) (by decide)).trans ?_
    exact Core.fget_fput_self ..
  split
  · exact ⟨_, rfl, (Core.fget_congr (Core.record_at? (tellsSample_mism f) ..)).trans hmism⟩
  · exact ⟨_, rfl, hmism⟩

/-- `s` after an executed sample that has left loop `l'` in its slot. -/
def State.sampleSettled (s : State) (f : Fin 4) (slot : Fin 128) (l l' : Loop) (p : Plan) (atLimit : Bool) : State :=
  ((({ s with flt := { s.flt with slots := s.flt.slots.put (slotIndex f slot) l' } } : State).superviseDone f slot l p
    atLimit).loopStage f slot .done).traceRow f slot

theorem State.sampleSettled_facts {x : State} (hu : x.unfinished u) (s : State) (l l' : Loop) (p : Plan) (atLimit : Bool) :
    let t := s.upFlt (x.sampleSettled f slot l l' p atLimit).itemDone
    t.flt.stages.at? (slotIndex f slot) = some .done ∧ t.core.fget Reg.FLT_MISM_CONSEC f = 0 ∧
      t.flt.slots.at? (slotIndex f slot) = some l' ∧ t.img = x.img := by
  intro t
  obtain ⟨k, hk, hmism⟩ := ({ x with flt := { x.flt with slots := x.flt.slots.put (slotIndex f slot) l' } } : State).superviseDone_eq
    f slot l p atLimit
  have hend := State.endsAs_traceRow (f := f) (slot := slot) (y := ({ x with flt := { x.flt with
    slots := x.flt.slots.put (slotIndex f slot) l' } } : State).superviseDone f slot l p atLimit) (u := u) (by rw [hk]; exact hu) s
  change State.EndsAs _ t at hend
  rw [hk] at hend
  refine ⟨?_, (hend.fields _ (by decide) _ (by omega)).trans hmism, ?_, hend.img⟩
  · rw [hend.stages]
    exact (SMap.at?_put ..).trans (if_pos rfl)
  · rw [hend.slots]
    exact (SMap.at?_put ..).trans (if_pos rfl)

/-! ### The commit of a sample's outputs (R131) -/

theorem State.pairCommit_eq (s : State) (eng item : Nat) (prior bytes : List Byte) :
    ∃ p, s.pairCommit eng item prior bytes = { s with pair := p } := by
  unfold State.pairCommit
  split
  · exact ⟨_, rfl⟩
  · exact ⟨s.pair, rfl⟩

theorem State.commitOutputs_eq (s : State) (f : Fin 4) (slot : Fin 128) (d : LoopDesc) (us : List Word) (conds : List Nat) :
    ∃ p, s.commitOutputs f slot d us conds = { s.loopOutputs d us conds with pair := p } := State.pairCommit_eq ..

theorem State.readsOnly_loopOutputs (hj : TellsSample j) (s : State) (d : LoopDesc) (us : List Word) (conds : List Nat) :
    s.ReadsOnly j (s.loopOutputs d us conds) := .foldl (fun t _ => t.readsOnly_writeCell hj ..) _ s

theorem State.readsOnly_commitOutputs (hj : TellsSample j) (s : State) (f : Fin 4) (slot : Fin 128) (d : LoopDesc) (us : List Word)
    (conds : List Nat) : s.ReadsOnly j (s.commitOutputs f slot d us conds) := by
  obtain ⟨p, hp⟩ := s.commitOutputs_eq f slot d us conds
  rw [hp]
  exact (s.readsOnly_loopOutputs hj d us conds).trans ⟨rfl, .refl _⟩

/-- The only output of a loop takes its applied value, with the float source and the tick's epoch. -/
theorem State.commitOutputs_cell {s : State} {d : LoopDesc} {a : Nat} {v : Word} (hcell : d.uCell = [a])
    (hsome : (s.img.working.at? a).isSome) (hforced : s.isForced a = false) (f : Fin 4) (slot : Fin 128) (conds : List Nat) :
    (s.commitOutputs f slot d [v] conds).img.working.at? a = some (s.formCell a v (s.writeConds a conds) 5 s.epoch) := by
  obtain ⟨p, hp⟩ := s.commitOutputs_eq f slot d [v] conds
  have hwrite : s.loopOutputs d [v] conds = s.writeCell a v conds 5 s.epoch := by
    rw [State.loopOutputs, hcell]
    rfl
  rw [hp, hwrite]
  exact State.writeCell_working hsome hforced ..

/-! ### Samples of slots that are not faulted (R127, R141, R147) -/

/-- A finite sample commits its outputs and leaves the slot as `State.sampled` says, its bias decayed. -/
theorem State.sampleRun_of_finite {s x : State} {p : Plan} (hplan : s.plan f slot l = (p, x))
    (hfin : (x.law l p none).finite = true) : ∃ conds, s.sampleRun f slot l .agree =
      (x.commitOutputs f slot l.desc (x.law l p none).uappl conds).sampleSettled f slot l
        ((x.commitOutputs f slot l.desc (x.law l p none).uappl conds).sampled l p (x.law l p none)
          ((x.law l p none).bias.map fun b => (F32.mul l.desc.decay b).1) false) p (x.law l p none).atLimit := by
  unfold State.sampleRun
  rw [hplan]
  dsimp only
  rw [if_neg (by decide), hfin, if_neg (by decide)]
  exact ⟨_, rfl⟩

theorem State.sampleRun_of_not_finite {s x : State} {p : Plan} (hplan : s.plan f slot l = (p, x))
    (hfin : (x.law l p none).finite = false) : s.sampleRun f slot l .agree = x.numericFault f slot l 0x10 := by
  unfold State.sampleRun
  rw [hplan]
  dsimp only
  rw [if_neg (by decide), hfin, if_pos (by decide)]

theorem State.sampleRun_of_mismatch {s x : State} {p : Plan} (hplan : s.plan f slot l = (p, x)) :
    s.sampleRun f slot l .mismatch = x.fltMismatch f slot l := by
  unfold State.sampleRun
  rw [hplan]
  exact if_pos rfl

/-- A stopped slot runs its observer on what stands at its outputs. -/
theorem State.sampleStopped_of_finite {s x : State} {p : Plan} (hplan : s.plan f slot l = (p, x))
    (he : (x.law l p (some (x.feathered l))).e.all F32.isFinite = true)
    (hx : (x.law l p (some (x.feathered l))).x.all F32.isFinite = true) : s.sampleStopped f slot l .agree =
      x.sampleSettled f slot l
        { x.sampled l p (x.law l p (some (x.feathered l))) l.bias l.transfer with ucmd := l.ucmd } p false := by
  unfold State.sampleStopped
  rw [hplan]
  dsimp only
  rw [if_neg (by decide), he, hx, if_neg (by decide)]
  rfl

/-! ### A faulted slot (R141, R144) -/

/-- `s` after the sample of a faulted slot that has left loop `l'` in it: the fall-back shown, the run of mismatches ended. -/
def State.faultSettled (s : State) (f : Fin 4) (slot : Fin 128) (l' : Loop) (atLimit : Bool) : State :=
  ({ s with flt := { s.flt with slots := s.flt.slots.put (slotIndex f slot) l' } } : State).onCore fun k =>
    ((k.fput Reg.LP_STAT_FB (if l'.desc.fallback == 1 then 3 else 2) (slotIndex f slot)).setFlag Reg.LP_STAT_AT_LIMIT atLimit
      (slotIndex f slot)).fput Reg.FLT_MISM_CONSEC 0 f

/-- A faulted slot holds or feathers: what it applies stands in its slot, and its observer stands. -/
theorem State.sampleFaulted_eq (s : State) (f : Fin 4) (slot : Fin 128) (l : Loop) : ∃ us conds l' atLimit,
    s.sampleFaulted f slot l .agree =
      (((s.commitOutputs f slot l.desc us conds).faultSettled f slot l' atLimit).loopStage f slot .done).traceRow f slot ∧
      l'.xhat = l.xhat ∧ l'.desc = l.desc := by
  unfold State.sampleFaulted
  extract_lets d i ts feather ucmd lim us
  refine ⟨us, [if feather then Qual.subst else Qual.lastUsable],
    { l with uprev := us, ucmd := ucmd, uappl := us, forced := d.uCell.map (s.commitOutputs f slot d us _).isForced },
    lim.any (·.2), if_neg (by decide), rfl, rfl⟩

theorem State.faultSettled_fields (s : State) (f : Fin 4) (slot : Fin 128) (l' : Loop) (atLimit : Bool) :
    (s.faultSettled f slot l' atLimit).core.fget Reg.LP_STAT_STATE (slotIndex f slot) =
      s.core.fget Reg.LP_STAT_STATE (slotIndex f slot) ∧
    (s.faultSettled f slot l' atLimit).core.fget Reg.LP_STAT_FB (slotIndex f slot) = if l'.desc.fallback = 1 then 3 else 2 := by
  have hi := slotIndex_lt f slot
  have hf : f.val < 1024 := by omega
  constructor
  · exact Core.fget_congr ((Core.fput_at? _ (key_ne (by decide) hi hf)).trans ((Core.fput_at? _ (key_ne (by decide) hi hi)).trans
      (Core.fput_at? _ (key_ne (by decide) hi hi))))
  · refine (Core.fget_congr ((Core.fput_at? _ (key_ne (by decide) hi hf)).trans (Core.fput_at? _ (key_ne (by decide) hi hi)))).trans ?_
    refine (Core.fget_fput_self ..).trans ?_
    simp only [beq_iff_eq]
    split <;> rfl

theorem State.sampleFaulted_facts {x : State} (hx : ∀ j, TellsSample j → s.ReadsOnly j x) (hu : s.unfinished u) (l : Loop) :
    let t := s.upFlt (x.sampleFaulted f slot l .agree).itemDone
    t.flt.stages.at? (slotIndex f slot) = some .done ∧
      t.core.fget Reg.LP_STAT_STATE (slotIndex f slot) = s.core.fget Reg.LP_STAT_STATE (slotIndex f slot) ∧
      t.core.fget Reg.LP_STAT_FB (slotIndex f slot) = (if l.desc.fallback = 1 then 3 else 2) ∧
      ∃ l', t.flt.slots.at? (slotIndex f slot) = some l' ∧ l'.xhat = l.xhat ∧ l'.desc = l.desc := by
  intro t
  obtain ⟨us, conds, l', atLimit, hrun, hxhat, hdesc⟩ := x.sampleFaulted_eq f slot l
  have hread : ∀ j, TellsSample j → s.ReadsOnly j (x.commitOutputs f slot l.desc us conds) := fun j hj =>
    (hx j hj).trans (x.readsOnly_commitOutputs hj ..)
  have hstate := Core.fget_congr (hread _ (tellsSample_state f slot)).sampleField
  have huc := (hread _ (tellsSample_mism f)).readsUnfinished hu
  generalize x.commitOutputs f slot l.desc us conds = c at hrun hstate huc
  obtain ⟨hkept, hfb⟩ := c.faultSettled_fields f slot l' atLimit
  have hend := State.endsAs_traceRow (f := f) (slot := slot) (y := c.faultSettled f slot l' atLimit) (u := u) huc s
  rw [← hrun] at hend
  refine ⟨?_, ?_, ?_, l', ?_, hxhat, hdesc⟩
  · rw [hend.stages]
    exact (SMap.at?_put ..).trans (if_pos rfl)
  · exact (hend.fields _ (by decide) _ (slotIndex_lt f slot)).trans (hkept.trans hstate)
  · rw [← hdesc, ← hfb]
    exact hend.fields _ (by decide) _ (slotIndex_lt f slot)
  · rw [hend.slots]
    exact (SMap.at?_put ..).trans (if_pos rfl)

/-- The sample has read what its plan needs: nothing that tells how it went has changed yet. -/
theorem State.readsOnly_planned (hj : TellsSample j) (s : State) (f : Fin 4) (slot : Fin 128) (l : Loop) :
    s.ReadsOnly j ((s.sampleBegun f slot l).plan f slot l).2 :=
  (s.showsOnly_sampleBegun hj).reads.trans (State.readsOnly_plan _ hj f slot l)

/-- The applied value in the output cell, with the float source and the tick's epoch (R131). -/
theorem State.formCell_ofFloat (s : State) (a : Nat) (v : Word) (conds : List Nat) (epoch : Nat) :
    ((some (s.formCell a v conds 5 epoch)).any fun c => c.src == 5 && c.epoch == ep32 epoch &&
      c.value == if kindOf (s.kindDomain a).1 = .bool then v &&& 1 else v) = true := by
  simp [State.formCell, Cell.sealed]

/-- Settles O10: the clause of each kind of sample, by what it leaves: `State.sampleSettled_facts` for an executed one,
`State.numericFault_facts`, `State.fltMismatch_facts` and `State.sampleFaulted_facts` for the others. -/
theorem loopSample : Obligations.LoopSample := by
  intro s f slot l u hloop hscan hserv hnext hu i stopped s0 p s1
  have hdue : s.SampleDue f slot l u := ⟨hloop, hscan, hserv, hnext, hu⟩
  have hplan : (s.sampleBegun f slot l).plan f slot l = (p, s1) := rfl
  have hread : ∀ j, TellsSample j → s.ReadsOnly j s1 := fun j hj => s.readsOnly_planned hj f slot l
  have hbegun : ∀ j, TellsSample j → s.ReadsOnly j (s.sampleBegun f slot l) := fun j hj => (s.showsOnly_sampleBegun hj).reads
  have hplanned := hread _ (tellsSample_mism f)
  have hepoch : s1.epoch = s.epoch := hplanned.readsEpoch
  refine ⟨fun hbad hst hstop => ⟨fun hfin => ?_, fun hfin => ?_, fun hfew => ?_⟩, ?_, fun hst hstop => ?_,
    fun hbad hst hstop he hx => ?_⟩
  · obtain ⟨conds, hrun⟩ := State.sampleRun_of_finite hplan hfin
    have hcommit := hplanned.trans (s1.readsOnly_commitOutputs (tellsSample_mism f) f slot l.desc (s1.law l p none).uappl conds)
    obtain ⟨hstage, hmism, hslot, himg⟩ := State.sampleSettled_facts (hcommit.readsUnfinished hu) s l _ p _
    refine ⟨_, (exec_loopSample_run hdue hbad hst hstop (by decide)).trans (by rw [hrun]), hstage, hmism, ?_,
      fun a v hcell hv hsome hforced => ?_⟩
    · rw [hslot]
      simp [State.sampled]
    · rw [himg, hv, State.commitOutputs_cell hcell hsome ((hplanned.readsForced a).trans hforced), hepoch]
      exact State.formCell_ofFloat ..
  · have hfault := State.numericFault_facts (f := f) (slot := slot) hread hu l (cause := 0x10) (by decide)
    exact ⟨_, (exec_loopSample_run hdue hbad hst hstop (by decide)).trans (by rw [State.sampleRun_of_not_finite hplan hfin]), hfault⟩
  · obtain ⟨hstage, hmism, hslots⟩ := State.fltMismatch_facts (slot := slot) (l := l) hread hu hfew
    refine ⟨_, (exec_loopSample_run hdue hbad hst hstop (by decide)).trans (by rw [State.sampleRun_of_mismatch hplan]), hstage, hmism, ?_⟩
    rw [hslots]
    exact hloop
  · exact ⟨_, exec_loopSample_eccError hdue, State.numericFault_facts hbegun hu l (by decide)⟩
  · obtain ⟨hstage, hstate, hfb, l', hslot, hxhat, hdesc⟩ := State.sampleFaulted_facts (slot := slot) hbegun hu l
    refine ⟨_, exec_loopSample_faulted hdue hst hstop, hstage, hstate.trans hst, hfb, ?_⟩
    rw [hslot]
    simp [hxhat, hdesc]
  · obtain ⟨hstage, -, hslot, himg⟩ := State.sampleSettled_facts (hplanned.readsUnfinished hu) s l _ p _
    refine ⟨_, (exec_loopSample_stopped hdue hbad hst hstop).trans (by rw [State.sampleStopped_of_finite hplan he hx]), hstage, himg, ?_⟩
    rw [hslot]
    simp [State.sampled, State.law]

end Sys2Proof.Machine
end

section
/-! Messages that read records, traces and commits, and those that wait for the security core (R155, R156, R191, R394, R395, R407, R479). -/

set_option Elab.async false

namespace Sys2Proof.Machine

/-! ### METER, TRACE, RECORDER and TREND (R155, R191, R407, R479) -/

theorem State.latestCommit_taken (s : State) (r : Req) (g : Gate) : (s.taken r g).latestCommit = s.latestCommit := by
  unfold State.latestCommit
  rw [(s.answerOnly_taken r g).same State.met]

theorem State.traceBody_taken (s : State) (r : Req) (g : Gate) (e : Nat) : (s.taken r g).traceBody e = s.traceBody e := by
  unfold State.traceBody
  rw [(s.answerOnly_taken r g).same State.flt, State.core_taken]

theorem State.trendNext_taken (s : State) (r : Req) (g : Gate) : (s.taken r g).trendNext = s.trendNext := by
  unfold State.trendNext
  rw [State.core_taken]

/-- A heard METER for the running commit gives the latest image. -/
theorem exec_meter_of_hears {s : State} {r : Req} (h : s.hears r { maint := true, type := 0x40 } 0) {c : CommitImage}
    (hc : s.latestCommit = some c) (n x : Nat) : exec (.meter r false n x) s =
      .next ((s.taken r { maint := true, type := 0x40 }).answer r .ok (filteredCommit 0 c)) := by
  have hexec : exec (.meter r false n x) s = .next (s.upSvc (s.askMeter r false n x)) := rfl
  have hmeter : (s.taken r { maint := true, type := 0x40 }).meterNow r 0 false n x =
      (s.taken r { maint := true, type := 0x40 }).answer r .ok (filteredCommit 0 c) := by
    simp only [State.meterNow, Bool.not_false, if_true, State.latestCommit_taken, hc]
  rw [hexec, State.askMeter, State.upSvc_serve h hmeter (State.answerOnly_answer ..).service]

/-- Domain 0 reads the trace of every engine. -/
theorem State.traceNow_of_engine (s : State) (r : Req) {e : Nat} (he : e < 4) : s.traceNow r 0 e =
    if s.core.fget Reg.TRC_STAT_STATE e ≠ 4 then s.answer r .notReady [] else s.answer r .ok (s.traceBody e) := by
  have hmay : s.mayTrace 0 e = true := rfl
  rw [State.traceNow, if_neg (by omega), hmay, if_neg (by decide)]

theorem exec_trace_of_hears {s : State} {r : Req} (h : s.hears r { type := 0x50 } 0) {e : Nat} (he : e < 4) :
    exec (.trace r e) s = .next (if s.core.fget Reg.TRC_STAT_STATE e ≠ 4 then (s.taken r { type := 0x50 }).answer r .notReady []
      else (s.taken r { type := 0x50 }).answer r .ok (s.traceBody e)) := by
  have hexec : exec (.trace r e) s = .next (s.upSvc (s.askTrace r e)) := rfl
  have htrace := (s.taken r { type := 0x50 }).traceNow_of_engine r he
  rw [State.core_taken, State.traceBody_taken] at htrace
  rw [hexec, State.askTrace, State.upSvc_serve h htrace
    (.ite (State.answerOnly_answer ..).service (State.answerOnly_answer ..).service)]

/-- A RECORDER of a count that is allowed counts the corrupt slots it meets. -/
theorem State.recorderNow_of_count (s : State) (r : Req) (d first : Nat) {n : Nat} (hn : 1 ≤ n) (hn' : n ≤ 1024) :
    s.recorderNow r d first n =
      (s.onCore (·.bump Reg.EVR_CORRUPT_COUNT 0 (s.core.evr.read d first n).2)).answer r .ok (s.core.evr.read d first n).1 := by
  rw [State.recorderNow, if_neg (by simp [hn, hn'])]

theorem exec_recorder_of_hears {s : State} {r : Req} (h : s.hears r { maint := true, type := 0x60 } 0) (first : Nat) {n : Nat}
    (hn : 1 ≤ n) (hn' : n ≤ 1024) : exec (.recorder r first n) s =
      .next (((s.taken r { maint := true, type := 0x60 }).onCore
        (·.bump Reg.EVR_CORRUPT_COUNT 0 (s.core.evr.read 0 first n).2)).answer r .ok (s.core.evr.read 0 first n).1) := by
  have hexec : exec (.recorder r first n) s = .next (s.upSvc (s.askRecorder r first n)) := rfl
  have hrecorder := (s.taken r { maint := true, type := 0x60 }).recorderNow_of_count r 0 first hn hn'
  rw [State.core_taken] at hrecorder
  have hcount := (s.taken r { maint := true, type := 0x60 }).answerOnly_onCore (f := (·.bump Reg.EVR_CORRUPT_COUNT 0
    (s.core.evr.read 0 first n).2)) (.bump (.refl _) (Row.off_of_lt _ (by decide)))
  rw [hexec, State.askRecorder, State.upSvc_serve h hrecorder (hcount.trans (State.answerOnly_answer ..)).service]

/-- A module that holds no trend page answers with NEXT as the oldest, and no page. -/
theorem State.trendNow_of_no_pages {s : State} (hpages : s.bg.pages = []) (r : Req) (d first : Nat) {n : Nat} (hn : 1 ≤ n)
    (hn' : n ≤ 16) : s.trendNow r d first n =
      s.answer r .ok (le s.trendNext 8 ++ le s.trendNext 8 ++ le 0 2 ++ le 0 6) := by
  rw [State.trendNow, if_neg (by simp [hn, hn']), hpages]
  exact congrArg (s.answer r .ok) (List.append_nil _)

theorem exec_trend_of_hears {s : State} {r : Req} (h : s.hears r { type := trendType } 0) (hpages : s.bg.pages = []) (first : Nat)
    {n : Nat} (hn : 1 ≤ n) (hn' : n ≤ 16) : exec (.trend r first n) s =
      .next ((s.taken r { type := trendType }).answer r .ok (le s.trendNext 8 ++ le s.trendNext 8 ++ le 0 2 ++ le 0 6)) := by
  have hexec : exec (.trend r first n) s = .next (s.upSvc (s.askTrend r first n)) := rfl
  have hbg : (s.taken r { type := trendType }).bg = s.bg := (s.answerOnly_taken ..).same State.bg
  have htrend := State.trendNow_of_no_pages (s := s.taken r { type := trendType }) (by rw [hbg, hpages]) r 0 first hn hn'
  rw [State.trendNext_taken] at htrend
  rw [hexec, State.askTrend, State.upSvc_serve h htrend (State.answerOnly_answer ..).service]

/-! ### ATTEST and CHALLENGE wait for the security core (R389, R394, R395) -/

/-- The state but for what an answer changes and the security core. -/
def State.besideKeys (s : State) : State := { s with core := {}, svc := {}, hq := {}, net := {}, sec := {} }

theorem State.upKey_self (s : State) : s.upKey s = s := by
  rw [State.upKey, runPlat_self, Core.after_of_c_eq rfl]

/-- What a key operation leaves is let through as it is. -/
theorem State.upKey_of_follows {s t : State} (h : s.Follows State.besideKeys steerRows t) : s.upKey t = t := by
  have hup : s.upKey t = { s.besideKeys.upKey t.besideKeys with
      core := s.core.after t.core, svc := t.svc, hq := t.hq, net := t.net, sec := t.sec } := rfl
  rw [hup, h.1, State.upKey_self, Core.after_of_c_eq h.2.1, ← h.1]
  rfl

/-- A heard request of the security core leaves what its service leaves. -/
theorem State.upKey_serve {s : State} {r : Req} {g : Gate} {d : Nat} (h : s.hears r g d) {f : Nat → State → State} {t : State}
    (ht : f d (s.taken r g) = t) (hf : (s.taken r g).Follows State.besideKeys steerRows t) : s.upKey (s.serve r g f) = t := by
  rw [State.serve_of_hears h, ht]
  exact State.upKey_of_follows ((s.answerOnly_taken r g).coarser.trans hf)

theorem State.sec_taken (s : State) (r : Req) (g : Gate) : (s.taken r g).sec = s.sec := (s.answerOnly_taken r g).same State.sec

theorem State.follows_queueOp (s : State) (ops : List KeyOp) :
    s.Follows State.besideKeys steerRows { s with sec := { s.sec with ops := ops } } := ⟨rfl, .refl _⟩

/-- A heard ATTEST with its nonce waits for the security core. -/
theorem exec_attest_of_hears {s : State} {r : Req} (h : s.hears r { maint := true, unclaimed := true, type := 0x70 } 0)
    {nonce : List Byte} (hn : nonce.length = 48) :
    let t := s.taken r { maint := true, unclaimed := true, type := 0x70 }
    exec (.attest r nonce) s = .next { t with sec := { t.sec with ops := s.sec.ops ++ [.attest r nonce] } } := by
  intro t
  have hexec : exec (.attest r nonce) s = .next (s.upKey (s.askAttest r nonce)) := rfl
  have hsec : t.sec = s.sec := State.sec_taken ..
  rw [hexec, State.askAttest, State.upKey_serve h (if_pos hn) (State.follows_queueOp ..), ← hsec]

/-- Why a challenge is refused is a matter of the key slots and the shared core. -/
theorem State.challengeCause_congr {s t : State} (hsec : t.sec = s.sec) (hcore : t.core = s.core) (d : Nat) :
    t.challengeCause d = s.challengeCause d := by
  unfold State.challengeCause State.challengeSlot State.keyCause State.orphan State.brownOrphan State.scratchOrphan State.slot
  rw [hsec, hcore]

theorem exec_challenge_of_hears {s : State} {r : Req} (h : s.hears r { maint := true, type := 0x71 } 0) {xs : List Byte}
    (hxs : xs.length = 48) (hcause : s.challengeCause 0 = none) :
    let t := s.taken r { maint := true, type := 0x71 }
    exec (.challenge r xs) s = .next { t with sec := { t.sec with ops := s.sec.ops ++ [.challenge r xs] } } := by
  intro t
  have hexec : exec (.challenge r xs) s = .next (s.upKey (s.askChallenge r xs)) := rfl
  have hsec : t.sec = s.sec := State.sec_taken ..
  have htaken : t.challengeCause 0 = none := (State.challengeCause_congr hsec (State.core_taken ..) 0).trans hcause
  rw [hexec, State.askChallenge, State.upKey_serve h _ (State.follows_queueOp t (s.sec.ops ++ [.challenge r xs]))]
  rw [if_neg (by simp [hxs]), htaken, ← hsec]

/-! ### The next completion of the security core (R389, R395) -/

/-- An attestation that is alone is the operation in progress. -/
theorem State.opNow_of_attest {s : State} {r : Req} {nonce : List Byte} (h : s.sec.ops = [.attest r nonce]) :
    s.opNow = some (.attest r nonce) := by
  have hnone : (if s.usable 8 then s.sec.ops.find? isSealing else none) = none := by
    rw [h]
    split <;> rfl
  rw [State.opNow, hnone, h]
  rfl

theorem State.dropOp_alone {s : State} {o : KeyOp} (h : s.sec.ops = [o]) :
    s.dropOp o = { s with sec := { s.sec with ops := [] } } := by
  rw [State.dropOp, h, List.erase_cons_head]

/-- An attestation does not tell what waits for the security core. -/
theorem State.attestation_of_ops (s : State) (ops : List KeyOp) (nonce : List Byte) :
    ({ s with sec := { s.sec with ops := ops } } : State).attestation nonce = s.attestation nonce := rfl

theorem exec_keyOperationDone_of_attest {s : State} {r : Req} {nonce : List Byte} (h : s.sec.ops = [.attest r nonce]) :
    exec .keyOperationDone s = .next ((({ s with sec := { s.sec with ops := [] } } : State).onCore (·.opDone)).answer r .ok
      (s.attestation nonce)) := by
  have hexec : exec .keyOperationDone s = .next (s.upKey s.finishOp) := rfl
  have hdone : ({ s with sec := { s.sec with ops := [] } } : State).AnswerOnly
      ((({ s with sec := { s.sec with ops := [] } } : State).onCore (·.opDone)).answer r .ok (s.attestation nonce)) :=
    .trans (State.answerOnly_onCore _ (.bump (.refl _) (Row.off_of_ne (by decide) (by decide)))) (State.answerOnly_answer ..)
  have hfinish : s.finishOp = (({ s with sec := { s.sec with ops := [] } } : State).onCore (·.opDone)).answer r .ok
      (s.attestation nonce) := by
    simp only [State.finishOp, State.opNow_of_attest h, State.dropOp_alone h, State.attestation_of_ops]
  rw [hexec, hfinish, State.upKey_of_follows ((s.follows_queueOp []).trans hdone.coarser)]

/-- Settles O34: each message that is heard is served, and the completion answers the attestation. -/
theorem recordMessages : Obligations.RecordMessages := by
  intro s r
  refine ⟨fun c n x h hc => exec_meter_of_hears h hc n x, fun e h he => ⟨fun hst => ?_, fun hst => ?_⟩,
    fun first n h hn hn' => exec_recorder_of_hears h first hn hn',
    fun first n h hn hn' hpages => exec_trend_of_hears h hpages first hn hn',
    fun nonce h hn => exec_attest_of_hears h hn, fun xs h hxs hcause => exec_challenge_of_hears h hxs hcause,
    fun nonce h => ⟨_, exec_keyOperationDone_of_attest h, ?_, rfl⟩⟩
  · rw [exec_trace_of_hears h he, if_neg (not_not_intro hst)]
  · rw [exec_trace_of_hears h he, if_pos hst]
  · exact congrArg (·.ops) ((State.answerOnly_answer ..).same State.sec)

end Sys2Proof.Machine
end

section
/-! Which register fields an operation can write, told by rows: events and event records (R399 to R405, R428, R429). -/

set_option Elab.async false

namespace Sys2Proof

/-- `k'` has every register field as `k` has it, but for fields of the rows `rs`. -/
structure Core.WritesIn (rs : List Row) (k k' : Core) : Prop where
  same : ∀ j, (∀ r ∈ rs, ∀ i < 1024, j ≠ r.key i) → k'.regs.at? j = k.regs.at? j

namespace Core.WritesIn

variable {rs rs' : List Row} {k k' k'' : Core} {r : Row} {i : Nat}

theorem refl (k : Core) : k.WritesIn rs k := ⟨fun _ _ => rfl⟩

theorem trans (h : k.WritesIn rs k') (h' : k'.WritesIn rs k'') : k.WritesIn rs k'' := ⟨fun j hj => (h'.same j hj).trans (h.same j hj)⟩

theorem mono (h : k.WritesIn rs k') (hs : rs ⊆ rs') : k.WritesIn rs' k' :=
  ⟨fun j hj => h.same j fun r hr => hj r (hs hr)⟩

/-- What leaves the register fields as they are writes none. -/
theorem of_regs (h : k.WritesIn rs k') (hr : k''.regs = k'.regs) : k.WritesIn rs k'' :=
  ⟨fun j hj => by rw [hr, h.same j hj]⟩

theorem fput {v : Nat} (h : k.WritesIn rs k') (hr : r ∈ rs := by decide) (hi : i < 1024 := by decide) :
    k.WritesIn rs (k'.fput r v i) := ⟨fun j hj => (Core.fput_at? k' (hj r hr i hi)).trans (h.same j hj)⟩

theorem bump {n : Nat} (h : k.WritesIn rs k') (hr : r ∈ rs := by decide) (hi : i < 1024 := by decide) :
    k.WritesIn rs (k'.bump r i n) := h.fput hr hi

theorem setFlag {b : Bool} (h : k.WritesIn rs k') (hr : r ∈ rs := by decide) (hi : i < 1024 := by decide) :
    k.WritesIn rs (k'.setFlag r b i) := h.fput hr hi

theorem ite {p : Prop} [Decidable p] {a b : Core} (ha : k.WritesIn rs a) (hb : k.WritesIn rs b) :
    k.WritesIn rs (if p then a else b) := by
  split
  · exact ha
  · exact hb

/-- A field of another row reads as before. -/
theorem fget (h : k.WritesIn rs k') (hr : ∀ r' ∈ rs, r.id ≠ r'.id := by decide) (hi : i < 1024 := by decide) :
    k'.fget r i = k.fget r i := by
  refine Core.fget_congr (h.same _ fun r' hr' i' hi' hkey => ?_)
  have := hr r' hr'
  simp only [Row.key] at hkey
  omega

theorem flag (h : k.WritesIn rs k') (hr : ∀ r' ∈ rs, r.id ≠ r'.id := by decide) (hi : i < 1024 := by decide) :
    k'.flag r i = k.flag r i := by unfold Core.flag; rw [h.fget hr hi]

end Core.WritesIn

/-- A field reads as before the write of a field of another row, whatever that one's item. -/
theorem Core.fget_fput_of_lt (k : Core) {r r' : Row} {v i i' : Nat} (h : r'.id < r.id) (hi : i' < 1024) :
    (k.fput r v i).fget r' i' = k.fget r' i' := by
  rw [Core.fget_fput, if_neg (by simp only [Row.key]; omega)]

/-- A count counts, and saturates. -/
theorem Core.fget_bump (k : Core) (r : Row) (i n : Nat) : (k.bump r i n).fget r i = satAdd r.width (k.fget r i) n := by
  have hpos := Nat.two_pow_pos r.width
  rw [Core.bump, Core.fget_fput_self, Nat.mod_eq_of_lt (by unfold satAdd; omega)]

/-! ### Event rings (R428, R429) -/

/-- `k'` is `k` after entries offered to event rings: the recorder stands, and only fields of the rings have been written. -/
structure Core.Posts (k k' : Core) : Prop where
  writes : k.WritesIn recorderRows k'
  evr : k'.evr = k.evr

namespace Core.Posts

variable {k k' k'' : Core}

theorem refl (k : Core) : k.Posts k := ⟨.refl k, rfl⟩

theorem trans (h : k.Posts k') (h' : k'.Posts k'') : k.Posts k'' := ⟨h.writes.trans h'.writes, h'.evr.trans h.evr⟩

theorem of_regs (h : k.Posts k') (hr : k''.regs = k'.regs) (he : k''.evr = k'.evr) : k.Posts k'' :=
  ⟨h.writes.of_regs hr, he.trans h.evr⟩

theorem fput {r : Row} {v i : Nat} (h : k.Posts k') (hr : r ∈ recorderRows) (hi : i < 1024) :
    k.Posts (k'.fput r v i) := ⟨h.writes.fput hr hi, h.evr⟩

end Core.Posts

theorem Core.signal_evr (k : Core) (v : Nat) : (k.signal v).evr = k.evr := by
  unfold Core.signal; split <;> rfl

theorem Core.Posts.signal {k k' : Core} (h : k.Posts k') (v : Nat) : k.Posts (k'.signal v) :=
  h.of_regs (Core.signal_regs ..) (Core.signal_evr ..)

theorem Core.posts_ringWrite (k : Core) {e : Nat} (he : e < 1024) (type source d0 d1 : Nat) :
    k.Posts (k.ringWrite e type source d0 d1) := by
  unfold Core.ringWrite
  extract_lets q size tail root ph k1 x k2 k3 k4 k5
  have h3 : k.Posts k3 := .fput (.of_regs (.refl k) rfl rfl) (by decide) he
  have h4 : k.Posts k4 := by
    unfold k4
    split
    · exact h3.fput (by decide) he
    · exact h3
  split
  · exact .fput (.fput (.refl k) (by decide) he) (by decide) he
  split
  · exact .fput (.fput (.of_regs (.refl k) rfl rfl) (by decide) he) (by decide) he
  · exact .signal (h4.of_regs (k'' := k5) rfl rfl) _

theorem Core.posts_ringPost (k : Core) {e : Nat} (he : e < 1024) (type source d0 d1 : Nat) :
    k.Posts (k.ringPost e type source d0 d1) := by
  unfold Core.ringPost
  dsimp only
  split
  · exact .refl k
  split
  · exact .refl k
  split
  · exact .fput (.refl k) (by decide) he
  split
  · exact .fput (.of_regs (.refl k) rfl rfl) (by decide) he
  · exact Core.posts_ringWrite k he ..

theorem Core.posts_postEvent (k : Core) (type source d0 d1 : Nat) (may : Nat → Bool) :
    k.Posts (k.postEvent type source d0 d1 may) := by
  refine List.foldlRecOn _ _ (.refl k) fun k' h e he => ?_
  split
  · have := List.mem_range.1 he
    exact h.trans (Core.posts_ringPost k' (by omega) ..)
  · exact h

/-! ### Event records (R399 to R405) -/

theorem Core.writesIn_putPair {k k' : Core} {rs : List Row} {lo hi : Row} {v : Nat} (h : k.WritesIn rs k')
    (hlo : lo ∈ rs := by decide) (hhi : hi ∈ rs := by decide) : k.WritesIn rs (k'.putPair lo hi v) := (h.fput hlo).fput hhi

theorem Core.writesIn_dropEvent (k : Core) : k.WritesIn recorderRows k.dropEvent := by
  unfold Core.dropEvent
  refine .of_regs (.bump (r := Reg.EVR_DROPPED_COUNT) ?_) (Core.signal_regs ..)
  exact .of_regs (.refl k) rfl

/-- The record that an event is given (R399): its number, its code, the time and the payload. -/
def Core.newRecord (k : Core) (code domain : Nat) (payload : List Byte) (deferred : Bool) (t : Nat × Nat × Nat) : Rec :=
  let r : Rec := { seq := k.evr.next, wallSec := t.1, wallFrac := t.2.1, era := t.2.2, mono := k.c, code := code
                   boot := k.fget Reg.RST_COUNT_COLD, domain := domain, sev := sevOf code, deferred := deferred
                   payload := payload, crc := 0 }
  { r with crc := Machine.crc32c r.bytes }

/-- A record is the last of the FIFO, under the next number; beside it only fields of the recorder and the rings change. -/
theorem Core.pushRecord_facts (k : Core) (code domain : Nat) (payload : List Byte) (deferred : Bool) (t : Nat × Nat × Nat) :
    k.WritesIn recorderRows (k.pushRecord code domain payload deferred t) ∧
      (k.pushRecord code domain payload deferred t).evr.next = k.evr.next + 1 ∧
      (k.pushRecord code domain payload deferred t).evr.fifo = k.evr.fifo ++ [k.newRecord code domain payload deferred t] := by
  have hpost : ∀ {k' : Core} (seq : Nat),
      k'.Posts (if sevOf code ≥ 2 then k'.postEvent 6 0 code seq (recReadable · domain) else k') := fun {k'} seq => by
    split
    · exact Core.posts_postEvent ..
    · exact .refl k'
  unfold Core.pushRecord
  extract_lets e r r' n fills noCirc k1 k2 k3 k4 k5
  have h2 : k.WritesIn recorderRows k2 := Core.writesIn_putPair (.of_regs (.refl k) rfl)
  have h3 : k.WritesIn recorderRows k3 := .ite (Core.writesIn_putPair h2) h2
  have h4 : k.WritesIn recorderRows k4 := h3.fput
  have h5 : k.WritesIn recorderRows k5 := .ite h4.fput h4
  have hevr : k5.evr = k1.evr := by simp only [k5, k4, k3, k2]; split <;> split <;> rfl
  have hlast := hpost (k' := k5) r'.seq
  refine ⟨h5.trans hlast.writes, ?_, ?_⟩
  · rw [hlast.evr, hevr]
  · rw [hlast.evr, hevr]
    rfl

theorem Core.writesIn_record (k : Core) (code domain : Nat) (payload : List Byte) :
    k.WritesIn recorderRows (k.record code domain payload) :=
  .ite (.ite (Core.writesIn_dropEvent k) (.of_regs (.refl k) rfl)) (.ite (Core.pushRecord_facts ..).1 (Core.writesIn_dropEvent k))

theorem Core.record_c (k : Core) (code domain : Nat) (payload : List Byte) : (k.record code domain payload).c = k.c :=
  (Core.keeps_record ..).1

theorem Core.writesIn_setState (k : Core) (st cause : Nat) :
    k.WritesIn ([Reg.GLB_STATE_STATE, Reg.GLB_STATE_MAINT_CAUSE] ++ recorderRows) (k.setState st cause) := by
  have hput : k.WritesIn ([Reg.GLB_STATE_STATE, Reg.GLB_STATE_MAINT_CAUSE] ++ recorderRows)
      ((k.fput Reg.GLB_STATE_STATE st).fput Reg.GLB_STATE_MAINT_CAUSE cause) := .fput (.fput (.refl k))
  have hpost := (Core.posts_postEvent ((k.fput Reg.GLB_STATE_STATE st).fput Reg.GLB_STATE_MAINT_CAUSE cause) 4 0
    (st + 256 * cause) k.state fun _ => true).signal 83
  exact .ite (.refl k) (hput.trans (hpost.writes.mono (List.subset_append_right ..)))

end Sys2Proof

namespace Sys2Proof.Machine

/-- `t` shows the same as `s` under `m`, and differs from it in register fields of the rows `rs` only. -/
def State.Within {β : Type} (m : State → β) (rs : List Row) (s t : State) : Prop := m t = m s ∧ s.core.WritesIn rs t.core

namespace State.Within

variable {β : Type} {m : State → β} {rs rs' : List Row} {s t u : State}

theorem refl (s : State) : s.Within m rs s := ⟨rfl, .refl _⟩

theorem trans (h : s.Within m rs t) (h' : t.Within m rs u) : s.Within m rs u := ⟨h'.1.trans h.1, h.2.trans h'.2⟩

theorem mono (h : s.Within m rs t) (hs : rs ⊆ rs') : s.Within m rs' t := ⟨h.1, h.2.mono hs⟩

theorem ite {p : Prop} [Decidable p] (ht : s.Within m rs t) (hu : s.Within m rs u) : s.Within m rs (if p then t else u) := by
  split
  · exact ht
  · exact hu

theorem onCore (h : s.Within m rs t) {f : Core → Core} (hf : t.core.WritesIn rs (f t.core)) (hm : m (t.onCore f) = m t := by rfl) :
    s.Within m rs (t.onCore f) := h.trans ⟨hm, hf⟩

theorem foldl {α : Type} {f : State → α → State} (h : ∀ (s : State) x, s.Within m rs (f s x)) (l : List α) (s : State) :
    s.Within m rs (l.foldl f s) :=
  List.foldlRecOn l f (.refl s) fun t ht x _ => ht.trans (h t x)

theorem record (h : s.Within m rs t) (code domain : Nat) (payload : List Byte) (hs : recorderRows ⊆ rs := by decide)
    (hm : m (t.record code domain payload) = m t := by rfl) : s.Within m rs (t.record code domain payload) :=
  h.trans ⟨hm, (Core.writesIn_record ..).mono hs⟩

theorem fget (h : s.Within m rs t) {r : Row} {i : Nat} (hr : ∀ r' ∈ rs, r.id ≠ r'.id := by decide) (hi : i < 1024 := by decide) :
    t.core.fget r i = s.core.fget r i := h.2.fget hr hi

theorem flag (h : s.Within m rs t) {r : Row} {i : Nat} (hr : ∀ r' ∈ rs, r.id ≠ r'.id := by decide) (hi : i < 1024 := by decide) :
    t.core.flag r i = s.core.flag r i := h.2.flag hr hi

end State.Within

end Sys2Proof.Machine
end

section
/-! The visits of the roving spare (R163, R164, R179). -/

set_option Elab.async false

namespace Sys2Proof.Machine

/-- What a row of metrology may change holds a change of the shared core and of metrology. -/
theorem State.upMet_eq {s t : State} (hc : t.core.c = s.core.c) (ht : t = { s with core := t.core, met := t.met }) :
    s.upMet t = t := by
  rw [ht]
  simp [State.upMet, Core.after_of_c_eq hc]

theorem exec_rovePhaseEnd {s : State} (h : s.sampling = true) (r : RoveResult) :
    exec (.rovePhaseEnd r) s = .next (s.upMet (s.rove r)) := by
  have hexec : exec (.rovePhaseEnd r) s = .next (s.upMet (if s.sampling then s.rove r else s)) := rfl
  rw [hexec, if_pos h]

/-! ### The coefficients in the store (R179) -/

/-- The copy stored is the newest one. -/
theorem newestCal_storeCal (m : Met) : newestCal (storeCal m) = some (((newestCal m).map (·.1)).getD 0 + 1, m.gains) := by
  obtain ⟨n, hn⟩ : ∃ n, ((newestCal m).map (·.1)).getD 0 = n := ⟨_, rfl⟩
  have ha : ∀ a, m.calA = some a → a.1 ≤ n := by
    intro a h
    rw [← hn, newestCal, h]
    cases m.calB with
    | none => simp
    | some b =>
      dsimp only
      split
      · exact le_rfl
      · next hlt => exact Nat.le_of_not_le hlt
  have hb : ∀ b, m.calB = some b → b.1 ≤ n := by
    intro b h
    rw [← hn, newestCal, h]
    cases m.calA with
    | none => simp
    | some a =>
      dsimp only
      split
      · assumption
      · exact le_rfl
  unfold storeCal
  rw [hn]
  dsimp only
  split
  · cases h : m.calB with
    | none => simp [newestCal]
    | some b =>
      have := hb b h
      simp [newestCal, show b.1 ≤ n + 1 by omega]
  · cases h : m.calA with
    | none => simp [newestCal]
    | some a =>
      have := ha a h
      simp [newestCal, show ¬n + 1 ≤ a.1 by omega]

theorem storeCal_gains (m : Met) : (storeCal m).gains = m.gains := by unfold storeCal; dsimp only; split <;> rfl
theorem storeCal_rejects (m : Met) : (storeCal m).rejects = m.rejects := by unfold storeCal; dsimp only; split <;> rfl

/-! ### The judgement of new coefficients (R164) -/

/-- Coefficients within the bounds are taken and stored, and the channel is suspect no more. -/
theorem State.judge_of_accepted {s : State} {ch : Nat} {r : RoveResult} (hch : ch < 27) (hsat : r.saturated = false)
    (hgain : r.gainDiff ≤ 200) (hphase : r.phaseDiff ≤ 50) : let t := s.judge ch r
    t.met.gains = s.met.gains.put ch r.newGain ∧ t.met.rejects = s.met.rejects.put ch 0 ∧
      newestCal t.met = some (((newestCal s.met).map (·.1)).getD 0 + 1, t.met.gains) ∧
      t.core.flag Reg.MET_CH_STAT_SUBSTITUTED ch = false ∧ t.core.flag Reg.MET_CH_STAT_CAL_SUSPECT ch = false := by
  intro t
  let m : Met := { s.met with gains := s.met.gains.put ch r.newGain, rejects := s.met.rejects.put ch 0
                              calC := s.met.calC.put ch s.core.c }
  let k := ((s.core.setFlag Reg.MET_CH_STAT_SUBSTITUTED false ch).fput Reg.MET_CH_GAIN_GAIN r.newGain.toNat ch).setFlag
    Reg.MET_CH_STAT_CAL_SUSPECT false ch
  have ht : t = ({ s with core := k, met := storeCal m } : State).suspectPoints ch false := by
    simp only [t, State.judge, hsat, Bool.false_eq_true, if_false, if_pos (And.intro hgain hphase)]
    rfl
  have hmet : t.met = { storeCal m with points := t.met.points } := by rw [ht]; rfl
  have hcore : t.core = k := by rw [ht]; rfl
  have hsub : k.flag Reg.MET_CH_STAT_SUBSTITUTED ch = false := by
    have hw : (s.core.setFlag Reg.MET_CH_STAT_SUBSTITUTED false ch).WritesIn [Reg.MET_CH_GAIN_GAIN, Reg.MET_CH_STAT_CAL_SUSPECT] k :=
      .setFlag (.fput (.refl _) (by decide) (by omega)) (by decide) (by omega)
    rw [hw.flag (by decide) (by omega), Core.flag_setFlag _ _ _ _ (by decide)]
  refine ⟨?_, ?_, ?_, ?_, ?_⟩
  · rw [hmet]; exact storeCal_gains m
  · rw [hmet]; exact storeCal_rejects m
  · rw [hmet]; exact (newestCal_storeCal m).trans (by rw [storeCal_gains]; rfl)
  · rw [hcore]; exact hsub
  · rw [hcore]; exact Core.flag_setFlag _ _ _ _ (by decide)

/-- Other coefficients are left out and counted, by channel and in all. -/
theorem State.judge_of_rejected {s : State} {ch : Nat} {r : RoveResult} (hsat : r.saturated = false)
    (hdiff : 200 < r.gainDiff ∨ 50 < r.phaseDiff) : let t := s.judge ch r
    t.met.gains = s.met.gains ∧ t.met.rejects = s.met.rejects.put ch (s.met.rejects.atD ch 0 + 1) ∧
      t.core.fget Reg.MET_CAL_REJECTS = satAdd Reg.MET_CAL_REJECTS.width (s.core.fget Reg.MET_CAL_REJECTS) 1 := by
  intro t
  have hnot : ¬(r.gainDiff ≤ 200 ∧ r.phaseDiff ≤ 50) := by omega
  let n := s.met.rejects.atD ch 0 + 1
  let k := (s.core.setFlag Reg.MET_CH_STAT_SUBSTITUTED false ch).bump Reg.MET_CAL_REJECTS
  let x : State := ({ s with core := k, met := { s.met with rejects := s.met.rejects.put ch n } } : State).record 0x0401 0
    (le ch 1 ++ le n 2)
  have ht : t = if n ≥ 3 then (x.onCore (·.setFlag Reg.MET_CH_STAT_CAL_SUSPECT true ch)).suspectPoints ch true else x := by
    simp only [t, State.judge, hsat, Bool.false_eq_true, if_false, if_neg hnot]
    rfl
  have hcount : x.core.fget Reg.MET_CAL_REJECTS = satAdd Reg.MET_CAL_REJECTS.width (s.core.fget Reg.MET_CAL_REJECTS) 1 := by
    have hrec : x.core.fget Reg.MET_CAL_REJECTS = k.fget Reg.MET_CAL_REJECTS := (Core.writesIn_record k ..).fget
    rw [hrec, Core.fget_bump, Core.setFlag, Core.fget_fput_of_lt _ (by decide) (by decide)]
  rw [ht]
  split
  · exact ⟨rfl, rfl, (Core.fget_fput_of_lt _ (by decide) (by decide)).trans hcount⟩
  · exact ⟨rfl, rfl, hcount⟩

/-! ### The phases of a visit (R163) -/

/-- The spare moves on from any channel but the last. -/
theorem State.nextVisit_core {s : State} {ch : Nat} (h : ch < 27) :
    (s.nextVisit ch).core = (s.core.fput Reg.MET_STAT_ROVE_CH (ch + 1)).fput Reg.MET_STAT_ROVE_PHASE 1 := by
  rw [State.nextVisit, State.onCore_core, if_neg (by omega)]

theorem State.nextVisit_writes (s : State) (ch : Nat) :
    s.core.WritesIn [Reg.MET_STAT_ROVE_CH, Reg.MET_STAT_ROVE_PHASE] (s.nextVisit ch).core :=
  .ite (.fput (.refl _)) (.fput (.fput (.refl _)))

/-- PARALLEL ends with the transfer that it measured. -/
theorem State.rove_of_parallel {s : State} {r : RoveResult} (hph : s.core.fget Reg.MET_STAT_ROVE_PHASE = 1)
    (hsat : r.saturated = false) : s.rove r = { s with
      core := (s.core.fput Reg.MET_STAT_ROVE_PHASE 2).setFlag Reg.MET_CH_STAT_SUBSTITUTED true (s.core.fget Reg.MET_STAT_ROVE_CH)
      met := { s.met with wave := { s.met.wave with ratio := r.ratio, delay := r.delay } } } := by
  unfold State.rove
  rw [hph]
  exact if_neg (by simp [hsat])

theorem State.rove_of_second {s : State} (r : RoveResult) (hph : s.core.fget Reg.MET_STAT_ROVE_PHASE = 2)
    (hhold : s.plat.hold = false) : s.rove r = { s with core := s.core.fput Reg.MET_STAT_ROVE_PHASE 3 } := by
  unfold State.rove
  rw [hph]
  exact if_neg (by simp [hhold])

theorem State.rove_of_third {s : State} (r : RoveResult) (hph : s.core.fget Reg.MET_STAT_ROVE_PHASE = 3) :
    s.rove r = (s.judge (s.core.fget Reg.MET_STAT_ROVE_CH) r).nextVisit (s.core.fget Reg.MET_STAT_ROVE_CH) := by
  unfold State.rove
  rw [hph]
  rfl

/-- The spare's own calibration ends a round. -/
theorem State.rove_of_own {s : State} (r : RoveResult) (hph : s.core.fget Reg.MET_STAT_ROVE_PHASE = 4)
    (hhold : s.plat.hold = false) : s.rove r = { s with
      core := ((s.core.bump Reg.MET_CAL_ROUNDS).fput Reg.MET_STAT_ROVE_CH 0).fput Reg.MET_STAT_ROVE_PHASE 1 } := by
  unfold State.rove
  rw [hph]
  exact if_neg (by simp [hhold])

/-- Settles O22: each phase by its lemma above, the judgement of phase 3 by `State.judge_of_accepted` and
`State.judge_of_rejected`. -/
theorem rovingSpare : Obligations.RovingSpare := by
  intro s r hs hhold ch ph
  have hexec := exec_rovePhaseEnd hs r
  refine ⟨fun hph hsat => ?_, fun hph => ?_, fun hph hsat hch hgain hphase => ?_, fun hph hsat hdiff => ?_, fun hph => ?_⟩
  · rw [State.rove_of_parallel hph hsat] at hexec
    refine ⟨_, hexec.trans (congrArg _ (State.upMet_eq rfl rfl)), ⟨rfl, fun j hj => ?_⟩, ?_, Core.flag_setFlag _ _ _ _ (by decide)⟩
    · simp only [List.mem_cons, List.not_mem_nil, or_false, not_or] at hj
      exact (Core.fput_at? _ hj.2).trans (Core.fput_at? _ hj.1)
    · exact (Core.fget_fput_of_lt _ (by decide) (by decide)).trans (Core.fget_fput_self ..)
  · rw [State.rove_of_second r hph hhold] at hexec
    exact ⟨_, hexec.trans (congrArg _ (State.upMet_eq rfl rfl)), Core.only_fput .., Core.fget_fput_self ..⟩
  · rw [State.rove_of_third r hph] at hexec
    obtain ⟨hgains, hrejects, hcal, hsub, hsuspect⟩ := State.judge_of_accepted (s := s) hch hsat hgain hphase
    have hnext := (s.judge ch r).nextVisit_writes ch
    have hcore := (s.judge ch r).nextVisit_core hch
    refine ⟨_, hexec, ?_, ?_, hcal, ?_, ?_, ?_, ?_⟩
    · exact (congrArg (SMap.at? · ch) hgains).trans ((SMap.at?_put ..).trans (if_pos rfl))
    · exact (congrArg (SMap.at? · ch) hrejects).trans ((SMap.at?_put ..).trans (if_pos rfl))
    · exact (hnext.flag (by decide) (by omega)).trans hsub
    · exact (hnext.flag (by decide) (by omega)).trans hsuspect
    · refine (congrArg (Core.fget · Reg.MET_STAT_ROVE_CH) hcore).trans ?_
      rw [Core.fget_fput, if_neg (by decide), Core.fget_fput_self]
      exact Nat.mod_eq_of_lt (show ch + 1 < 2 ^ 5 by omega)
    · exact (congrArg (Core.fget · Reg.MET_STAT_ROVE_PHASE) hcore).trans (Core.fget_fput_self ..)
  · rw [State.rove_of_third r hph] at hexec
    obtain ⟨hgains, hrejects, hcount⟩ := State.judge_of_rejected (s := s) (ch := ch) hsat hdiff
    refine ⟨_, hexec, hgains, ?_, ((s.judge ch r).nextVisit_writes ch).fget.trans hcount⟩
    exact (congrArg (SMap.at? · ch) hrejects).trans ((SMap.at?_put ..).trans (if_pos rfl))
  · rw [State.rove_of_own r hph hhold] at hexec
    refine ⟨_, hexec.trans (congrArg _ (State.upMet_eq rfl rfl)), ?_, Core.fget_fput_self ..⟩
    exact (Core.fget_fput ..).trans ((if_neg (by decide)).trans (Core.fget_fput_self ..))

end Sys2Proof.Machine
end

section
/-! A sample of metrology: what each of its parts leaves as it was, and what it adds to the registers (R158, R165, R169, R172, R174). -/

set_option Elab.async false

namespace Sys2Proof

/-- A flag that stands stays when a flag of its row is set. -/
theorem Core.flag_setFlag_of_flag {k : Core} {r : Row} {i : Nat} (h : k.flag r i = true) (hw : 0 < r.width) (i' : Nat) :
    (k.setFlag r true i').flag r i = true := by
  by_cases hkey : r.key i' = r.key i
  · obtain rfl : i' = i := by simp only [Row.key] at hkey; omega
    exact Core.flag_setFlag _ _ _ _ hw
  · unfold Core.flag Core.setFlag
    rw [Core.fget_fput, if_neg hkey]
    exact h

end Sys2Proof

namespace Sys2Proof.Machine

/-- Changes of the shared core one after another are one change. -/
theorem State.foldl_onCore {α : Type} (f : Core → α → Core) (l : List α) (s : State) :
    l.foldl (fun (s : State) x => s.onCore (f · x)) s = s.onCore fun k => l.foldl f k := by
  induction l generalizing s with
  | nil => rfl
  | cons x l ih => exact ih _

/-! ### The channels and the cycle (R158 to R167) -/

/-- What a sample keeps of metrology until its products enter: the count and the time of the sample, the configuration, the
warning, and the windows. -/
def State.sampleBase (s : State) :=
  (s.met.samples, s.met.lastC, s.met.lastWall, s.met.cfg, s.met.warned, s.met.warnDue, s.met.products)

/-- Rows that the tracking of the cycle shows. -/
def freqRows : List Row := [Reg.MET_STAT_FREQ_LOCK, Reg.MET_FREQ_MHZ]

theorem State.within_noteRaw (s : State) (raw : List (Int × Nat)) : s.Within State.sampleBase freqRows (s.noteRaw raw) := by
  unfold State.noteRaw
  extract_lets m _ _ t
  have hcond : ∀ (u : State) c, u.Within State.sampleBase freqRows (u.condition c) := fun _ _ => ⟨rfl, .refl _⟩
  exact .trans (t := t) ⟨rfl, .refl _⟩ (.foldl hcond _ _)

theorem State.within_readyResults (s : State) (f : Quantity → Option Word) :
    s.Within State.sampleBase freqRows (s.readyResults f) := ⟨rfl, .refl _⟩

theorem State.within_endCycle (s : State) : s.Within State.sampleBase freqRows s.endCycle := by
  unfold State.endCycle
  extract_lets ok lock irms apparent _ s1 window s2 s3 w w' _
  have h1 : s.Within State.sampleBase freqRows s1 := ⟨rfl, .fput (.setFlag (.refl _))⟩
  have h2 : s.Within State.sampleBase freqRows s2 := h1.trans (State.within_readyResults ..)
  have h3 : s.Within State.sampleBase freqRows s3 := .ite (h2.trans (State.within_readyResults ..)) h2
  exact h3.trans ⟨rfl, .refl _⟩

theorem State.within_trackCycle (s : State) : s.Within State.sampleBase freqRows s.trackCycle := by
  unfold State.trackCycle
  extract_lets w x locked clock ended w' _ t
  have ht : s.Within State.sampleBase freqRows t := by
    unfold t
    clear_value x
    cases x with
    | none => exact ⟨rfl, .refl _⟩
    | some f => exact ⟨rfl, .refl _⟩
  exact .ite (ht.trans (State.within_endCycle _)) ht

/-! ### Clipped channels (R159, R169) -/

/-- Rows that tell of clipped channels. -/
def clipRows : List Row := [Reg.MET_OVR_COUNT, Reg.MET_CH_STAT_OVERRANGE]

/-- The shared core after the count and the mark of one clipped channel. -/
def clipped (k : Core) (c : Nat) : Core := (k.bump Reg.MET_OVR_COUNT).setFlag Reg.MET_CH_STAT_OVERRANGE true c

theorem clipped_count (k : Core) (c : Nat) :
    (clipped k c).fget Reg.MET_OVR_COUNT = satAdd 32 (k.fget Reg.MET_OVR_COUNT) 1 :=
  (Core.fget_fput_of_lt _ (by decide) (by decide)).trans (Core.fget_bump ..)

/-- Clipped channels are noted in the shared core, in the cycle and in the window; the spare is marked too where it stands for one. -/
theorem State.noteClips_eq (s : State) (clips : List (Fin 29)) : ∃ k x y,
    s.noteClips clips = { s with core := k, met := { s.met with clipCycle := x, clipWindow := y } } ∧
      (k = (clips.map Fin.val).foldl clipped s.core ∨
        k = ((clips.map Fin.val).foldl clipped s.core).setFlag Reg.MET_CH_STAT_OVERRANGE true 28) := by
  unfold State.noteClips
  extract_lets s1 add _ s2
  have h1 : s1 = s.onCore fun k => (clips.map Fin.val).foldl clipped k := by
    rw [← State.foldl_onCore]
    simp only [s1, bind_pure_comp, List.map_eq_map]
    rfl
  clear_value s1
  subst h1
  split
  · exact ⟨_, _, _, rfl, .inr rfl⟩
  · exact ⟨_, _, _, rfl, .inl rfl⟩

theorem State.within_noteClips (s : State) (clips : List (Fin 29)) : s.Within State.sampleBase clipRows (s.noteClips clips) := by
  obtain ⟨k, x, y, heq, hk⟩ := s.noteClips_eq clips
  have hfold : s.core.WritesIn clipRows ((clips.map Fin.val).foldl clipped s.core) := by
    refine List.foldlRecOn _ clipped (.refl _) fun k hk c hc => ?_
    obtain ⟨i, -, rfl⟩ := List.mem_map.1 hc
    exact .setFlag (.bump hk) (by decide) (by omega)
  rw [heq]
  refine ⟨rfl, ?_⟩
  obtain rfl | rfl := hk
  · exact hfold
  · exact hfold.setFlag

/-- The noting of clips leaves the samples in use. -/
theorem State.phaseProducts_noteClips (s : State) (clips : List (Fin 29)) (ch : Nat × Nat) :
    (s.noteClips clips).phaseProducts ch = s.phaseProducts ch := by
  obtain ⟨k, x, y, heq, -⟩ := s.noteClips_eq clips
  rw [heq]
  rfl

/-- One clipped channel is counted once and marked. -/
theorem State.noteClips_one (s : State) (ch : Fin 29) :
    (s.noteClips [ch]).core.fget Reg.MET_OVR_COUNT = satAdd 32 (s.core.fget Reg.MET_OVR_COUNT) 1 ∧
      (s.noteClips [ch]).core.flag Reg.MET_CH_STAT_OVERRANGE ch = true := by
  obtain ⟨k, x, y, heq, hk⟩ := s.noteClips_eq [ch]
  have hflag : (clipped s.core ch).flag Reg.MET_CH_STAT_OVERRANGE ch = true := Core.flag_setFlag _ _ _ _ (by decide)
  rw [heq]
  obtain rfl | rfl := hk
  · exact ⟨clipped_count .., hflag⟩
  · exact ⟨(Core.fget_fput_of_lt _ (by decide) (by decide)).trans (clipped_count ..), Core.flag_setFlag_of_flag hflag (by decide) 28⟩

/-! ### Products and registers (R165, R172, R174) -/

/-- The products of the only phase of the only element enter its window. -/
theorem State.noteProducts_one {s : State} {el : ElementDef} {ch : Nat × Nat} (hel : s.met.cfg.elements = [el])
    (hch : el.phases = [ch]) : s.noteProducts.met.products.atD (phaseKey 0 0) [] =
      (s.phaseProducts ch :: s.met.products.atD (phaseKey 0 0) []).take keptProducts := by
  have hxs : s.noteProducts.met.products =
      ([(phaseKey 0 0, s.phaseProducts ch)] : List (Nat × (Int × Int))).foldl (fun (m : SMap (List (Int × Int))) x =>
        m.alter x.1 [] fun l => (x.2 :: l).take keptProducts) s.met.products := by
    simp [State.noteProducts, hel, hch]
  rw [hxs]
  exact SMap.atD_put_self ..

theorem orStatus_regs (b : PointBlock) (bit : Nat) (on : Bool) : (orStatus b bit on).regs = b.regs := by
  unfold orStatus; split <;> rfl

/-- Outside a warning a duty's registers take what the sample routes to them. -/
theorem State.accumulate_eq {s : State} (hstandby : s.standby = false) (hpending : s.pendingOn = false) (clips : List Nat) :
    ∃ ps ex, s.accumulate clips = { s with met := { s.met with points := ps, extra := ex } } ∧
      ps.map (·.regs) = s.sizedPoints.map fun x => addAll x.2.1.regs (s.pointSample x.1).adds := by
  unfold State.accumulate
  simp only [hstandby, hpending, Bool.or_self, Bool.false_and, Bool.false_eq_true, if_false]
  refine ⟨_, _, rfl, ?_⟩
  simp only [List.map_map, Function.comp_def, orStatus_regs]

theorem State.noteProducts_core (s : State) : s.noteProducts.core = s.core := rfl
theorem State.energyResults_core (s : State) : s.energyResults.core = s.core := rfl
theorem State.thermalErrors_core (s : State) : s.thermalErrors.core = s.core := rfl

/-- A sample once its cycle has been tracked, of which `s1` is what the tracking left: its clips, its products, its registers. -/
def State.sampleRest (s1 : State) : State :=
  ((s1.noteClips s1.clippedNow).noteProducts.accumulate (s1.clippedNow.map (·.val))).energyResults.thermalErrors

theorem State.sampleRest_facts {s0 s1 : State} (htrack : s0.Within State.sampleBase freqRows s1) (hstandby : s0.standby = false)
    (hpending : s0.pendingOn = false) : let s2 := (s1.noteClips s1.clippedNow).noteProducts
    let t := s1.sampleRest
    (t.met.samples = s0.met.samples ∧ t.met.lastC = s0.met.lastC ∧ t.met.lastWall = s0.met.lastWall ∧ t.met.warnDue = s0.met.warnDue) ∧
      t.met.points.map (·.regs) = s2.sizedPoints.map (fun x => addAll x.2.1.regs (s2.pointSample x.1).adds) ∧
      (∀ el ch, s0.met.cfg.elements = [el] → el.phases = [ch] → t.met.products.atD (phaseKey 0 0) [] =
        (s1.phaseProducts ch :: s0.met.products.atD (phaseKey 0 0) []).take keptProducts) ∧
      ∀ ch, s1.clippedNow = [ch] → t.core.fget Reg.MET_OVR_COUNT = satAdd 32 (s0.core.fget Reg.MET_OVR_COUNT) 1 ∧
        t.core.flag Reg.MET_CH_STAT_OVERRANGE ch = true := by
  intro s2 t
  have hnoted : s0.Within State.sampleBase (freqRows ++ clipRows) (s1.noteClips s1.clippedNow) :=
    (htrack.mono (List.subset_append_left ..)).trans ((State.within_noteClips ..).mono (List.subset_append_right ..))
  obtain ⟨hsamples, hlastC, hwall, hcfg, hwarned, hdue, hproducts⟩ : _ ∧ _ ∧ _ ∧ _ ∧ _ ∧ _ ∧ _ := by
    simpa only [State.sampleBase, Prod.mk.injEq] using hnoted.1
  have hstandby2 : s2.standby = false := by
    have hrole : (s1.noteClips s1.clippedNow).core.fget Reg.GLB_UNIT_ROLE = s0.core.fget Reg.GLB_UNIT_ROLE := hnoted.fget
    rw [State.standby, Core.isStandby, State.noteProducts_core, hrole]
    exact hstandby
  have hpending2 : s2.pendingOn = false := (congrArg Option.isSome hwarned).trans hpending
  obtain ⟨ps, ex, hacc, hregs⟩ := State.accumulate_eq hstandby2 hpending2 (s1.clippedNow.map (·.val))
  have ht : t = ({ s2 with met := { s2.met with points := ps, extra := ex } } : State).energyResults.thermalErrors := by
    rw [← hacc]
    rfl
  have hcore : t.core = (s1.noteClips s1.clippedNow).core := by
    rw [ht, State.thermalErrors_core, State.energyResults_core]
    exact State.noteProducts_core _
  clear_value t
  rw [hcore, ht]
  refine ⟨⟨hsamples, hlastC, hwall, hdue⟩, hregs, fun el ch hel hch => ?_, fun ch hclip => ?_⟩
  · have hel1 : (s1.noteClips s1.clippedNow).met.cfg.elements = [el] := (congrArg (·.elements) hcfg).trans hel
    refine (State.noteProducts_one hel1 hch).trans ?_
    rw [State.phaseProducts_noteClips, hproducts]
  · obtain ⟨hcount, hflag⟩ := s1.noteClips_one ch
    rw [hclip, hcount, htrack.fget]
    exact ⟨rfl, hflag⟩

theorem State.sample_eq (s : State) (raw : List (Int × Nat)) : s.sample raw =
    (({ s with met := { s.met with samples := s.met.samples + 1, lastC := s.core.c, lastWall := s.wallNow } } : State).noteRaw
      raw).trackCycle.sampleRest := rfl

/-- Settles O20: the sample is followed from its start through its cycle by `State.Within`, and from there by
`State.sampleRest_facts`. -/
theorem metrologySample : Obligations.MetrologySample := by
  intro s volts amps spare hs hwarn hpending hstandby s0 s1 s2
  have htrack : s0.Within State.sampleBase freqRows s1 := (State.within_noteRaw ..).trans (State.within_trackCycle _)
  obtain ⟨⟨hsamples, hlastC, hwall, hdue⟩, hregs, hproducts, hclips⟩ := State.sampleRest_facts htrack hstandby hpending
  have hsample : s.sample (converters volts amps spare) = s1.sampleRest := State.sample_eq ..
  have hexec : exec (.metrologySample volts amps spare) s = .next (s.upMet (if !s.sampling then s else
      if (s.sample (converters volts amps spare)).met.warnDue then (s.sample (converters volts amps spare)).warningSample
      else s.sample (converters volts amps spare))) := rfl
  have hno : s1.sampleRest.met.warnDue = false := hdue.trans hwarn
  rw [hs, hsample, hno] at hexec
  generalize s1.sampleRest = x at hexec hsamples hlastC hwall hregs hproducts hclips
  exact ⟨_, hexec, hsamples, hlastC, hwall, hregs, hproducts, hclips⟩

end Sys2Proof.Machine
end

section
/-! Commits, demand intervals and the triggers of snapshots (R176, R177, R180 to R182, R189, R192). -/

set_option Elab.async false

namespace Sys2Proof

/-- A value written to a low and a high word reads back in full. -/
theorem Core.pair_putPair (k : Core) {lo hi : Row} {i : Nat} (v : Nat) (hlo : lo.width = 32) (hhi : hi.width = 32)
    (hne : hi.key i ≠ lo.key i) : (k.putPair lo hi v i).pair lo hi i = v % 2 ^ 64 := by
  simp only [Core.pair, Core.putPair, Core.fget_fput_self, Core.fget_fput, if_neg hne, hlo, hhi]
  omega

theorem Core.WritesIn.pair {rs : List Row} {k k' : Core} (h : k.WritesIn rs k') {lo hi : Row}
    (hlo : ∀ r ∈ rs, lo.id ≠ r.id := by decide) (hhi : ∀ r ∈ rs, hi.id ≠ r.id := by decide) : k'.pair lo hi = k.pair lo hi := by
  unfold Core.pair; rw [h.fget hlo, h.fget hhi]

end Sys2Proof

namespace Sys2Proof.Machine

/-! ### A commit and its snapshots (R180 to R182, R189) -/

/-- What the snapshots made of a commit leave: both slots, the number, what waits, the warning and the registers. -/
def State.commitBase (s : State) :=
  (s.met.slotA, s.met.slotB, s.met.seq, s.met.snapsDue, s.met.pend, s.met.warned, s.met.warnDue, s.met.points.map (·.regs))

/-- Rows that the snapshots show. -/
def snapRows : List Row := [Reg.MET_SNAP_STAT_NOT_READY, Reg.MET_SNAP_STAT_NUMBER] ++ recorderRows

theorem State.within_resetMaxima (s : State) (mask : Nat) : s.Within State.commitBase snapRows (s.resetMaxima mask) := by
  unfold State.resetMaxima
  extract_lets points
  have hone : ∀ p : PointBlock × Nat, (if mask.testBit p.2 then
      { p.1 with impMax := 0, impEnd := 0, expMax := 0, expEnd := 0 } else p.1).regs = p.1.regs := by
    intro p; split <;> rfl
  have hregs : points.map (·.regs) = s.met.points.map (·.regs) := by
    simp only [points, List.map_map, Function.comp_def, hone]
    conv_rhs => rw [← List.zipIdx_map_fst 0 s.met.points, List.map_map]
    rfl
  have hpoints : s.Within State.commitBase snapRows { s with met := { s.met with points := points } } :=
    ⟨by simp only [State.commitBase, hregs], .refl _⟩
  exact hpoints.record ..

theorem State.within_takeSnapshot (s : State) (c : CommitImage) (d : SnapDue) :
    s.Within State.commitBase snapRows (s.takeSnapshot c d) :=
  .ite (.trans ⟨rfl, .refl _⟩ (State.within_resetMaxima ..)) ⟨rfl, .refl _⟩

theorem State.within_showSnapshot (s : State) : s.Within State.commitBase snapRows s.showSnapshot := by
  unfold State.showSnapshot
  extract_lets waits stuck taken
  refine ⟨rfl, ?_⟩
  have hready : s.core.WritesIn snapRows (s.core.setFlag Reg.MET_SNAP_STAT_NOT_READY (waits || stuck)) := .setFlag (.refl _)
  rw [State.onCore_core]
  clear_value taken
  cases taken with
  | some n => exact .ite hready hready.fput
  | none => exact hready

/-- A frame of the partner link changes nothing but what the unit keeps for its partner. -/
theorem State.sendFrame_eq (s : State) (f : PFrame) : ∃ p, s.sendFrame f = { s with pair := p } := by
  unfold State.sendFrame
  split
  · exact ⟨_, rfl⟩
  · exact ⟨s.pair, rfl⟩

theorem State.within_sendFrame (s : State) (f : PFrame) : s.Within State.commitBase snapRows (s.sendFrame f) := by
  obtain ⟨p, hp⟩ := s.sendFrame_eq f
  rw [hp]
  exact ⟨rfl, .refl _⟩

/-- The state whose image a commit stores: after a snapshot, STATUS bits 0 and 1 clear. -/
def State.cleared (s : State) : State :=
  { s with met := { s.met with
      points := if s.met.clearStatus then s.met.points.map fun b => { b with status := b.status / 4 * 4 } else s.met.points
      clearStatus := false } }

theorem State.cleared_regs (s : State) : s.cleared.met.points.map (·.regs) = s.met.points.map (·.regs) := by
  unfold State.cleared
  dsimp only
  split
  · rw [List.map_map]; rfl
  · rfl

/-- The state with the image stored, in which the snapshots are taken. -/
def State.stored (s : State) (flags : Nat) : State :=
  let t := s.cleared.storeCommit (s.cleared.commitImage flags)
  { t with met := { t.met with snapsDue := [] } }

theorem State.within_commit (s : State) (flags : Nat) : (s.stored flags).Within State.commitBase snapRows (s.commit flags) := by
  unfold State.commit
  extract_lets points _ s1 c s2 due _ s4 s5
  have hs4 : s4 = due.foldl (fun t d => t.takeSnapshot c d) (s.stored flags) := rfl
  have h4 : (s.stored flags).Within State.commitBase snapRows s4 := by
    rw [hs4]
    exact .foldl (fun t d => t.within_takeSnapshot c d) ..
  have h5 := h4.trans s4.within_showSnapshot
  exact .ite ((h5.trans (State.within_sendFrame ..)).trans (State.within_sendFrame ..)) h5

/-- The image goes into the slot of its number's parity. -/
theorem State.stored_eq (s : State) (flags : Nat) : s.stored flags = { s with
    core := s.core.putPair Reg.MET_SEQ_LO_SEQ_LO Reg.MET_SEQ_HI_SEQ_HI (s.met.seq + 1)
    met := { s.met with
      points := s.cleared.met.points, clearStatus := false, seq := s.met.seq + 1, snapsDue := []
      slotA := if (s.met.seq + 1) % 2 = 0 then some (s.cleared.commitImage flags) else s.met.slotA
      slotB := if (s.met.seq + 1) % 2 = 0 then s.met.slotB else some (s.cleared.commitImage flags) } } := by
  have hseq : (s.cleared.commitImage flags).seq = s.met.seq + 1 := rfl
  by_cases h : (s.met.seq + 1) % 2 = 0
  · simp only [State.stored, State.storeCommit, hseq, if_pos h]
    rfl
  · simp only [State.stored, State.storeCommit, hseq, if_neg h]
    rfl

/-- What a commit leaves: the image of the next number in its slot, the other slot and the registers as they were, no trigger. -/
theorem State.commit_facts (s : State) (flags : Nat) : let t := s.commit flags
    t.met.seq = s.met.seq + 1 ∧ t.met.snapsDue = [] ∧ t.met.pend = s.met.pend ∧ t.met.warned = s.met.warned ∧
      t.met.warnDue = s.met.warnDue ∧ t.met.points.map (·.regs) = s.met.points.map (·.regs) ∧
      t.core.pair Reg.MET_SEQ_LO_SEQ_LO Reg.MET_SEQ_HI_SEQ_HI = (s.met.seq + 1) % 2 ^ 64 ∧
      (∃ c : CommitImage, (if (s.met.seq + 1) % 2 = 0 then t.met.slotA else t.met.slotB) = some c ∧ c.seq = s.met.seq + 1 ∧
        c.flags = flags ∧ c.samples = s.met.samples ∧ c.counter = s.met.lastC) ∧
      if (s.met.seq + 1) % 2 = 0 then t.met.slotB = s.met.slotB else t.met.slotA = s.met.slotA := by
  intro t
  have hwithin := s.within_commit flags
  rw [s.stored_eq flags] at hwithin
  obtain ⟨hA, hB, hseq, hdue, hpend, hwarned, hwarn, hregs⟩ : _ ∧ _ ∧ _ ∧ _ ∧ _ ∧ _ ∧ _ ∧ _ := by
    simpa only [State.commitBase, Prod.mk.injEq] using hwithin.1
  refine ⟨hseq, hdue, hpend, hwarned, hwarn, hregs.trans s.cleared_regs, ?_, ⟨s.cleared.commitImage flags, ?_, rfl, rfl, rfl, rfl⟩, ?_⟩
  · exact hwithin.2.pair.trans (Core.pair_putPair _ _ rfl rfl (by decide))
  · split
    · next h => exact hA.trans (if_pos h)
    · next h => exact hB.trans (if_neg h)
  · split
    · next h => exact hB.trans (if_pos h)
    · next h => exact hA.trans (if_neg h)

/-! ### Demand intervals (R176, R177) -/

/-- A closed interval starts anew at the present count, and its demand stands as the maximum where it is the largest. -/
theorem closeInterval_facts (b : PointBlock) (ns wall : Nat) : let imp := (b.regs.getD 0 {}).count
    let d := demandOf (imp - b.impStart) ns
    let t := closeInterval b true false ns wall
    t.impStart = imp ∧ t.regs = b.regs ∧ t.impMax = if b.impMax < d then d else b.impMax := by
  intro imp d t
  refine ⟨?_, ?_, ?_⟩
  · simp only [t, closeInterval, apply_ite PointBlock.impStart, ite_self]
    rfl
  · simp only [t, closeInterval, apply_ite PointBlock.regs, ite_self]
  · simp only [t, closeInterval, apply_ite PointBlock.impMax, ite_self, true_and]
    rfl

/-- A point whose element is not due stands as it is. -/
theorem State.closeDemand_of_not_due {s : State} {which : ElementDef → Bool} {n : Nat} {x : PointPlace × PointBlock × PointExtra}
    {el : ElementDef} (hx : s.sizedPoints[n]? = some x) (hel : s.met.cfg.elements[x.1.element]? = some el)
    (hdue : which el = false) (step : Bool) : (s.closeDemand which step).met.points[n]? = some x.2.1 := by
  simp [State.closeDemand, hx, hel, hdue]

/-- A regular interval of a due element closes over its full length. -/
theorem State.closeDemand_of_due {s : State} {which : ElementDef → Bool} {n : Nat} {x : PointPlace × PointBlock × PointExtra}
    {el : ElementDef} (hx : s.sizedPoints[n]? = some x) (hel : s.met.cfg.elements[x.1.element]? = some el)
    (hdue : which el = true) (hirr : x.2.2.irregular = false) : (s.closeDemand which false).met.points[n]? =
      some (closeInterval x.2.1 true false (el.demMin * 60000000000) (s.wallNow / 65536 * 65536)) := by
  simp [State.closeDemand, hx, hel, hdue, hirr]

theorem State.closeDemand_length (s : State) (which : ElementDef → Bool) (step : Bool) :
    (s.closeDemand which step).met.points.length = s.sizedPoints.length := by
  simp [State.closeDemand]

/-! ### The rows -/

/-- Outside a warning the row of a commit shows only how long the commit took. -/
theorem exec_registerCommit {s : State} (hs : s.sampling = true) (hwarn : s.core.flag Reg.PWR_STAT_WARN = false)
    (hstandby : s.standby = false) : ∃ t, exec .registerCommit s = .next t ∧ t.met = (s.commit 0).met ∧
      (s.commit 0).core.WritesIn [Reg.MET_COMMIT_LAST_US] t.core ∧ t.core.fget Reg.MET_COMMIT_LAST_US ≤ 35 := by
  have hexec : exec .registerCommit s = .next (s.upMet (if !s.sampling || s.core.flag Reg.PWR_STAT_WARN || s.standby then s
    else ((s.commit 0).freeUs 35).2.onCore (·.fput Reg.MET_COMMIT_LAST_US ((s.commit 0).freeUs 35).1))) := rfl
  rw [hs, hwarn, hstandby, if_neg (by decide)] at hexec
  generalize s.commit 0 = t at hexec
  have hus : (t.freeUs 35).1 ≤ 35 := Nat.le_of_lt_succ (Nat.mod_lt _ (by decide))
  refine ⟨_, hexec, rfl, ?_, ?_⟩
  · have hput : t.core.WritesIn [Reg.MET_COMMIT_LAST_US] ((t.freeUs 35).2.core.fput Reg.MET_COMMIT_LAST_US (t.freeUs 35).1) :=
      .fput (.of_regs (.refl _) rfl)
    exact hput.of_regs rfl
  · exact (Core.fget_fput_self ..).trans_le ((Nat.mod_le ..).trans hus)

/-- Settles O21: the commit by `State.commit_facts`, the intervals by `State.closeDemand_of_due`; the triggers are queued. -/
theorem commitsAndSnapshots : Obligations.CommitsAndSnapshots := by
  intro s
  refine ⟨fun hs hwarn hstandby => ?_, ?_, fun n hn hn4 => ?_, fun hready => ?_, fun hready => ?_⟩
  · obtain ⟨t, hexec, hmet, hwrites, hlast⟩ := exec_registerCommit hs hwarn hstandby
    obtain ⟨hseq, hdue, -, -, -, -, hpair, ⟨c, hslot, hcseq, hcflags, hcsamples, hccounter⟩, hother⟩ := s.commit_facts 0
    refine ⟨t, hexec, ?_⟩
    rw [hmet, hslot]
    exact ⟨hseq, hdue, hwrites.pair.trans hpair, hlast, by simp [hcseq, hcflags, hcsamples, hccounter], hother⟩
  · have hexec : exec .demandIntervalEnd s = .next (s.upMet (s.closeDemand s.demandDue false)) := rfl
    refine ⟨_, hexec, s.closeDemand_length .., fun n x el hx hel => ⟨fun hdue => ?_, fun hdue hirr => ?_⟩⟩
    · exact State.closeDemand_of_not_due hx hel hdue false
    · obtain ⟨hstart, hregs, hmax⟩ := closeInterval_facts x.2.1 (el.demMin * 60000000000) (s.wallNow / 65536 * 65536)
      exact ⟨_, State.closeDemand_of_due hx hel hdue hirr, hstart, hregs, hmax⟩
  · have hexec : exec (.dailySnapshot n) s =
        .next (s.upMet (if n < min s.met.cfg.daily.length 4 then s.triggerSnapshot { trigger := 1 } else s)) := rfl
    rw [if_pos (by omega)] at hexec
    exact hexec.trans (congrArg _ (State.upMet_eq rfl rfl))
  · have hexec : exec .snapshotTake s = .next (s.upMet s.requestSnapshot) := rfl
    rw [State.requestSnapshot, hready, if_neg (by decide)] at hexec
    exact ⟨_, hexec.trans (congrArg _ (State.upMet_eq rfl rfl)), Core.only_setFlag .., Core.flag_setFlag _ _ _ _ (by decide)⟩
  · have hexec : exec .snapshotTake s = .next (s.upMet s.requestSnapshot) := rfl
    rw [State.requestSnapshot, hready, if_pos rfl] at hexec
    exact hexec.trans (congrArg _ (State.upMet_eq rfl rfl))

end Sys2Proof.Machine
end

section
/-! The warning hold, its end, and pulse edges (R184, R185, R194, R464, R465). -/

set_option Elab.async false

namespace Sys2Proof.Machine

/-! ### What the hold sheds (R231, R279, R332, R464) -/

/-- What the links and the pair that go down leave: metrology, the engines and the platform. -/
def State.shedBase (s : State) := (s.met, s.trw, s.plat)

/-- Rows that the fall of a link shows beside the link itself. -/
def linkRows : List Row :=
  [Reg.FP_LINK_DOWNS_COUNT, Reg.NT_STAT_PORT0, Reg.NT_STAT_PORT1, Reg.NT_STAT_SLAVE, Reg.NT_STAT_STATE, Reg.NT_STAT_TIME_DEGRADED,
   Reg.TICK_STATUS_TIME_DEGRADED, Reg.NT_EST_ERR_NS, Reg.NT_RATE_RATE] ++ recorderRows

/-- Rows that a new resynchronisation shows. -/
def resyncRows : List Row :=
  [Reg.PTR_STAT_PAIR_STATE, Reg.PTR_STAT_HOLD_AUTH, Reg.PTR_RESYNC_BACKLOG, Reg.PTR_STAT_HOLDOFF_LEFT_S]

theorem State.shed_showErr (s : State) : s.Within State.shedBase linkRows s.showErr := ⟨rfl, .fput (.refl _)⟩

theorem State.shed_setServo (s : State) (st : Nat) : s.Within State.shedBase linkRows (s.setServo st) := by
  unfold State.setServo
  extract_lets s1 _ s2
  have hstate : s.core.WritesIn linkRows ((s.core.fput Reg.NT_STAT_STATE st).setFlag Reg.NT_STAT_TIME_DEGRADED (st != 2)) :=
    .setFlag (.fput (.refl _))
  have h1 : s.Within State.shedBase linkRows s1 := ⟨rfl, .ite hstate.setFlag hstate⟩
  have h2 : s.Within State.shedBase linkRows s2 := .ite (h1.trans ⟨rfl, .refl _⟩) h1
  exact h2.trans (State.shed_showErr _)

theorem State.shed_setRate (s : State) (rate : Int) : s.Within State.shedBase linkRows (s.setRate rate) :=
  .ite (.refl s) ⟨rfl, .fput (.refl _)⟩

theorem State.shed_enterHoldover (s : State) : s.Within State.shedBase linkRows s.enterHoldover := by
  unfold State.enterHoldover
  extract_lets st _ s1
  have h1 : s.Within State.shedBase linkRows s1 := ⟨rfl, .refl _⟩
  exact .ite ((h1.trans (State.shed_setServo ..)).trans (State.shed_setRate ..)) (.refl s)

theorem State.shed_loseSlave (s : State) : s.Within State.shedBase linkRows s.loseSlave :=
  .trans (t := s.onCore (·.fput Reg.NT_STAT_SLAVE 0)) ⟨rfl, .fput (.refl _)⟩ (State.shed_enterHoldover _)

theorem State.shed_ptpLeave (s : State) (p : Nat) : s.Within State.shedBase linkRows (s.ptpLeave p) := by
  have hrow : portRow p ∈ linkRows := by unfold portRow; split <;> decide
  have hport : s.Within State.shedBase linkRows (s.onCore (·.fput (portRow p) 3)) := ⟨rfl, .fput (.refl _) hrow⟩
  exact .ite (hport.trans (State.shed_loseSlave _)) hport

/-- A link that stands goes down: beside it, only rows that tell of it change. -/
theorem State.shed_linkFall {s : State} {p : Fin 4} (h : s.core.flag Reg.FP_STAT_LINK p = true) :
    (s.onCore (·.setFlag Reg.FP_STAT_LINK false p)).Within State.shedBase linkRows (s.linkFall p) := by
  unfold State.linkFall
  extract_lets _ s1 s2
  rw [h, if_neg (by decide)]
  have h1 : (s.onCore (·.setFlag Reg.FP_STAT_LINK false p)).Within State.shedBase linkRows
      (s1.onCore fun k => (k.setFlag Reg.FP_STAT_LINK false p).bump Reg.FP_LINK_DOWNS_COUNT p) :=
    ⟨rfl, .bump (.refl _) (by decide) (by omega)⟩
  have h2 : (s.onCore (·.setFlag Reg.FP_STAT_LINK false p)).Within State.shedBase linkRows s2 := h1.record ..
  exact .ite (h2.trans (State.shed_ptpLeave ..)) h2

theorem State.linkFall_of_down {s : State} {p : Fin 4} (h : s.core.flag Reg.FP_STAT_LINK p = false) : s.linkFall p = s := by
  rw [State.linkFall, h]
  rfl

/-- After its fall a link is down. -/
theorem State.linkFall_link (s : State) (p : Fin 4) : (s.linkFall p).core.flag Reg.FP_STAT_LINK p = false := by
  cases h : s.core.flag Reg.FP_STAT_LINK p with
  | false => rw [State.linkFall_of_down h, h]
  | true => exact ((State.shed_linkFall h).flag (by decide) (by omega)).trans (Core.flag_setFlag _ _ _ _ (by decide))

/-- The fall of one link leaves the state of another. -/
theorem State.linkFall_other (s : State) {p q : Fin 4} (hne : p ≠ q) :
    (s.linkFall p).core.flag Reg.FP_STAT_LINK q = s.core.flag Reg.FP_STAT_LINK q := by
  cases h : s.core.flag Reg.FP_STAT_LINK p with
  | false => rw [State.linkFall_of_down h]
  | true =>
    refine ((State.shed_linkFall h).flag (by decide) (by omega)).trans ?_
    have hkey : Reg.FP_STAT_LINK.key p ≠ Reg.FP_STAT_LINK.key q := by simp only [Row.key]; omega
    unfold Core.flag
    rw [State.onCore_core, Core.setFlag, Core.fget_fput, if_neg hkey]

theorem State.within_linkFall (s : State) (p : Fin 4) :
    s.Within State.shedBase (Reg.FP_STAT_LINK :: linkRows) (s.linkFall p) := by
  cases h : s.core.flag Reg.FP_STAT_LINK p with
  | false => rw [State.linkFall_of_down h]; exact .refl s
  | true =>
    have hdown : s.Within State.shedBase (Reg.FP_STAT_LINK :: linkRows) (s.onCore (·.setFlag Reg.FP_STAT_LINK false p)) :=
      ⟨rfl, .setFlag (.refl _) (by decide) (by omega)⟩
    exact hdown.trans ((State.shed_linkFall h).mono (List.subset_cons_self ..))

theorem State.shed_sendFrame (s : State) (f : PFrame) : s.Within State.shedBase resyncRows (s.sendFrame f) := by
  obtain ⟨p, hp⟩ := s.sendFrame_eq f
  rw [hp]
  exact ⟨rfl, .refl _⟩

theorem State.shed_startResync (s : State) (stage : Nat) : s.Within State.shedBase resyncRows (s.startResync stage) := by
  unfold State.startResync
  extract_lets s1 _ p
  have hcancel : s.Within State.shedBase resyncRows s1 := by
    unfold s1 State.cancelTakeback
    exact .ite (.refl s) (.trans ⟨rfl, .refl _⟩ (State.shed_sendFrame ..))
  refine .trans (hcancel.trans ?_) (State.shed_sendFrame ..)
  exact ⟨rfl, .fput (.fput (.setFlag (.fput (.refl _))))⟩

theorem State.shed_outOfStep (s : State) : s.Within State.shedBase resyncRows s.outOfStep :=
  .ite (State.shed_startResync ..) (.refl s)

theorem State.shed_writeFallback (s : State) : s.Within State.shedBase [Reg.BKP_BYTES_DATA] s.writeFallback := by
  have hbank : ∀ (k : Core) (b : Nat) (xs : List Byte), b ≤ 1 → k.WritesIn [Reg.BKP_BYTES_DATA] (putBank k b xs) := by
    intro k b xs hb
    refine List.foldlRecOn _ _ (.refl k) fun k' hk' i hi => ?_
    have := List.mem_range.1 hi
    exact hk'.fput (by decide) (by omega)
  exact ⟨rfl, (hbank _ _ _ (by decide)).trans (hbank _ _ _ (by decide))⟩

/-! ### The warning (R184, R464) -/

/-- Rows that the hold shows beside its own flags. -/
def holdRows : List Row := Reg.BKP_BYTES_DATA :: Reg.FP_STAT_LINK :: (linkRows ++ resyncRows)

theorem linkRows_subset : Reg.FP_STAT_LINK :: linkRows ⊆ holdRows := by
  intro r hr
  simp only [holdRows, List.mem_cons, List.mem_append] at hr ⊢
  tauto

theorem resyncRows_subset : resyncRows ⊆ holdRows := by
  intro r hr
  simp only [holdRows, List.mem_cons, List.mem_append]
  tauto

/-- The hold with its flags, before the pair and the links go down. -/
def State.held (s : State) : State :=
  let drop (m : SMap Stage) : SMap Stage := m.map fun p => (p.1, if p.2 == .due then .discarded else p.2)
  { s with
    core := (s.core.setFlag Reg.PWR_STAT_WARN true).setFlag Reg.PWR_STAT_HOLD true
    seq := { s.seq with inLeft := [], outLeft := [], base := none, waitFrom := none }
    plat := { s.plat with hold := true }
    trw := { s.trw with stages := drop s.trw.stages, scanning := false }
    flt := { s.flt with stages := drop s.flt.stages } }

theorem State.enterHold_eq (s : State) : s.enterHold =
    ((if s.held.standby then s.held.outOfStep else s.held).linkFall 0).linkFall 1 := rfl

theorem State.within_enterHold (s : State) : s.held.Within State.shedBase holdRows s.enterHold := by
  rw [State.enterHold_eq]
  refine .trans (.trans ?_ ((State.within_linkFall ..).mono linkRows_subset)) ((State.within_linkFall ..).mono linkRows_subset)
  exact .ite ((State.shed_outOfStep _).mono resyncRows_subset) (.refl _)

theorem State.enterHold_links (s : State) :
    s.enterHold.core.flag Reg.FP_STAT_LINK 0 = false ∧ s.enterHold.core.flag Reg.FP_STAT_LINK 1 = false := by
  rw [State.enterHold_eq]
  exact ⟨(State.linkFall_other _ (p := 1) (q := 0) (by decide)).trans (State.linkFall_link _ 0), State.linkFall_link _ 1⟩

/-- The flag that shows where a warning comes from. -/
def sourceRow (pfw : Bool) : Row := if pfw then Reg.PWR_STAT_PFW_LEVEL else Reg.PWR_STAT_DETECTOR

/-- The state with the warning's source shown. -/
def State.sourced (s : State) (pfw : Bool) : State := s.onCore (·.setFlag (sourceRow pfw) true)

/-- The state with a new warning counted, its sample due where the module samples. -/
def State.counted (s : State) : State :=
  let t := s.onCore fun k => (k.bump Reg.MET_PFW_WARNINGS).setFlag Reg.MET_STAT_PFW_ACTIVE true
  { t with met := { t.met with warnDue := t.sampling && !t.plat.asleep, warnSeen := true } }

theorem State.sourced_writes (s : State) (pfw : Bool) :
    s.core.WritesIn [Reg.PWR_STAT_PFW_LEVEL, Reg.PWR_STAT_DETECTOR] (s.sourced pfw).core :=
  .setFlag (.refl _) (by revert pfw; decide)

theorem State.counted_writes (s : State) : s.core.WritesIn [Reg.MET_PFW_WARNINGS, Reg.MET_STAT_PFW_ACTIVE] s.counted.core :=
  .setFlag (.bump (.refl _))

/-- A warning shows its source; the first one counts and brings the hold and the fall-back store. -/
theorem State.warn_eq (s : State) (pfw : Bool) : s.warn pfw =
    if s.core.flag Reg.PWR_STAT_WARN then s.sourced pfw else (s.sourced pfw).counted.enterHold.writeFallback := by
  have hsourced : (s.onCore fun k => if pfw then k.setFlag Reg.PWR_STAT_PFW_LEVEL true else k.setFlag Reg.PWR_STAT_DETECTOR true) =
      s.sourced pfw := by cases pfw <;> rfl
  have hwarn : s.core.flag Reg.PWR_STAT_WARN = (s.sourced pfw).core.flag Reg.PWR_STAT_WARN := (s.sourced_writes pfw).flag.symm
  rw [hwarn, ← hsourced]
  rfl

/-- What a first warning leaves, read off the state it is counted in. -/
theorem State.enterHold_facts (s : State) : let t := s.enterHold.writeFallback
    t.met = s.met ∧ t.trw.scanning = false ∧ t.plat.hold = true ∧ t.core.flag Reg.PWR_STAT_WARN = true ∧
      t.core.flag Reg.PWR_STAT_HOLD = true ∧ t.core.flag Reg.FP_STAT_LINK 0 = false ∧ t.core.flag Reg.FP_STAT_LINK 1 = false ∧
      s.core.WritesIn (Reg.PWR_STAT_WARN :: Reg.PWR_STAT_HOLD :: holdRows) t.core := by
  intro t
  have hback : s.enterHold.Within State.shedBase [Reg.BKP_BYTES_DATA] t := State.shed_writeFallback _
  have hrest : s.held.Within State.shedBase holdRows t := s.within_enterHold.trans (hback.mono (by simp [holdRows]))
  obtain ⟨hlink0, hlink1⟩ := s.enterHold_links
  obtain ⟨hmet, htrw, hplat⟩ : _ ∧ _ ∧ _ := by simpa only [State.shedBase, Prod.mk.injEq] using hrest.1
  have hwarn : s.held.core.flag Reg.PWR_STAT_WARN = true := by
    have hhold : (s.core.setFlag Reg.PWR_STAT_WARN true).WritesIn [Reg.PWR_STAT_HOLD] s.held.core := .setFlag (.refl _)
    exact hhold.flag.trans (Core.flag_setFlag _ _ _ _ (by decide))
  refine ⟨hmet, ?_, ?_, hrest.flag.trans hwarn, hrest.flag.trans (Core.flag_setFlag _ _ _ _ (by decide)), hback.flag.trans hlink0,
    hback.flag.trans hlink1, ?_⟩
  · rw [htrw]; rfl
  · rw [hplat]; rfl
  · exact .trans (.setFlag (.setFlag (.refl _))) (hrest.2.mono (by simp [List.subset_cons_of_subset]))

theorem State.warn_facts {s : State} (pfw : Bool) (h : s.core.flag Reg.PWR_STAT_WARN = false) : let t := s.warn pfw
    t.core.flag Reg.PWR_STAT_WARN = true ∧ t.core.flag Reg.PWR_STAT_HOLD = true ∧ t.plat.hold = true ∧
      t.core.flag Reg.MET_STAT_PFW_ACTIVE = true ∧ t.trw.scanning = false ∧
      t.core.fget Reg.MET_PFW_WARNINGS = satAdd 16 (s.core.fget Reg.MET_PFW_WARNINGS) 1 ∧
      t.met.warnDue = (s.sampling && !s.plat.asleep) ∧
      t.core.flag Reg.FP_STAT_LINK 0 = false ∧ t.core.flag Reg.FP_STAT_LINK 1 = false := by
  intro t
  have ht : t = (s.sourced pfw).counted.enterHold.writeFallback := by
    unfold t
    rw [State.warn_eq, h]
    rfl
  obtain ⟨hmet, hscan, hhold, hwarn, hflag, hlink0, hlink1, hwrites⟩ := (s.sourced pfw).counted.enterHold_facts
  rw [← ht] at hmet hscan hhold hwarn hflag hlink0 hlink1 hwrites
  have hcount : (s.sourced pfw).counted.core.fget Reg.MET_PFW_WARNINGS = satAdd 16 (s.core.fget Reg.MET_PFW_WARNINGS) 1 := by
    rw [← (s.sourced_writes pfw).fget (r := Reg.MET_PFW_WARNINGS)]
    exact (Core.fget_fput ..).trans ((if_neg (by decide)).trans (Core.fget_bump ..))
  have hdue : (s.sourced pfw).counted.met.warnDue = (s.sampling && !s.plat.asleep) := by
    have hrun : (s.sourced pfw).counted.core.flag Reg.MET_STAT_RUN = s.core.flag Reg.MET_STAT_RUN :=
      ((s.sourced pfw).counted_writes.flag).trans (s.sourced_writes pfw).flag
    rw [State.sampling, ← hrun]
    rfl
  exact ⟨hwarn, hflag, hhold, hwrites.flag.trans (Core.flag_setFlag _ _ _ _ (by decide)), hscan, hwrites.fget.trans hcount,
    (congrArg Met.warnDue hmet).trans hdue, hlink0, hlink1⟩

/-! ### The end of a warning (R185, R465) -/

/-- Metrology at the end of a warning: what is pending is folded and committed where the warning sample has been taken. -/
def State.meterSettled (s : State) : State :=
  let t : State := { s with met := { s.met with warnSeen := false } }
  if t.met.warned.isSome then t.foldPending.commit 2 else { t with met := { t.met with warnDue := false } }

theorem State.commit_writes (s : State) (flags : Nat) :
    s.core.WritesIn (Reg.MET_SEQ_LO_SEQ_LO :: Reg.MET_SEQ_HI_SEQ_HI :: snapRows) (s.commit flags).core := by
  have hwithin := s.within_commit flags
  rw [s.stored_eq flags] at hwithin
  exact (Core.writesIn_putPair (.refl _)).trans (hwithin.2.mono (by simp [List.subset_cons_of_subset]))

theorem State.meterSettled_writes (s : State) :
    s.core.WritesIn (Reg.MET_SEQ_LO_SEQ_LO :: Reg.MET_SEQ_HI_SEQ_HI :: snapRows) s.meterSettled.core := by
  unfold State.meterSettled
  extract_lets _ t
  split
  · exact t.foldPending.commit_writes 2
  · exact .refl _

theorem State.meterSettled_of_unsampled {s : State} (h : s.met.warned = none) :
    s.meterSettled = { s with met := { s.met with warnSeen := false, warnDue := false } } := by
  rw [State.meterSettled, h]
  rfl

/-- What was pending stands in the registers and in the commit of the warning. -/
theorem State.meterSettled_of_sampled {s : State} (h : s.met.warned.isSome = true) : let t := s.meterSettled
    t.met.seq = s.met.seq + 1 ∧ t.met.pend = [] ∧ t.met.warned = none ∧ t.met.warnDue = false ∧
      t.met.points.map (·.regs) = s.foldPending.met.points.map (·.regs) ∧
      ((if t.met.seq % 2 = 0 then t.met.slotA else t.met.slotB).any fun c => c.flags == 2 && c.seq == t.met.seq) = true := by
  intro t
  have ht : t = ({ s with met := { s.met with warnSeen := false } } : State).foldPending.commit 2 := by
    unfold t State.meterSettled
    exact if_pos h
  obtain ⟨hseq, -, hpend, hwarned, hdue, hregs, -, ⟨c, hslot, hcseq, hcflags, -, -⟩, -⟩ :=
    State.commit_facts ({ s with met := { s.met with warnSeen := false } } : State).foldPending 2
  rw [← ht] at hseq hpend hwarned hdue hregs hslot
  refine ⟨hseq, hpend, hwarned, hdue, hregs, ?_⟩
  rw [hseq, hslot]
  simp [hcseq, hcflags]

/-- However a warning ends, no sample of it waits or stands. -/
theorem State.meterSettled_over (s : State) : s.meterSettled.met.warnDue = false ∧ s.meterSettled.met.warned = none := by
  cases h : s.met.warned with
  | none => rw [State.meterSettled_of_unsampled h]; exact ⟨rfl, h⟩
  | some w =>
    obtain ⟨-, -, hwarned, hdue, -⟩ := State.meterSettled_of_sampled (s := s) (by rw [h]; rfl)
    exact ⟨hdue, hwarned⟩

/-- The fold of the only point: each pending count and remainder enters its register. -/
theorem State.foldPending_one {s : State} {b : PointBlock} {ps : List AccReg} (hb : s.met.points = [b]) (hps : s.met.pend = [ps]) :
    s.foldPending.met.points.map (·.regs) = [b.regs.zipIdx.map fun p =>
      let d := ps.getD p.2 {}
      { AccAdd p.1 d.rest with count := (AccAdd p.1 d.rest).count + d.count }] := by
  simp [State.foldPending, hb, hps]

/-- The flags and the count of a warning's end. -/
def clearFlags (k : Core) : Core :=
  let k := (k.bump Reg.MET_PFW_RECOVERED).setFlag Reg.MET_STAT_PFW_ACTIVE false
  let k := (k.setFlag Reg.PWR_STAT_WARN false).setFlag Reg.PWR_STAT_HOLD false
  ((k.setFlag Reg.PWR_STAT_PFW_LEVEL false).setFlag Reg.PWR_STAT_DETECTOR false).setFlag Reg.TICK_STATUS_RUNNING false

theorem clearFlags_facts (k : Core) : let k' := clearFlags k
    k'.flag Reg.PWR_STAT_WARN = false ∧ k'.flag Reg.PWR_STAT_HOLD = false ∧ k'.flag Reg.MET_STAT_PFW_ACTIVE = false ∧
      k'.flag Reg.TICK_STATUS_RUNNING = false ∧ k'.fget Reg.MET_PFW_RECOVERED = satAdd 16 (k.fget Reg.MET_PFW_RECOVERED) 1 := by
  intro k'
  have hset : ∀ (k : Core) (r : Row), 0 < r.width → (k.setFlag r false).flag r = false := fun k r hr => Core.flag_setFlag _ _ _ _ hr
  have hpower : ∀ k : Core, k.WritesIn [Reg.PWR_STAT_PFW_LEVEL, Reg.PWR_STAT_DETECTOR, Reg.TICK_STATUS_RUNNING]
      (((k.setFlag Reg.PWR_STAT_PFW_LEVEL false).setFlag Reg.PWR_STAT_DETECTOR false).setFlag Reg.TICK_STATUS_RUNNING false) :=
    fun k => .setFlag (.setFlag (.setFlag (.refl k)))
  have hhold : ∀ k : Core, k.WritesIn [Reg.PWR_STAT_WARN, Reg.PWR_STAT_HOLD]
      ((k.setFlag Reg.PWR_STAT_WARN false).setFlag Reg.PWR_STAT_HOLD false) := fun k => .setFlag (.setFlag (.refl k))
  have hsecond : ∀ k : Core, k.WritesIn [Reg.PWR_STAT_HOLD] (k.setFlag Reg.PWR_STAT_HOLD false) := fun k => .setFlag (.refl k)
  have hactive : ∀ k : Core, k.WritesIn [Reg.MET_STAT_PFW_ACTIVE] (k.setFlag Reg.MET_STAT_PFW_ACTIVE false) :=
    fun k => .setFlag (.refl k)
  refine ⟨?_, ?_, ?_, hset _ _ (by decide), ?_⟩
  · exact (hpower _).flag.trans ((hsecond _).flag.trans (hset _ _ (by decide)))
  · exact (hpower _).flag.trans (hset _ _ (by decide))
  · exact (hpower _).flag.trans ((hhold _).flag.trans (hset _ _ (by decide)))
  · exact (hpower _).fget.trans ((hhold _).fget.trans ((hactive _).fget.trans (Core.fget_bump ..)))

/-- A warning's end, whatever metrology has settled. -/
theorem State.clearWarning_facts {s : State} (h : s.core.flag Reg.PWR_STAT_WARN = true) : let t := s.clearWarning
    t.met = s.meterSettled.met ∧ t.plat.hold = false ∧ (clearFlags s.meterSettled.core).WritesIn recorderRows t.core := by
  intro t
  unfold t State.clearWarning
  rw [h]
  exact ⟨rfl, rfl, Core.writesIn_record ..⟩

/-! ### Pulse edges (R193, R194) -/

/-- An edge of a duty outside a warning whose direction stands and whose temperatures are fine: a volume, and its energy. -/
theorem State.thermalEdge_of_fine {s : State} {d : ThermalDef} {x : ThermalExtra} {b : ThermalBlock} {u : Nat} {sup ret : Cell}
    {rev : Bool} (hstandby : s.standby = false) (hpending : s.pendingOn = false) (hcfg : s.met.cfg.thermal = [d])
    (hblock : s.met.thermal = [b]) (hextra : s.met.thermalExtra = [x]) (hdir : edgeReverse d x rev = x.dir)
    (hsup : x.supply = some sup) (hret : x.ret = some ret) (hfsup : fineCell (some sup) = true)
    (hfret : fineCell (some ret) = true) (hunits : edgeUnits d sup.value ret.value = some u) :
    (s.thermalEdge 0 d rev).met.thermal = [if x.dir then { b with revVol := b.revVol + d.volEdge, rev := AccAdd b.rev u }
      else { b with fwdVol := b.fwdVol + d.volEdge, fwd := AccAdd b.fwd u }] := by
  simp only [State.thermalEdge, hextra, hblock, List.getD_cons_zero, hdir, if_true, hsup, hret, hfsup, hfret, Bool.and_self, Bool.not_true,
    Bool.false_eq_true, if_false, Option.map_some, Option.getD_some, hunits, hstandby, hpending, State.putThermal, hcfg]
  cases x.dir <;> rfl

/-- An edge on the input of the only channel is an edge of that channel. -/
theorem exec_pulseEdge_of_one {s : State} {d : ThermalDef} (hs : s.sampling = true) (hcfg : s.met.cfg.thermal = [d])
    (rev : Bool) : exec (.pulseEdge d.input rev) s = .next (s.upMet (s.thermalEdge 0 d rev)) := by
  have hexec : exec (.pulseEdge d.input rev) s = .next (s.upMet (if s.sampling then s.pulse d.input rev else s)) := rfl
  have hpulse : s.pulse d.input rev = s.thermalEdge 0 d rev := by
    rw [State.pulse, hcfg]
    exact if_pos rfl
  rw [hexec, if_pos hs, hpulse]

/-- Settles O23: the hold by `State.warn_facts`, its end by `State.clearWarning_facts` over what `State.meterSettled` leaves, an
edge by `State.thermalEdge_of_fine`. -/
theorem warningHold : Obligations.WarningHold := by
  intro s pfw
  refine ⟨fun h => ?_, fun h => ?_, fun h => ?_, fun input rev d x b u sup ret hs hstandby hpending hcfg hinput hblock hextra hdir hsup
    hret hfsup hfret hunits => ?_⟩
  · have hexec : exec (.powerFailWarning pfw) s = .next (s.upMet (s.warn pfw)) := rfl
    have hfacts := State.warn_facts pfw h
    generalize s.warn pfw = t at hexec hfacts
    exact ⟨_, hexec, hfacts⟩
  · have hexec : exec (.powerFailWarning pfw) s = .next (s.upMet (s.warn pfw)) := rfl
    rw [State.warn_eq, if_pos h] at hexec
    exact ⟨_, hexec.trans (congrArg _ (State.upMet_eq rfl rfl)), Core.only_setFlag .., Core.flag_setFlag _ _ _ _ (by cases pfw <;> decide)⟩
  · have hexec : exec .warningClear s = .next (s.upMet s.clearWarning) := rfl
    obtain ⟨hmet, hhold, hwrites⟩ := State.clearWarning_facts h
    obtain ⟨hwarn, hflag, hactive, hrun, hcount⟩ := clearFlags_facts s.meterSettled.core
    generalize s.clearWarning = t at hexec hmet hhold hwrites
    have hcount' : t.core.fget Reg.MET_PFW_RECOVERED = satAdd 16 (s.core.fget Reg.MET_PFW_RECOVERED) 1 := by
      rw [hwrites.fget, hcount, s.meterSettled_writes.fget]
    obtain ⟨hdue, hwarned⟩ := s.meterSettled_over
    rw [← hmet] at hdue hwarned
    refine ⟨_, hexec, hwrites.flag.trans hwarn, hwrites.flag.trans hflag, hhold, hwrites.flag.trans hactive, hwrites.flag.trans hrun,
      hdue, hwarned, hcount', fun hnone => ?_, fun hsome => ?_⟩
    · rw [State.meterSettled_of_unsampled hnone] at hmet
      exact ⟨(congrArg Met.points hmet :), (congrArg Met.seq hmet :)⟩
    · obtain ⟨hseq, hpend, -, -, hregs, hslot⟩ := State.meterSettled_of_sampled hsome
      rw [← hmet] at hseq hpend hregs hslot
      exact ⟨hseq, hpend, hregs, hslot, fun b ps hb hps => hregs.trans (State.foldPending_one hb hps)⟩
  · subst hinput
    exact ⟨_, exec_pulseEdge_of_one hs hcfg rev, State.thermalEdge_of_fine hstandby hpending hcfg hblock hextra hdir hsup hret hfsup hfret hunits⟩

end Sys2Proof.Machine
end

section
/-! Meter snapshot, switchover, maintenance and recorder clear (R189, R232, R237, R269, R397, R410). -/

set_option Elab.async false

namespace Sys2Proof

/-! ### What a change of the module's state and a new record show (R13, R400) -/

/-- The module is in the state it has been given. -/
theorem Core.state_setState (k : Core) {st : Nat} (hst : st < 8) (cause : Nat) : (k.setState st cause).state = st := by
  unfold Core.setState
  extract_lets old oldc k'
  have hput : k'.state = st := by
    have hlow : (k.fput Reg.GLB_STATE_STATE st).WritesIn [Reg.GLB_STATE_MAINT_CAUSE] k' := .fput (.refl _)
    exact hlow.fget.trans ((Core.fget_fput_self ..).trans (Nat.mod_eq_of_lt hst))
  split
  · next h => exact h.1
  · have hpost : k'.Posts _ := (Core.posts_postEvent k' 4 0 (st + 256 * cause) old fun _ => true).signal 83
    exact hpost.writes.fget.trans hput

/-- An event that finds the recorder ready and room for it is given its record, the last of the FIFO. -/
theorem Core.record_of_room {k : Core} {code : Nat} (hscan : k.evr.scanned = true) (hroom : k.evrRoom code = true)
    (domain : Nat) (payload : List Byte) : (k.record code domain payload).evr.next = k.evr.next + 1 ∧
      (k.record code domain payload).evr.fifo = k.evr.fifo ++ [k.newRecord code domain payload false k.wall] := by
  have hpush : k.record code domain payload = k.pushRecord code domain payload false k.wall := by
    rw [Core.record, Core.recordAt, hscan, hroom]
    rfl
  rw [hpush]
  exact (Core.pushRecord_facts ..).2

end Sys2Proof

namespace Sys2Proof.Machine

/-! ### What an answer changes of the shared core (R265, R271) -/

/-- `t` has the recorder as `s` has it, and every register field but the count of requests. -/
abbrev State.Answers (s t : State) : Prop := s.Within (·.core.evr) [Reg.PS_REQ_COUNT] t

theorem State.answers_enqueue (s : State) (p : Nat) (i : TxItem) : s.Answers (s.enqueue p i) := .ite ⟨rfl, .refl _⟩ (.refl s)

theorem State.answers_sendMessage (s : State) (n : Fin 32) (type upd : Nat) (msg : List Byte) :
    s.Answers (s.sendMessage n type upd msg) := by
  unfold State.sendMessage
  extract_lets p bulk ps t
  have ht : s.Answers t := .foldl (fun _ _ => State.answers_enqueue ..) _ s
  exact ht.trans ⟨rfl, .of_regs (.refl _) rfl⟩

theorem State.answers_flushSession (s : State) (n : Fin 32) (x : Session) : s.Answers (s.flushSession n x) := by
  refine .trans (t := s.putSession n { x with line := (flushLine x.line).2 }) ⟨rfl, .refl _⟩ (.foldl (fun t o => ?_) _ _)
  exact .trans (t := t.onCore _) ⟨rfl, .of_regs (.refl _) rfl⟩ (State.answers_sendMessage ..)

theorem State.answers_remember (s : State) (r : Req) (st : Status) (body : List Byte) : s.Answers (s.remember r st body) := by
  unfold State.remember
  split
  · split
    · exact .refl s
    · exact ⟨rfl, .refl _⟩
  · exact .refl s

theorem State.answers_answer (s : State) (r : Req) (st : Status) (body : List Byte) : s.Answers (s.answer r st body) := by
  unfold State.answer
  split
  · split
    · exact .refl s
    · have hcount (n : Nat) : s.Answers (s.onCore (·.bump Reg.PS_REQ_COUNT 0 n)) := ⟨rfl, .bump (.refl _)⟩
      exact (hcount _).trans (State.answers_flushSession ..)
  · extract_lets x
    split
    · exact .refl s
    · exact .ite (.refl s) ⟨rfl, .refl _⟩

theorem State.answers_answerKept (s : State) (r : Req) (st : Status) (body : List Byte) : s.Answers (s.answerKept r st body) :=
  (State.answers_remember ..).trans (State.answers_answer ..)

/-! ### A COMMAND that is heard (R232, R269) -/

/-- A heard COMMAND of domain 0 that its check passes and that no pair passes on is applied and answered. -/
theorem State.command_of_hears {s : State} {r : Req} {g : Gate} (h : s.hears r (commandOf g) 0) {x : Doing}
    (hcheck : x.check (s.taken r (commandOf g)) = none) : s.command r g none x =
      (x.apply (s.taken r (commandOf g))).answerKept r .ok (commandBody (x.epoch (s.taken r (commandOf g))) .none) := by
  unfold State.command
  rw [show ({ g with writes := !g.unit, kept := true, command := true, type := 0x80 } : Gate) = commandOf g from rfl,
    State.serve_of_hears h, hcheck]
  rfl

/-- So is one that passes over the partner link, while the unit serves alone. -/
theorem State.command_of_alone {s : State} {r : Req} {g : Gate} (h : s.hears r (commandOf g) 0) (halone : s.alone) {x : Doing}
    (c : Command) (hcheck : x.check (s.taken r (commandOf g)) = none) : s.command r g (some c) x =
      (x.apply (s.taken r (commandOf g))).answerKept r .ok (commandBody (x.epoch (s.taken r (commandOf g))) .none) := by
  have hstep : (s.taken r (commandOf g)).inStep = false := by rw [State.inStep, State.core_taken]; exact halone.1
  have hjoins : (s.taken r (commandOf g)).joins = false := by rw [State.joins, State.core_taken]; exact halone.2
  unfold State.command
  rw [show ({ g with writes := !g.unit, kept := true, command := true, type := 0x80 } : Gate) = commandOf g from rfl,
    State.serve_of_hears h, hcheck]
  dsimp only
  rw [hstep, hjoins]
  rfl

/-- With a standby in step it waits for the standby. -/
theorem State.command_of_inStep {s : State} {r : Req} {g : Gate} (h : s.hears r (commandOf g) 0) (hstep : s.inStep = true) {x : Doing}
    (c : Command) (hcheck : x.check (s.taken r (commandOf g)) = none) : s.command r g (some c) x =
      (s.taken r (commandOf g)).passCommand r (.command c) (x.epoch (s.taken r (commandOf g))) := by
  have hstep' : (s.taken r (commandOf g)).inStep = true := by rw [State.inStep, State.core_taken]; exact hstep
  unfold State.command
  rw [show ({ g with writes := !g.unit, kept := true, command := true, type := 0x80 } : Gate) = commandOf g from rfl,
    State.serve_of_hears h, hcheck]
  dsimp only
  rw [hstep']
  rfl

/-! ### A meter snapshot (R189) -/

theorem exec_meterSnapshot_of_alone {s : State} {r : Req} (h : s.hears r (commandOf {}) 0) (halone : s.alone) (rm : Bool) (m : Word) :
    ∃ t, exec (.meterSnapshot r rm m) s = .next t ∧
      t.met.snapsDue = s.met.snapsDue ++ [{ trigger := 2, resetMax := rm, mask := m.toNat }] := by
  have hexec : exec (.meterSnapshot r rm m) s =
      .next (s.upMet (s.command r {} (some (.meterSnapshot rm m)) (doMeterSnapshot rm m))) := rfl
  refine ⟨_, hexec, ?_⟩
  change (s.command r {} (some (.meterSnapshot rm m)) (doMeterSnapshot rm m)).met.snapsDue = _
  have htaken : (s.taken r (commandOf {})).met = s.met := (s.answerOnly_taken r _).same State.met
  rw [State.command_of_alone h halone _ rfl, (State.answerOnly_answerKept ..).same State.met]
  change (s.taken r (commandOf {})).met.snapsDue ++ _ = _
  rw [htaken]

/-! ### A switchover with the standby in step (R232, R237) -/

theorem State.epochOk_taken (s : State) (r : Req) (g : Gate) (code epoch : Nat) :
    (s.taken r g).epochOk code epoch = s.epochOk code epoch := by
  unfold State.epochOk
  rw [State.epoch_taken, State.sec_taken]

theorem State.inStep_taken (s : State) (r : Req) (g : Gate) : (s.taken r g).inStep = s.inStep := by
  unfold State.inStep
  rw [State.core_taken]

theorem State.paired_of_inStep {s : State} (h : s.inStep = true) : s.paired = true := (Bool.and_eq_true_iff.1 h).1

/-- What a duty keeps for its partner after a command passed on: it waits under the number of its frame (R232). -/
def State.pairPassing (s : State) (r : Req) (c : Passed) (epoch : Nat) : Pair :=
  { s.pair with cmds := s.pair.cmds ++ [⟨s.pair.txSeq, r, c⟩]
                sent := { seq := s.pair.txSeq, epoch := s.epoch, frame := .command c epoch } :: s.pair.sent
                txSeq := s.pair.txSeq + 1 }

theorem State.pairPassing_taken (s : State) (r r' : Req) (g : Gate) (c : Passed) (epoch : Nat) :
    (s.taken r g).pairPassing r' c epoch = s.pairPassing r' c epoch := by
  have hpair : (s.taken r g).pair = s.pair := (s.answerOnly_taken r g).same State.pair
  unfold State.pairPassing
  rw [hpair, State.epoch_taken]

theorem State.passCommand_of_paired {s : State} (h : s.paired = true) (r : Req) (c : Passed) (epoch : Nat) :
    s.passCommand r c epoch = { s with pair := s.pairPassing r c epoch } := if_pos h

theorem exec_switchover_of_inStep {s : State} {r : Req} {cur : Nat} (h : s.hears r (commandOf {}) 0) (hstep : s.inStep = true)
    (hepoch : s.epochOk 0xD cur = true) :
    ∃ t, exec (.switchover r cur true) s = .next t ∧
      t.pair = s.pairPassing r (.command (.switchover cur true)) s.epoch ∧ t.core.out = s.core.out := by
  have hexec : exec (.switchover r cur true) s =
      .next (s.upSwitch (s.command r {} (some (.switchover cur true)) (doSwitchover cur true))) := rfl
  have hcheck : (doSwitchover cur true).check (s.taken r (commandOf {})) = none := by
    simp [doSwitchover, State.epochOk_taken, State.inStep_taken, hepoch, hstep]
  have hpaired : (s.taken r (commandOf {})).paired = true :=
    State.paired_of_inStep ((State.inStep_taken ..).trans hstep)
  have happlied : (doSwitchover cur true).epoch (s.taken r (commandOf {})) = s.epoch := State.epoch_taken ..
  rw [State.command_of_inStep h hstep _ hcheck, happlied, State.passCommand_of_paired hpaired, State.pairPassing_taken] at hexec
  have hcore : (s.taken r (commandOf {})).core = s.core := State.core_taken ..
  generalize s.taken r (commandOf {}) = u at hcore hexec
  refine ⟨_, hexec, rfl, ?_⟩
  change u.core.out = _
  rw [hcore]

/-! ### Maintenance (R396, R397) -/

/-- The fields that the end of everything the sequencer drives can write. -/
def stopRows : List Row := [Reg.TSK_BUSY_MAX_CLOCKS, Reg.TRW_STAT_STATE, Reg.TICK_STATUS_RUNNING, Reg.TICK_STATUS_PHASE]

theorem State.writesIn_dropCycle (s : State) (e : Fin 8) (st : Nat) : s.core.WritesIn stopRows (s.dropCycle e st).core := by
  have he : e.val < 1024 := by omega
  unfold State.dropCycle
  extract_lets g t
  have ht : s.core.WritesIn stopRows t.core := by
    unfold t
    split
    · next n _ => exact .fput (.refl _) (by decide) (by omega)
    · exact .refl _
  exact ht.fput (by decide) he

theorem State.writesIn_stopTicks (s : State) : s.core.WritesIn stopRows s.stopTicks.core := by
  unfold State.stopTicks
  extract_lets t seq
  have ht : s.core.WritesIn stopRows t.core := by
    unfold t
    refine List.foldlRecOn (motive := fun u : State => s.core.WritesIn stopRows u.core) _ _ (.refl _) fun u hu e _ => ?_
    exact hu.trans (u.writesIn_dropCycle ..)
  exact .fput (.setFlag ht)

/-- A cause that arises stands. -/
theorem Core.testBit_setBit (k : Core) {r : Row} {bit : Nat} (h : bit < r.width) (i : Nat) :
    ((k.setBit r bit true i).fget r i).testBit bit = true := by
  rw [Core.setBit, Core.fget_fput_self]
  simp [Nat.testBit_mod_two_pow, h]

theorem State.enterMaintenance_facts (s : State) {c : Nat} (hc : 1 ≤ c ∧ c ≤ 5) :
    (s.enterMaintenance c).core.state = 3 ∧
      ((s.enterMaintenance c).core.fget Reg.SEC_MAINT_CAUSES).testBit (c - 1) = true := by
  unfold State.enterMaintenance
  extract_lets t u
  have hbit : c - 1 < Reg.SEC_MAINT_CAUSES.width := by
    change c - 1 < 5
    omega
  have ht : (t.core.fget Reg.SEC_MAINT_CAUSES).testBit (c - 1) = true := Core.testBit_setBit s.core hbit 0
  have hu : t.core.WritesIn stopRows u.core := by
    unfold u
    split
    · exact .refl _
    · exact t.writesIn_stopTicks
  have hset : (u.onCore (·.setState 3 u.lowestCause)).core.fget Reg.SEC_MAINT_CAUSES = t.core.fget Reg.SEC_MAINT_CAUSES :=
    (Core.writesIn_setState u.core 3 _).fget.trans hu.fget
  refine ⟨Core.state_setState u.core (by decide) _, ?_⟩
  rw [hset, ht]

/-- Where cause 5 alone stands, its end starts the sequencer anew (R397). -/
theorem State.endCause_of_alone {s : State} (hstate : s.core.state = 3) (hcauses : s.core.fget Reg.SEC_MAINT_CAUSES = 16) :
    (s.endCause 5).core.state = 0 ∧ (s.endCause 5).core.fget Reg.SEC_MAINT_CAUSES = 0 ∧
      (s.endCause 5).core.flag Reg.TMP_STAT_FULL = s.core.flag Reg.TMP_STAT_FULL ∧ (s.endCause 5).plat.step = some 8 := by
  have hhas : s.hasCause 5 = true := by
    unfold State.hasCause
    rw [hcauses]
    decide
  unfold State.endCause
  rw [hhas, Bool.not_true, if_neg (by decide)]
  extract_lets t
  have hwrites : s.core.WritesIn [Reg.SEC_MAINT_CAUSES] t.core := .fput (.refl _)
  have hnone : t.core.fget Reg.SEC_MAINT_CAUSES = 0 := by
    refine (Core.fget_fput_self ..).trans ?_
    rw [hcauses]
    decide
  have hstays : t.core.state = 3 := hwrites.fget.trans hstate
  rw [hstays, if_neg (by decide), if_pos hnone]
  have hset := Core.writesIn_setState t.core 0 0
  exact ⟨Core.state_setState t.core (by decide) 0, hset.fget.trans hnone, hset.flag.trans hwrites.flag, rfl⟩

theorem exec_maintenanceEnter_of_hears {s : State} {r : Req} (h : s.hears r (commandOf maintGate) 0) :
    ∃ t, exec (.maintenanceEnter r) s = .next t ∧ t.core.state = 3 ∧ (t.core.fget Reg.SEC_MAINT_CAUSES).testBit 4 = true := by
  have hexec : exec (.maintenanceEnter r) s = .next (s.upSec (s.command r maintGate none doMaintenanceEnter)) := rfl
  rw [State.command_of_hears h rfl] at hexec
  obtain ⟨hstate, hcause⟩ := (s.taken r (commandOf maintGate)).enterMaintenance_facts (c := 5) (by decide)
  refine ⟨_, hexec, ?_⟩
  change Core.state (State.core (State.answerKept ..)) = 3 ∧ (Core.fget (State.core (State.answerKept ..)) _).testBit 4 = true
  rw [Core.state, (State.answers_answerKept ..).fget, (State.answers_answerKept ..).fget]
  exact ⟨hstate, hcause⟩

theorem exec_maintenanceLeave_of_alone {s : State} {r : Req} (h : s.hears r (commandOf maintGate) 0) (hstate : s.core.state = 3)
    (hcauses : s.core.fget Reg.SEC_MAINT_CAUSES = 16) (hfull : s.core.flag Reg.TMP_STAT_FULL = true) :
    ∃ t, exec (.maintenanceLeave r) s = .next t ∧ t.core.state = 0 ∧ t.core.fget Reg.SEC_MAINT_CAUSES = 0 ∧
      t.plat.step = some 8 := by
  have hexec : exec (.maintenanceLeave r) s = .next (s.upSec (s.command r maintGate none doMaintenanceLeave)) := rfl
  rw [State.command_of_hears h rfl] at hexec
  have hcore : (s.taken r (commandOf maintGate)).core = s.core := State.core_taken ..
  generalize s.taken r (commandOf maintGate) = u at hcore hexec
  rw [← hcore] at hstate hcauses hfull
  obtain ⟨hstart, hnone, hfull', hstep⟩ := State.endCause_of_alone hstate hcauses
  have happly : doMaintenanceLeave.apply u = u.endCause 5 := by
    change (if !(u.endCause 5).core.flag Reg.TMP_STAT_FULL && _ then _ else _) = _
    rw [hfull', hfull]
    rfl
  rw [happly] at hexec
  generalize u.endCause 5 = v at hstart hnone hstep hexec
  refine ⟨_, hexec, ?_⟩
  have hans (st body) : v.Answers (v.answerKept r st body) := State.answers_answerKept ..
  have hplat (st body) : (v.answerKept r st body).plat = v.plat := (State.answerOnly_answerKept ..).same State.plat
  refine ⟨(hans ..).fget.trans hstart, (hans ..).fget.trans hnone, ?_⟩
  change (runPlat s.plat (State.plat (State.answerKept ..))).step = _
  rw [hplat, runPlat, hstep]
  rfl

/-! ### A recorder clear (R410) -/

theorem exec_recorderClear_of_hears {s : State} {r : Req} (h : s.hears r (commandOf unitGate) 0) {sg : Signed} {upto : Nat}
    (hsigns : s.signs 0xE sg) (hnext : s.core.evr.next ≤ upto) (hscan : s.core.evr.scanned = true)
    (hroom : s.core.evrRoom 0x0D01 = true) :
    ∃ t x, exec (.recorderClear r sg upto) s = .next t ∧ t.core.evr.next = s.core.evr.next + 1 ∧
      t.core.evr.fifo = s.core.evr.fifo ++ [x] ∧ x.code = 0x0D01 ∧ x.seq = s.core.evr.next ∧ x.domain = 0 := by
  have hexec : exec (.recorderClear r sg upto) s = .next (s.upSec (s.command r unitGate none (doRecorderClear sg upto))) := rfl
  have hcore : (s.taken r (commandOf unitGate)).core = s.core := State.core_taken ..
  have hcheck : (doRecorderClear sg upto).check (s.taken r (commandOf unitGate)) = none := by
    obtain ⟨hserial, hvalid, hepoch⟩ := hsigns
    simp [doRecorderClear, State.signedCheck, State.sec_taken, State.epochOk_taken, hcore, hserial, hvalid, hepoch, hscan, hroom, hnext]
  rw [State.command_of_hears h hcheck] at hexec
  generalize s.taken r (commandOf unitGate) = u at hcore hexec
  have hevr : u.core.opDone.evr = s.core.evr := by rw [← hcore]; rfl
  obtain ⟨hseq, hfifo⟩ := Core.record_of_room (k := u.core.opDone) (code := 0x0D01) (by rw [hevr, hscan])
    (by unfold Core.evrRoom at hroom ⊢; rw [hevr, hroom]) 0 (u.clearPayload 2 upto u.ownerKeyHead)
  have happly : ((doRecorderClear sg upto).apply u).core = u.core.opDone.record 0x0D01 0 (u.clearPayload 2 upto u.ownerKeyHead) := rfl
  rw [← happly, hevr] at hseq hfifo
  generalize (doRecorderClear sg upto).apply u = v at hseq hfifo hexec
  have hans (st body) : (v.answerKept r st body).core.evr = v.core.evr := (State.answers_answerKept ..).1
  exact ⟨_, _, hexec, (congrArg Recorder.next (hans ..)).trans hseq, (congrArg Recorder.fifo (hans ..)).trans hfifo,
    rfl, congrArg Recorder.next hevr, rfl⟩

/-- Settles O17: a heard command that passes its check is applied and answered, and the answer touches neither what it applied
nor the recorder; with a standby in step it is sent on and waits. -/
theorem moduleCommands : Obligations.ModuleCommands := by
  unfold Obligations.ModuleCommands
  intro s r
  refine ⟨fun rm m h halone => exec_meterSnapshot_of_alone h halone rm m, ?switchover, ?maintenance, ?recorder⟩
  case switchover =>
    intro cur h hstep hepoch c
    obtain ⟨t, hexec, hpair, hout⟩ := exec_switchover_of_inStep h hstep hepoch
    rw [State.pairPassing] at hpair
    exact ⟨t, hexec, by rw [hpair], by rw [hpair], by rw [hpair], hout, by rw [hpair]⟩
  case maintenance =>
    exact fun h => ⟨exec_maintenanceEnter_of_hears h, exec_maintenanceLeave_of_alone h⟩
  case recorder =>
    intro sg upto h hsigns hnext hscan hroom
    obtain ⟨t, x, hexec, hseq, hfifo, hcode, hnumber, hdomain⟩ := exec_recorderClear_of_hears h hsigns hnext hscan hroom
    exact ⟨t, hexec, hseq, by simp [hfifo], by simp [hfifo, hcode, hnumber, hdomain]⟩

end Sys2Proof.Machine
end

section
/-! What the reads, marks and writes of cells leave as they are, told by rows, and what the failure of a lane burst counts (R23, R24,
R206). -/

namespace Sys2Proof.Machine

namespace State.Within

variable {β : Type} {rs : List Row} {s t : State}

/-- A part of the state that `m` shows is the same. -/
theorem same {m : State → State} (h : s.Within m rs t) (f : State → β) (hf : ∀ s : State, f (m s) = f s := by intro _; rfl) :
    f t = f s := by rw [← hf t, h.1, hf]

/-- What shows less than `m` shows the same too. -/
theorem coarser {m : State → State} {m' : State → β} (h : s.Within m rs t) (hm : ∀ s : State, m' (m s) = m' s := by intro _; rfl) :
    s.Within m' rs t := ⟨h.same m' hm, h.2⟩

/-- A fold that carries a value beside the state stays within the first state, where each step stays within the state before it. -/
theorem foldl_snd {α γ : Type} {m : State → γ} {f : β × State → α → β × State}
    (h : ∀ (p : β × State) x, p.2.Within m rs (f p x).2) (l : List α) (p : β × State) : p.2.Within m rs (l.foldl f p).2 :=
  List.foldlRecOn (motive := fun q : β × State => p.2.Within m rs q.2) l f (.refl p.2) fun q hq x _ => hq.trans (h q x)

end State.Within

/-! ### Reads, marks and writes of cells (R15, R23, R24, R215) -/

/-- Rows that reads and writes of cells can write. -/
def cellRows : List Row := Reg.TICK_CHECK_FAIL_COUNT :: Reg.MSK_REFUSED_COUNT :: Reg.LANE_NAN_COUNT :: recorderRows

/-- `t` differs from `s` in cells of the working buffer, and in fields that reads and writes of cells can write. -/
abbrev State.CellsOnly (s t : State) : Prop := s.Within State.imageless cellRows t

/-- The state but for the shared core and the failed checks that have been reported. -/
def State.unfailing (s : State) : State := { s with core := {}, img := { s.img with failSeen := [] } }

/-- A failed check anywhere but in a trowel engine is counted and reported. -/
theorem State.within_checkFailed (s : State) (a : Nat) {place : Nat} (domain : Nat) (hp : place ≠ 1) :
    s.Within State.unfailing cellRows (s.checkFailed a place domain) := by
  have hbump : s.Within State.unfailing cellRows (s.onCore (·.bump Reg.TICK_CHECK_FAIL_COUNT)) :=
    .onCore (.refl s) (.bump (.refl _))
  have hseen : ∀ (t : State) m, t.Within State.unfailing cellRows { t with img := { t.img with failSeen := m } } := fun _ _ =>
    ⟨rfl, .refl _⟩
  simp only [State.checkFailed, if_neg hp]
  exact .ite ((hbump.trans (hseen _ _)).record ..) hbump

theorem State.cellsOnly_readCell (s : State) (a : Nat) {place : Nat} (hp : place ≠ 1) : s.CellsOnly (s.readCell a place).2 := by
  unfold State.readCell
  split
  · exact .refl s
  split
  · exact .refl s
  · exact .trans (t := s.sealCell a _) ⟨rfl, .refl _⟩ (State.within_checkFailed _ _ _ hp).coarser

theorem State.cellsOnly_markCell (s : State) (a : Nat) (f : List Nat → List Nat) : s.CellsOnly (s.markCell a f) := by
  have hread := s.cellsOnly_readCell a (place := 2) (by decide)
  unfold State.markCell
  split
  · next heq => rw [heq] at hread; exact hread.trans ⟨rfl, .refl _⟩
  · next heq => rw [heq] at hread; exact hread

theorem State.cellsOnly_markCells (s : State) (cells : List Nat) (q : Nat) : s.CellsOnly (s.markCells cells q) :=
  .foldl (fun t a => t.cellsOnly_markCell a _) cells s

theorem State.cellsOnly_writeCell (s : State) (a : Nat) (v : Word) (cs : List Nat) (src epoch : Nat) :
    s.CellsOnly (s.writeCell a v cs src epoch) :=
  .ite (.refl s) (.ite (.onCore (.refl s) (.bump (.refl _))) ⟨rfl, .refl _⟩)

theorem State.cellsOnly_enterCell (s : State) (b : LaneBinding) (chKind : Nat) (prev : Option LWord) (w : LWord) :
    s.CellsOnly (s.enterCell b chKind prev w) := by
  have hread := s.cellsOnly_readCell b.cell (place := 2) (by decide)
  unfold State.enterCell
  extract_lets k faulty keeps
  split
  next old u hold =>
    have hu : s.CellsOnly u := by
      split at hold
      · split at hold
        · next heq => rw [heq] at hread; cases hold; exact hread
        · next heq => rw [heq] at hread; cases hold; exact hread.trans ⟨rfl, .of_regs (.refl _) rfl⟩
      · cases hold; exact .refl s
    exact .ite (hu.trans (State.cellsOnly_writeCell ..)) (hu.trans (State.cellsOnly_writeCell ..))

/-- The words of a read enter cells, and the references of counter channels. -/
theorem State.within_enterWords (s : State) (carrier channel : Nat) (ws : List LWord) :
    s.Within State.seq cellRows (s.enterWords carrier channel ws) := by
  unfold State.enterWords
  refine .foldl (fun t p => ?_) _ s
  dsimp only
  have henter (l : List LaneBinding) k prev : t.Within State.seq cellRows (l.foldl (fun u b => u.enterCell b k prev p.1) t) :=
    .foldl (fun u b => (u.cellsOnly_enterCell b k prev p.1).coarser) l t
  exact .ite (.refl t) (.ite ((henter ..).trans ⟨rfl, .refl _⟩) (henter ..))

theorem State.cellsOnly_laneWord (s : State) (carrier channel : Nat) : s.CellsOnly (s.laneWord carrier channel).2 := by
  unfold State.laneWord
  refine State.Within.foldl_snd (fun p b => ?_) _ (_, s)
  have hread := p.2.cellsOnly_readCell b.cell (place := 5) (by decide)
  split
  · next heq =>
    rw [heq] at hread
    split
    · exact hread
    · split
      · exact hread
      · exact hread.onCore (.ite (.bump (.refl _)) (.refl _))
  · next heq => rw [heq] at hread; exact hread

theorem State.cellsOnly_laneWords (s : State) (carrier channel n : Nat) : s.CellsOnly (s.laneWords carrier channel n).2 := by
  induction n generalizing s channel with
  | zero => exact .refl s
  | succ n ih => exact (s.cellsOnly_laneWord carrier channel).trans (ih _ _)

theorem State.length_laneWords (s : State) (carrier channel n : Nat) : (s.laneWords carrier channel n).1.length = n := by
  induction n generalizing s channel with
  | zero => rfl
  | succ n ih => exact congrArg (· + 1) (ih _ _)

/-! ### Marks keep what a cell holds (R23) -/

/-- VALUE and EPOCH of a cell of the working buffer. -/
def State.stamped (s : State) (a : Nat) : Option (Word × Word) := (s.img.working.at? a).map fun c => (c.value, c.epoch)

/-- A cell that is stored with its VALUE and EPOCH. -/
theorem State.stamped_store {s : State} {a : Nat} {c c' : Cell} (hat : s.img.working.at? a = some c) (hv : c'.value = c.value)
    (he : c'.epoch = c.epoch) (cs : List Nat) : (s.store a c' cs).stamped = s.stamped := by
  funext b
  unfold State.stamped
  by_cases hab : a = b
  · subst hab
    simp [State.store, SMap.at?_put, hat, hv, he]
  · simp [State.store, SMap.at?_put, hab]

theorem State.readCell_facts (s : State) (a : Nat) {place : Nat} (hp : place ≠ 1) : (s.readCell a place).2.stamped = s.stamped ∧
    ∀ c, (s.readCell a place).1 = some (c, true) → (s.readCell a place).2 = s ∧ s.img.working.at? a = some c := by
  unfold State.readCell
  split
  · exact ⟨rfl, fun _ h => by cases h⟩
  · next c hat =>
    split
    · exact ⟨rfl, fun _ h => by cases h; exact ⟨rfl, hat⟩⟩
    · have hseal : (s.sealCell a c).stamped = s.stamped := State.stamped_store hat (by rfl) (by rfl) _
      exact ⟨((State.within_checkFailed _ _ _ hp).same State.stamped).trans hseal, fun _ h => by cases h⟩

theorem State.stamped_markCell (s : State) (a : Nat) (f : List Nat → List Nat) : (s.markCell a f).stamped = s.stamped := by
  obtain ⟨hstamp, hgood⟩ := s.readCell_facts a (place := 2) (by decide)
  unfold State.markCell
  dsimp only
  split
  · next heq =>
    rw [heq] at hgood
    obtain ⟨rfl, hat⟩ := hgood _ rfl
    exact State.stamped_store hat (by rfl) (by rfl) _
  · next heq => rw [heq] at hstamp; exact hstamp

/-- Marks change neither VALUE nor EPOCH of any cell. -/
theorem State.stamped_markCells (s : State) (cells : List Nat) (q : Nat) : (s.markCells cells q).stamped = s.stamped :=
  List.foldlRecOn cells _ (motive := fun t : State => t.stamped = s.stamped) rfl fun t ht a _ => (t.stamped_markCell a _).trans ht

/-- A cell whose check holds is marked. -/
theorem State.conds_markCells_one {s : State} {a : Nat} {c : Cell} (hat : s.img.working.at? a = some c)
    (hcheck : c.check = checkOf (s.pointId a) c) (q : Nat) : ((s.markCells [a] q).conds a).contains q = true := by
  have hread : s.readCell a 2 = (some (c, true), s) := by simp only [State.readCell, hat, if_pos hcheck]
  have hmark : (s.markCells [a] q).conds a = addCond q (s.conds a) := by
    simp only [State.markCells, List.foldl_cons, List.foldl_nil, State.markCell, hread]
    exact SMap.atD_put_self ..
  rw [hmark, addCond]
  split
  · assumption
  · simp

/-! ### The failure of a burst (R206) -/

/-- Where a failed burst is counted. -/
def failRow (write : Bool) : Row := if write then Reg.LANE_CRC_FAIL_WR else Reg.LANE_CRC_FAIL_RD

/-- A failed burst is counted, and reported by a record. -/
theorem State.burstFailed_eq (s : State) (carrier kind : Nat) (write : Bool) : ∃ k m,
    s.burstFailed carrier kind write = { s with core := k, lane := { s.lane with failSeen := m } } ∧
      s.core.WritesIn (failRow write :: recorderRows) k ∧
      k.fget (failRow write) = satAdd 16 (s.core.fget (failRow write)) 1 := by
  have hwidth : (failRow write).width = 16 := by cases write <;> rfl
  have hcount := Core.fget_bump s.core (failRow write) 0 1
  rw [hwidth] at hcount
  have hbump : s.core.WritesIn (failRow write :: recorderRows) (s.core.bump (failRow write)) := .bump (.refl _) List.mem_cons_self
  have hapart : ∀ r' ∈ recorderRows, (failRow write).id ≠ r'.id := by cases write <;> decide
  unfold State.burstFailed
  extract_lets u n
  split
  · have hrecord := Core.writesIn_record (s.core.bump (failRow write)) 0x0501 0 (le carrier 1 ++ le kind 1 ++
      le (s.onCore (·.bump (failRow write))).epoch 8)
    exact ⟨_, _, rfl, hbump.trans (hrecord.mono (List.subset_cons_self ..)), (hrecord.fget hapart).trans hcount⟩
  · exact ⟨_, s.lane.failSeen, rfl, hbump, hcount⟩

/-! ### A burst that does not fail -/

theorem State.burstFails_zero {s : State} {carrier channel words kind : Nat} {w : Wire} (hw : w.failures = 0)
    (hend : s.pastEnd carrier channel words kind = false) : s.burstFails carrier channel words kind w = 0 := by
  simp [State.burstFails, hend, hw]

theorem State.burstLost_zero (s : State) (w : Wire) : s.burstLost 0 w = false := by simp [State.burstLost]

theorem State.pastEnd_of_le {s : State} {carrier channel words kind : Nat} {c : Carrier} (hc : s.lane.carriers.at? carrier = some c)
    (h : channel + words - 1 ≤ c.lastWord kind) : s.pastEnd carrier channel words kind = false := by
  simpa [State.pastEnd, hc] using h

theorem State.countRepeats_writes (s : State) (n : Nat) : s.core.WritesIn [Reg.LANE_RETRIES_COUNT] (s.countRepeats n).core :=
  .bump (.refl _)

theorem State.countRepeats_count (s : State) (n : Nat) : (s.countRepeats n).core.fget Reg.LANE_RETRIES_COUNT =
    satAdd 32 (s.core.fget Reg.LANE_RETRIES_COUNT) (min n (s.core.fget Reg.LANE_CFG_RETRY)) := Core.fget_bump ..

/-- A burst that changes nothing is let through as it is. -/
theorem State.upLane_self (s : State) : s.upLane s = s := rfl

end Sys2Proof.Machine
end

section
/-! The bursts of the input and output sweeps on a single unit's lane (R203 to R206, R215, R218). -/

namespace Sys2Proof

/-- What a carrier makes of a write burst (R204, R205). -/
def Carrier.written (c : Carrier) (channel words : Nat) (own : List (Option LWord)) (fails : Nat) (lost : Bool) : Carrier :=
  let heard : Carrier := if c.lastWord 1 < channel + words - 1 then c else c.writeFails fails
  if lost then heard else heard.takeWords channel (Machine.leftOut own) (own.map (·.getD 0))

end Sys2Proof

namespace Sys2Proof.Machine

/-! ### A burst of the input sweep (R203, R206, R215) -/

/-- The cells that the words of a read enter. -/
def State.readCells (s : State) (carrier channel words : Nat) : List Nat :=
  (List.range words).flatMap fun i =>
    ((s.bindings carrier (channel + i)).filter fun _ => !outKind (s.channelKind carrier (channel + i))).map (·.cell)

/-- `s` with a read's repeats counted and its place taken from the input sweep, of which `rest` is left. -/
def State.readTaken (s : State) (rest : List BurstDef) (words fails : Nat) : State :=
  let u := s.countRepeats fails
  { u with seq := { u.seq with inLeft := rest, inCycles := u.seq.inCycles + u.burstCycles words fails } }

/-- `s` with the words of a read entered, or with its cells marked and its failure counted. -/
def State.readEntered (s : State) (carrier channel words : Nat) (w : Wire) (lost : Bool) : State :=
  if lost then (s.markCells (s.readCells carrier channel words) Qual.comm).burstFailed carrier 0 false
  else s.enterWords carrier channel (s.readWords carrier channel words w)

/-- `s` with the input sweep ended, where nothing is left of it. -/
def State.readOver (s : State) (rest : List BurstDef) : State := if rest.isEmpty then s.endInput else s

theorem State.dataRd_eq {s : State} {carrier : Fin 32} {channel words : Nat} {rest : List BurstDef} (hlane : s.onLane = true)
    (hstandby : s.standby = false) (hpaired : s.paired = false) (hleft : s.seq.inLeft = ⟨carrier, channel, words⟩ :: rest)
    (w : Wire) : let n := s.burstFails carrier channel words 0 w
      s.dataRd carrier channel words w =
        ((s.readTaken rest words n).readEntered carrier channel words w (s.burstLost n w)).readOver rest := by
  intro n
  have hp : (s.readTaken rest words n).paired = false := by
    unfold State.paired at hpaired ⊢
    rw [← hpaired]
    exact (s.countRepeats_writes n).flag
  unfold State.dataRd
  split
  · next h => rw [hleft] at h; cases h
  · next h =>
    rw [hleft] at h
    cases h
    rw [if_neg (by simp [hlane])]
    extract_lets lost snoops bad counted marks taken cells ws p sent entered noted checked
    have hsnoops : snoops = false := hstandby
    have hbad : bad = lost := by unfold bad; rw [hsnoops]; rfl
    have hsent : sent = taken := if_neg (by rw [show taken.paired = false from hp]; decide)
    have hentered : entered = (s.readTaken rest words n).readEntered carrier channel words w lost := by
      unfold entered
      rw [hbad, hsent]
      rfl
    have hchecked : checked = entered := by unfold checked; rw [hsnoops]; rfl
    rw [hchecked, hentered]
    rfl

theorem State.readTaken_facts (s : State) (rest : List BurstDef) (words fails : Nat) : let t := s.readTaken rest words fails
    t.seq = { s.seq with inLeft := rest, inCycles := s.seq.inCycles + s.burstCycles words fails } ∧
      s.core.WritesIn [Reg.LANE_RETRIES_COUNT] t.core ∧ t.core.fget Reg.LANE_RETRIES_COUNT =
        satAdd 32 (s.core.fget Reg.LANE_RETRIES_COUNT) (min fails (s.core.fget Reg.LANE_CFG_RETRY)) := by
  have hwrites := s.countRepeats_writes fails
  have hcycles : (s.countRepeats fails).burstCycles words fails = s.burstCycles words fails := by
    unfold State.burstCycles
    rw [hwrites.fget]
  refine ⟨?_, hwrites, s.countRepeats_count fails⟩
  rw [← hcycles]
  rfl

/-- What a read looks up is as it was before its burst. -/
theorem State.readTaken_reads (s : State) (rest : List BurstDef) (words fails : Nat) : let t := s.readTaken rest words fails
    t.pointId = s.pointId ∧ t.epoch = s.epoch ∧ t.readWords = s.readWords := by
  have hwrites := s.countRepeats_writes fails
  have hposition : (s.readTaken rest words fails).core.fget Reg.GLB_UNIT_POSITION = s.core.fget Reg.GLB_UNIT_POSITION :=
    hwrites.fget
  have hrole : (s.readTaken rest words fails).core.fget Reg.GLB_UNIT_ROLE = s.core.fget Reg.GLB_UNIT_ROLE := hwrites.fget
  refine ⟨?_, hwrites.pair, ?_⟩
  · funext a
    unfold State.pointId
    rw [hposition]
    rfl
  · funext carrier channel words' w
    unfold State.readWords State.standby Core.isStandby
    rw [hrole]
    rfl

/-- A burst that failed is counted, its cells marked and no value changed; the words of another enter. -/
theorem State.readEntered_facts (s : State) (carrier channel words : Nat) (w : Wire) (lost : Bool) :
    let t := s.readEntered carrier channel words w lost
    t.seq = s.seq ∧ s.core.WritesIn (Reg.LANE_CRC_FAIL_RD :: cellRows) t.core ∧
      t.core.fget Reg.LANE_CRC_FAIL_RD =
        (if lost then satAdd 16 (s.core.fget Reg.LANE_CRC_FAIL_RD) 1 else s.core.fget Reg.LANE_CRC_FAIL_RD) := by
  cases lost with
  | true =>
    have hmarks := s.cellsOnly_markCells (s.readCells carrier channel words) Qual.comm
    obtain ⟨k, m, hfailed, hwrites, hcount⟩ :=
      (s.markCells (s.readCells carrier channel words) Qual.comm).burstFailed_eq carrier 0 false
    have hread : s.readEntered carrier channel words w true =
        (s.markCells (s.readCells carrier channel words) Qual.comm).burstFailed carrier 0 false := rfl
    have hrow := hmarks.fget (r := Reg.LANE_CRC_FAIL_RD) (i := 0)
    rw [hread, hfailed]
    refine ⟨hmarks.same State.seq, (hmarks.2.mono (List.subset_cons_self ..)).trans (hwrites.mono (by decide)), ?_⟩
    rw [← hrow]
    exact hcount
  | false =>
    obtain ⟨hseq, hwrites⟩ := s.within_enterWords carrier channel (s.readWords carrier channel words w)
    exact ⟨hseq, hwrites.mono (List.subset_cons_self ..), hwrites.fget⟩

theorem State.readEntered_stamped (s : State) (carrier channel words : Nat) (w : Wire) :
    (s.readEntered carrier channel words w true).stamped = s.stamped := by
  obtain ⟨k, m, hfailed, -⟩ :=
    (s.markCells (s.readCells carrier channel words) Qual.comm).burstFailed_eq carrier 0 false
  have hread : s.readEntered carrier channel words w true =
      (s.markCells (s.readCells carrier channel words) Qual.comm).burstFailed carrier 0 false := rfl
  rw [hread, hfailed]
  exact s.stamped_markCells ..

/-- The cell of a channel bound once, where its read failed. -/
theorem State.readEntered_conds {s : State} {carrier channel : Nat} {b : LaneBinding} {c : Cell}
    (hbind : s.bindings carrier channel = [b]) (hin : outKind (s.channelKind carrier channel) = false)
    (hat : s.img.working.at? b.cell = some c) (hcheck : c.check = checkOf (s.pointId b.cell) c) (w : Wire) :
    ((s.readEntered carrier channel 1 w true).conds b.cell).contains Qual.comm = true := by
  have hcells : s.readCells carrier channel 1 = [b.cell] := by simp [State.readCells, hbind, hin]
  obtain ⟨k, m, hfailed, -⟩ := (s.markCells [b.cell] Qual.comm).burstFailed_eq carrier 0 false
  have hread : s.readEntered carrier channel 1 w true =
      (s.markCells (s.readCells carrier channel 1) Qual.comm).burstFailed carrier 0 false := rfl
  rw [hread, hcells, hfailed]
  exact State.conds_markCells_one hat hcheck Qual.comm

/-- The cell of a uint32 channel bound once takes the word that was read. -/
theorem State.readEntered_cell {s : State} {carrier channel : Nat} {b : LaneBinding} {w : Wire} {x : LWord}
    (hbind : s.bindings carrier channel = [b]) (hin : outKind (s.channelKind carrier channel) = false)
    (hread : s.readWords carrier channel 1 w = [x]) (hkind : kindOf (s.kindDomain b.cell).1 = .uint32) (hx : x ≠ 0x8000)
    (hfaulty : s.lane.faulty = []) (hcell : (s.img.working.at? b.cell).isSome) (hforced : s.isForced b.cell = false) :
    (s.readEntered carrier channel 1 w false).img.working.at? b.cell = some (s.formCell b.cell
      (laneIn (s.channelKind carrier channel) b .uint32 0 (s.lane.refs.at? (carrier * 128 + channel)) x)
      (s.writeConds b.cell []) 0 s.epoch) := by
  have hkeeps : ¬(s.channelKind carrier channel = 3 ∧ x = 0x8000#16) := fun h => hx h.2
  have hwrite : s.enterCell b (s.channelKind carrier channel) (s.lane.refs.at? (carrier * 128 + channel)) x =
      s.writeCell b.cell (laneIn (s.channelKind carrier channel) b .uint32 0 (s.lane.refs.at? (carrier * 128 + channel)) x)
        [] 0 s.epoch := by
    simp [State.enterCell, hkind, hkeeps, hfaulty]
  have himg : (s.readEntered carrier channel 1 w false).img = (s.enterCell b (s.channelKind carrier channel)
      (s.lane.refs.at? (carrier * 128 + channel)) x).img := by
    simp only [State.readEntered, hread, State.enterWords, List.zipIdx_cons, List.zipIdx_nil, List.foldl_cons, List.foldl_nil,
      Nat.add_zero, hin, hbind, Bool.false_eq_true, if_false]
    split <;> rfl
  rw [himg, hwrite]
  exact State.writeCell_working hcell hforced ..

theorem State.readOver_facts {s : State} {rest : List BurstDef} (h : s.seq.inLeft = rest) : let t := s.readOver rest
    t.seq.inLeft = rest ∧ t.seq.inDone = (s.seq.inDone || rest.isEmpty) ∧ t.seq.inCycles = s.seq.inCycles ∧ t.img = s.img ∧
      s.core.WritesIn [Reg.TICK_SWEEP_IN_CYC] t.core := by
  cases rest with
  | nil => exact ⟨rfl, (Bool.or_true _).symm, rfl, rfl, .fput (.refl _)⟩
  | cons b rest => exact ⟨h, (Bool.or_false _).symm, rfl, rfl, .refl _⟩

/-! ### A burst of the output sweep (R204, R206) -/

theorem State.cellsOnly_ownWords (s : State) (carrier channel words : Nat) : s.CellsOnly (s.ownWords carrier channel words).2 :=
  s.cellsOnly_laneWords carrier channel words

theorem State.length_ownWords (s : State) (carrier channel words : Nat) : (s.ownWords carrier channel words).1.length = words :=
  List.length_map _ |>.trans (s.length_laneWords carrier channel words)

/-- `s` with a write's place taken from the output sweep, of which `rest` is left, and its cycles booked. -/
def State.writeTaken (s : State) (rest : List BurstDef) (words fails : Nat) : State :=
  { s with seq := { s.seq with outLeft := rest, outCycles := s.seq.outCycles + s.burstCycles words fails } }

theorem State.dataWr_eq {s : State} {carrier : Fin 32} {channel words : Nat} {rest : List BurstDef} (hlane : s.onLane = true)
    (hstandby : s.standby = false) (hpaired : s.paired = false) (hleft : s.seq.outLeft = ⟨carrier, channel, words⟩ :: rest)
    (w : Wire) : let own := (s.ownWords carrier channel words).1
      let u := (s.ownWords carrier channel words).2
      let n := u.burstFails carrier channel words 1 w
      s.dataWr carrier channel words w =
        if rest.isEmpty then (u.writeTaken rest words 0).finishSweep.burstSent carrier channel [] own n w
        else (u.writeTaken rest words n).burstSent carrier channel [] own n w := by
  have hwords := s.cellsOnly_ownWords carrier channel words
  unfold State.dataWr
  split
  · next h => rw [hleft] at h; cases h
  · next h =>
    rw [hleft] at h
    cases h
    rw [if_neg (by simp [hlane])]
    generalize s.ownWords carrier channel words = x at hwords
    obtain ⟨own, u⟩ := x
    have hp : u.paired = false := by
      unfold State.paired at hpaired ⊢
      rw [← hpaired]
      exact hwords.flag
    have hcompares : u.compares = false := by
      have hrole : u.standby = s.standby := by
        unfold State.standby Core.isStandby
        rw [hwords.fget]
      unfold State.compares
      rw [hrole, hstandby]
      rfl
    simp only [hcompares, hp, Bool.false_eq_true, if_false, List.foldl_nil]
    rfl

theorem State.burstSent_seq (s : State) (carrier channel : Nat) (held : List Nat) (own : List (Option LWord)) (fails : Nat)
    (w : Wire) : (s.burstSent carrier channel held own fails w).seq = s.seq := by
  have htakes : ∀ (t : State) held ws lost, (t.carrierTakes carrier channel held ws fails lost).seq = t.seq := fun t held ws lost => by
    unfold State.carrierTakes
    split <;> rfl
  unfold State.burstSent
  extract_lets lost u wire v
  have hv : v.seq = s.seq := htakes u _ wire lost
  split
  · obtain ⟨k, m, hfailed, -⟩ := v.burstFailed_eq carrier 1 true
    rw [hfailed]
    exact hv
  · exact hv

/-- A write burst on a single unit's lane: its failure counted, no cell touched, and the carrier as `Carrier.written` says. -/
theorem State.burstSent_facts {s : State} (hstandby : s.standby = false) (carrier channel : Nat) (own : List (Option LWord))
    (fails : Nat) (w : Wire) : let t := s.burstSent carrier channel [] own fails w
    t.img = s.img ∧ t.core.fget Reg.LANE_CRC_FAIL_WR = (if s.burstLost fails w then satAdd 16 (s.core.fget Reg.LANE_CRC_FAIL_WR) 1
      else s.core.fget Reg.LANE_CRC_FAIL_WR) ∧
      ∀ c, s.lane.carriers.at? carrier = some c →
        t.lane.carriers.at? carrier = some (c.written channel own.length own fails (s.burstLost fails w)) := by
  have hcounted := s.countRepeats_writes fails
  have hrole : (s.countRepeats fails).standby = false := by
    unfold State.standby Core.isStandby at hstandby ⊢
    rw [hcounted.fget, hstandby]
  have htakes : ∃ m, (s.countRepeats fails).carrierTakes carrier channel (leftOut own) (own.map (·.getD 0)) fails
      (s.burstLost fails w) = { s.countRepeats fails with lane := { s.lane with carriers := m } } ∧
        ∀ c, s.lane.carriers.at? carrier = some c →
          m.at? carrier = some (c.written channel own.length own fails (s.burstLost fails w)) := by
    have hlength : (own.map (·.getD 0)).length = own.length := List.length_map _
    unfold State.carrierTakes
    split
    · next h => exact ⟨s.lane.carriers, rfl, fun c hc => absurd (hc.symm.trans h) (by simp)⟩
    · next c h =>
      refine ⟨_, rfl, fun c' hc' => ?_⟩
      obtain rfl : c = c' := Option.some.inj (h.symm.trans hc')
      rw [SMap.at?_put, if_pos rfl, hlength]
      simp only [Carrier.written, decide_eq_true_eq]
  obtain ⟨m, htaken, hcarrier⟩ := htakes
  have hrow := hcounted.fget (r := Reg.LANE_CRC_FAIL_WR) (i := 0)
  unfold State.burstSent
  simp only [hrole, Bool.false_eq_true, if_false, List.nil_append, htaken]
  split
  · obtain ⟨k, m', hfailed, -, hcount⟩ := State.burstFailed_eq
      { s.countRepeats fails with lane := { s.lane with carriers := m } } carrier 1 true
    rw [hfailed]
    refine ⟨rfl, ?_, hcarrier⟩
    rw [← hrow]
    exact hcount
  · exact ⟨rfl, hrow, hcarrier⟩

/-! ### The statement -/

theorem exec_dataRd_facts {s : State} {carrier : Fin 32} {ch : Fin 128} {words : Nat} {rest : List BurstDef}
    (hlane : s.onLane = true) (hstandby : s.standby = false) (hpaired : s.paired = false)
    (hleft : s.seq.inLeft = ⟨carrier, ch, words⟩ :: rest) (w : Wire) : let n := s.burstFails carrier ch words 0 w
    let e := (s.readTaken rest words n).readEntered carrier ch words w (s.burstLost n w)
    ∃ t, exec (.dataRd carrier ch words w) s = .next t ∧ t.seq.inLeft = rest ∧
      t.seq.inDone = (s.seq.inDone || rest.isEmpty) ∧ t.seq.inCycles = s.seq.inCycles + s.burstCycles words n ∧
      t.core.fget Reg.LANE_RETRIES_COUNT =
        satAdd 32 (s.core.fget Reg.LANE_RETRIES_COUNT) (min n (s.core.fget Reg.LANE_CFG_RETRY)) ∧
      t.core.fget Reg.LANE_CRC_FAIL_RD = (if s.burstLost n w then satAdd 16 (s.core.fget Reg.LANE_CRC_FAIL_RD) 1
        else s.core.fget Reg.LANE_CRC_FAIL_RD) ∧ t.img = e.img := by
  intro n e
  have hexec : exec (.dataRd carrier ch words w) s = .next (s.upLane (s.dataRd carrier ch words w)) := rfl
  obtain ⟨htaken, hcounted, hcount⟩ := s.readTaken_facts rest words n
  obtain ⟨hseq, hwrites, hfails⟩ := (s.readTaken rest words n).readEntered_facts carrier ch words w (s.burstLost n w)
  have hmarks := hseq.trans htaken
  obtain ⟨hleft', hdone, hcycles, himg, hcyc⟩ := State.readOver_facts (s := e) (rest := rest) (by rw [hmarks])
  rw [State.dataRd_eq hlane hstandby hpaired hleft] at hexec
  rw [hmarks] at hdone hcycles
  refine ⟨_, hexec, hleft', hdone, hcycles, ?_, ?_, himg⟩
  · exact (hcyc.fget.trans hwrites.fget).trans hcount
  · exact hcyc.fget.trans (hfails.trans (by rw [hcounted.fget]))

/-- The own words are formed before the burst; what they leave of the state decides about it as the state before them. -/
theorem State.ownWords_facts (s : State) (carrier channel words : Nat) : let u := (s.ownWords carrier channel words).2
    u.seq = s.seq ∧ u.lane = s.lane ∧ u.standby = s.standby ∧ u.paired = s.paired ∧
      u.core.fget Reg.LANE_CFG_RETRY = s.core.fget Reg.LANE_CFG_RETRY ∧
      u.core.fget Reg.LANE_CRC_FAIL_WR = s.core.fget Reg.LANE_CRC_FAIL_WR := by
  have h := s.cellsOnly_ownWords carrier channel words
  refine ⟨h.same State.seq, h.same State.lane, ?_, h.flag, h.fget, h.fget⟩
  unfold State.standby Core.isStandby
  rw [h.fget]

theorem exec_dataWr_facts {s : State} {carrier : Fin 32} {ch : Fin 128} {words : Nat} {rest : List BurstDef}
    (hlane : s.onLane = true) (hstandby : s.standby = false) (hpaired : s.paired = false)
    (hleft : s.seq.outLeft = ⟨carrier, ch, words⟩ :: rest) (hrest : rest ≠ []) (w : Wire) :
    let n := s.burstFails carrier ch words 1 w
    ∃ t, exec (.dataWr carrier ch words w) s = .next t ∧ t.seq.outLeft = rest ∧
      t.seq.outCycles = s.seq.outCycles + s.burstCycles words n ∧ t.img = (s.ownWords carrier ch words).2.img ∧
      t.core.fget Reg.LANE_CRC_FAIL_WR = (if s.burstLost n w then satAdd 16 (s.core.fget Reg.LANE_CRC_FAIL_WR) 1
        else s.core.fget Reg.LANE_CRC_FAIL_WR) ∧
      ∀ c, s.lane.carriers.at? carrier = some c → t.lane.carriers.at? carrier =
        some (c.written ch words (s.ownWords carrier ch words).1 n (s.burstLost n w)) := by
  intro n
  have hexec : exec (.dataWr carrier ch words w) s = .next (s.upLane (s.dataWr carrier ch words w)) := rfl
  obtain ⟨hseq, hbus, hrole, -, hretry, hrow⟩ := s.ownWords_facts carrier ch words
  have hlength := s.length_ownWords carrier ch words
  rw [State.dataWr_eq hlane hstandby hpaired hleft, if_neg (by simpa using hrest)] at hexec
  generalize s.ownWords carrier ch words = x at *
  obtain ⟨own, u⟩ := x
  dsimp only at *
  have hn : u.burstFails carrier ch words 1 w = n := by
    unfold n State.burstFails State.pastEnd
    rw [hbus, hretry]
  have hlost : (u.writeTaken rest words n).burstLost n w = s.burstLost n w := by
    have h : u.burstLost n w = s.burstLost n w := by unfold State.burstLost; rw [hretry]
    exact h
  have hcycles : u.burstCycles words n = s.burstCycles words n := by unfold State.burstCycles; rw [hretry]
  rw [hn] at hexec
  obtain ⟨himg, hcount, hcarrier⟩ := State.burstSent_facts (s := u.writeTaken rest words n) (hrole.trans hstandby) carrier ch own n w
  rw [hlost] at hcount hcarrier
  rw [hlength] at hcarrier
  have hmarks := (u.writeTaken rest words n).burstSent_seq carrier ch [] own n w
  refine ⟨_, hexec, (congrArg Seq.outLeft hmarks), (congrArg Seq.outCycles hmarks).trans ?_, himg, hcount.trans ?_, fun c hc =>
    hcarrier c ?_⟩
  · change u.seq.outCycles + u.burstCycles words n = _
    rw [hseq, hcycles]
  · change (if _ then satAdd 16 (u.core.fget _) 1 else u.core.fget _) = _
    rw [hrow]
  · change u.lane.carriers.at? carrier = _
    rw [hbus, hc]

/-- The last burst of the output sweep ends it with the swap (R45, R206). -/
theorem exec_dataWr_last {s : State} {carrier : Fin 32} {ch : Fin 128} {words : Nat} (hlane : s.onLane = true)
    (hstandby : s.standby = false) (hpaired : s.paired = false) (hleft : s.seq.outLeft = [⟨carrier, ch, words⟩]) (w : Wire) :
    ∃ t, exec (.dataWr carrier ch words w) s = .next t ∧ t.seq.outLeft = [] ∧ t.seq.swapped = true := by
  have hexec : exec (.dataWr carrier ch words w) s = .next (s.upLane (s.dataWr carrier ch words w)) := rfl
  obtain ⟨-, -, -, hpair, -⟩ := s.ownWords_facts carrier ch words
  rw [State.dataWr_eq hlane hstandby hpaired hleft, if_pos (by rfl)] at hexec
  have hmarks := (State.burstSent_seq _ carrier ch [] (s.ownWords carrier ch words).1
    ((s.ownWords carrier ch words).2.burstFails carrier ch words 1 w) w).trans
    (State.finishSweep_seq (s := (s.ownWords carrier ch words).2.writeTaken [] words 0) (hpair.trans hpaired))
  exact ⟨_, hexec, congrArg Seq.outLeft hmarks, congrArg Seq.swapped hmarks⟩

/-- Settles O24: the burst is taken from its list, and what it leaves of the image, the carrier and the counts is what
`exec_dataRd_facts` and `exec_dataWr_facts` say. -/
theorem sweepBursts : Obligations.SweepBursts := by
  intro s b rest carrier ch words w hlane hstandby hpaired hcarrier hchannel hwords
  obtain rfl : b = ⟨carrier, ch, words⟩ := by
    obtain ⟨bc, bch, bw⟩ := b
    obtain rfl : bc = carrier := Fin.ext hcarrier
    rw [← hchannel, ← hwords]
  refine ⟨?read, ?write, fun hleft => exec_dataWr_last hlane hstandby hpaired hleft w⟩
  case read =>
    intro hleft n lost
    obtain ⟨t, hexec, hleft', hdone, hcycles, hcount, hfails, himg⟩ := exec_dataRd_facts hlane hstandby hpaired hleft w
    obtain ⟨hpoint, hepoch, hread'⟩ := s.readTaken_reads rest words n
    refine ⟨t, hexec, hleft', hdone, hcycles, hcount, hfails, fun hlost => ⟨fun a => ?_, ?_⟩, ?_⟩
    · rw [himg, show s.burstLost _ w = true from hlost]
      exact congrFun ((s.readTaken rest words n).readEntered_stamped carrier ch words w) a
    · rintro bnd c rfl hbind hin hat hcheck
      have hconds := State.readEntered_conds (s := s.readTaken rest 1 n) hbind hin hat (by rw [hpoint]; exact hcheck) w
      unfold State.conds
      rw [himg, show s.burstLost _ w = true from hlost]
      exact hconds
    · rintro bnd x hlost rfl hbind hread hin hkind hx hfaulty hcell hforced
      have hentered := State.readEntered_cell (s := s.readTaken rest 1 n) hbind hin (by rw [hread']; exact hread) hkind hx hfaulty
        hcell hforced
      rw [himg, show s.burstLost _ w = false from hlost, hentered, hepoch]
      have hbool : kindOf ((s.readTaken rest 1 n).kindDomain bnd.cell).1 ≠ .bool := by
        rw [show kindOf ((s.readTaken rest 1 n).kindDomain bnd.cell).1 = .uint32 from hkind]
        decide
      simp only [Option.any_some, State.formCell, Cell.sealed, if_neg hbool, Bool.and_eq_true, beq_iff_eq]
      exact ⟨⟨trivial, rfl⟩, rfl⟩
  case write =>
    intro hleft hrest
    exact exec_dataWr_facts hlane hstandby hpaired hleft hrest w

end Sys2Proof.Machine
end

section
/-! Status reads, status clears and echoes in the service window (R200, R219, R220). -/

namespace Sys2Proof

/-- A map whose values change under their keys. -/
theorem SMap.at?_map {α : Type} {f : Nat × α → Nat × α} (hf : ∀ p, (f p).1 = p.1) (m : SMap α) (k : Nat) :
    SMap.at? (m.map f) k = (m.at? k).map fun x => (f (k, x)).2 := by
  induction m with
  | nil => rfl
  | cons p m ih =>
    obtain ⟨j, x⟩ := p
    have hsplit : f (j, x) = (j, (f (j, x)).2) := Prod.ext (hf _) rfl
    rw [List.map_cons, hsplit]
    simp only [SMap.at?]
    split
    · next h => subst h; rfl
    · exact ih

/-- What the lane holds after a status read of a carrier `c` that set the bits `raised` (R220). -/
def LaneBus.statusRead (l : LaneBus) (carrier : Nat) (c : Carrier) (raised : LWord) : LaneBus :=
  let c := { c with status := c.status ||| (raised &&& 0x1E#16) }
  let bits := c.statusWord &&& 0x1F#16
  let others := l.faulty.filter (· != carrier)
  { l with step := 3, turn := (carrier + 1) % 32, carriers := l.carriers.put carrier c
           clearDue := if bits = 0 then l.clearDue.del carrier else l.clearDue.put carrier bits
           faulty := if bits.getLsbD 2 || bits.getLsbD 3 then carrier :: others else others }

/-- A carrier is faulty by its last status read alone. -/
theorem LaneBus.statusRead_faulty (l : LaneBus) (carrier : Nat) (c : Carrier) (raised : LWord) :
    let bits := Carrier.statusWord { c with status := c.status ||| (raised &&& 0x1E#16) } &&& 0x1F#16
    (l.statusRead carrier c raised).faulty.contains carrier = (bits.getLsbD 2 || bits.getLsbD 3) := by
  intro bits
  unfold LaneBus.statusRead
  cases h : bits.getLsbD 2 || bits.getLsbD 3 with
  | true => simp [bits] at h; simp [h]
  | false => simp [bits] at h; simp [h]

end Sys2Proof

namespace Sys2Proof.Machine

/-- After its one status read a service window has no place for another (R219). -/
theorem State.windowOpen_three {s : State} (h : s.lane.step = 3) : s.windowOpen 3 = false := by
  simp [State.windowOpen, h]

/-! ### Status reads and clears (R220) -/

theorem State.statRd_eq {s : State} {carrier : Fin 32} {c : Carrier} {w : Wire} (hw : w.failures = 0)
    (hc : s.lane.carriers.at? carrier = some c) (hopen : s.windowOpen 3 = true) (hturn : s.statTurn = some carrier.val)
    (hdue : s.lane.clearDue.at? carrier = none) (raised : LWord) :
    s.statRd carrier 0 4 raised w = { s.countRepeats 0 with lane := s.lane.statusRead carrier c raised } := by
  have hfails : s.burstFails carrier 0 4 3 w = 0 := State.burstFails_zero hw (State.pastEnd_of_le hc (Nat.le_refl 3))
  unfold State.statRd
  rw [hc]
  simp only [hopen, hturn, hdue, hfails, State.burstLost_zero, bne_self_eq_false, Option.isSome_none, Bool.not_true,
    Bool.or_false, Bool.false_eq_true, if_false]
  rfl

theorem State.statRd_of_due {s : State} {carrier : Fin 32} (hdue : (s.lane.clearDue.at? carrier).isSome) (raised : LWord)
    (w : Wire) : s.statRd carrier 0 4 raised w = s := by
  unfold State.statRd
  split
  · rfl
  · rw [if_pos (by simp [hdue])]

theorem State.statClr_eq {s : State} {carrier : Fin 32} {c : Carrier} {w : Wire} {bits : LWord} (hw : w.failures = 0)
    (hc : s.lane.carriers.at? carrier = some c) (hopen : s.windowOpen 4 = true) (hjoined : s.joined carrier = true)
    (hdue : s.lane.clearDue.at? carrier = some bits) : s.statClr carrier 0 [bits] w = { s.countRepeats 0 with
      lane := { s.lane with step := 4, carriers := s.lane.carriers.put carrier { c with status := c.status &&& ~~~bits }
                            clearDue := s.lane.clearDue.del carrier } } := by
  have hfails : s.burstFails carrier 0 1 6 w = 0 := State.burstFails_zero hw (State.pastEnd_of_le hc (Nat.zero_le _))
  unfold State.statClr
  rw [hc]
  simp only [hopen, hjoined, hdue, hfails, State.burstLost_zero, List.headD_cons, List.length_singleton, bne_self_eq_false,
    Bool.and_self, Bool.not_true, Bool.or_false, Bool.false_eq_true, if_false]
  rfl

theorem State.statClr_of_not_due {s : State} {carrier : Fin 32} {bits : LWord}
    (hdue : s.lane.clearDue.at? carrier ≠ some bits) (w : Wire) : s.statClr carrier 0 [bits] w = s := by
  unfold State.statClr
  split
  · rfl
  · rw [if_pos (by simp [hdue])]

/-! ### Echoes (R200, R219) -/

/-- An echo of one pending word, for which alone descriptors wait: the queue that waits for it gets it. -/
theorem State.echoRd_facts {s : State} {carrier : Fin 32} {ch : Fin 128} {c : Carrier} {x : LWord} {q : Fin 64} {g : Progress}
    {w : Wire} (hw : w.failures = 0) (hc : s.lane.carriers.at? carrier = some c) (hopen : s.windowOpen 5 = true)
    (hch : ch.val ≤ c.lastWord 5) (hx : c.waiting.at? ch = some x) (hechoes : s.lane.echoes = [(carrier.val, ch.val, 1)])
    (hcur : (s.queue q).cur = some g) (hwait : g.waitEcho = some (carrier.val, ch.val, 1)) (hanswer : g.answer = none) :
    let t := s.echoRd carrier ch 1 w
    t.lane.echoes = [] ∧ (t.queue q).cur = some { g with answer := some (.ok, le x.toNat 2), waitEcho := none } := by
  have hfails : s.burstFails carrier ch 1 5 w = 0 := State.burstFails_zero hw (State.pastEnd_of_le hc (by simpa using hch))
  have hcarrier : s.lane.carriers.atD carrier {} = c := by simp [SMap.atD, hc]
  obtain ⟨qu, hqu, hcur'⟩ : ∃ qu, s.hq.queues.at? q = some qu ∧ qu.cur = some g := by
    unfold State.queue SMap.atD at hcur
    cases h : s.hq.queues.at? q with
    | none => rw [h] at hcur; cases hcur
    | some qu => rw [h] at hcur; exact ⟨qu, rfl, hcur⟩
  have hwords : ∀ t : State, t.echoWords c ch 1 = ([x], t) := fun t => by simp only [State.echoWords, hx]
  unfold State.echoRd
  simp only [hopen, hechoes, hfails, State.burstLost_zero, List.contains_cons, beq_self_eq_true, Bool.true_or, Bool.and_self,
    Bool.not_true, Bool.false_eq_true, if_false, State.countRepeats, State.atStep, State.onCore, hcarrier, hwords]
  refine ⟨by simp, ?_⟩
  unfold State.queue SMap.atD
  rw [SMap.at?_map (fun p => by split; split; all_goals rfl), hqu]
  simp [hcur', hwait, hanswer]

/-! ### The statement -/

/-- Settles O26: each burst of the window by its equation, `State.statRd_eq`, `State.statClr_eq` and `State.echoRd_facts`. -/
theorem serviceBursts : Obligations.ServiceBursts := by
  intro s carrier c w hw hc
  refine ⟨fun raised => ⟨?read, fun hdue => ?_⟩, fun bits => ⟨?clear, fun hdue => ?_⟩, fun ch x q g hopen hch hx hechoes hcur
    hwait hanswer => ⟨_, rfl, State.echoRd_facts hw hc hopen hch hx hechoes hcur hwait hanswer⟩⟩
  case read =>
    intro hopen hturn hdue c' bits
    have hexec : exec (.statRd carrier 0 4 raised w) s = .next (s.upLane (s.statRd carrier 0 4 raised w)) := rfl
    rw [State.statRd_eq hw hc hopen hturn hdue] at hexec
    refine ⟨_, hexec, by simp [State.upLane, LaneBus.statusRead, SMap.at?_put, c'], s.lane.statusRead_faulty carrier c raised,
      fun hbits => ?_, State.windowOpen_three (by rfl), rfl, rfl⟩
    have hput : (s.lane.statusRead carrier c raised).clearDue = s.lane.clearDue.put carrier bits := if_neg hbits
    exact (congrArg (·.at? carrier.val) hput).trans ((SMap.at?_put ..).trans (if_pos rfl))
  case clear =>
    intro hopen hjoined hdue
    have hexec : exec (.statClr carrier 0 [bits] w) s = .next (s.upLane (s.statClr carrier 0 [bits] w)) := rfl
    rw [State.statClr_eq hw hc hopen hjoined hdue] at hexec
    exact ⟨_, hexec, by simp [State.upLane, SMap.at?_put], rfl⟩
  · have hexec : exec (.statRd carrier 0 4 raised w) s = .next (s.upLane (s.statRd carrier 0 4 raised w)) := rfl
    rw [hexec, State.statRd_of_due hdue, State.upLane_self]
  · have hexec : exec (.statClr carrier 0 [bits] w) s = .next (s.upLane (s.statClr carrier 0 [bits] w)) := rfl
    rw [hexec, State.statClr_of_not_due hdue, State.upLane_self]

end Sys2Proof.Machine
end

section
/-! A carrier joins the lane: the reads of its identity and its CFG_WR (R211, R213, R214). -/

namespace Sys2Proof

/-- A bit that is taken away. -/
theorem Core.testBit_setBit_false (k : Core) (r : Row) (bit i : Nat) :
    ((k.setBit r bit false i).fget r i).testBit bit = false := by
  have hbit : (if (k.fget r i).testBit bit then k.fget r i - 2 ^ bit else k.fget r i).testBit bit = false := by
    split
    · next h =>
      rw [Nat.testBit_eq_decide_div_mod_eq, decide_eq_true_eq] at h
      have hdiv := Nat.sub_mul_div (k.fget r i) (2 ^ bit) 1
      rw [Nat.mul_one] at hdiv
      rw [Nat.testBit_eq_decide_div_mod_eq, decide_eq_false_iff_not, hdiv]
      omega
    · next h => simpa using h
  rw [Core.setBit, Core.fget_fput_self, if_neg (by decide), Nat.testBit_mod_two_pow, hbit, Bool.and_false]

/-- What the lane holds after a CFG_WR that a carrier `c` took: its silence time `ms`, and outputs enabled. -/
def LaneBus.configured (l : LaneBus) (carrier : Nat) (c : Carrier) (ms : LWord) : LaneBus :=
  { l with carriers := l.carriers.put carrier { c with silence := ms.toNat, enabled := true }
           joining := l.joining.del carrier, refs := l.refs.filter fun p => p.1 / 128 != carrier
           retried := l.retried.filter (· != carrier) }

end Sys2Proof

namespace Sys2Proof.Machine

/-! ### What a read of the identity finds (R213) -/

/-- The carrier is neither present nor mismatched. -/
def State.absented (s : State) (carrier : Nat) : State :=
  s.onCore fun k => (k.setBit Reg.LANE_PRESENT_CARRIERS carrier false).setBit Reg.LANE_MISMATCH_CARRIERS carrier false

/-- What becomes of a carrier whose identity words `ws` mean `finds`: 0 absent, 1 mismatched, 2 a match. -/
def State.probeEnds (s : State) (carrier : Fin 32) (ws : List LWord) (finds : Nat) : State :=
  match finds with
  | 0 => s.markCells (s.laneInputs carrier) Qual.comm
  | 1 =>
    ((s.markCells (s.laneInputs carrier) Qual.config).onCore (·.setBit Reg.LANE_MISMATCH_CARRIERS carrier true)).record
      0x0502 0 (le carrier 1 ++ le (identWord ws 0).toNat 2 ++ le (identWord ws 1).toNat 2)
  | _ => { s with lane := { s.lane with joining := s.lane.joining.put carrier (false, false) } }

theorem State.probeFinds_congr {s t : State} (h : t.core.fget Reg.LANE_CFG_SILENCE_MS = s.core.fget Reg.LANE_CFG_SILENCE_MS)
    (d : CarrierDef) (ws : List LWord) (lost : Bool) : t.probeFinds d ws lost = s.probeFinds d ws lost := by
  unfold State.probeFinds
  rw [h]

theorem State.writesIn_absented (s : State) (carrier : Nat) :
    s.core.WritesIn [Reg.LANE_PRESENT_CARRIERS, Reg.LANE_MISMATCH_CARRIERS] (s.absented carrier).core := .fput (.fput (.refl _))

theorem State.joined_absented (s : State) (carrier : Nat) : (s.absented carrier).joined carrier = false := by
  have hrow : (s.absented carrier).core.fget Reg.LANE_PRESENT_CARRIERS =
      (s.core.setBit Reg.LANE_PRESENT_CARRIERS carrier false).fget Reg.LANE_PRESENT_CARRIERS :=
    Core.WritesIn.fget (rs := [Reg.LANE_MISMATCH_CARRIERS]) (.fput (.refl _))
  rw [State.joined, hrow, Core.testBit_setBit_false]

theorem State.probe_answered {s : State} {carrier : Fin 32} {d : CarrierDef} {w : Wire}
    (hd : s.cfg.carriers.find? (·.address == carrier) = some d) (hw : w.failures = 0) (ws : List LWord) :
    s.probe carrier (some ws) w =
      (((s.countRepeats 0).meetCarrier carrier ws).absented carrier).probeEnds carrier ws (s.probeFinds d ws false) := by
  have hfinds : (((s.countRepeats 0).meetCarrier carrier ws).absented carrier).probeFinds d ws false = s.probeFinds d ws false :=
    State.probeFinds_congr ((State.writesIn_absented ..).fget.trans (s.countRepeats_writes 0).fget) ..
  have hfails : min w.failures (s.core.fget Reg.LANE_CFG_RETRY + 1) = 0 := by simp [hw]
  unfold State.probe
  simp only [Option.isNone_some, Option.getD_some, Bool.false_eq_true, if_false, hfails, State.burstLost_zero]
  rw [← hfinds]
  split
  · next h => exact absurd (h.symm.trans hd) (by simp)
  · next d' h =>
    obtain rfl : d' = d := Option.some.inj (h.symm.trans hd)
    rfl

theorem State.probe_unanswered {s : State} {carrier : Fin 32} {d : CarrierDef}
    (hd : s.cfg.carriers.find? (·.address == carrier) = some d) (w : Wire) : s.probe carrier none w =
      (((s.countRepeats (s.core.fget Reg.LANE_CFG_RETRY + 1)).burstFailed carrier 2 false).absented carrier).probeEnds carrier [] 0 := by
  have hlost : s.burstLost (s.core.fget Reg.LANE_CFG_RETRY + 1) w = true := by simp [State.burstLost]
  obtain ⟨k, m, hfailed, -⟩ := (s.countRepeats (s.core.fget Reg.LANE_CFG_RETRY + 1)).burstFailed_eq carrier 2 false
  unfold State.probe
  simp only [Option.isNone_none, Option.getD_none, if_true, hlost, hfailed]
  split
  · next h => exact absurd (h.symm.trans hd) (by simp)
  · rfl

theorem State.nextProbe_probeEnds (s : State) (carrier : Fin 32) (ws : List LWord) (finds : Nat) :
    (s.probeEnds carrier ws finds).lane.nextProbe = s.lane.nextProbe := by
  unfold State.probeEnds
  split
  · exact (s.cellsOnly_markCells ..).same (·.lane.nextProbe)
  · exact (s.cellsOnly_markCells ..).same (·.lane.nextProbe)
  · rfl

/-- The carrier has not joined, and `t` has it wait for a CFG_WR where `s` has. -/
def State.Absent (s t : State) (carrier : Nat) : Prop := t.joined carrier = false ∧ t.lane.joining = s.lane.joining

/-- Rows that marking inputs and reporting a mismatch can write. -/
def probeRows : List Row := Reg.LANE_MISMATCH_CARRIERS :: cellRows

theorem State.probeEnds_absent (s : State) (carrier : Fin 32) (ws : List LWord) :
    (∀ n < 2, s.Within State.lane probeRows (s.probeEnds carrier ws n)) ∧
      ((s.probeEnds carrier ws 1).core.fget Reg.LANE_MISMATCH_CARRIERS).testBit carrier = true := by
  have hmarks (q : Nat) : s.Within State.lane cellRows (s.markCells (s.laneInputs carrier) q) := (s.cellsOnly_markCells ..).coarser
  let u : State := (s.markCells (s.laneInputs carrier) Qual.config).onCore (·.setBit Reg.LANE_MISMATCH_CARRIERS carrier true)
  have hset : s.Within State.lane probeRows u := ((hmarks _).mono (List.subset_cons_self ..)).onCore (.fput (.refl _))
  have hrecord (code : Nat) (payload : List Byte) : u.Within State.lane recorderRows (u.record code 0 payload) :=
    ⟨rfl, Core.writesIn_record ..⟩
  refine ⟨fun n hn => ?_, ?_⟩
  · match n, hn with
    | 0, _ => exact (hmarks _).mono (List.subset_cons_self ..)
    | 1, _ => exact hset.trans ((hrecord ..).mono (by decide))
  · have hbit : (u.core.fget Reg.LANE_MISMATCH_CARRIERS).testBit carrier = true :=
      Core.testBit_setBit _ carrier.isLt 0
    rw [← (hrecord 0x0502 _).fget (r := Reg.LANE_MISMATCH_CARRIERS)] at hbit
    exact hbit

/-- What a read of the identity does, where `r` gives the state after an answer and after none (R213). -/
structure State.Meets (s : State) (carrier : Nat) (d : CarrierDef) (ws : List LWord) (r : Option (List LWord) → State) : Prop where
  matched : s.probeFinds d ws false = 2 → (r (some ws)).lane.joining.at? carrier = some (false, false) ∧
    (((r (some ws)).lane.carriers.at? carrier).any (·.ident == ws)) = true
  mismatched : s.probeFinds d ws false = 1 → s.Absent (r (some ws)) carrier ∧
    ((r (some ws)).core.fget Reg.LANE_MISMATCH_CARRIERS).testBit carrier = true
  unusable : s.probeFinds d ws false = 0 → s.Absent (r (some ws)) carrier
  silent : s.Absent (r none) carrier ∧
    (r none).core.fget Reg.LANE_CRC_FAIL_RD = satAdd 16 (s.core.fget Reg.LANE_CRC_FAIL_RD) 1

/-- A carrier that is absent or mismatched: whatever came before left its bits and the waiting carriers as `absented` does. -/
theorem State.absent_probeEnds {s u : State} {carrier : Fin 32} (h : u.lane.joining = s.lane.joining) (ws : List LWord) {n : Nat}
    (hn : n < 2) : s.Absent ((u.absented carrier).probeEnds carrier ws n) carrier := by
  obtain ⟨hlane, hwrites⟩ := ((u.absented carrier).probeEnds_absent carrier ws).1 n hn
  have hbit := u.joined_absented carrier
  unfold State.joined at hbit
  refine ⟨?_, (congrArg LaneBus.joining hlane).trans h⟩
  rw [State.joined, hwrites.fget, hbit]

theorem State.meets_probe {s : State} {carrier : Fin 32} {d : CarrierDef} {w : Wire}
    (hd : s.cfg.carriers.find? (·.address == carrier) = some d) (hw : w.failures = 0) (ws : List LWord) :
    s.Meets carrier d ws (s.probe carrier · w) where
  matched h := by
    rw [State.probe_answered hd hw, h]
    exact ⟨(SMap.at?_put ..).trans (if_pos rfl), by simp [State.probeEnds, State.absented, State.onCore, State.meetCarrier,
      SMap.alter, SMap.at?_put]⟩
  mismatched h := by
    rw [State.probe_answered hd hw, h]
    exact ⟨State.absent_probeEnds (by rfl) ws (by decide), (State.probeEnds_absent ..).2⟩
  unusable h := by
    rw [State.probe_answered hd hw, h]
    exact State.absent_probeEnds (by rfl) ws (by decide)
  silent := by
    obtain ⟨k, m, hfailed, -, hcount⟩ :=
      (s.countRepeats (s.core.fget Reg.LANE_CFG_RETRY + 1)).burstFailed_eq carrier 2 false
    have hrepeats := (s.countRepeats_writes (s.core.fget Reg.LANE_CFG_RETRY + 1)).fget (r := Reg.LANE_CRC_FAIL_RD) (i := 0)
    rw [State.probe_unanswered hd, hfailed]
    refine ⟨State.absent_probeEnds (by rfl) [] (by decide), ?_⟩
    rw [← hrepeats]
    exact (((State.probeEnds_absent ..).1 0 (by decide)).fget.trans (State.writesIn_absented ..).fget).trans hcount

theorem State.retried_ite (s : State) (b : Bool) (l : List Nat) : (if b then { s with lane := { s.lane with retried := l } } else s) =
    { s with lane := { s.lane with retried := if b then l else s.lane.retried } } := by cases b <;> rfl

/-- `s` with a probe's place in the window taken, and the next one due. -/
def State.probing (s : State) (carrier : Nat) : State :=
  { s with lane := { s.lane with step := 2, nextProbe := s.lane.nextProbe.put carrier (s.epoch + 1024) } }

/-- A probe in the service window is a read of the identity. -/
theorem State.probeAgain_eq {s : State} {carrier : Fin 32} (hdue : s.probeDue carrier = true) (x : Option (List LWord)) (w : Wire) :
    ∃ m, s.probeAgain carrier x w = { (s.probing carrier).probe carrier x w with
      lane := { ((s.probing carrier).probe carrier x w).lane with retried := m } } := by
  unfold State.probeAgain
  rw [hdue, Bool.not_true, if_neg (by decide)]
  exact ⟨_, State.retried_ite ..⟩

/-- What a read finds does not hang on the places of probes in the service window. -/
theorem State.Meets.of_probing {s : State} {carrier : Nat} {d : CarrierDef} {ws : List LWord} {r : Option (List LWord) → State}
    (h : (s.probing carrier).Meets carrier d ws r) (m : Option (List LWord) → List Nat) :
    s.Meets carrier d ws fun x => { r x with lane := { (r x).lane with retried := m x } } :=
  ⟨h.matched, h.mismatched, h.unusable, h.silent⟩

/-- A probe finds what a read of the identity finds. -/
theorem State.meets_probeAgain {s : State} {carrier : Fin 32} {d : CarrierDef} {w : Wire}
    (hd : s.cfg.carriers.find? (·.address == carrier) = some d) (hw : w.failures = 0) (hdue : s.probeDue carrier = true)
    (ws : List LWord) : s.Meets carrier d ws (s.probeAgain carrier · w) := by
  choose m hm using fun x => State.probeAgain_eq hdue x w
  rw [funext hm]
  exact (State.meets_probe (s := s.probing carrier) hd hw ws).of_probing m

/-- A read of the identity leaves alone when the carriers are probed. -/
theorem State.nextProbe_probe {s : State} {carrier : Fin 32} {d : CarrierDef} {w : Wire}
    (hd : s.cfg.carriers.find? (·.address == carrier) = some d) (hw : w.failures = 0) (x : Option (List LWord)) :
    (s.probe carrier x w).lane.nextProbe = s.lane.nextProbe := by
  cases x with
  | some ws =>
    rw [State.probe_answered hd hw, State.nextProbe_probeEnds]
    rfl
  | none =>
    obtain ⟨k, m, hfailed, -⟩ := (s.countRepeats (s.core.fget Reg.LANE_CFG_RETRY + 1)).burstFailed_eq carrier 2 false
    rw [State.probe_unanswered hd, State.nextProbe_probeEnds, hfailed]
    rfl

/-- The next probe comes 1,024 ticks later at the earliest (R213). -/
theorem State.probeAgain_nextProbe {s : State} {carrier : Fin 32} {d : CarrierDef} {w : Wire}
    (hd : s.cfg.carriers.find? (·.address == carrier) = some d) (hw : w.failures = 0) (hdue : s.probeDue carrier = true)
    (x : Option (List LWord)) : (s.probeAgain carrier x w).lane.nextProbe.at? carrier = some (s.epoch + 1024) := by
  obtain ⟨m, hprobe⟩ := State.probeAgain_eq hdue x w
  have hnext := State.nextProbe_probe (s := s.probing carrier) hd hw x
  rw [hprobe]
  exact (congrArg (·.at? carrier.val) hnext).trans ((SMap.at?_put ..).trans (if_pos rfl))

theorem State.probeAgain_early {s : State} {carrier : Fin 32} (h : s.epoch < s.lane.nextProbe.atD carrier 0)
    (x : Option (List LWord)) (w : Wire) : s.probeAgain carrier x w = s := by
  have hdue : s.probeDue carrier = false := by simp [State.probeDue, h]
  unfold State.probeAgain
  rw [hdue, Bool.not_false, if_pos rfl]

/-! ### CFG_WR (R213, R214) -/

theorem State.cfgWr_eq {s : State} {carrier : Fin 32} {c : Carrier} {w : Wire} {ms : LWord} (hw : w.failures = 0)
    (hlane : s.onLane = true) (hc : s.lane.carriers.at? carrier = some c) (hms : ms ≠ 0)
    (hrow : ms.toNat = s.core.fget Reg.LANE_CFG_SILENCE_MS) (hjoining : (s.lane.joining.at? carrier).isSome)
    (hopen : s.core.flag Reg.TICK_STATUS_RUNNING = true → s.windowOpen 2 = true) : s.cfgWr carrier ms true w =
      if s.core.flag Reg.TICK_STATUS_RUNNING then { s.countRepeats 0 with
        lane := { s.lane.configured carrier c ms with step := 2, joinNext := s.lane.joinNext ++ [carrier.val] } }
      else { s.countRepeats 0 with lane := s.lane.configured carrier c ms }.onCore
        (·.setBit Reg.LANE_PRESENT_CARRIERS carrier true) := by
  have hfails : s.burstFails carrier 0 2 4 w = 0 := State.burstFails_zero hw (State.pastEnd_of_le hc (Nat.le_refl 1))
  have hsome : (s.lane.joining.at? carrier).isNone = false := by simpa using hjoining
  have hkept : (s.countRepeats 0).core.fget Reg.LANE_CFG_SILENCE_MS = ms.toNat := (s.countRepeats_writes 0).fget.trans hrow.symm
  have hflag : (s.countRepeats 0).core.flag Reg.TICK_STATUS_RUNNING = s.core.flag Reg.TICK_STATUS_RUNNING :=
    (s.countRepeats_writes 0).flag
  unfold State.cfgWr
  cases hrun : s.core.flag Reg.TICK_STATUS_RUNNING with
  | true =>
    rw [hrun] at hflag
    have hstep : ((s.atStep 2).countRepeats 0).core = (s.countRepeats 0).core := rfl
    have hheard : ((s.atStep 2).countRepeats 0).lane.carriers.at? carrier = some c := hc
    simp only [hlane, hms, hsome, hopen hrun, hfails, State.burstLost_zero, hheard, hstep, hkept, hflag, bne_self_eq_false,
      decide_false, Bool.not_true, Bool.or_self, Bool.and_false, Bool.false_eq_true, if_false, if_true]
    rfl
  | false =>
    rw [hrun] at hflag
    have hheard : (s.countRepeats 0).lane.carriers.at? carrier = some c := hc
    simp only [hlane, hms, hsome, hfails, State.burstLost_zero, hheard, hkept, hflag, bne_self_eq_false, decide_false,
      Bool.not_true, Bool.or_self, Bool.false_and, Bool.false_eq_true, if_false]
    rfl

theorem State.cfgWr_of_none {s : State} {carrier : Fin 32} (h : s.lane.joining.at? carrier = none) (ms : LWord) (enable : Bool)
    (w : Wire) : s.cfgWr carrier ms enable w = s := by
  unfold State.cfgWr
  rw [if_pos (by simp [h])]

/-- The carrier joins: at the next tick, or at once before the first (R213). -/
theorem State.cfgWr_facts {s : State} {carrier : Fin 32} {c : Carrier} {w : Wire} {ms : LWord} (hw : w.failures = 0)
    (hlane : s.onLane = true) (hc : s.lane.carriers.at? carrier = some c) (hms : ms ≠ 0)
    (hrow : ms.toNat = s.core.fget Reg.LANE_CFG_SILENCE_MS) (hjoining : (s.lane.joining.at? carrier).isSome)
    (hopen : s.core.flag Reg.TICK_STATUS_RUNNING = true → s.windowOpen 2 = true) : let t := s.cfgWr carrier ms true w
    t.lane.carriers.at? carrier = some { c with silence := ms.toNat, enabled := true } ∧
      (s.core.flag Reg.TICK_STATUS_RUNNING = true → t.lane.joinNext = s.lane.joinNext ++ [carrier.val]) ∧
      (s.core.flag Reg.TICK_STATUS_RUNNING = false → t.joined carrier = true) := by
  have hput : (s.lane.configured carrier c ms).carriers.at? carrier = some { c with silence := ms.toNat, enabled := true } :=
    (SMap.at?_put ..).trans (if_pos rfl)
  rw [State.cfgWr_eq hw hlane hc hms hrow hjoining hopen]
  split
  · next hrun => exact ⟨hput, fun _ => rfl, fun h => absurd (hrun.symm.trans h) (by decide)⟩
  · next hrun => exact ⟨hput, fun h => absurd h hrun, fun _ => Core.testBit_setBit _ carrier.isLt 0⟩

/-! ### The statement -/

/-- Settles O25: the reads of the identity by `State.meets_probe` and `State.meets_probeAgain`, the CFG_WR by
`State.cfgWr_facts`. -/
theorem carrierJoin : Obligations.CarrierJoin := by
  intro s carrier ws w d hlane hd hw absent found
  have hfound (r : Option (List LWord) → State) (c : Option (List LWord) → Instr) (h : s.Meets carrier d ws r)
      (hexec : ∀ x, exec (c x) s = .next (s.upLane (r x))) : found c :=
    ⟨fun hfinds => ⟨_, hexec _, h.matched hfinds⟩, fun hfinds => ⟨_, hexec _, h.mismatched hfinds⟩,
      fun hfinds => ⟨_, hexec _, h.unusable hfinds⟩, _, hexec _, h.silent⟩
  refine ⟨fun hvalid hrun => ?read, fun hdue => ⟨?probe, fun x => ⟨_, rfl, State.probeAgain_nextProbe hd hw hdue x⟩⟩,
    fun hearly x => ?_, fun c hc hms hwidth hjoining hopen => ⟨_, rfl, ?_⟩, fun hnone ms enable => ?_⟩
  case read =>
    refine hfound (s.probe carrier · w) (.idRd carrier · w) (State.meets_probe hd hw ws) fun x => ?_
    have hexec : exec (.idRd carrier x w) s = .next (s.upLane (if s.onLane && s.core.flag Reg.LANE_CFG_VALID &&
        !s.core.flag Reg.TICK_STATUS_RUNNING then s.probe carrier x w else s)) := rfl
    rw [hexec, if_pos (by simp [hlane, hvalid, hrun])]
  case probe =>
    exact hfound (s.probeAgain carrier · w) (.carrierProbe carrier · w) (State.meets_probeAgain hd hw hdue ws) fun _ => rfl
  · have hexec : exec (.carrierProbe carrier x w) s = .next (s.upLane (s.probeAgain carrier x w)) := rfl
    rw [hexec, State.probeAgain_early hearly, State.upLane_self]
  · have hnat : (BitVec.ofNat 16 (s.core.fget Reg.LANE_CFG_SILENCE_MS)).toNat = s.core.fget Reg.LANE_CFG_SILENCE_MS := by
      rw [BitVec.toNat_ofNat, Nat.mod_eq_of_lt hwidth]
    exact State.cfgWr_facts hw hlane hc (fun h => hms (hnat.symm.trans (by rw [h]; rfl))) hnat hjoining hopen
  · have hexec : exec (.cfgWr carrier ms enable w) s = .next (s.upLane (s.cfgWr carrier ms enable w)) := rfl
    rw [hexec, State.cfgWr_of_none hnone, State.upLane_self]

end Sys2Proof.Machine
end

section
/-! A descriptor's end shows the pins of every queue number that is kept (R441). The statement about descriptors does not say that
these are queue numbers, and a number above 63 reaches into the fields of other rows. -/

namespace Sys2Proof.Machine

/-- PINNED of a queue number 5,120 would stand where DONE of queue 0 stands. -/
theorem pinned_key_5120 : Reg.HQ_STAT_PINNED.key 5120 = Reg.HQ_DONE_COUNT.key 0 := rfl

/-- Queue 0 is enabled, its completion ring translated, a NOP in its hands; a queue number that no queue has is kept beside it. -/
def strayQueue : State :=
  { core := { regs := (SMap.put [] (Reg.HQ_CFG_ENABLE.key 0) 1).put (Reg.ATC_ROOT_LO_ADDR.key 0) 1 }
    hq := { queues := [(0, { cur := some { d := default } }), (5120, {})], atc := [⟨0, 0, 1, true, true⟩] } }

/-- The same after its NOP. -/
def strayDone : State := strayQueue.upHq ((strayQueue.answer (queueReq 0) .ok []).tryFinish 0 (some {}))

theorem strayQueue_runsOp : strayQueue.runsOp 0 0 { d := default } := ⟨by rfl, by decide +kernel⟩

theorem strayQueue_closes : strayQueue.closes 0 { d := default } {} := by
  refine ⟨by rfl, ?_, by rfl, ?_⟩
  · decide +kernel
  · decide +kernel

theorem exec_hqNop_strayQueue : exec (.hqNop 0 {}) strayQueue = .next strayDone := by
  have hat : strayQueue.atOpcode 0 0 = true := strayQueue_runsOp.2
  have hexec : exec (.hqNop 0 {}) strayQueue = .next (strayQueue.upHq (if strayQueue.atOpcode 0 0 then
      (strayQueue.answer (queueReq 0) .ok []).tryFinish 0 (some {}) else strayQueue)) := rfl
  rw [hexec, if_pos hat]
  rfl

/-- The NOP is DONE, but its count is cleared with the stray number's PINNED. -/
theorem strayDone_count : strayDone.core.fget Reg.HQ_DONE_COUNT 0 = 0 := by
  have hpinned : strayDone.core.fget Reg.HQ_STAT_PINNED 5120 = 0 := by decide +kernel
  rw [Core.fget, pinned_key_5120] at hpinned
  exact hpinned

/-- Refutes O47: the NOP of queue 0 in `strayQueue`. The state is no state of a run, whose queue numbers stay below 64; the
statement does not ask for that, and where a number above 63 is kept the count of completions need not rise. -/
theorem not_descriptors : ¬Obligations.Descriptors := by
  intro h
  obtain ⟨-, hnop, -⟩ := h strayQueue 0 {}
  obtain ⟨t, hexec, -, -, hcount, -⟩ := hnop _ strayQueue_runsOp strayQueue_closes
  obtain rfl : strayDone = t := Host.Outcome.next.inj (exec_hqNop_strayQueue.symm.trans hexec)
  have hbefore : strayQueue.core.fget Reg.HQ_DONE_COUNT 0 = 0 := by decide +kernel
  have hone : strayDone.core.fget Reg.HQ_DONE_COUNT 0 = satAdd 32 0 1 := by rw [← hbefore]; exact hcount
  exact absurd (strayDone_count.symm.trans hone) (by decide)

end Sys2Proof.Machine
end

section
/-! The partner link: what a row of the pair lets through, what a frame finds and sends, and what a new resynchronisation leaves
(R222, R228, R229, R241). -/

namespace Sys2Proof

/-- What a unit keeps for its partner once a frame of the epoch has been sent (R228). -/
def Pair.sending (p : Pair) (epoch : Nat) (f : PFrame) : Pair :=
  { p with sent := { seq := p.txSeq, epoch := epoch, frame := f } :: p.sent, txSeq := p.txSeq + 1 }

/-- The pair's part but for frames sent and a takeback on its way. -/
def Pair.besideSent (p : Pair) : Pair := { p with sent := [], txSeq := 0, takeback := none, proposed := none }

end Sys2Proof

namespace Sys2Proof.Machine

/-! ### The unit's place in the pair (R222, R238, R246) -/

section

variable {s t : State} (h : s.core.Keeps steerRows t.core)

include h

theorem State.pairState_of_keeps : t.pairState = s.pairState := h.2 _ (by decide)

theorem State.epoch_of_keeps : t.epoch = s.epoch := h.epoch (by decide)

theorem State.standby_of_keepsSteer : t.standby = s.standby := State.standby_of_keeps (h.mono mergeRows_subset)

theorem State.inStep_of_keeps : t.inStep = s.inStep := by
  unfold State.inStep
  rw [h.flag (by decide), h.2 Reg.PTR_STAT_PAIR_STATE (by decide)]

end

/-- A unit in step stands in state 3 or 4. -/
theorem State.pairState_of_inStep {s : State} (h : s.inStep = true) : s.pairState = 3 ∨ s.pairState = 4 := by
  have hstate := (Bool.and_eq_true_iff.1 h).2
  rwa [Bool.or_eq_true, beq_iff_eq, beq_iff_eq] at hstate

/-- A unit in step does not catch up. -/
theorem State.catchUp_of_inStep {s : State} (h : s.inStep = true) : s.catchUp = s := by
  have hjoined : (s.pairState == 2) = false := by
    obtain h3 | h4 := State.pairState_of_inStep h
    · rw [h3]; rfl
    · rw [h4]; rfl
  unfold State.catchUp State.catchingUp
  rw [hjoined, Bool.and_false, Bool.false_and, Bool.false_and, Bool.not_false, if_pos rfl]

/-! ### What a row of the pair lets through -/

/-- A change that no row of the pair is kept from is let through as it is. -/
theorem State.upPair_self {s t : State} (hpending : t.pending = s.pending) (hc : t.core.c = s.core.c) (hbkp : t.bkp = s.bkp)
    (hcfg : t.cfg = s.cfg) (hplat : t.plat = s.plat) : s.upPair t = t := by
  rw [State.upPair, Core.after_of_c_eq hc, hplat, runPlat_self, ← hpending, ← hbkp, ← hcfg, ← hplat]

/-! ### Frames that arrive (R228) -/

/-- The state with a new frame acknowledged and noted. -/
def State.received (s : State) (seq : Nat) : State :=
  { s with pair := { s.pair with acks := seq :: s.pair.acks, rxSeen := (seq :: s.pair.rxSeen).take 64 } }

theorem State.onFrame_of_new {s : State} {seq : Nat} (h : s.newFrame seq) (f : State → State) :
    s.onFrame seq f = f (s.received seq) := by
  obtain ⟨hpaired, hsilent, hseen⟩ := h
  rw [State.onFrame, hpaired, hsilent, hseen]
  rfl

/-- A repeated frame is acknowledged and not taken again. -/
theorem State.onFrame_of_seen {s : State} {seq : Nat} (hpaired : s.paired = true) (hsilent : s.pair.silent = false)
    (hseen : s.pair.rxSeen.contains seq = true) (f : State → State) :
    s.onFrame seq f = { s with pair := { s.pair with acks := seq :: s.pair.acks } } := by
  rw [State.onFrame, hpaired, hsilent, hseen]
  rfl

/-! ### Frames that leave (R228) -/

theorem State.sendFrame_of_paired {s : State} (h : s.paired = true) (f : PFrame) :
    s.sendFrame f = { s with pair := s.pair.sending (s.frameEpoch f) f } := if_pos h

@[simp] theorem State.sendFrame_core (s : State) (f : PFrame) : (s.sendFrame f).core = s.core := by
  obtain ⟨p, hp⟩ := s.sendFrame_eq f
  rw [hp]

theorem State.sendFrame_besideSent (s : State) (f : PFrame) : (s.sendFrame f).pair.besideSent = s.pair.besideSent := by
  unfold State.sendFrame
  split <;> rfl

theorem State.cancelTakeback_besideSent (s : State) : s.cancelTakeback.pair.besideSent = s.pair.besideSent := by
  unfold State.cancelTakeback
  split
  · rfl
  · exact State.sendFrame_besideSent ..

/-! ### A new resynchronisation (R241) -/

/-- The state of a new resynchronisation, before the partner is told. -/
def State.resyncing (s : State) (stage : Nat) : State :=
  { s with
    core := (((s.core.fput Reg.PTR_STAT_PAIR_STATE 2).setFlag Reg.PTR_STAT_HOLD_AUTH false).fput Reg.PTR_RESYNC_BACKLOG 0).fput
      Reg.PTR_STAT_HOLDOFF_LEFT_S ((s.core.fput Reg.PTR_STAT_PAIR_STATE 2).fget Reg.PTR_CFG_HOLDOFF_S)
    pair := { s.pair with stage := stage, backlog := [], target := none, holdFrom := none, resolve := none, own := none, peer := none
                          startC := if stage = 1 then s.core.c else s.pair.startC } }

theorem State.startResync_eq (s : State) (stage : Nat) : s.startResync stage =
    (s.cancelTakeback.resyncing stage).sendFrame (.role (.resync s.cancelTakeback.staticId)) := rfl

/-- The pair stands in state 2 without hold authority, at the stage named; the link and the wait for a role are as they were. -/
theorem State.startResync_facts (s : State) (stage : Nat) : let t := s.startResync stage
    t.pairState = 2 ∧ t.core.flag Reg.PTR_STAT_HOLD_AUTH = false ∧ t.pair.stage = stage ∧ t.pair.silent = s.pair.silent ∧
      t.pair.waiting = s.pair.waiting := by
  intro t
  have hcancel := s.cancelTakeback_besideSent
  have hsilent := congrArg Pair.silent hcancel
  have hwaiting := congrArg Pair.waiting hcancel
  have ht : t = _ := s.startResync_eq stage
  generalize s.cancelTakeback = u at *
  have hsent : t.pair.besideSent = (u.resyncing stage).pair.besideSent := by rw [ht]; exact State.sendFrame_besideSent ..
  have hcore : t.core = (u.resyncing stage).core := by rw [ht]; exact State.sendFrame_core ..
  have hput : ((u.core.fput Reg.PTR_STAT_PAIR_STATE 2).setFlag Reg.PTR_STAT_HOLD_AUTH false).WritesIn
      [Reg.PTR_RESYNC_BACKLOG, Reg.PTR_STAT_HOLDOFF_LEFT_S] t.core := by rw [hcore]; exact .fput (.fput (.refl _))
  refine ⟨?_, ?_, congrArg Pair.stage hsent, ?_, ?_⟩
  · refine hput.fget.trans ?_
    rw [Core.setFlag, Core.fget_fput, if_neg (by decide), Core.fget_fput_self]
    rfl
  · exact hput.flag.trans (Core.flag_setFlag _ _ _ _ (by decide))
  · exact (congrArg Pair.silent hsent).trans hsilent
  · exact (congrArg Pair.waiting hsent).trans hwaiting

end Sys2Proof.Machine
end

section
/-! Answers on the partner link (R228, R232 to R235, R241, R243). -/

namespace Sys2Proof.Machine

/-! ### Commands that the standby has answered (R232) -/

/-- The duty's state with no command waiting for its standby. -/
def State.unasked (s : State) : State := { s with pair := { s.pair with cmds := [] } }

/-- The answer to the one command that waits takes it out of what waits. -/
theorem State.takeAck_of_one {s : State} {w : Sent} (h : s.pair.cmds = [w]) (st : Status) (x : Cause) :
    s.takeAck w.id st x = if st = .ok then s.unasked.settleCommand w else s.unasked.refusePassed w st x := by
  have hfind : [w].find? (·.id == w.id) = some w := by simp
  have hleft : ([w].filter fun x => x.id != w.id) = [] := by simp
  simp only [State.takeAck, h, hfind, hleft]
  rfl

/-- What an answer to a requester leaves is let through as it is. -/
theorem State.upPair_answerKept {s t : State} (hpending : t.pending = s.pending) (hc : t.core.c = s.core.c) (hbkp : t.bkp = s.bkp)
    (hcfg : t.cfg = s.cfg) (hplat : t.plat = s.plat) (r : Req) (st : Status) (body : List Byte) :
    s.upPair (t.answerKept r st body) = t.answerKept r st body := by
  have hans := t.answerOnly_answerKept r st body
  exact State.upPair_self ((hans.same State.pending).trans hpending) (hans.2.1.trans hc) ((hans.same State.bkp).trans hbkp)
    ((hans.same State.cfg).trans hcfg) ((hans.same State.plat).trans hplat)

theorem exec_ackFrame_of_refused {s : State} {w : Sent} {c : Command} (h : s.pair.cmds = [w]) (hw : w.c = .command c) {st : Status}
    (hst : st ≠ .ok) (x : Cause) :
    exec (.ackFrame w.id st x) s = .next (s.unasked.answerKept w.r st (commandBody 0 x)) := by
  have hexec : exec (.ackFrame w.id st x) s = .next (s.upPair (s.takeAck w.id st x)) := rfl
  have hrefused : s.unasked.refusePassed w st x = s.unasked.answerKept w.r st (commandBody 0 x) := by
    rw [State.refusePassed, hw]
  rw [hexec, State.takeAck_of_one h, if_neg hst, hrefused]
  exact congrArg _ (State.upPair_answerKept (s := s) (t := s.unasked) rfl rfl rfl rfl rfl ..)

theorem exec_ackFrame_of_accepted {s : State} {w : Sent} {cell : Nat} (h : s.pair.cmds = [w])
    (hw : w.c = .command (.forceRemove cell)) (hcell : s.userCell cell = true) (x : Cause) :
    ∃ t, exec (.ackFrame w.id .ok x) s = .next t ∧ t.pair.cmds = [] ∧ t.pair.accepted = w.id ∧
      t.cmd.forceDue = s.cmd.forceDue ++ [(cell, none)] := by
  have hexec : exec (.ackFrame w.id .ok x) s = .next (s.upPair (s.takeAck w.id .ok x)) := rfl
  have hcheck : (doForceRemove cell).check s.unasked = none := if_pos hcell
  have hsettled : ∃ t : State, s.unasked.settleCommand w = t.answerKept w.r .ok (commandBody (s.epoch + 1) .none) ∧
      t.pair = { s.unasked.pair with accepted := w.id } ∧ t.cmd.forceDue = s.cmd.forceDue ++ [(cell, none)] := by
    simp only [State.settleCommand, hw, Command.doing, hcheck]
    exact ⟨_, rfl, rfl, rfl⟩
  obtain ⟨t, hsettled, hpair, hdue⟩ := hsettled
  have hans := t.answerOnly_answerKept w.r .ok (commandBody (s.epoch + 1) .none)
  have hpair' := (hans.same State.pair).trans hpair
  rw [State.takeAck_of_one h, if_pos rfl, hsettled] at hexec
  exact ⟨_, hexec, congrArg Pair.cmds hpair', congrArg Pair.accepted hpair', (congrArg Cmd.forceDue (hans.same State.cmd)).trans hdue⟩

/-! ### Digests (R233, R234) -/

/-- Equal digests of a pair in step are dropped, and nothing else changes. -/
theorem State.compare_of_equal {s : State} (hstep : s.inStep = true) (hresolve : s.pair.resolve = none) (n : Nat) (d : Digest) :
    s.compare n d d = { s with pair := { s.pair with own := none, peer := none } } := by
  have hnot : s.pairState ≠ 2 := by have := State.pairState_of_inStep hstep; omega
  simp only [State.compare, hresolve, Option.any_none, beq_self_eq_true, Bool.and_self, Bool.not_false, if_true]
  rw [if_neg (by exact hnot), if_pos (by exact hstep)]

theorem exec_digestFrame_of_equal {s : State} {seq n : Nat} {d : Digest} (h : s.newFrame seq) (hstep : s.inStep = true)
    (hbuffers : s.buffers = false) (hown : s.pair.own = some (n, d)) (hresolve : s.pair.resolve = none) :
    exec (.digestFrame seq n d) s = .next (s.upPair
      { s.received seq with pair := { (s.received seq).pair with own := none, peer := none } }) := by
  have hexec : exec (.digestFrame seq n d) s = .next (s.upPair (s.onFrame seq fun s => s.takeDigest n d)) := rfl
  have hbuffers' : (s.received seq).buffers = false := hbuffers
  have hown' : (s.received seq).pair.own = some (n, d) := hown
  rw [hexec, State.onFrame_of_new h, State.takeDigest, hbuffers', Bool.false_and, if_neg (by decide), hown']
  dsimp only
  rw [if_pos rfl, State.compare_of_equal (s := s.received seq) hstep hresolve]
  exact congrArg (fun t => Host.Outcome.next (s.upPair t)) (State.catchUp_of_inStep hstep)

/-! ### The divergent item (R235) -/

/-- The reply of the one engine asked names the first item whose digests differ, and the replays are asked for. -/
theorem State.takeReply_of_one {s : State} {r : Resolve} {e x : Nat} {data : List Word} (hpaired : s.paired = true)
    (hresolve : s.pair.resolve = some r) (hask : r.asked = [e]) (htheirs : r.theirs = [])
    (hdiff : firstDiffering (wordPairs (s.engineItems e)) (wordPairs data) = some x) :
    s.takeReply 2 e data = { s with
      pair := ({ s.pair with resolve := some { r with theirs := [(e, data)], step := 3, engine := e, item := x } } : Pair).sending
        s.epoch (.query 3 x) } := by
  simp only [State.takeReply, hresolve, htheirs, List.nil_append]
  simp only [State.locate, hask, List.findSome?_cons, List.find?_cons, beq_self_eq_true, hdiff, Option.map_some, List.all_cons,
    List.all_nil, List.any_cons, Bool.true_or, Bool.and_true, Bool.not_true, Bool.false_eq_true, if_false]
  exact if_pos hpaired

/-! ### A takeback that is proposed (R243) -/

theorem State.takeRole_of_proposed {s : State} {k : Nat} (hpaired : s.paired = true) (hduty : s.standby = false)
    (hstep : s.inStep = true) (hstate : s.pairState = 3) (hsuspect : s.core.flag Reg.PTR_STAT_PAIR_SUSPECT = false)
    (hfar : s.epoch + 8 ≤ k) : s.takeRole (.takebackPropose k) = { s with
      pair := ({ s.pair with takeback := some k } : Pair).sending s.epoch (.role (.takebackAck k)) } := by
  simp only [State.takeRole, hduty, hstep, hstate, hsuspect, hfar, decide_true, Bool.not_false, Bool.and_self, Bool.false_eq_true,
    if_false, if_true]
  exact if_pos hpaired

/-- Settles O28: each frame by the lemma of what it finds, through what a frame of the link lets through. -/
theorem partnerFrames : Obligations.PartnerFrames := by
  unfold Obligations.PartnerFrames
  intro s seq sends
  refine ⟨fun hpaired hsilent hseen n k x d => ?repeated, fun w c hcmds hw => ⟨fun st x hst => ?refused, ?accepted⟩,
    fun n d hnew hstep hbuffers hown hresolve => ?digest, fun e hnew => ?query,
    fun r e data x hnew hresolve hask htheirs hdiff => ?reply, fun xs hnew hstandby hstate => ?state,
    fun k hnew hstandby hstep hstate hsuspect hfar => ?takeback⟩
  case repeated =>
    have hdigest : exec (.digestFrame seq n d) s = .next (s.upPair (s.onFrame seq fun s => s.takeDigest n d)) := rfl
    have hquery : exec (.queryFrame seq k x) s = .next (s.upPair (s.onFrame seq fun s => s.takeQuery k x)) := rfl
    rw [State.onFrame_of_seen hpaired hsilent hseen] at hdigest hquery
    exact ⟨hdigest.trans (congrArg _ (State.upPair_self rfl rfl rfl rfl rfl)),
      hquery.trans (congrArg _ (State.upPair_self rfl rfl rfl rfl rfl))⟩
  case refused => exact exec_ackFrame_of_refused hcmds hw hst x
  case accepted => exact fun cell x hc hcell => exec_ackFrame_of_accepted hcmds (hc ▸ hw) hcell x
  case digest => exact ⟨_, exec_digestFrame_of_equal hnew hstep hbuffers hown hresolve, rfl, rfl, rfl⟩
  case query =>
    have hexec : exec (.queryFrame seq 2 e) s = .next (s.upPair (s.onFrame seq fun s => s.takeQuery 2 e)) := rfl
    have hpaired : (s.received seq).paired = true := hnew.1
    rw [State.onFrame_of_new hnew, State.takeQuery, State.sendFrame_of_paired hpaired] at hexec
    exact ⟨_, hexec, rfl⟩
  case reply =>
    have hexec : exec (.replyFrame seq 2 e data) s = .next (s.upPair (s.onFrame seq fun s => s.takeReply 2 e data)) := rfl
    rw [State.onFrame_of_new hnew, State.takeReply_of_one (s := s.received seq) hnew.1 hresolve hask htheirs hdiff] at hexec
    exact ⟨_, hexec, rfl, rfl⟩
  case state =>
    have hexec : exec (.stateFrame seq (.retained xs)) s = .next (s.upPair (s.onFrame seq fun s =>
      if s.standby && s.pairState = 2 then s.takePart (.retained xs) else s)) := rfl
    have hjoining : ((s.received seq).standby && decide ((s.received seq).pairState = 2)) = true :=
      Bool.and_eq_true_iff.2 ⟨hstandby, decide_eq_true hstate⟩
    rw [State.onFrame_of_new hnew, if_pos hjoining] at hexec
    exact ⟨_, hexec, rfl⟩
  case takeback =>
    have hexec : exec (.roleFrame seq (.takebackPropose k)) s =
      .next (s.upPair (s.onFrame seq fun s => s.takeRole (.takebackPropose k))) := rfl
    rw [State.onFrame_of_new hnew,
      State.takeRole_of_proposed (s := s.received seq) hnew.1 hstandby hstep hstate hsuspect hfar] at hexec
    exact ⟨_, hexec, rfl, rfl⟩

end Sys2Proof.Machine
end

section
/-! A standby in step follows the frames of the duty unit (R228 to R232, R245). -/

namespace Sys2Proof.Machine

/-! ### The tick it sees (R230) -/

/-- A standby in step starts the tick live. -/
theorem State.followTick_of_inStep {s : State} (h : s.inStep = true) (n : Nat) : s.followTick n =
    (({ s with pair := { s.pair with reentry := none } } : State).carriersSync []).beginTick n := if_pos h

theorem exec_standbyTickStart_of_inStep {s : State} (hcan : s.canSnoop = true) (hstep : s.inStep = true) (hquiet : s.quiet) (n : Nat) :
    ∃ t, exec (.standbyTickStart n) s = .next t ∧ t.epoch = n % 2 ^ 64 ∧ t.core.flag Reg.TICK_STATUS_RUNNING = true ∧
      t.core.fget Reg.TICK_STATUS_PHASE = 1 ∧ t.seq.syncC = s.core.c := by
  have hexec : exec (.standbyTickStart n) s = .next (s.upPair (if s.canSnoop then s.followTick n else s)) := rfl
  have hsynced : (({ s with pair := { s.pair with reentry := none } } : State).carriersSync []).quiet := hquiet
  have hbegun := State.begun_beginTick hsynced n
  rw [hcan, if_pos rfl, State.followTick_of_inStep hstep] at hexec
  generalize State.beginTick _ n = t at *
  exact ⟨_, hexec, hbegun.epoch, hbegun.running, hbegun.phase, hbegun.sync⟩

/-! ### Inputs and their end (R229, R230) -/

theorem State.takeInput_of_follows {s : State} {n : Nat} (h : s.follows n) (items : List InputItem) :
    s.takeInput n items = { s with pair := { s.pair with inputs := s.pair.inputs ++ items } } := by
  obtain ⟨hstandby, hbuffers, hepoch, hidle⟩ := h
  simp [State.takeInput, hstandby, hbuffers, hepoch, hidle]

/-- The inputs closed, before scan and control starts: no input and no subscription is waited for. -/
def State.inputsClosed (s : State) : State :=
  { s with core := s.core.fput Reg.TICK_STATUS_PHASE 2, pair := { s.pair with inputs := [], closed := some s.epoch }
           xch := { s.xch with waits := [], triggers := [] } }

/-- Without subscriptions a fold over some of them does nothing. -/
theorem State.foldSubs_of_none {s : State} (h : s.xch.subs = []) (p : SubDef → Bool) (f : State → SubDef → State) :
    (s.xch.subs.filter p).foldl f s = s := by rw [h]; rfl

theorem State.laterTriggers_of_none {s : State} (h : s.xch.triggers = []) :
    s.laterTriggers = { s with xch := { s.xch with triggers := [] } } := by rw [State.laterTriggers, h]; rfl

/-- Where nothing is on its way and the digest is the unit's own, the end of the inputs starts scan and control. -/
theorem State.closeInputs_of_equal {s : State} (hphase : s.core.fget Reg.TICK_STATUS_PHASE = 1) (hinputs : s.pair.inputs = [])
    (hsubs : s.xch.subs = []) (htriggers : s.xch.triggers = []) :
    s.closeInputs [] [] (crc32c s.pair.inBytes) = s.inputsClosed.startScan := by
  unfold State.closeInputs
  extract_lets first all s1 bytes p1 s2 bad s3 ended s4 s5 s6 _ s7
  have hfirst : first = true := by unfold first; rw [hphase]; rfl
  have hall : all = [] := by unfold all; rw [hinputs]; rfl
  have hs1 : s1 = s := by unfold s1; rw [hall]; rfl
  have hbytes : bytes = s.pair.inBytes := by unfold bytes; rw [hs1, hall]; exact List.append_nil _
  have hbad : bad = false := by unfold bad; rw [hbytes]; exact bne_self_eq_false _
  have hs3 : s3 = { s with pair := { s.pair with inputs := [], closed := some s.epoch } } := by
    unfold s3 s2 p1
    rw [hbad, hbytes, hs1]
    rfl
  have hs5 : s5 = s.inputsClosed := by
    unfold s5 s4
    rw [hs3]
    exact State.laterTriggers_of_none htriggers
  have hs6 : s6 = s5 := State.foldSubs_of_none (by rw [hs5]; exact hsubs) ..
  rw [hbad, if_neg (by decide)]
  unfold s7
  rw [hfirst, if_pos rfl, hs6, hs5]

/-- What the unit holds for its partner, and what the start of scan and control looks at. -/
def State.pairScan (s : State) := (s.pair, s.trw, s.cfg)

theorem State.pairScan_writeSystem (s : State) : s.Follows State.pairScan steerRows s.writeSystem := by
  have hcell : ∀ {t u : State}, t.ImageOnly u → t.Follows State.pairScan steerRows u := fun h => h.coarser
  unfold State.writeSystem
  refine .foldl (fun t c => ?_) _ s
  exact .ite (.refl t) (.trans (hcell (State.imageOnly_writeCell ..)) ⟨rfl, .refl _⟩)

/-- The start of scan and control keeps what the unit holds for its partner, and its place in the pair. -/
theorem State.startScan_pair {s : State} {u : Nat} (hu : s.unfinished u) (ht : s.core.flag Reg.SBD_STAT_TRIPPED = false) :
    s.startScan.pair = s.pair ∧ s.startScan.pairState = s.pairState := by
  obtain ⟨hsys, hkeeps⟩ := s.pairScan_writeSystem
  simp only [State.pairScan, Prod.mk.injEq] at hsys
  obtain ⟨hpair, htrw, hcfg⟩ := hsys
  unfold State.startScan
  rw [State.feather_of_not_tripped ht]
  generalize s.writeSystem = w at *
  extract_lets trw w' t
  have hitem : t.Follows State.coreless steerRows t.itemDone :=
    State.coreless_itemDone (u := u) ⟨(congrArg Image.sleepCell hcfg).trans hu.1, (congrArg (·.stages.at? u) htrw).trans hu.2⟩
  have hscan : w.core.Keeps [Reg.PTR_STAT_PAIR_STATE] t.core := .fput (.refl _) (Row.off_of_ne (by decide) (by decide))
  exact ⟨(hitem.same State.pair).trans hpair, (State.pairState_of_keeps hitem.2).trans
    ((hscan.2 _ (by decide)).trans (State.pairState_of_keeps hkeeps))⟩

theorem State.takeClose_of_follows {s : State} {n : Nat} (h : s.follows n) (items : List InputItem) (waits : List Nat) (dg : Word) :
    s.takeClose n items waits dg = s.closeInputs items waits dg := by
  obtain ⟨hstandby, -, hepoch, hidle⟩ := h
  simp [State.takeClose, hstandby, hepoch, hidle]

theorem exec_closeFrame_of_equal {s : State} {seq n u : Nat} (hnew : s.newFrame seq) (hfollows : s.follows n) (hu : s.unfinished u)
    (hinputs : s.pair.inputs = []) (hsubs : s.xch.subs = []) (htriggers : s.xch.triggers = [])
    (htripped : s.core.flag Reg.SBD_STAT_TRIPPED = false) (hphase : s.core.fget Reg.TICK_STATUS_PHASE = 1) :
    ∃ t, exec (.closeFrame seq n [] [] (crc32c s.pair.inBytes)) s = .next t ∧ t.trw.scanning = true ∧
      t.core.fget Reg.TICK_STATUS_PHASE = 3 ∧ t.pair.closed = some n ∧ t.pairState = s.pairState := by
  have hexec : exec (.closeFrame seq n [] [] (crc32c s.pair.inBytes)) s =
    .next (s.upPair (s.onFrame seq fun t => t.takeClose n [] [] (crc32c (s.received seq).pair.inBytes))) := rfl
  have hput : s.core.Keeps [Reg.SBD_STAT_TRIPPED, Reg.PTR_STAT_PAIR_STATE] (s.received seq).inputsClosed.core :=
    .fput (.refl _) (Row.off_of_ne (by decide) (by decide))
  rw [State.onFrame_of_new hnew, State.takeClose_of_follows (s := s.received seq) hfollows,
    State.closeInputs_of_equal (s := s.received seq) hphase hinputs hsubs htriggers] at hexec
  have hu' : (s.received seq).inputsClosed.unfinished u := hu
  have htripped' := (hput.flag (r := Reg.SBD_STAT_TRIPPED) (by decide)).trans htripped
  obtain ⟨hscan, hthree, -⟩ := State.startScan_facts hu' htripped'
  obtain ⟨hpair, hstate⟩ := State.startScan_pair hu' htripped'
  have hn : (s.received seq).inputsClosed.pair.closed = some n := congrArg some hfollows.2.2.1
  generalize (s.received seq).inputsClosed.startScan = t at *
  exact ⟨_, hexec, hscan, hthree, (congrArg Pair.closed hpair).trans hn, hstate.trans (hput.2 _ (by decide))⟩

/-- CLOSE that has not come in time puts the standby out of step (R231). -/
theorem exec_closeDeadline_of_open {s : State} (hstandby : s.standby = true) (hstep : s.inStep = true)
    (hrunning : s.core.flag Reg.TICK_STATUS_RUNNING = true) (hphase : s.core.fget Reg.TICK_STATUS_PHASE = 1) :
    exec .closeDeadline s = .next (s.upPair (s.startResync 1)) := by
  have hexec : exec .closeDeadline s = .next (s.upPair s.missClose) := rfl
  rw [hexec, State.missClose, State.outOfStep, hstandby, hstep, hrunning, hphase]
  rfl

/-! ### COMMANDs (R232) -/

/-- A COMMAND that passes its check is followed, and acknowledged with OK. -/
theorem State.takeCommand_of_accepted {s : State} (hstandby : s.standby = true) (hstep : s.inStep = true) {c : Passed}
    (hcheck : s.passedCheck c = none) (seq epoch n : Nat) :
    s.takeCommand seq epoch c n = (s.followCommand seq c n).sendFrame (.ack seq .ok .none) := by
  rw [State.takeCommand, hstandby, hstep, hcheck]
  rfl

/-- One that fails it is acknowledged with its refusal. -/
theorem State.takeCommand_of_refused {s : State} (hstandby : s.standby = true) (hstep : s.inStep = true) {c : Passed} {st : Status}
    {x : Cause} (hcheck : s.passedCheck c = some (st, x)) (seq epoch n : Nat) :
    s.takeCommand seq epoch c n = (s.passedRefuse c).sendFrame (.ack seq st x) := by
  rw [State.takeCommand, hstandby, hstep, hcheck]
  rfl

section

variable {s : State} {seq cell n : Nat} (hpaired : s.paired = true) (hstandby : s.standby = true) (hstep : s.inStep = true)

include hpaired hstandby hstep

/-- A force whose removal takes effect later waits for its application epoch. -/
theorem State.takeCommand_of_later (hcell : s.userCell cell = true) (hlater : s.epoch + 1 < n) (epoch : Nat) :
    s.takeCommand seq epoch (.command (.forceRemove cell)) n = { s with
      pair := ({ s.pair with accepted := seq, agreed := s.pair.agreed ++ [(.forceRemove cell, n)] } : Pair).sending s.epoch
        (.ack seq .ok .none) } := by
  have hfollow : s.followCommand seq (.command (.forceRemove cell)) n =
      { s with pair := { s.pair with accepted := seq, agreed := s.pair.agreed ++ [(.forceRemove cell, n)] } } :=
    if_pos (decide_eq_true hlater)
  have hcheck : s.passedCheck (.command (.forceRemove cell)) = none := if_pos hcell
  rw [State.takeCommand_of_accepted hstandby hstep hcheck, hfollow]
  exact if_pos hpaired

/-- One whose removal is due is taken over for the next screed instant. -/
theorem State.takeCommand_of_due (hcell : s.userCell cell = true) (hdue : n ≤ s.epoch + 1) (epoch : Nat) :
    s.takeCommand seq epoch (.command (.forceRemove cell)) n = { s with
      pair := ({ s.pair with accepted := seq } : Pair).sending s.epoch (.ack seq .ok .none)
      cmd := { s.cmd with forceDue := s.cmd.forceDue ++ [(cell, none)] } } := by
  have hfollow : s.followCommand seq (.command (.forceRemove cell)) n =
      { s with pair := { s.pair with accepted := seq }, cmd := { s.cmd with forceDue := s.cmd.forceDue ++ [(cell, none)] } } :=
    if_neg fun hlater => Nat.not_lt.2 hdue (of_decide_eq_true hlater)
  have hcheck : s.passedCheck (.command (.forceRemove cell)) = none := if_pos hcell
  rw [State.takeCommand_of_accepted hstandby hstep hcheck, hfollow]
  exact if_pos hpaired

theorem State.takeCommand_of_noAccess (hcell : s.userCell cell = false) (epoch : Nat) :
    s.takeCommand seq epoch (.command (.forceRemove cell)) n = { s.deny 0 with
      pair := s.pair.sending s.epoch (.ack seq .noAccess .none) } := by
  have hcheck : s.passedCheck (.command (.forceRemove cell)) = some (.noAccess, .none) := if_neg (by simp [hcell])
  rw [State.takeCommand_of_refused hstandby hstep hcheck]
  exact if_pos hpaired

end

/-- A new COMMAND reaches the state in which it is acknowledged. -/
theorem exec_commandFrame_of_new {s : State} {seq : Nat} (h : s.newFrame seq) (epoch : Nat) (c : Passed) (n : Nat) :
    exec (.commandFrame seq epoch c n) s = .next (s.upPair ((s.received seq).takeCommand seq epoch c n)) := by
  have hexec : exec (.commandFrame seq epoch c n) s = .next (s.upPair (s.onFrame seq fun s => s.takeCommand seq epoch c n)) := rfl
  rw [hexec, State.onFrame_of_new h]

/-! ### Commit images (R229, R245) -/

theorem exec_meterFrame_of_new {s : State} {seq : Nat} (h : s.newFrame seq) (m : MeterHalf) :
    exec (.meterFrame seq m) s = .next (s.upPair ((s.received seq).takeMeter m.half m.img)) := by
  have hexec : exec (.meterFrame seq m) s = .next (s.upPair (s.onFrame seq fun s => s.takeMeter m.half m.img)) := rfl
  rw [hexec, State.onFrame_of_new h]

/-- The first frame of an image waits for the second. -/
theorem State.takeMeter_first {s : State} (hstandby : s.standby = true) (img : CommitImage) :
    s.takeMeter 0 img = { s with pair := { s.pair with half := some img } } := by
  rw [State.takeMeter, hstandby]
  rfl

/-- The second frame of an image stores it in its slot and makes it the mirror. -/
theorem State.takeMeter_second {s : State} (hstandby : s.standby = true) {img : CommitImage} (hhalf : s.pair.half = some img) :
    s.takeMeter 1 img = { (s.storeCommit img).mirrorCommit img with pair := { s.pair with half := none } } := by
  rw [State.takeMeter, hstandby, if_neg (by decide), if_neg (by decide), if_pos hhalf]
  simp only [State.storeCommit]
  rfl

/-- An image goes into the slot of its number's parity, and the other slot stands. -/
theorem State.storeCommit_slots (s : State) (img : CommitImage) : if img.seq % 2 = 0
    then (s.storeCommit img).met.slotA = some img ∧ (s.storeCommit img).met.slotB = s.met.slotB
    else (s.storeCommit img).met.slotB = some img ∧ (s.storeCommit img).met.slotA = s.met.slotA := by
  unfold State.storeCommit
  extract_lets m
  rw [State.onCore_met]
  split
  · exact ⟨rfl, rfl⟩
  · exact ⟨rfl, rfl⟩

theorem State.storeCommit_seq (s : State) (img : CommitImage) : (s.storeCommit img).met.seq = img.seq := by
  unfold State.storeCommit
  dsimp only
  rw [State.onCore_met]
  split <;> rfl

/-- Settles O27: what a standby in step does with the tick it sees and with each frame, by its own lemma. -/
theorem standbyFollows : Obligations.StandbyFollows := by
  unfold Obligations.StandbyFollows
  intro s seq
  refine ⟨fun n hcan hstep hquiet => exec_standbyTickStart_of_inStep hcan hstep hquiet n, fun n items hnew hfollows => ?input,
    fun n u hnew hfollows hu hinputs hsubs htriggers htripped hphase =>
      exec_closeFrame_of_equal hnew hfollows hu hinputs hsubs htriggers htripped hphase,
    fun hstandby hstep hrunning hphase => ?deadline, fun cell n hnew hstandby hstep => ?command,
    fun img hnew hstandby => ⟨?first, fun hhalf => ?second⟩⟩
  case input =>
    have hexec : exec (.inputFrame seq n items) s = .next (s.upPair (s.onFrame seq fun s => s.takeInput n items)) := rfl
    rw [hexec, State.onFrame_of_new hnew, State.takeInput_of_follows (s := s.received seq) hfollows]
    exact congrArg _ (State.upPair_self rfl rfl rfl rfl rfl)
  case deadline =>
    obtain ⟨hstate, hauth, hstage, -⟩ := s.startResync_facts 1
    exact ⟨_, exec_closeDeadline_of_open hstandby hstep hrunning hphase, hstate, hstage, hauth⟩
  case command =>
    intro frame acked
    refine ⟨fun hcell => ?_, fun hcell => ?_⟩
    · have hexec := exec_commandFrame_of_new hnew s.epoch (.command (.forceRemove cell)) n
      by_cases hlater : s.epoch + 1 < n
      · rw [State.takeCommand_of_later (s := s.received seq) hnew.1 hstandby hstep hcell hlater] at hexec
        exact ⟨_, hexec, rfl, rfl, fun _ => ⟨rfl, rfl⟩, fun hdue => absurd hlater (Nat.not_lt.2 hdue)⟩
      · rw [State.takeCommand_of_due (s := s.received seq) hnew.1 hstandby hstep hcell (Nat.not_lt.1 hlater)] at hexec
        exact ⟨_, hexec, rfl, rfl, fun h => absurd h hlater, fun _ => ⟨rfl, rfl⟩⟩
    · have hexec := exec_commandFrame_of_new hnew s.epoch (.command (.forceRemove cell)) n
      rw [State.takeCommand_of_noAccess (s := s.received seq) hnew.1 hstandby hstep hcell] at hexec
      exact ⟨_, hexec, rfl, rfl, rfl⟩
  case first =>
    have hexec := exec_meterFrame_of_new hnew ⟨0, img⟩
    rw [State.takeMeter_first (s := s.received seq) hstandby] at hexec
    exact ⟨_, hexec, rfl, rfl⟩
  case second =>
    have hexec := exec_meterFrame_of_new hnew ⟨1, img⟩
    rw [State.takeMeter_second (s := s.received seq) hstandby hhalf] at hexec
    exact ⟨_, hexec, rfl, rfl, (s.received seq).storeCommit_seq img, (s.received seq).storeCommit_slots img⟩

end Sys2Proof.Machine
end

section
/-! The partner link and the sideband lines (R223 to R228, R237, R240, R242). -/

namespace Sys2Proof

theorem Core.landLevel_congr {k k' : Core} (h : k'.lands = k.lands) (l : Land) : k'.landLevel l = k.landLevel l := by
  unfold Core.landLevel; rw [h]

end Sys2Proof

namespace Sys2Proof.Machine

/-! ### The link (R225, R228, R237) -/

/-- The link is silent on both lanes. -/
def State.linkDark (s : State) : State :=
  { s with core := (s.core.fput Reg.PTR_STAT_LINK_LANES 0).setFlag Reg.CLK_STAT_PTNR_OK false
           pair := { s.pair with silent := true } }

/-- Rows by which a standby shows that it is detached. -/
def detachRows : List Row := [Reg.PTR_STAT_PAIR_STATE, Reg.PTR_STAT_HOLD_AUTH] ++ recorderRows

theorem State.within_detach (s : State) (reason : Nat) : s.Within (·.pair.silent) detachRows (s.detach reason) := by
  have hshown : s.Within (·.pair.silent) detachRows ((s.setPair 5).onCore fun k => k.setFlag Reg.PTR_STAT_HOLD_AUTH false) :=
    ⟨rfl, .setFlag (.fput (.refl _))⟩
  unfold State.detach
  exact hshown.record ..

/-- What the silent link does to the pair's state does not touch the link. -/
theorem State.within_linkSilent (s : State) : s.linkDark.Within (·.pair.silent) detachRows s.linkSilent := by
  have hdropped : ∀ p : Pair, p.silent = true →
      s.linkDark.Within (·.pair.silent) detachRows ({ s.linkDark with pair := p } : State) := fun _ h => ⟨h, .refl _⟩
  refine .ite (.ite ((hdropped _ rfl).trans (State.within_detach ..)) (.refl _)) (.ite ?_ (.refl _))
  exact (hdropped _ rfl).onCore (.fput (.refl _))

theorem State.linkSilent_facts (s : State) : let t := s.linkSilent
    t.pair.silent = true ∧ t.core.fget Reg.PTR_STAT_LINK_LANES = 0 ∧ t.core.flag Reg.CLK_STAT_PTNR_OK = false := by
  intro t
  have hwithin : s.linkDark.Within (·.pair.silent) detachRows t := s.within_linkSilent
  have hlanes : (s.core.fput Reg.PTR_STAT_LINK_LANES 0).WritesIn [Reg.CLK_STAT_PTNR_OK] s.linkDark.core := .setFlag (.refl _)
  exact ⟨hwithin.1, hwithin.fget.trans (hlanes.fget.trans (Core.fget_fput_self ..)),
    hwithin.flag.trans (Core.flag_setFlag _ _ _ _ (by decide))⟩

/-- A duty whose standby was in step runs alone. -/
theorem State.linkSilent_of_duty {s : State} (hduty : s.standby = false) (hstate : s.pairState = 3) : s.linkSilent.pairState = 0 := by
  have hdark : s.core.WritesIn [Reg.PTR_STAT_LINK_LANES, Reg.CLK_STAT_PTNR_OK] s.linkDark.core := .setFlag (.fput (.refl _))
  have hduty' : s.linkDark.standby = false := by
    rw [State.standby, Core.isStandby, hdark.fget]; exact hduty
  have hstate' : s.linkDark.pairState = 3 := hdark.fget.trans hstate
  have halone : s.linkSilent = State.setPair
      { s.linkDark with pair := { s.linkDark.pair with stage := 0, resolve := none, takeback := none, proposed := none } } 0 := by
    change (if s.linkDark.standby = true then _ else if 2 ≤ s.linkDark.pairState && s.linkDark.pairState ≤ 4 then _ else _) = _
    rw [hduty', hstate']
    rfl
  rw [halone]
  exact Core.fget_fput_self ..

section

variable {s : State} (hpaired : s.paired = true)

include hpaired

theorem exec_partnerFrameTimeout_of_sent (hsilent : s.pair.silent = false) {q : Nat} {f : PSent}
    (hsent : s.pair.sent.find? (·.seq == q) = some f) : exec (.partnerFrameTimeout q) s = .next (s.upPair
      (if s.pair.resends.atD q 0 < 8 then
        { s with core := s.core.bump Reg.PTR_LINK_ERR_RESENT
                 pair := { s.pair with sent := { f with again := true } :: s.pair.sent
                                       resends := s.pair.resends.put q (s.pair.resends.atD q 0 + 1) } }
      else s.linkSilent)) := by
  have hexec : exec (.partnerFrameTimeout q) s = .next (s.upPair (s.frameTimeout q)) := rfl
  rw [hexec, State.frameTimeout, hpaired, hsilent, if_neg (by decide), hsent]
  rfl

theorem exec_partnerLinkSilence : exec .partnerLinkSilence s = .next (s.upPair s.linkSilent) :=
  congrArg (fun t => Host.Outcome.next (s.upPair t)) (if_pos hpaired)

/-- The link trains again: it is not silent on either lane. -/
theorem State.linkReturn_facts : let t := s.linkReturn
    t.pair.silent = false ∧ t.core.fget Reg.PTR_STAT_LINK_LANES = 3 ∧ t.core.flag Reg.CLK_STAT_PTNR_OK = true := by
  intro t
  have hlanes : (s.core.fput Reg.PTR_STAT_LINK_LANES 3).WritesIn [Reg.CLK_STAT_PTNR_OK]
      ((s.core.fput Reg.PTR_STAT_LINK_LANES 3).setFlag Reg.CLK_STAT_PTNR_OK true) := .setFlag (.refl _)
  have hback : ({ s with core := (s.core.fput Reg.PTR_STAT_LINK_LANES 3).setFlag Reg.CLK_STAT_PTNR_OK true
                         pair := { s.pair with silent := false, resends := [] } } : State).Within (·.pair.silent) resyncRows t := by
    unfold t State.linkReturn
    rw [hpaired, Bool.not_true, if_neg (by decide)]
    refine .ite ⟨?_, (State.shed_startResync ..).2⟩ (.refl _)
    exact (State.startResync_facts _ 1).2.2.2.1
  exact ⟨hback.1, hback.fget.trans (hlanes.fget.trans (Core.fget_fput_self ..)),
    hback.flag.trans (Core.flag_setFlag _ _ _ _ (by decide))⟩

end

/-! ### A duty failure that the standby declares (R237, R239) -/

/-- In `t` a duty failure of this cause is declared, for an epoch after the one of `s`. -/
def State.Declares (s t : State) (cause : Nat) : Prop :=
  t.pair.declared.isSome = true ∧ t.core.fget Reg.PTR_DECLARE_CAUSE = cause ∧
    (t.pair.declared.any fun k => decide (s.epoch + 1 ≤ k)) = true

/-- What a standby in step declares, and when the takeover is at the earliest. -/
theorem State.declare_facts {s : State} (hstandby : s.standby = true) (hstep : s.inStep = true) (hnone : s.pair.declared = none)
    (hhold : s.plat.hold = false) {cause : Nat} (hcause : cause < 256) : s.Declares (s.declare cause) cause := by
  obtain ⟨k, hk, hdeclared, hcore⟩ : ∃ k, s.epoch + 1 ≤ k ∧ (s.declare cause).pair.declared = some k ∧
      (s.declare cause).core = (s.core.fput Reg.PTR_DECLARE_CAUSE cause).bump Reg.PTR_DECLARE_COUNT := by
    unfold State.declare
    rw [hstandby, hstep, hnone, hhold, if_neg (by decide), if_neg (by decide)]
    extract_lets k
    exact ⟨k, by omega, congrArg Pair.declared (State.sendFrame_besideSent ..), State.sendFrame_core ..⟩
  have hput : (s.core.fput Reg.PTR_DECLARE_CAUSE cause).WritesIn [Reg.PTR_DECLARE_COUNT] (s.declare cause).core := by
    rw [hcore]; exact .bump (.refl _)
  refine ⟨by rw [hdeclared]; rfl, hput.fget.trans ((Core.fget_fput_self ..).trans (Nat.mod_eq_of_lt hcause)), ?_⟩
  rw [hdeclared]
  exact decide_eq_true hk

theorem State.partnerLost_of_standby {s : State} (h : s.standby = true) : s.partnerLost = s := by
  rw [State.partnerLost, h]
  rfl

/-- The same of a state that what the standby has noticed shows in the shared core only. -/
theorem State.declare_noticed {s u : State} (hkeeps : s.core.Keeps steerRows u.core) (hstandby : s.standby = true)
    (hstep : s.inStep = true) (hnone : u.pair.declared = none) (hhold : u.plat.hold = false) {cause : Nat} (hcause : cause < 256) :
    s.Declares (u.partnerLost.declare cause) cause := by
  have hstandby' := (State.standby_of_keepsSteer hkeeps).trans hstandby
  have hfacts := State.declare_facts hstandby' ((State.inStep_of_keeps hkeeps).trans hstep) hnone hhold hcause
  rw [State.Declares, State.epoch_of_keeps hkeeps] at hfacts
  rw [State.partnerLost_of_standby hstandby']
  exact hfacts

/-! ### The roles at start-up (R222, R223) -/

/-- Rows that the role of the PTP ports shows in. -/
def ptpRows : List Row := [Reg.NT_STAT_PORT0, Reg.NT_STAT_PORT1, Reg.NT_STAT_SLAVE]

/-- A change of the PTP role leaves the pair and the lands. -/
theorem State.within_ptpRole (s : State) : s.Within (fun t => (t.pair, t.core.lands)) ptpRows s.ptpRole := by
  have hrow : ∀ p, portRow p ∈ ptpRows := fun p => by unfold portRow; split <;> decide
  have hjoin : ∀ (t : State) p, t.Within (fun t => (t.pair, t.core.lands)) ptpRows (t.ptpJoin p) := fun t p =>
    .ite ⟨rfl, .fput (.refl _) (hrow p)⟩ (.refl t)
  have hports : s.Within (fun t => (t.pair, t.core.lands)) ptpRows ([0, 1].foldl (fun (s : State) p =>
      if s.core.fget (portRow p) = 6 ∨ s.grandmaster = true then s.ptpJoin p else s) s) :=
    .foldl (fun t p => .ite (hjoin t p) (.refl t)) ..
  unfold State.ptpRole
  extract_lets u
  exact .ite (.trans hports ⟨rfl, .fput (.refl _)⟩) hports

/-- The unit's role and the lane's master. -/
def roleRows : List Row := [Reg.GLB_UNIT_ROLE, Reg.LANE_STAT_MASTER]

/-- `t` has what the unit holds for its partner, and the role, as `s` has them. -/
abbrev State.RoleKept (s t : State) : Prop := s.Follows State.pair roleRows t

theorem Core.keepsRole_postEvent (k : Core) (type source d0 d1 : Nat) (may : Nat → Bool) :
    k.Keeps roleRows (k.postEvent type source d0 d1 may) := by
  have hoff : ∀ r ∈ roleRows, ∀ r' ∈ recorderRows, r.id ≠ r'.id := by decide
  exact ⟨(Core.keeps_postEvent ..).1, fun r hr => (Core.posts_postEvent ..).writes.fget (hoff r hr)⟩

theorem Core.keepsRole_canEvent (k : Core) (c bit : Nat) : k.Keeps roleRows (k.canEvent c bit) := by
  have hset : k.Keeps roleRows (k.setBit Reg.CAN_EVT_EVENTS bit true c) := .fput (.refl _) (Row.off_of_lt _ (by decide))
  exact .ite (.refl k) (.ite (hset.trans (Core.keepsRole_postEvent ..)) hset)

/-! The requests of a unit that gives its role up are lost (R322): the role itself stays as it is. -/

theorem State.roleKept_putCan (s : State) (c : Nat) (x : CanCtl) : s.RoleKept (s.putCan c x) := ⟨rfl, .refl _⟩

theorem State.roleKept_onBuf (s : State) (c b : Nat) (f : TxBuffer → TxBuffer) : s.RoleKept (s.onBuf c b f) := ⟨rfl, .refl _⟩

theorem State.roleKept_showActivity (s : State) (c : Nat) : s.RoleKept (s.showActivity c) :=
  ⟨rfl, .fput (.refl _) (Row.off_of_lt _ (by decide))⟩

theorem State.roleKept_showTx (s : State) (c : Nat) : s.RoleKept (s.showTx c) := by
  unfold State.showTx
  extract_lets x u
  have hu : s.RoleKept u := .foldl (fun t i => .onCore (.refl t) (.fput (.fput (.fput (.refl _) (Row.off_of_lt _ (by decide)))
    (Row.off_of_lt _ (by decide))) (Row.off_of_lt _ (by decide)))) ..
  exact hu.trans (State.roleKept_showActivity ..)

theorem State.roleKept_answerCan (s : State) (c b : Nat) (e : TxEvent) : s.RoleKept (s.answerCan c b e) := by
  refine .foldl (fun t q => ?_) _ s
  split
  · exact .ite ⟨rfl, .refl _⟩ (.refl t)
  · exact .refl t

theorem State.roleKept_promoteCan (s : State) (c b : Nat) : s.RoleKept (s.promoteCan c b) := by
  refine .foldl (fun t q => ?_) _ s
  split
  · exact .ite ⟨rfl, .refl _⟩ (.refl t)
  · exact .refl t

theorem State.roleKept_logCan (s : State) (c b : Nat) (el : CanElement) (status : Nat) (stamp : Int) :
    s.RoleKept (s.logCan c b el status stamp) := by
  unfold State.logCan
  extract_lets e x u
  have hu : s.RoleKept u := .ite (.onCore (.refl s) (Core.keepsRole_canEvent ..)) (.refl s)
  clear_value e x u
  have hput := u.roleKept_putCan c { x with log := (e :: x.log).take 16 }
  exact (hu.trans hput).trans (State.roleKept_answerCan ..)

theorem State.roleKept_canFail (s : State) (c b : Nat) : s.RoleKept (s.canFail c b) := by
  unfold State.canFail
  extract_lets t
  refine .ite (.refl s) ?_
  split
  · refine .trans ?_ (State.roleKept_showTx ..)
    exact (s.roleKept_onBuf ..).trans ((State.roleKept_answerCan ..).trans (State.roleKept_promoteCan ..))
  · refine .ite (.trans ?_ (State.roleKept_showTx ..)) ((s.roleKept_onBuf ..).trans (State.roleKept_showTx ..))
    exact (s.roleKept_onBuf ..).trans (State.roleKept_logCan ..)

theorem State.roleKept_canLose (s : State) : s.RoleKept s.canLose := by
  refine .foldl (fun t p => ?_) _ s
  extract_lets failed answered x
  have hfailed : t.RoleKept failed := .foldl (fun u b => u.roleKept_canFail p.1 b) ..
  have hanswered : failed.RoleKept answered := .foldl (fun u x => .ite (u.roleKept_answerCan ..) (.refl u)) ..
  clear_value failed answered x
  have hput := answered.roleKept_putCan p.1 { x with bufs := [] }
  exact (hfailed.trans hanswered).trans (hput.trans (State.roleKept_showTx ..))

theorem State.roleKept_canRole (s : State) (standby : Bool) : s.RoleKept (s.canRole standby) := by
  unfold State.canRole
  extract_lets f u
  have hu : s.RoleKept u := .ite s.roleKept_canLose (.refl s)
  exact hu.trans ⟨rfl, .refl _⟩

theorem lowerLand_regs (k : Core) (l : Land) : (lowerLand k l).regs = k.regs := by unfold lowerLand; split <;> rfl

theorem raiseLand_regs (k : Core) (l : Land) : (raiseLand k l).regs = k.regs := by unfold raiseLand; split <;> rfl

/-- The core of a unit that becomes standby. -/
def standbyCore (k : Core) : Core :=
  (lowerLand (((k.fput Reg.GLB_UNIT_ROLE 2).setFlag Reg.LANE_STAT_MASTER false).setFlag Reg.LANE_STAT_SNOOP true) .lnClk).drive
    .ptrMst false

theorem standbyCore_role (k : Core) : (standbyCore k).fget Reg.GLB_UNIT_ROLE = 2 := by
  have hput : (k.fput Reg.GLB_UNIT_ROLE 2).WritesIn [Reg.LANE_STAT_MASTER, Reg.LANE_STAT_SNOOP] (standbyCore k) :=
    .of_regs (.setFlag (.setFlag (.refl _))) (lowerLand_regs ..)
  exact hput.fget.trans (Core.fget_fput_self ..)

theorem standbyCore_master (k : Core) : (standbyCore k).flag Reg.LANE_STAT_MASTER = false := by
  have hput : ((k.fput Reg.GLB_UNIT_ROLE 2).setFlag Reg.LANE_STAT_MASTER false).WritesIn [Reg.LANE_STAT_SNOOP] (standbyCore k) :=
    .of_regs (.setFlag (.refl _)) (lowerLand_regs ..)
  exact hput.flag.trans (Core.flag_setFlag _ _ _ _ (by decide))

theorem State.becomeStandby_facts (s : State) : let t := s.becomeStandby
    t.core.fget Reg.GLB_UNIT_ROLE = 2 ∧ t.core.flag Reg.LANE_STAT_MASTER = false ∧ t.pair.waiting = false := by
  intro t
  have hptp := State.within_ptpRole
    { s with core := standbyCore s.core, pair := { s.pair with waiting := false, resolve := none, declared := none } }
  have hcan := State.roleKept_canRole
    (State.ptpRole { s with core := standbyCore s.core, pair := { s.pair with waiting := false, resolve := none, declared := none } }) true
  obtain ⟨hpair, hkeeps⟩ : _ ∧ Core.Keeps _ _ t.core := hcan
  exact ⟨(hkeeps.2 _ (by decide)).trans (hptp.2.fget.trans (standbyCore_role _)),
    (hkeeps.flag (by decide)).trans (hptp.2.flag.trans (standbyCore_master _)),
    congrArg Pair.waiting (hpair.trans (congrArg Prod.fst hptp.1))⟩

/-- The core of a unit of a pair that becomes duty. -/
def dutyCore (k : Core) : Core :=
  (raiseLand ((((k.fput Reg.GLB_UNIT_ROLE 1).setFlag Reg.LANE_STAT_MASTER true).setFlag Reg.LANE_STAT_SNOOP false).setFlag
    Reg.PTR_STAT_HOLD_AUTH false) .lnClk).drive .ptrMst true

theorem dutyCore_role (k : Core) : (dutyCore k).fget Reg.GLB_UNIT_ROLE = 1 := by
  have hput : (k.fput Reg.GLB_UNIT_ROLE 1).WritesIn [Reg.LANE_STAT_MASTER, Reg.LANE_STAT_SNOOP, Reg.PTR_STAT_HOLD_AUTH] (dutyCore k) :=
    .of_regs (.setFlag (.setFlag (.setFlag (.refl _)))) (raiseLand_regs ..)
  exact hput.fget.trans (Core.fget_fput_self ..)

theorem dutyCore_master (k : Core) : (dutyCore k).flag Reg.LANE_STAT_MASTER = true := by
  have hput : ((k.fput Reg.GLB_UNIT_ROLE 1).setFlag Reg.LANE_STAT_MASTER true).WritesIn
      [Reg.LANE_STAT_SNOOP, Reg.PTR_STAT_HOLD_AUTH] (dutyCore k) :=
    .of_regs (.setFlag (.setFlag (.refl _))) (raiseLand_regs ..)
  exact hput.flag.trans (Core.flag_setFlag _ _ _ _ (by decide))

/-- The state of a unit that becomes duty, before its PTP ports follow. -/
def State.dutyPlaced (s : State) : State :=
  State.setPair { s.foldTrail with
    core := dutyCore s.core
    pair := { s.pair with waiting := false, stage := 0, backlog := [], resolve := none, declared := none, load := none } } 0

theorem State.becomeDuty_of_paired {s : State} (h : s.paired = true) : s.becomeDuty = s.dutyPlaced.ptpRole := by
  unfold State.becomeDuty
  rw [h]
  rfl

theorem State.becomeDuty_facts {s : State} (h : s.paired = true) : let t := s.becomeDuty
    t.core.fget Reg.GLB_UNIT_ROLE = 1 ∧ t.pair.waiting = false ∧ t.core.flag Reg.LANE_STAT_MASTER = true ∧
      t.core.landLevel .ptrMst = true := by
  intro t
  have hput : (dutyCore s.core).WritesIn [Reg.PTR_STAT_PAIR_STATE] s.dutyPlaced.core := .fput (.refl _)
  obtain ⟨hkept, hrows⟩ : s.dutyPlaced.Within (fun t => (t.pair, t.core.lands)) ptpRows t := by
    unfold t
    rw [State.becomeDuty_of_paired h]
    exact State.within_ptpRole _
  exact ⟨hrows.fget.trans (hput.fget.trans (dutyCore_role _)), congrArg (fun x => x.1.waiting) hkept,
    hrows.flag.trans (hput.flag.trans (dutyCore_master _)),
    (Core.landLevel_congr (congrArg Prod.snd hkept) _).trans (Core.landLevel_drive ..)⟩

section

variable {s : State} (hwaiting : s.pair.waiting = true)

include hwaiting

/-- A unit that waited for its role becomes standby when the partner shows that it is master. -/
theorem exec_ptrMstIRise_of_waiting : ∃ t, exec .ptrMstIRise s = .next t ∧ t.core.fget Reg.GLB_UNIT_ROLE = 2 ∧ t.pairState = 2 ∧
    t.pair.waiting = false ∧ t.core.flag Reg.LANE_STAT_MASTER = false := by
  have hexec : exec .ptrMstIRise s = .next (s.upPair
      ((({ s with pair := { s.pair with mstIn := true } } : State).becomeStandby).startResync 1)) :=
    congrArg (fun t => Host.Outcome.next (s.upPair t)) (if_pos hwaiting)
  obtain ⟨hrole, hmaster, hnot⟩ := State.becomeStandby_facts { s with pair := { s.pair with mstIn := true } }
  generalize State.becomeStandby _ = u at *
  obtain ⟨hstate, -, -, -, hwait⟩ := u.startResync_facts 1
  have hrows := (u.shed_startResync 1).2
  generalize u.startResync 1 = t at *
  exact ⟨_, hexec, hrows.fget.trans hrole, hstate, hwait.trans hnot, hrows.flag.trans hmaster⟩

/-- It becomes duty when its wait ends without. -/
theorem exec_roleStartWaitExpiry_of_waiting (hpaired : s.paired = true) : ∃ t, exec .roleStartWaitExpiry s = .next t ∧
    t.core.fget Reg.GLB_UNIT_ROLE = 1 ∧ t.pair.waiting = false ∧ t.core.flag Reg.LANE_STAT_MASTER = true ∧
    t.core.landLevel .ptrMst = true := by
  have hexec : exec .roleStartWaitExpiry s = .next (s.upPair s.becomeDuty) :=
    congrArg (fun t => Host.Outcome.next (s.upPair t)) (if_pos hwaiting)
  have hfacts := State.becomeDuty_facts hpaired
  generalize s.becomeDuty = t at *
  exact ⟨_, hexec, hfacts⟩

end

/-! ### The lines and lanes (R224 to R227, R242) -/

theorem State.okRises_facts (s : State) : s.okRises.pair.okIn = true ∧
    (s.core.landLevel .ptrFenceN = false → s.pair.okFell = true → s.okRises.core.landLevel .ptrFenceN = true) := by
  refine ⟨?_, fun hfence hfell => ?_⟩
  · unfold State.okRises
    extract_lets u
    split <;> rfl
  · have hreleased : (!s.core.landLevel .ptrFenceN && s.pair.okFell) = true := by rw [hfence, hfell]; rfl
    unfold State.okRises
    extract_lets u
    rw [if_pos hreleased]
    exact Core.landLevel_drive ..

/-- A lane that is lost shows, and the hold-off starts anew. -/
theorem State.laneLoss_facts (s : State) (l : Nat) : let t := (s.onCore (·.setBit Reg.PTR_STAT_LINK_LANES l false)).restartHoldoff
    (t.core.fget Reg.PTR_STAT_LINK_LANES).testBit l = false ∧
      t.core.fget Reg.PTR_STAT_HOLDOFF_LEFT_S = s.core.fget Reg.PTR_CFG_HOLDOFF_S % 2 ^ Reg.PTR_STAT_HOLDOFF_LEFT_S.width := by
  intro t
  have hlanes : s.core.WritesIn [Reg.PTR_STAT_LINK_LANES] (s.core.setBit Reg.PTR_STAT_LINK_LANES l false) := .fput (.refl _)
  have hleft : (s.core.setBit Reg.PTR_STAT_LINK_LANES l false).WritesIn [Reg.PTR_STAT_HOLDOFF_LEFT_S] t.core := .fput (.refl _)
  refine ⟨by rw [hleft.fget]; exact Core.testBit_setBit_false .., ?_⟩
  refine (Core.fget_fput_self ..).trans ?_
  rw [← hlanes.fget (r := Reg.PTR_CFG_HOLDOFF_S)]
  rfl

/-- A change of the core that leaves C is let through as it is. -/
theorem State.upPair_of_core (s : State) {k : Core} (hc : k.c = s.core.c) : s.upPair { s with core := k } = { s with core := k } :=
  State.upPair_self rfl hc rfl rfl rfl

section

variable {s : State} (hpaired : s.paired = true)

include hpaired

theorem exec_partnerFrameBadCrc_of_paired :
    exec .partnerFrameBadCrc s = .next { s with core := s.core.bump Reg.PTR_LINK_ERR_CRC } :=
  congrArg Host.Outcome.next ((congrArg s.upPair (if_pos hpaired)).trans (s.upPair_of_core rfl))

/-- A standby in step declares a duty failure for the partner's line, its heartbeat and LN_SYNC. -/
theorem standby_declares (hstandby : s.standby = true) (hstep : s.inStep = true) (hnone : s.pair.declared = none)
    (hhold : s.plat.hold = false) :
    (∃ t, exec .ptrOkFall s = .next t ∧ s.Declares t 2) ∧ (∃ t, exec .heartbeatTimeout s = .next t ∧ s.Declares t 3) ∧
      (s.pair.reentry = none → ∃ t, exec .lnSyncMissing s = .next t ∧ s.Declares t 4) := by
  have hlow : s.core.Keeps steerRows (s.core.setFlag Reg.PTR_STAT_PARTNER_OK false) :=
    .setFlag (.refl _) (Row.off_of_ne (by decide) (by decide))
  refine ⟨?_, ?_, fun hreentry => ?_⟩
  · have hexec : exec .ptrOkFall s = .next (s.upPair s.okFalls) :=
      congrArg (fun t => Host.Outcome.next (s.upPair t)) (if_pos hpaired)
    have hfacts := State.declare_noticed (u := { s with
      core := s.core.setFlag Reg.PTR_STAT_PARTNER_OK false
      pair := { s.pair with okIn := false, okFell := true, mstIn := false } }) hlow hstandby hstep hnone hhold (cause := 2) (by decide)
    exact ⟨_, hexec, hfacts⟩
  · have hexec : exec .heartbeatTimeout s = .next (s.upPair s.heartbeatLost) :=
      congrArg (fun t => Host.Outcome.next (s.upPair t)) (if_pos hpaired)
    have hfacts := State.declare_noticed (u := s.onCore (·.setFlag Reg.PTR_STAT_PARTNER_OK false)) hlow hstandby hstep hnone hhold
      (cause := 3) (by decide)
    exact ⟨_, hexec, hfacts⟩
  · have hexec : exec .lnSyncMissing s = .next (s.upPair (s.declare 4)) :=
      congrArg (fun t => Host.Outcome.next (s.upPair t)) (if_pos (by rw [hreentry]; rfl))
    exact ⟨_, hexec, State.declare_facts hstandby hstep hnone hhold (by decide)⟩

end

/-- A fenced unit's self-test ends well: PTR_OK_O rises. -/
theorem exec_fencedSelfTestDone_of_fenced {s : State} (h : s.core.flag Reg.PTR_STAT_FENCED = true) :
    exec (.fencedSelfTestDone true) s = .next { s with core := s.core.drive .ptrOk true } :=
  congrArg Host.Outcome.next ((congrArg s.upPair (if_pos (by rw [h]; rfl))).trans (s.upPair_of_core rfl))

/-- Settles O29: each side of the link and of the sideband by its own lemma, through what the row lets through. -/
theorem linkAndSideband : Obligations.LinkAndSideband := by
  intro s hpaired declares
  refine ⟨fun q f hsilent hsent => ⟨fun hfew => ?again, fun hmany => ?giveUp⟩, ?silence, standby_declares hpaired, ?rise, ?toggle,
    ?back, fun l => ?lane, ?crc, fun hfenced => ?selfTest, fun hwaiting =>
      ⟨exec_ptrMstIRise_of_waiting hwaiting, exec_roleStartWaitExpiry_of_waiting hwaiting hpaired⟩⟩
  case again =>
    have hexec := exec_partnerFrameTimeout_of_sent hpaired hsilent hsent
    rw [if_pos hfew] at hexec
    exact ⟨_, hexec.trans (congrArg Host.Outcome.next (State.upPair_self rfl rfl rfl rfl rfl)), Core.only_fput .., Core.fget_bump ..⟩
  case giveUp =>
    have hexec := exec_partnerFrameTimeout_of_sent hpaired hsilent hsent
    rw [if_neg (by omega)] at hexec
    exact ⟨_, hexec, s.linkSilent_facts.1⟩
  case silence =>
    obtain ⟨hsilent, hlanes, hok⟩ := s.linkSilent_facts
    have hexec := exec_partnerLinkSilence hpaired
    have halone := State.linkSilent_of_duty (s := s)
    generalize s.linkSilent = t at *
    exact ⟨_, hexec, hsilent, hlanes, hok, halone⟩
  case rise =>
    have hexec : exec .ptrOkIRise s = .next (s.upPair s.okRises) := rfl
    have hfacts := s.okRises_facts
    generalize s.okRises = t at *
    exact ⟨_, hexec, hfacts⟩
  case toggle =>
    exact ⟨_, congrArg Host.Outcome.next (s.upPair_of_core rfl), Core.only_setFlag .., Core.flag_setFlag _ _ _ _ (by decide)⟩
  case back =>
    have hexec : exec .partnerLinkReturn s = .next (s.upPair s.linkReturn) := rfl
    have hfacts := State.linkReturn_facts hpaired
    generalize s.linkReturn = t at *
    exact ⟨_, hexec, hfacts⟩
  case lane => exact ⟨_, rfl, s.laneLoss_facts l⟩
  case crc => exact ⟨_, exec_partnerFrameBadCrc_of_paired hpaired, Core.only_fput .., Core.fget_bump ..⟩
  case selfTest => exact ⟨_, exec_fencedSelfTestDone_of_fenced hfenced, Core.landLevel_drive .., rfl⟩

end Sys2Proof.Machine
end
